-- ==== Sys2Proof/Word.lean ====
section
/-! DEFINITION. The word types of the Solny model and their plainest names.
R5: every multi-byte structure is little-endian, so a byte string is a list whose head is byte 0. -/

namespace Sys2Proof

/-- One byte. -/
abbrev Byte := BitVec 8

/-- A byte string; the head is byte 0 (R5). -/
abbrev Bytes := List Byte

/-- A 64-bit register value. -/
abbrev W64 := BitVec 64

/-- A 32-bit register value. -/
abbrev W32 := BitVec 32

/-- A SHA-384 digest (R8). -/
abbrev Digest := BitVec 384

end Sys2Proof
end

