-- ==== Sys2Proof/Syntax.lean ====
section
/-! DEFINITION. The commands of the Solny (one constructor of Instr for each row of the table of
operations and events) and the operand types they carry. The table gives no row an operand, so the
operands are the model's choice: each is what the row's rules say the event brings from outside the
device (a register value, a frame, a fetched record, a measurement, a time of the running count) or a
choice of the device that the manual leaves unspecified (a thread, a lane, a public-key engine). -/

namespace Sys2Proof

/-- A hardware thread of an engine die (R116): die 1-7, cluster 0-7, engine 0-7, thread 0-3. -/
structure ThreadId where
  die : Nat
  cluster : Nat
  engine : Nat
  thread : Nat
  deriving DecidableEq, Repr

/-- An engine, named die.cluster.engine. -/
structure EngineId where
  die : Nat
  cluster : Nat
  engine : Nat
  deriving DecidableEq, Repr

/-- A record that waits for its command: the ring and the descriptor index that the ring unit fetched. (DESIGN CHOICE, log 9) -/
structure WorkId where
  ring : Nat
  idx : Nat
  deriving DecidableEq, Repr

/-- The operand fields of an agreement op (R128). (DEDUCED, log 18) -/
structure OpFields where
  d : BitVec 5
  a : BitVec 5
  b : BitVec 5
  mode : BitVec 9
  imm : BitVec 32
  deriving DecidableEq, Repr

/-- What the tests and measurements of one start-up step (R457) delivered. -/
structure StepReport where
  /-- Length of the step in ms, for the UART line of R465. -/
  ms : Nat
  /-- Unit and DETAIL of R460 when the step's test failed. -/
  failed : Option (Nat × Nat)
  /-- Step 0x09: bit k-1 set when engine die Ek failed (R461). -/
  dieFail : BitVec 7
  /-- Step 0x07: measured class and delay (0.5 ns) of loops 0-15, and whether the PRBS matched. -/
  mesh : List (Nat × Nat × Bool)
  deriving DecidableEq, Repr

/-- A PCIe configuration request (R39, R40): any read or write the base specification defines, with
the two writes that the manual gives an effect. (DESIGN CHOICE, log 49) -/
inductive CfgRequest where
  | other
  | enableVFs (numVFs : Nat)
  | enableBusMaster (func : Nat)
  deriving DecidableEq, Repr

/-- The BAR through which a doorbell arrives (R43). -/
inductive DoorbellBar where
  | pf0Bar2
  | vfBar0 (func : Nat)
  deriving DecidableEq, Repr

/-- How the fetch of a source buffer ended (R58, R564). (DESIGN CHOICE, log 49) -/
inductive SourceRead where
  | bytes (b : Bytes)
  | failed
  deriving DecidableEq, Repr

/-- The signature algorithms of a departure record (R170). -/
inductive SigAlg where
  | ecdsa
  | mldsa
  deriving DecidableEq, Repr

/-- The ring configuration registers that R70 governs. -/
inductive RingReg where
  | cfg
  | localIndex
  | epoch
  | qbase
  | cqbase
  | rbase
  deriving DecidableEq, Repr

/-- The TIME registers that R110 governs. -/
inductive AllowReg where
  | ppsAllow
  | ptpAllow
  | holdFreq
  | holdAging
  | ppsDelay
  deriving DecidableEq, Repr

/-- Where a host register write lands: an offset in PF0 BAR0 (R9), or the mask bit of an MSI-X table
entry (R40, R41, R67). -/
inductive RegAddr where
  | bar0 (off : Nat)
  | msixMask (func vec : Nat)
  /-- A half of an MSI-X table entry (R40, R41): the message address, or the message data with vector control. -/
  | msixEntry (func vec : Nat) (upper : Bool)
  deriving DecidableEq, Repr

/-- Where a host register read lands: an offset in PF0 BAR0 (R9), in PF0 BAR2 (R40), or in the BAR0 of a VF
(R41). -/
inductive ReadAddr where
  | bar0 (off : Nat)
  | bar2 (off : Nat)
  | vfBar0 (func off : Nat)
  deriving DecidableEq, Repr

/-- The time-of-day sources of the station clock (R106). -/
inductive TimeSrc where
  | ptp0
  | ptp1
  | linzen
  deriving DecidableEq, Repr

/-- The units that take 2 us retraining slots (R112). -/
inductive RetrainUnit where
  | ddr (channel : Nat)
  | pcie
  | junction (port : Nat)
  | coupling (die : Nat)
  deriving DecidableEq, Repr

/-- What DRAM returns for the line that the patrol scrub reads (R187, R189): where the line lies, the bits of the burst
that are wrong, as (beat, DQ), and whole codewords that stand in place of the stored ones: another ciphertext of the
line, or another MAC of the counter line above it. -/
structure LineRead where
  channel : Nat
  subch : Nat
  rank : Nat
  flips : List (Nat × Nat)
  cipher : Option Bytes
  ctrMac : Option Bytes
  deriving DecidableEq, Repr

/-- The lane groups of R271. -/
inductive LaneGroup where
  | die (k : Nat)
  | vault
  | junction
  deriving DecidableEq, Repr

/-- One cipher lane. -/
structure LaneId where
  group : LaneGroup
  lane : Nat
  deriving DecidableEq, Repr

/-- The causes of a public-key engine fault (R310, R566). -/
inductive PkFault where
  | parity
  | releaseCheck
  | pairwise
  deriving DecidableEq, Repr

/-- The health tests of R314. -/
inductive HealthTest where
  | repetition
  | proportion
  deriving DecidableEq, Repr

/-- A response token or CRC status token from a card (R343). -/
inductive CardToken where
  /-- S- or B-type: command index, 32-bit payload, CRC7 good. -/
  | short (index : Nat) (payload : W32) (crcOk : Bool)
  /-- L-type: 120-bit payload, CRC7 good. -/
  | long (payload : BitVec 120) (crcOk : Bool)
  /-- CRC status token after a written block: true for 0b010. -/
  | crcStatus (accepted : Bool)
  deriving DecidableEq, Repr

/-- A received Linzen frame (R383, R384), with the outcome of its tag check. -/
structure LinzenFrame where
  port : Nat
  ver : Nat
  type : Nat
  len : Nat
  srcId : Nat
  dstId : Nat
  session : Nat
  seq : Nat
  ack : Nat
  reservedZero : Bool
  tagOk : Bool
  body : Bytes
  deriving DecidableEq, Repr

/-- The PTP correction registers that R382 governs. -/
inductive PtpReg where
  | ingress (port : Nat)
  | egress (port : Nat)
  | domain
  deriving DecidableEq, Repr

/-- The band a detector reports (R429). -/
inductive Band where
  | inside
  | outsideOper
  | outsideAbs
  deriving DecidableEq, Repr

/-- One source's report in a tamper cycle: the bands and readings of detectors A and B. -/
structure SourceSample where
  src : Nat
  bandA : Band
  bandB : Band
  readA : Nat
  readB : Nat
  deriving DecidableEq, Repr

/-- What TAMPER_ENROL measured on one loop (R436, R438). -/
structure LoopMeasure where
  cls : Nat
  /-- Within 10 % of a class boundary. -/
  nearBoundary : Bool
  delay : Nat
  /-- Bit errors over 65,536 bits. -/
  bitErrors : Nat
  deriving DecidableEq, Repr

/-- The report of a requested self-test (R470). -/
structure SelfTestReport where
  tested : Nat
  failed : Nat
  /-- First failed unit: die, class, index. -/
  first : Option (Nat × Nat × Nat)
  /-- FULL: dies that failed step 0x09 (R472). -/
  dieFail : BitVec 7
  deriving DecidableEq, Repr

/-- The kinds of access of R482. -/
inductive BoxKind where
  | read
  | write
  | fetch
  deriving DecidableEq, Repr

/-- An access that enters the signal box (R481). -/
structure BoxAccess where
  initiator : Nat
  pl : Nat
  kind : BoxKind
  posted : Bool
  addr : Nat
  len : Nat
  deriving DecidableEq, Repr

/-- Why the junction unit drops a frame before it reaches a service (R378, R379, R385). -/
inductive DropCause where
  | macFilter
  | ipv6
  | linzen (row : Nat)
  deriving DecidableEq, Repr

/-- A JTAG operation (R424). -/
inductive JtagOp where
  | boundaryScan (bits : Bytes)
  | supervisorCore (core : Nat)
  | engine (e : EngineId)
  deriving DecidableEq, Repr


/-- The commands of the block: one constructor for each row of the table of operations. (DESIGN CHOICE, log 9) -/
inductive Instr where
  /-- R530. Every rail the variant uses comes within its operating limits; internal reset ends, SMBus address straps are sampled and the start-up reference may be reached. -/
  | powerGood (straps : BitVec 2)
  /-- R29. Power is lost and the device goes to OFF from any powered state. -/
  | powerLoss
  /-- R455. PORST_N or WARM_RESET_N is asserted; every volatile state is lost and the device heads for BOOTING. -/
  | resetAssert (warm : Bool)
  /-- R457. PORST_N or WARM_RESET_N is deasserted with rails valid; the start-up sequence begins at step 0x01. -/
  | resetRelease (timeRef card33 : Bool)
  /-- R457. A timed start-up step (BIST, training, verification, unwrap) ends and the next step begins, or the device enters HELD, ZEROISED, RESTORING, READY or DEGRADED. -/
  | startupStepEnd (t : Nat) (r : StepReport)
  /-- R534. PWR_FAIL_N has been high for 10 ms while start-up was held at step 0x01, and start-up proceeds. -/
  | pwrFailHoldEnd
  /-- R459. Firmware is not running 1 s after PERST_N deassertion, so the ROM answers configuration requests with the HELD register set. -/
  | romConfigTakeover
  /-- R75. PERST_N resets the PCIe interface and functions, acting as FLR of PF0 while the device state is kept. -/
  | perstNAssert
  /-- R39. PERST_N is deasserted, and the link-training and retry-status timing starts. -/
  | perstNRelease
  /-- R39. 20 ms after PERST_N deassertion, PCIe link training starts. -/
  | linkTrainingStart
  /-- R39. A PCIe configuration request arrives; it is answered with retry status until the firmware or the ROM serves it. -/
  | configRequest (q : CfgRequest)
  /-- R75. Function level reset of a VF seals admitted descriptors, discards their completions, drops unadmitted ones and deletes the VF's rings. -/
  | flrVf (func : Nat)
  /-- R75. VF Enable is cleared or NumVFs is reduced, and each removed VF is handled as by FLR. -/
  | vfDisable (numVFs : Nat)
  /-- R75. FLR of PF0 acts as FLR of every VF and of PF0's rings and ends any bulk session, while departures keep closing. -/
  | flrPf0
  /-- R75. Bus Master Enable is cleared on a function; its rings stop fetching, go to ERROR with LAST_ERR 0x0B and discard output writes. -/
  | busMasterDisable (func : Nat)
  /-- R54. A 32-bit doorbell write to a ring slot is checked for epoch, index, state and BAR, and advances the tail or release index or is rejected. -/
  | doorbell (bar : DoorbellBar) (slot : Nat) (v : W32) (single : Bool)
  /-- R83. The last byte of a fetched descriptor's record reaches anchor SRAM, or the source fetch fails and the descriptor is marked BAD_DESCRIPTOR. -/
  | recordFetched (ring : Nat) (desc : BitVec 512) (src : SourceRead)
  /-- R564. A read of a ring's descriptor array fails; admitted work is sealed and the ring goes to ERROR with LAST_ERR 0x0A. -/
  | descriptorFetchError (ring : Nat)
  /-- R85. Every 10 ns the admission unit takes the next fetched record through the descriptor, backlog, budget, numbering, close-rule and placement steps, or admits nothing. -/
  | admissionStep (t : Nat)
  /-- R95. A WAGER ring's token bucket gains a token at its RATE, up to BURST. -/
  | tokenRefill (ring : Nat)
  /-- R155. The station clock reaches the target close time and a close tick ends the open departure and opens the next. -/
  | closeTick (t : Nat)
  /-- R180. The witness wait reaches WAIT_US beyond the target close, so the tick comes and the record sets UNWITNESSED. -/
  | witnessTimeout (t : Nat)
  /-- R175. Both signatures of a departure record complete and verify, so the record is released to a LEDGER slot or queued. -/
  | departureSigned (t : Nat) (bad : Option SigAlg)
  /-- R162. A waiting signed departure record is written to a returned LEDGER slot with its completion. -/
  | ledgerPost
  /-- R210. A closed journal block of an owner is written to a returned JOURNAL slot. -/
  | journalPost (owner : Nat)
  /-- R502. A frozen event record is posted to the EVENT ring of PF0 and of its owner, or skipped and counted when no slot is free. -/
  | eventPost
  /-- R64. A finished descriptor's receipt and completion are written in ring order through the reorder buffer, with any interrupt. -/
  | completionWrite (ring : Nat)
  /-- R67. The oldest pending completion of a vector has waited HOLDOFF × 256 ns and the vector fires. -/
  | vectorHoldoff (func vec : Nat)
  /-- R67. An MSI-X vector is unmasked and a pending message is sent. -/
  | vectorUnmask (func vec : Nat)
  /-- R71. RINGCTL_CMD START moves a CONFIGURED or STOPPED ring to RUNNING or to ERROR with a LAST_ERR code. -/
  | start
  /-- R74. RINGCTL_CMD STOP moves a RUNNING ring to STOPPING, completing unadmitted descriptors with RING_STOPPED. -/
  | stop
  /-- R72. RINGCTL_CMD DELETE frees a STOPPED or ERROR ring and clears its configuration. -/
  | delete
  /-- R70. A write to RINGCTL_CFG, LOCAL, EPOCH or a base register is accepted only for FREE, CONFIGURED or STOPPED rings, and the first CFG write makes a FREE ring CONFIGURED. -/
  | ringConfigWrite (r : RingReg) (v : W64)
  /-- R78. GLOBAL_BULK_CTL.OPEN opens a bulk session for TARGET, or is ignored, or fails with POLICY. -/
  | bulkOpen (v : W32)
  /-- R79. A write into the bulk window is accepted in sequence within credit, or dropped with SEQ_ERR or OVERRUN, failing the session. -/
  | bulkWindowWrite (off : Nat) (data : Bytes) (drained : Nat)
  /-- R81. GLOBAL_BULK_CTL.CLOSE ends the stream and starts verification when ADDR equals LEN, otherwise fails with PARAM_INVALID. -/
  | bulkClose
  /-- R82. GLOBAL_BULK_CTL.CANCEL ends an OPEN or VERIFYING session as FAILED with ABORTED. -/
  | bulkCancel
  /-- R144. Verification of a rulebook image ends: the image is checked in order and loaded, retired or refused. -/
  | rulebookLoad
  /-- R146. A new version of a loaded handle takes effect at one admission step with a sequence number. -/
  | rulebookSwitch (owner handle : Nat)
  /-- R146. The last wager of an old rulebook version completes, the old version is dropped and a waiting further version proceeds. -/
  | rulebookDrainEnd (owner handle : Nat)
  /-- R419. Verification of a supervisor firmware image ends: it is written to the idle slot or refused. -/
  | firmwareInstall
  /-- R257. Verification of a wrapped key table image ends: the keys are imported whole under accord or refused. -/
  | keyTableImport
  /-- R209. Verification of a settlement load ends: its entries are written as PENDING and a checkpoint is taken, or it is refused. -/
  | settlementLoad
  /-- R209. After the checkpoint holding a settlement load is acknowledged, one admission step clears PENDING and seals a SERVICE leaf. -/
  | settlementLoadLive
  /-- R222. Verification of a restore stream ends: it is refused, or replayed up to departure v with TREE rebuilt. -/
  | restoreStream
  /-- R225. Peers have answered the head query or 1 s has passed, and the device leaves RESTORING, setting BEHIND where a peer holds a newer head. -/
  | headQueryTimeout
  /-- R469. A second write of 0x4142_4E44 to GLOBAL_ABANDON within 1 s abandons the restore, destroying owner keys and writing an EPOCH 0 record. -/
  | restoreAbandon (t : Nat) (key : W32)
  /-- R96. A write of ADMIT_RING_BUDGET is accepted only when the ceiling, share, thread, share-sum and range checks hold. -/
  | ringBudgetWrite (v : W64)
  /-- R96. A write of ADMIT_OWNER_SHARE is accepted only when the R96 checks hold. -/
  | ownerShareWrite (v : W32)
  /-- R115. A read of TIME_NOW returns the station-clock time and latches the same instant's uncertainty into TIME_UNC. -/
  | timeNowRead
  /-- R110. A write to TIME_PPS_ALLOW, TIME_PTP_ALLOW, TIME_HOLD_FREQ, TIME_HOLD_AGING or TIME_PPS_DELAY is refused when it lowers below the floor or changes values while a game is LIVE. -/
  | timeAllowanceWrite (r : AllowReg) (v : W32)
  /-- R153. A write of DEPART_PERIOD is accepted within the variant floor and 1,000,000 µs, otherwise it sets ERR. -/
  | departPeriodWrite (v : W32)
  /-- R182. A write of DEPART_WITNESS sets LAG and WAIT_US until locked, and a WAIT_US above 1,000 is refused with ERR 0x2. -/
  | departWitnessWrite (v : W32)
  /-- R194. A write of VMEM_PART is checked and starts a background re-lay of the owner's areas, or is refused with ERR. -/
  | vmemPartWrite (v : W64)
  /-- R194. The background partition re-lay ends, clearing RELAYING and recording event 0x0604. -/
  | partitionRelayEnd (owner : Nat)
  /-- R269. A write of KEYS_OWNER_QUOTA is refused when the quota sum exceeds 4,032 or falls below USED. -/
  | keysQuotaWrite (v : W32)
  /-- R7. A read of an RC register returns its value and clears it. -/
  | readClear (a : ReadAddr)
  /-- R7. A write to a register with no row of its own is applied by its access code, lock and reserved-bit rules. -/
  | registerWrite (a : RegAddr) (v : W64)
  /-- R99. Creates a LIVE game entry with times, guard and rulebook after body, counter and R96 checks. -/
  | gameDefine (w : WorkId)
  /-- R99. Sets a game CLOSED with CLOSE_REASON 0x04. -/
  | gameClose (w : WorkId)
  /-- R99. Replaces OPEN_TIME, CLOSE_TIME and GUARD_NS of a LIVE game. -/
  | gameReschedule (w : WorkId)
  /-- R99. Sets a CLOSED game LIVE with new times when the clock is valid and u is within the owner's maximum. -/
  | gameReopen (w : WorkId)
  /-- R99. Sets the owner's maximum station-clock uncertainty. -/
  | gameSetMaxunc (w : WorkId)
  /-- R99. Frees a CLOSED game entry. -/
  | gameDelete (w : WorkId)
  /-- R99. Writes a game entry to DST_ADDR without sealing a leaf. -/
  | gameStatus (w : WorkId)
  /-- R104. u exceeds an owner's maximum, or the clock leaves the valid states, and every LIVE game of the affected owners is closed with reason 0x03 in one admission step. -/
  | timeLostClosure (t : Nat)
  /-- R106. A PPS_IN rising edge gives the phase of the second and is discarded when it deviates more than 1 µs. -/
  | ppsInEdge (t : Nat) (deviation : Int)
  /-- R381. A PTP Sync message is received and time-stamped on a port's ordinary clock, feeding the station clock as a source reading. -/
  | sync (t port : Nat) (twoStep : Bool) (offset : Int)
  /-- R381. A PTP Announce message is received and used in best-master selection. -/
  | announce (port : Nat) (gm : W64) (rank : Nat) (ptpTimescale : Bool)
  /-- R381. No Announce arrives for 3 intervals and the grandmaster is dropped. -/
  | announceReceiptTimeout (port : Nat)
  /-- R381. The Delay_Req interval expires and a Delay_Req is sent on a port. -/
  | delayReq (port : Nat)
  /-- R381. A PTP Delay_Resp is received, completing a delay measurement. -/
  | delayResp (port delay : Nat)
  /-- R107. Two time-of-day sources have agreed within 1 µs for 10 s, and the clock leaves ACQUIRING for LOCKED, steps forward or refuses them. -/
  | sourceAgreement (t : Nat) (a b : TimeSrc)
  /-- R105. Every enabled source has been lost or outside u for 10 s, and the clock enters HOLDOVER. -/
  | sourceLossTimeout (t : Nat)
  /-- R105. u exceeds 1 s and the station clock goes to LOST. -/
  | uncertaintyLimit (t : Nat)
  /-- R105. Both TIME_REF and REFCLK_SYS fail the clock monitor and the station clock goes to LOST. -/
  | clockMonitorFail (t : Nat)
  /-- R117. A placed work item starts on a free thread with zeroed state and the record copied into its window. -/
  | workDispatch (seq : Nat) (th : ThreadId)
  /-- R118. A thread runs more than W + 1,024 cycles and its engine is quarantined and the work re-placed. -/
  | threadOverrun (th : ThreadId)
  /-- R130. Does nothing. -/
  | nop (th : ThreadId) (o : OpFields)
  /-- R130. Branches forward always. -/
  | jmp (th : ThreadId) (o : OpFields)
  /-- R130. Branches forward when a equals b. -/
  | beq (th : ThreadId) (o : OpFields)
  /-- R130. Branches forward when a differs from b. -/
  | bne (th : ThreadId) (o : OpFields)
  /-- R130. Branches forward when a is below b, unsigned. -/
  | bltu (th : ThreadId) (o : OpFields)
  /-- R130. Branches forward when a is at least b, unsigned. -/
  | bgeu (th : ThreadId) (o : OpFields)
  /-- R130. Ends the thread and sends the staged set for commit with outcome OK. -/
  | accept (th : ThreadId) (o : OpFields)
  /-- R130. Ends the thread with SEALED_REJECT and commits the nonce advance only. -/
  | reject (th : ThreadId) (o : OpFields)
  /-- R130. Loads a sign-extended immediate into a register. -/
  | movi (th : ThreadId) (o : OpFields)
  /-- R130. Loads the immediate into the upper 32 bits of a register. -/
  | movhi (th : ThreadId) (o : OpFields)
  /-- R130. Adds modulo 2^64. -/
  | add (th : ThreadId) (o : OpFields)
  /-- R130. Subtracts modulo 2^64. -/
  | sub (th : ThreadId) (o : OpFields)
  /-- R130. Adds with saturation at 2^64 − 1. -/
  | addsat (th : ThreadId) (o : OpFields)
  /-- R130. Multiplies and keeps the low 64 bits. -/
  | mulu (th : ThreadId) (o : OpFields)
  /-- R130. Divides unsigned, giving all ones on division by zero. -/
  | divu (th : ThreadId) (o : OpFields)
  /-- R130. Bitwise AND. -/
  | and (th : ThreadId) (o : OpFields)
  /-- R130. Bitwise OR. -/
  | or (th : ThreadId) (o : OpFields)
  /-- R130. Bitwise XOR. -/
  | xor (th : ThreadId) (o : OpFields)
  /-- R130. Shifts left by b mod 64. -/
  | shl (th : ThreadId) (o : OpFields)
  /-- R130. Shifts right, zero-filled, by b mod 64. -/
  | shr (th : ThreadId) (o : OpFields)
  /-- R130. Unsigned minimum. -/
  | minu (th : ThreadId) (o : OpFields)
  /-- R130. Unsigned maximum. -/
  | maxu (th : ThreadId) (o : OpFields)
  /-- R131. Loads bytes from the window, ending the thread with reason 0xFF01 outside it. -/
  | ld (th : ThreadId) (o : OpFields)
  /-- R131. Stores bytes into scratch, ending the thread with reason 0xFF01 outside it. -/
  | st (th : ThreadId) (o : OpFields)
  /-- R131. Loads a constant, ending the thread with reason 0xFF02 when the index is out of range. -/
  | const (th : ThreadId) (o : OpFields)
  /-- R130. Finds the index of a value in a table, giving all ones when absent. -/
  | lookup (th : ThreadId) (o : OpFields)
  /-- R132. Loads a context value fixed at admission. -/
  | ctx (th : ThreadId) (o : OpFields)
  /-- R130. Marks an owner rule counter for this run. -/
  | cnt (th : ThreadId) (o : OpFields)
  /-- R127. Checks the body against the syntax and ends the thread as REJECT on failure. -/
  | parse (th : ThreadId) (o : OpFields)
  /-- R130. Loads the value of a syntax field. -/
  | fld (th : ThreadId) (o : OpFields)
  /-- R130. Loads the received length or DSET count of a field. -/
  | flen (th : ThreadId) (o : OpFields)
  /-- R134. Runs terminal authentication checks and the GCM tag check, staging the nonce advance or ending the thread. -/
  | auth (th : ThreadId) (o : OpFields)
  /-- R130. Loads the first 8 bytes of SHA-384 over a field. -/
  | digest (th : ThreadId) (o : OpFields)
  /-- R205. Loads the current window value of a limit counter. -/
  | limget (th : ThreadId) (o : OpFields)
  /-- R136. Checks and stages a change of a limit counter. -/
  | limadd (th : ThreadId) (o : OpFields)
  /-- R137. Stages insertion of the wager's ticket as SOLD. -/
  | tkins (th : ThreadId) (o : OpFields)
  /-- R137. Loads the state code of the target ticket. -/
  | tkget (th : ThreadId) (o : OpFields)
  /-- R137. Stages the target ticket's move to a new state. -/
  | tkset (th : ThreadId) (o : OpFields)
  /-- R130. Sets RULE_FIELD from a register. -/
  | rfield (th : ThreadId) (o : OpFields)
  /-- R130. Sets RULE_FIELD from SHA-384 over the body. -/
  | rfdig (th : ThreadId) (o : OpFields)
  /-- R138. The vault memory controller applies a staged set atomically after the commit checks, or returns the kept outcome for a re-run. -/
  | commit (seq : Nat)
  /-- R149. Every 250 ms the next engine of each die is drained for test, or skipped for a cluster with a quarantined engine. -/
  | engineTestSlot (die : Nat)
  /-- R150. An engine test ends: the engine becomes reserve or is quarantined. -/
  | engineTestDone (die : Nat) (pass : Bool)
  /-- R35. An engine stops or fails a check; it is drained, its work re-placed on the reserve and it is quarantined. -/
  | engineFault (e : EngineId)
  /-- R27. An engine die or its coupling is lost; in-flight work is re-placed, buckets redistributed and capacity recomputed. -/
  | dieLost (die : Nat)
  /-- R36. An uncorrectable anchor fault stops sales until reset and publishes the open departure where possible. -/
  | anchorFault (canPublish : Bool)
  /-- R34. Re-placement after a fault completes and admission resumes, ending the pause. -/
  | faultRecovered (t : Nat)
  /-- R112. A 2 µs retraining slot of a DDR5 channel or SerDes falls due every 100 ms. -/
  | retrainSlot (u : RetrainUnit)
  /-- R192. The patrol scrub reads the next line and writes corrected lines back, covering every line once in 24 h. -/
  | patrolScrub (r : LineRead)
  /-- R201. Decides a claim on a local ticket, routes it to its issuing peer, or completes with NOT_FOUND or OWNER_UNREACHABLE. -/
  | claim (w : WorkId)
  /-- R200. Authenticates a terminal record and runs the CANCEL entry of the ticket's rulebook. -/
  | cancel (w : WorkId)
  /-- R200. Moves a SOLD or WON_UNPAID ticket to WON_UNPAID or VOID under an owner-tagged body. -/
  | result (w : WorkId)
  /-- R199. Returns a ticket's entry image without sealing a leaf. -/
  | ticketStatus (w : WorkId)
  /-- R199. Returns a counter or terminal record without sealing a leaf. -/
  | limitStatus (w : WorkId)
  /-- R206. Sets a counter's limit and window length, or the owner's origin and defaults. -/
  | limitSet (w : WorkId)
  /-- R207. Deletes or voids tickets of a CLOSED game at its admission step and starts a background scan. -/
  | sweep (w : WorkId)
  /-- R207. The background sweep scan ends and its completion is written with the counts. -/
  | sweepEnd (owner game : Nat)
  /-- R399. Claims for one issuer have gathered for 20 µs or reached 127, and one CLAIM_REQ is sent. -/
  | claimBatchSend (peer : Nat)
  /-- R203. No verdict arrives within VMEM_CLAIM_WAIT, and the claim completes OWNER_UNREACHABLE with a RELAY leaf. -/
  | claimWaitTimeout (claimSeq : Nat)
  /-- R208. Binds a retired device id to an issuer index of this device under an owner accord. -/
  | adopt (w : WorkId)
  /-- R212. Sets the two host regions for checkpoints. -/
  | snapRegions (w : WorkId)
  /-- R213. Waits for the next checkpoint and completes with its summary. -/
  | checkpointWait (w : WorkId)
  /-- R215. Acknowledges the newest checkpoint epoch and writes a checkpoint record to flash. -/
  | checkpointAck (w : WorkId)
  /-- R213. Requests a checkpoint at the next close tick. -/
  | checkpointNow (w : WorkId)
  /-- R213. VMEM_CKPT_PERIOD has elapsed and the checkpoint starts at the next close tick, or is postponed for lack of acknowledgement. -/
  | checkpointStart (t : Nat)
  /-- R213. The chunks and manifest of a checkpoint are written and the oldest CHECKPOINT_WAIT completes. -/
  | checkpointWritten (t : Nat)
  /-- R218. A counter-area record write ends, raising the marks in force or retrying in the next sector on failure. -/
  | flashRecordWritten (good : Bool)
  /-- R219. PWR_FAIL_N asserts: fetching stops, a close tick is inserted and a power-fail record is written. -/
  | pwrFailNAssert (t : Nat)
  /-- R220. PWR_FAIL_N deasserts while power stays, a TYPE 4 record supersedes the power-fail record and fetching resumes. -/
  | pwrFailNDeassert
  /-- R231. With the generator READY and record 0x0110 committed, a missing or failed salt is replaced, the wrapped key area erased and new departure seeds made. -/
  | newSalt
  /-- R235. Once a second all slots are checked and a failed slot is set FAILED. -/
  | slotScrub (bad : List Nat)
  /-- R244. The last work item under an old root generation completes and its cache entries are invalidated on every die. -/
  | cacheInvalidation (owner : Nat)
  /-- R246. Enrols an owner with officials and a drawn root under an accord of all N cards. -/
  | ownerEnrol (w : WorkId)
  /-- R248. Retires an owner, destroying its keys, games, rulebooks and vault-memory content. -/
  | ownerRetire (w : WorkId)
  /-- R247. Replaces an owner's officials, M and window, voiding other open accords. -/
  | officialSet (w : WorkId)
  /-- R255. Generates a key into a slot or record. -/
  | slotGenerate (w : WorkId)
  /-- R255. Writes a slot from a wrapped record under accord. -/
  | slotWrite (w : WorkId)
  /-- R258. Exports a key as a wrapped record under accord. -/
  | slotExport (w : WorkId) (lane : Nat)
  /-- R255. Destroys a slot and its flash copy under accord. -/
  | slotDestroy (w : WorkId)
  /-- R257. Returns a slot's attributes, or the handles of the last import. -/
  | slotInfo (w : WorkId)
  /-- R258. Derives and exports clause keys as wrapped records under accord. -/
  | clauseExport (w : WorkId) (lane : Nat)
  /-- R259. Bars a terminal's lower tenses or sets the owner's terminal range. -/
  | terminalSet (w : WorkId)
  /-- R249. Opens an accord and writes its block with a new ACCORD_NO. -/
  | accordOpen (w : WorkId)
  /-- R252. Adds a card signature to an accord, asking a seated card to sign when SIG is zero. -/
  | accordAdd (w : WorkId)
  /-- R252. Frees an open accord. -/
  | accordCancel (w : WorkId)
  /-- R261. Sends the owner root to a peer over Linzen interlocking. -/
  | interlockSend (w : WorkId)
  /-- R262. Installs a held interlocked root as the owner's ROOT under accord. -/
  | interlockAccept (w : WorkId)
  /-- R264. Generates a new departure signing pair and returns its certificate. -/
  | departKeyRoll (w : WorkId)
  /-- R267. A coupling does not acknowledge the zeroise broadcast within 1 µs and its die is held in isolation reset. -/
  | couplingAckTimeout (die : Nat)
  /-- R266. The salt sector is erased and read back blank, and the OTP done bit is programmed. -/
  | saltEraseDone
  /-- R266. The wrapped key area erase completes. -/
  | wrappedAreaErased
  /-- R281. Encrypts with AES-GCM under a class D nonce. -/
  | aeadEncrypt (w : WorkId) (lane : Nat)
  /-- R286. Decrypts with AES-GCM, flagging untrusted output on a tag failure. -/
  | aeadDecrypt (w : WorkId) (lane : Nat)
  /-- R281. Encrypts with AES-CTR under a class D counter block. -/
  | ctrEncrypt (w : WorkId) (lane : Nat)
  /-- R281. Decrypts with AES-CTR. -/
  | ctrDecrypt (w : WorkId) (lane : Nat)
  /-- R281. Encrypts one data unit with AES-XTS. -/
  | xtsEncrypt (w : WorkId) (lane : Nat)
  /-- R281. Decrypts one data unit with AES-XTS. -/
  | xtsDecrypt (w : WorkId) (lane : Nat)
  /-- R281. Computes a KMAC. -/
  | macGenerate (w : WorkId) (lane : Nat)
  /-- R285. Checks a KMAC in constant time. -/
  | macVerify (w : WorkId) (lane : Nat)
  /-- R281. Computes a SHA-2 or SHA-3 digest. -/
  | hash (w : WorkId) (lane : Nat)
  /-- R285. A cipher-lane operation ends and its output and completion are written. -/
  | cipherOperationDone (w : WorkId)
  /-- R287. A lane parity error quarantines the lane and re-places or faults the operation. -/
  | laneParityFault (l : LaneId) (relane : Nat)
  /-- R288. The periodic lane test drains the next lane of a die or group, or skips it while a lane is quarantined. -/
  | laneTestSlot (group : LaneGroup)
  /-- R289. A lane test ends: the lane returns to service or is quarantined, and a held-out die may return to placement. -/
  | laneTestDone (group : LaneGroup) (pass : Bool)
  /-- R296. Signs with an owner private key on an anchor engine. -/
  | pkSign (w : WorkId) (engine : Nat)
  /-- R296. Verifies a signature on any engine. -/
  | pkVerify (w : WorkId) (engine : Nat)
  /-- R296. Generates a key pair and stores the private key. -/
  | pkKeygen (w : WorkId) (engine : Nat)
  /-- R296. Derives an ECDH or ML-KEM shared secret into a new key. -/
  | pkDerive (w : WorkId) (engine : Nat)
  /-- R296. Encapsulates under an ML-KEM key and stores the secret. -/
  | pkEncaps (w : WorkId) (engine : Nat)
  /-- R305. Checks and loads an owner curve. -/
  | pkCurveLoad (w : WorkId) (engine : Nat)
  /-- R307. Aborts a public-key command of the same function. -/
  | pkAbort (w : WorkId)
  /-- R296. Returns the public key of a private key. -/
  | pkPublic (w : WorkId) (engine : Nat)
  /-- R302. A public-key engine finishes an operation with its release check and the result is written. -/
  | pkOperationDone (w : WorkId) (rounds : Nat)
  /-- R310. A public-key engine fault quarantines the engine and re-places its operations. -/
  | pkEngineFault (engine : Nat) (cause : PkFault)
  /-- R311. Every 2 s the next public-key engine is drained for test, or skipped while one is quarantined. -/
  | pkTestSlot
  /-- R311. A public-key engine test ends and the engine returns or is quarantined. -/
  | pkTestDone (pass : Bool)
  /-- R324. The first seed is ready, G is instantiated and RNG_STATUS.READY is set. -/
  | generatorReady (t : Nat)
  /-- R317. The conditioner completes a seed every 512 µs and gives it to an instance or the pool. -/
  | seedReady
  /-- R315. A health test reaches its cutoff on a source and raises an alarm. -/
  | rngAlarm (src : Nat) (test : HealthTest)
  /-- R316. Every 60 s the known-answer tests run on a test instance. -/
  | rngKat (pass : Bool)
  /-- R320. G reaches 2^16 requests and reseeds, or stretches when the pool is empty. -/
  | gReseedDue
  /-- R321. G reaches 2^24 requests without reseed and halts. -/
  | gHalt
  /-- R322. A read of RNG_DATA is held until G serves 8 bytes. -/
  | rngDataRead
  /-- R322. A held generator read is not served within 50 µs and fails. -/
  | rngReadTimeout
  /-- R323. Writes DST_LEN random bytes from G. -/
  | random (w : WorkId)
  /-- R329. Checks and admits a certified draw under accord. -/
  | draw (w : WorkId)
  /-- R336. Returns the output of a revealed draw of the owner. -/
  | drawFetch (w : WorkId)
  /-- R332. A draw's outcome and salt are computed and its commitment leaf is sealed. -/
  | drawCommit
  /-- R333. The commit departure becomes durable and the draw output, completion and reveal leaf are written. -/
  | drawReveal
  /-- R340. A slot's CARD_DET_N has been low for 50 ms, and identification of the card begins. -/
  | cardDetected (slot : Nat)
  /-- R365. A slot's CARD_DET_N has been high for 1 ms; power is removed and the operation in progress ends by its phase. -/
  | cardRemoved (slot : Nat)
  /-- R343. A card response token arrives, advancing identification, requests or writes, or triggering a repeat on a CRC error. -/
  | cardResponse (slot : Nat) (r : CardToken)
  /-- R343. A data block from a card arrives and is checked by CRC16. -/
  | cardDataBlock (slot : Nat) (data : Bytes) (crcOk : Bool)
  /-- R344. No response start bit within 64 cycles, and the command is repeated or the operation fails. -/
  | cardResponseTimeout (slot : Nat)
  /-- R345. A card releases DAT0, ending busy after a write or command. -/
  | cardBusyEnd (slot : Nat)
  /-- R345. Busy exceeds its allowance and counts as a timeout. -/
  | cardBusyTimeout (slot : Nat)
  /-- R349. SEND_VDD is repeated each 1 ms and, after 1 s without READY, the slot is powered off. -/
  | cardReadyTimeout (slot : Nat)
  /-- R360. Every 50 ms a waiting card request is polled by SEND_STATUS, fetching on confirmation or ending on decline. -/
  | cardPoll (slot : Nat)
  /-- R360. The operation's deadline passes before the holder answers, and CANCEL_REQUEST is sent. -/
  | cardRequestDeadline (slot : Nat)
  /-- R371. Splits a TRANSPORT key into card shares. -/
  | shareOut (w : WorkId)
  /-- R371. Rebuilds a TRANSPORT key from T card shares. -/
  | shareIn (w : WorkId)
  /-- R371. Moves a share from a source card to a target card. -/
  | reshare (w : WorkId)
  /-- R371. Erases a share from a card. -/
  | shareErase (w : WorkId)
  /-- R370. A share ceremony runs out of the owner's window and ends with ACCORD_REQUIRED. -/
  | ceremonyTimeout
  /-- R395. A junction port link goes up or down, moving sessions to the other port or losing them. -/
  | portLinkChange (port : Nat) (up : Bool)
  /-- R379. A Neighbour Solicitation for a port's address is answered with a Neighbour Advertisement. -/
  | neighbourSolicitation (port : Nat) (target : BitVec 128)
  /-- R390. A HELLO frame starts or resolves a session handshake as responder. -/
  | hello (f : LinzenFrame)
  /-- R390. A REPLY frame is verified and answered with FINISH. -/
  | reply (f : LinzenFrame)
  /-- R390. A FINISH frame is verified and the responder holds the session UP. -/
  | finish (f : LinzenFrame)
  /-- R393. A DATA frame is delivered in SEQ order or discarded with an immediate ACK. -/
  | data (f : LinzenFrame)
  /-- R393. An ACK frame acknowledges frames, brings the initiator UP, or triggers resend on triple duplicates. -/
  | ack (f : LinzenFrame)
  /-- R394. A PROBE frame keeps the session alive. -/
  | probe (f : LinzenFrame)
  /-- R396. A CLOSE frame ends the session. -/
  | close (f : LinzenFrame)
  /-- R398. A peer's head offer is checked, kept and acknowledged. -/
  | headOffer (peer : Nat)
  /-- R398. A peer acknowledges a head, possibly ending a witness wait. -/
  | headAck (peer : Nat)
  /-- R398. A peer asks for its newest head held, answered by HEAD_HELD. -/
  | headQuery (peer : Nat)
  /-- R225. A peer's answer to the restore head query is received. -/
  | headHeld (peer : Nat)
  /-- R400. Routed claim entries are queued at the issuer for decision. -/
  | claimReq (peer : Nat)
  /-- R202. Verdicts for routed claims arrive and the claims complete with RELAY leaves. -/
  | claimVerdict (peer : Nat)
  /-- R401. An interlocked root is decrypted, checked and held, and LOCK_HELD answered. -/
  | lockSend (peer : Nat)
  /-- R401. The peer's interlock result completes INTERLOCK_SEND. -/
  | lockHeld (peer : Nat)
  /-- R402. A peer's time request is received and its response scheduled. -/
  | timeReq (peer t2 : Nat)
  /-- R402. A peer time response is used as a Linzen time reading or discarded. -/
  | timeResp (peer t4 : Nat)
  /-- R402. Once per second a TIME_REQ is sent to each TIME peer. -/
  | timeReqSend (peer t1 : Nat)
  /-- R402. The station clock reaches T3 and the TIME_RESP is launched. -/
  | timeRespSend (peer : Nat)
  /-- R388. Adds a peer-table entry and begins a handshake. -/
  | peerAdd (w : WorkId)
  /-- R388. Sends CLOSE and frees a peer entry. -/
  | peerRemove (w : WorkId)
  /-- R388. Changes a peer entry's flags and paths. -/
  | peerSet (w : WorkId)
  /-- R386. Returns a peer entry's 128-byte image. -/
  | peerInfo (w : WorkId)
  /-- R387. Starts a handshake with a peer. -/
  | sessionOpen (w : WorkId)
  /-- R387. Closes an UP session with a peer. -/
  | sessionClose (w : WorkId)
  /-- R391. A handshake timer expires and HELLO or REPLY is resent, or the handshake fails and retries back off. -/
  | handshakeRetry (peer : Nat)
  /-- R392. A session reaches 24 h or 2^31 messages and a new session is set up. -/
  | rekey (peer : Nat)
  /-- R392. A draining session is closed after 3 s or full acknowledgement. -/
  | drainTimeout (peer : Nat)
  /-- R393. 200 µs after the oldest unacknowledged delivery an ACK is sent. -/
  | ackDelay (peer : Nat)
  /-- R394. The retransmission timer expires; frames are resent or the session is lost at the limit. -/
  | retransmissionTimeout (peer : Nat)
  /-- R394. 1 s without a frame sent, a PROBE is sent. -/
  | idleProbe (peer : Nat)
  /-- R394. 3 s without a valid frame, the session is lost. -/
  | silenceTimeout (peer : Nat)
  /-- R401. A held interlock root is not accepted within WINDOW_S and is cleared. -/
  | interlockHoldExpiry (index : Nat)
  /-- R404. A write of JCT_PORT_CFG sets port fields, applying MEDIA and VLAN when ENABLE goes from 0 to 1. -/
  | portConfigWrite (port : Nat) (v : W32)
  /-- R382. A write of JCT_PTP_INGRESS, EGRESS or DOMAIN is refused while any game is LIVE. -/
  | ptpCorrectionWrite (r : PtpReg) (v : W32)
  /-- R422. Returns the device identity certificate or its unsigned content. -/
  | deviceCertRead (w : WorkId)
  /-- R422. Installs a vendor-signed identity certificate. -/
  | deviceCertInstall (w : WorkId)
  /-- R411. Issues a challenge for debug or a transition. -/
  | authChallenge (w : WorkId)
  /-- R426. Opens debug under a Zilzil token, locking owner keys first in PRODUCTION. -/
  | debugOpen (w : WorkId)
  /-- R414. Settles a life-cycle transition under token and accords and programs its intent. -/
  | lcTransition (w : WorkId)
  /-- R421. Sets or removes an owner or regulator code key under accord. -/
  | codeKeySet (w : WorkId)
  /-- R411. An outstanding challenge ends 600 s after ISSUED. -/
  | challengeExpiry
  /-- R414. The remaining steps of a settled transition finish and the last copy is written. -/
  | transitionComplete
  /-- R429. Every 20 ns every tamper source is evaluated and firing sources get their responses. -/
  | tamperCycle (t : Nat) (xs : List SourceSample)
  /-- R436. Every 5 µs the resistance class of each mesh loop is measured. -/
  | meshMeasure (loop cls : Nat)
  /-- R435. Two detectors of a source disagree for 1 s (10 s for temperature) and source 49 fires. -/
  | detectorSplit (src : Nat)
  /-- R438. Enrols mesh loops and case inputs. -/
  | tamperEnrol (w : WorkId) (meas : List LoopMeasure) (caseOpen : BitVec 4)
  /-- R448. A rail falls below its absolute low limit; the device takes it as power loss or freezes. -/
  | railUndervoltage (src : Nat) (pwrFailLong : Bool)
  /-- R448. A frozen rail returns within 100 µs and the source fires as a glitch. -/
  | railGlitchReturn (src : Nat)
  /-- R448. A frozen rail stays low for 100 µs and it is taken as power loss. -/
  | railLowTimeout (src : Nat)
  /-- R449. A write of TAMPER_POLICY0–7 is checked against lock, codes, LIVE games and floors. -/
  | tamperPolicyWrite (reg : Nat) (v : W32)
  /-- R449. Setting TAMPER_CTL.LOCK makes every policy register read-only until reset. -/
  | tamperPolicyLock (alertRecord : Bool)
  /-- R451. A W1C write to TAMPER_FLAGS clears flags of inactive sources. -/
  | tamperFlagsClear (v : W64)
  /-- R466. DIAG_RX byte S returns a status line. -/
  | diagStatus
  /-- R466. DIAG_RX byte E returns the last 8 event records. -/
  | diagEvents
  /-- R466. DIAG_RX byte T returns the tamper flag registers. -/
  | diagTamper
  /-- R466. DIAG_RX byte ? returns the command list. -/
  | diagHelp
  /-- R465. Every 1 s in HELD the HELD line is printed. -/
  | diagHeldLine
  /-- R470. SELF_TEST mode 1 tests the next engine of every die now. -/
  | selfTestEngine (w : WorkId)
  /-- R470. SELF_TEST mode 2 tests the next lane of every group now. -/
  | selfTestLane (w : WorkId)
  /-- R470. SELF_TEST mode 3 tests the next public-key engine now. -/
  | selfTestPk (w : WorkId)
  /-- R472. SELF_TEST mode 4 starts a FULL test of every unit and die. -/
  | selfTestFull (w : WorkId)
  /-- R470. A requested self-test ends and its output and completion are written. -/
  | selfTestDone (r : SelfTestReport)
  /-- R473. GLOBAL_CONTROL.STABLE requests STABLED, checked at one admission step and stopping fetches. -/
  | stable (t : Nat)
  /-- R474. The last departure and journal blocks are durable and the device gates dies and enters STABLED. -/
  | stabledEnter
  /-- R474. STABLED entry has not completed 2 s after the request and is abandoned. -/
  | stabledEntryTimeout
  /-- R477. GLOBAL_CONTROL.WAKE starts wake from STABLED. -/
  | wake
  /-- R477. Exactly 5.0 ms after WAKE the prior state or DEGRADED is restored and fetching resumes. -/
  | wakeComplete (t : Nat) (failedDies : BitVec 7)
  /-- R486. An internal access enters the signal box and is checked part by part, logging violations. -/
  | signalBoxAccess (a : BoxAccess)
  /-- R484. A write of SIGBOX_RULE changes a slot rule within its ceiling or is refused with ERR. -/
  | sigboxRuleWrite (initiator pl : Nat) (v : W32)
  /-- R485. Writing 1 to a bit of SIGBOX_LOCK0–1 locks that slot's rule until reset. -/
  | sigboxLockWrite (initiator : Nat) (bank : Fin 2) (v : W32)
  /-- R487. A read of SIGBOX_FENCE waits for accesses checked under older rules. -/
  | sigboxFence (initiator : Nat)
  /-- R487. Accesses checked before the last rule write have completed and the fence read returns SIGBOX_GEN. -/
  | fenceComplete
  /-- R501. An event record reaches 1 s of age and is frozen. -/
  | eventFreezeTimeout
  /-- R503. A frozen event record is written with its MAC to the flash mirror, or a failed sector is skipped. -/
  | mirrorWrite (good : Bool)
  /-- R498. The mirror head search ends and staged records take their numbers and enter the recorder. -/
  | mirrorSearchEnd
  /-- R496. Every 3,600 s of operating time event 0x0E01 is created. -/
  | operatingHeartbeat
  /-- R508. A write of COUNTERS_CFG configures a counter and clears its live value. -/
  | countersCfgWrite (v : W32)
  /-- R512. COUNTERS_CTL.SNAP_REQ sends a counter snapshot token and dumps it when enabled. -/
  | snapReq
  /-- R511. A bandwidth window of 2^k ns ends and bandwidth counters take their new values. -/
  | bwWindowEnd (vals : List Nat)
  /-- R544. Every 1 s each DIMM temperature is read, doubling refresh above 85 °C and recording event 0x0E08 above 95 °C. -/
  | dimmTempPoll (channel : Nat) (temp : Int)
  /-- R539. SMBus command 0x00 returns the variant. -/
  | smbVariant
  /-- R539. SMBus command 0x01 returns the stepping. -/
  | smbStepping
  /-- R539. SMBus command 0x02 returns the device id. -/
  | smbDeviceId
  /-- R539. SMBus command 0x03 returns the device state. -/
  | smbState
  /-- R539. SMBus command 0x04 returns the life-cycle state. -/
  | smbLifecycle
  /-- R539. SMBus command 0x10 returns the hottest junction temperature. -/
  | smbTempHottest
  /-- R539. SMBus command 0x11 returns the anchor die temperature. -/
  | smbTempAnchor
  /-- R539. SMBus commands 0x12–0x18 return an engine die temperature. -/
  | smbTempEngineDie (k : Nat)
  /-- R539. SMBus command 0x19 returns the substrate temperature. -/
  | smbTempSubstrate
  /-- R539. SMBus command 0x1A returns thermal and alert flags. -/
  | smbThermalFlags
  /-- R538. An SMBus write is answered with NACK. -/
  | smbWrite (cmd : Byte) (data : Bytes)
  /-- R559. SMB_CLK is held low over 25 ms and the target releases SMB_DAT and abandons the transaction. -/
  | smbClkTimeout
  /-- R375. A received IEEE 802.3 PAUSE frame (EtherType 0x8808) is honoured and the port stops transmitting for the requested time. -/
  | pauseFrame (port quanta : Nat)
  /-- R375. The pause time requested by a received PAUSE frame runs out and the port resumes transmission. -/
  | pauseTimeExpiry (port : Nat)
  /-- R381. A PTP Follow_Up message carrying the precise origin time of a two-step Sync is received and completes the time reading. -/
  | followUp (t port : Nat) (offset : Int)
  /-- R378. A received frame with a bad FCS, wrong address, VLAN or EtherType, an unknown Linzen TYPE or VER, an IPv6 extension header or another ICMPv6 message is dropped and counted in JCT_RX_DROP. -/
  | frameDropped (port : Nat) (cause : DropCause)
  /-- R405. RS-FEC on a junction port loses alignment or passes 1,000 uncorrectable codewords in 1 s, and event 0x0B02 is recorded. -/
  | rsFecAlarm (port : Nat)
  /-- R37. An IDE_KM request over SPDM arrives through the DOE mailbox of PF0 and sets or changes the keys of the IDE link stream. -/
  | ideKmRequest (keys : Bytes)
  /-- R424. A JTAG TAP operation performs boundary scan, or, in an open debug scope, accesses the supervisor cores or engines. -/
  | jtagAccess (a : JtagOp)
  /-- R554. At each TAI second of a valid station clock PPS_OUT rises, and it falls 100 ms later. -/
  | ppsOutEdge (rise : Bool)
  deriving DecidableEq, Repr

end Sys2Proof
end

