-- ==== Sys2Proof/WellFormed.lean ====
section
/-! DEFINITION. Well-formed commands: every number that names a part of the device lies in the range that the
manual gives that part. The step runs ill-formed commands too: what they name does not exist, and their meanings
find nothing to act on. -/

namespace Sys2Proof

def lt (n m : Nat) : Bool := decide (n < m)

/-- Rings 0-8,191 (R44). -/
def ringOk (n : Nat) : Bool := lt n 8192
/-- PF0 is function 0, the VFs are 1-63 (R37). -/
def funcOk (n : Nat) : Bool := lt n 64
/-- Owners are the VFs 1-63. -/
def ownerOk (n : Nat) : Bool := decide (1 ≤ n) && lt n 64
/-- MSI-X vectors of a function (R67). -/
def vecOk (n : Nat) : Bool := lt n 32
/-- Engine dies E1-E7 (R1). -/
def dieOk (n : Nat) : Bool := decide (1 ≤ n) && lt n 8
/-- Junction ports (R375). -/
def portOk (n : Nat) : Bool := lt n 2
/-- Peer-table entries (R386). -/
def peerOk (n : Nat) : Bool := lt n 2048

/-- A descriptor index of a ring of at most 2^16 entries (R44). -/
def WorkId.ok (w : WorkId) : Bool := ringOk w.ring && lt w.idx 65536

/-- Eight clusters of eight engines, four threads each (R12, R116). -/
def EngineId.ok (e : EngineId) : Bool := dieOk e.die && lt e.cluster 8 && lt e.engine 8
def ThreadId.ok (t : ThreadId) : Bool := dieOk t.die && lt t.cluster 8 && lt t.engine 8 && lt t.thread 4

/-- Lane groups and their lanes (R271). -/
def LaneGroup.ok (g : LaneGroup) : Bool :=
  match g with
  | .die k => dieOk k
  | .vault => true
  | .junction => true
def LaneId.ok (l : LaneId) : Bool := l.group.ok && lt l.lane 16

/-- The fixed fields of a Linzen frame (R383). -/
def LinzenFrame.ok (f : LinzenFrame) : Bool :=
  portOk f.port && lt f.ver 256 && lt f.type 256 && lt f.len 65536 && lt f.srcId (2 ^ 64) && lt f.dstId (2 ^ 64)
    && lt f.session (2 ^ 32) && lt f.seq (2 ^ 64) && lt f.ack (2 ^ 64)

/-- Initiator codes and privilege levels (R481). -/
def BoxAccess.ok (a : BoxAccess) : Bool := lt a.initiator 16 && lt a.pl 4 && decide (1 ≤ a.len)

/-- Sixteen loops are measured at most. -/
def StepReport.ok (r : StepReport) : Bool := lt r.mesh.length 17

def SelfTestReport.ok (r : SelfTestReport) : Bool := decide (r.failed ≤ r.tested)

def CfgRequest.ok (q : CfgRequest) : Bool :=
  match q with
  | .other => true
  | .enableVFs n => funcOk n
  | .enableBusMaster f => funcOk f

def DoorbellBar.ok (b : DoorbellBar) : Bool :=
  match b with
  | .pf0Bar2 => true
  | .vfBar0 f => ownerOk f

/-- PF0 BAR0 is 1 MiB, BAR2 128 KiB, and the BAR0 of a VF 64 KiB (R40). -/
def ReadAddr.ok (a : ReadAddr) : Bool :=
  match a with
  | .bar0 off => lt off 0x100000
  | .bar2 off => lt off 0x20000
  | .vfBar0 f off => ownerOk f && lt off 0x10000

def RegAddr.ok (a : RegAddr) : Bool :=
  match a with
  | .bar0 off => lt off 0x100000
  | .msixMask f v => funcOk f && vecOk v
  | .msixEntry f v _ => funcOk f && vecOk v

def RetrainUnit.ok (u : RetrainUnit) : Bool :=
  match u with
  | .ddr ch => lt ch 4
  | .pcie => true
  | .junction p => portOk p
  | .coupling k => dieOk k

/-- Four channels of two sub-channels and two ranks; bursts of 16 beats on 40 DQ lines; lines of 64 bytes and MACs of 8
(R184, R187, R189). -/
def LineRead.ok (r : LineRead) : Bool :=
  lt r.channel 4 && lt r.subch 2 && lt r.rank 2 && (r.flips.all fun f => lt f.1 16 && lt f.2 40)
    && (match r.cipher with
        | some c => c.length == 64
        | none => true)
    && (match r.ctrMac with
        | some m => m.length == 8
        | none => true)

def PtpReg.ok (r : PtpReg) : Bool :=
  match r with
  | .ingress p => portOk p
  | .egress p => portOk p
  | .domain => true

def JtagOp.ok (a : JtagOp) : Bool :=
  match a with
  | .boundaryScan _ => true
  | .supervisorCore c => lt c 4
  | .engine e => e.ok

/-- Tamper sources 0-52 (R429). -/
def samplesOk (xs : List SourceSample) : Bool := xs.all fun x => lt x.src 53

/-- Every operand names a part that exists. (DESIGN CHOICE, log 52) -/
def Instr.wellFormed : Instr → Bool
  | .powerGood _ => true
  | .powerLoss => true
  | .resetAssert _ => true
  | .resetRelease _ _ => true
  | .startupStepEnd _ r => r.ok
  | .pwrFailHoldEnd => true
  | .romConfigTakeover => true
  | .perstNAssert => true
  | .perstNRelease => true
  | .linkTrainingStart => true
  | .configRequest q => q.ok
  | .flrVf func => funcOk func
  | .vfDisable numVFs => funcOk numVFs
  | .flrPf0 => true
  | .busMasterDisable func => funcOk func
  | .doorbell bar slot _ _ => bar.ok && lt slot 8192
  | .recordFetched ring _ _ => ringOk ring
  | .descriptorFetchError ring => ringOk ring
  | .admissionStep _ => true
  | .tokenRefill ring => ringOk ring
  | .closeTick _ => true
  | .witnessTimeout _ => true
  | .departureSigned _ _ => true
  | .ledgerPost => true
  | .journalPost owner => ownerOk owner
  | .eventPost => true
  | .completionWrite ring => ringOk ring
  | .vectorHoldoff func vec => funcOk func && vecOk vec
  | .vectorUnmask func vec => funcOk func && vecOk vec
  | .start => true
  | .stop => true
  | .delete => true
  | .ringConfigWrite _ _ => true
  | .bulkOpen _ => true
  | .bulkWindowWrite off _ _ => lt off 65536
  | .bulkClose => true
  | .bulkCancel => true
  | .rulebookLoad => true
  | .rulebookSwitch owner handle => ownerOk owner && lt handle 65536
  | .rulebookDrainEnd owner handle => ownerOk owner && lt handle 65536
  | .firmwareInstall => true
  | .keyTableImport => true
  | .settlementLoad => true
  | .settlementLoadLive => true
  | .restoreStream => true
  | .headQueryTimeout => true
  | .restoreAbandon _ _ => true
  | .ringBudgetWrite _ => true
  | .ownerShareWrite _ => true
  | .timeNowRead => true
  | .timeAllowanceWrite _ _ => true
  | .departPeriodWrite _ => true
  | .departWitnessWrite _ => true
  | .vmemPartWrite _ => true
  | .partitionRelayEnd owner => ownerOk owner
  | .keysQuotaWrite _ => true
  | .readClear a => a.ok
  | .registerWrite a _ => a.ok
  | .gameDefine w => w.ok
  | .gameClose w => w.ok
  | .gameReschedule w => w.ok
  | .gameReopen w => w.ok
  | .gameSetMaxunc w => w.ok
  | .gameDelete w => w.ok
  | .gameStatus w => w.ok
  | .timeLostClosure _ => true
  | .ppsInEdge _ _ => true
  | .sync _ port _ _ => portOk port
  | .announce port _ _ _ => portOk port
  | .announceReceiptTimeout port => portOk port
  | .delayReq port => portOk port
  | .delayResp port _ => portOk port
  | .sourceAgreement _ _ _ => true
  | .sourceLossTimeout _ => true
  | .uncertaintyLimit _ => true
  | .clockMonitorFail _ => true
  | .workDispatch _ th => th.ok
  | .threadOverrun th => th.ok
  | .nop th _ => th.ok
  | .jmp th _ => th.ok
  | .beq th _ => th.ok
  | .bne th _ => th.ok
  | .bltu th _ => th.ok
  | .bgeu th _ => th.ok
  | .accept th _ => th.ok
  | .reject th _ => th.ok
  | .movi th _ => th.ok
  | .movhi th _ => th.ok
  | .add th _ => th.ok
  | .sub th _ => th.ok
  | .addsat th _ => th.ok
  | .mulu th _ => th.ok
  | .divu th _ => th.ok
  | .and th _ => th.ok
  | .or th _ => th.ok
  | .xor th _ => th.ok
  | .shl th _ => th.ok
  | .shr th _ => th.ok
  | .minu th _ => th.ok
  | .maxu th _ => th.ok
  | .ld th _ => th.ok
  | .st th _ => th.ok
  | .const th _ => th.ok
  | .lookup th _ => th.ok
  | .ctx th _ => th.ok
  | .cnt th _ => th.ok
  | .parse th _ => th.ok
  | .fld th _ => th.ok
  | .flen th _ => th.ok
  | .auth th _ => th.ok
  | .digest th _ => th.ok
  | .limget th _ => th.ok
  | .limadd th _ => th.ok
  | .tkins th _ => th.ok
  | .tkget th _ => th.ok
  | .tkset th _ => th.ok
  | .rfield th _ => th.ok
  | .rfdig th _ => th.ok
  | .commit _ => true
  | .engineTestSlot die => dieOk die
  | .engineTestDone die _ => dieOk die
  | .engineFault e => e.ok
  | .dieLost die => dieOk die
  | .anchorFault _ => true
  | .faultRecovered _ => true
  | .retrainSlot u => u.ok
  | .patrolScrub r => r.ok
  | .claim w => w.ok
  | .cancel w => w.ok
  | .result w => w.ok
  | .ticketStatus w => w.ok
  | .limitStatus w => w.ok
  | .limitSet w => w.ok
  | .sweep w => w.ok
  | .sweepEnd owner game => ownerOk owner && lt game (2 ^ 32)
  | .claimBatchSend peer => peerOk peer
  | .claimWaitTimeout _ => true
  | .adopt w => w.ok
  | .snapRegions w => w.ok
  | .checkpointWait w => w.ok
  | .checkpointAck w => w.ok
  | .checkpointNow w => w.ok
  | .checkpointStart _ => true
  | .checkpointWritten _ => true
  | .flashRecordWritten _ => true
  | .pwrFailNAssert _ => true
  | .pwrFailNDeassert => true
  | .newSalt => true
  | .slotScrub _ => true
  | .cacheInvalidation owner => ownerOk owner
  | .ownerEnrol w => w.ok
  | .ownerRetire w => w.ok
  | .officialSet w => w.ok
  | .slotGenerate w => w.ok
  | .slotWrite w => w.ok
  | .slotExport w lane => w.ok && lt lane 4
  | .slotDestroy w => w.ok
  | .slotInfo w => w.ok
  | .clauseExport w lane => w.ok && lt lane 4
  | .terminalSet w => w.ok
  | .accordOpen w => w.ok
  | .accordAdd w => w.ok
  | .accordCancel w => w.ok
  | .interlockSend w => w.ok
  | .interlockAccept w => w.ok
  | .departKeyRoll w => w.ok
  | .couplingAckTimeout die => dieOk die
  | .saltEraseDone => true
  | .wrappedAreaErased => true
  | .aeadEncrypt w lane => w.ok && lt lane 4
  | .aeadDecrypt w lane => w.ok && lt lane 4
  | .ctrEncrypt w lane => w.ok && lt lane 4
  | .ctrDecrypt w lane => w.ok && lt lane 4
  | .xtsEncrypt w lane => w.ok && lt lane 4
  | .xtsDecrypt w lane => w.ok && lt lane 4
  | .macGenerate w lane => w.ok && lt lane 4
  | .macVerify w lane => w.ok && lt lane 4
  | .hash w lane => w.ok && lt lane 4
  | .cipherOperationDone w => w.ok
  | .laneParityFault l relane => l.ok && lt relane 4
  | .laneTestSlot group => group.ok
  | .laneTestDone group _ => group.ok
  | .pkSign w engine => w.ok && lt engine 16
  | .pkVerify w engine => w.ok && lt engine 16
  | .pkKeygen w engine => w.ok && lt engine 16
  | .pkDerive w engine => w.ok && lt engine 16
  | .pkEncaps w engine => w.ok && lt engine 16
  | .pkCurveLoad w engine => w.ok && lt engine 16
  | .pkAbort w => w.ok
  | .pkPublic w engine => w.ok && lt engine 16
  | .pkOperationDone w _ => w.ok
  | .pkEngineFault engine _ => lt engine 16
  | .pkTestSlot => true
  | .pkTestDone _ => true
  | .generatorReady _ => true
  | .seedReady => true
  | .rngAlarm src _ => lt src 4
  | .rngKat _ => true
  | .gReseedDue => true
  | .gHalt => true
  | .rngDataRead => true
  | .rngReadTimeout => true
  | .random w => w.ok
  | .draw w => w.ok
  | .drawFetch w => w.ok
  | .drawCommit => true
  | .drawReveal => true
  | .cardDetected slot => lt slot 8
  | .cardRemoved slot => lt slot 8
  | .cardResponse slot _ => lt slot 8
  | .cardDataBlock slot _ _ => lt slot 8
  | .cardResponseTimeout slot => lt slot 8
  | .cardBusyEnd slot => lt slot 8
  | .cardBusyTimeout slot => lt slot 8
  | .cardReadyTimeout slot => lt slot 8
  | .cardPoll slot => lt slot 8
  | .cardRequestDeadline slot => lt slot 8
  | .shareOut w => w.ok
  | .shareIn w => w.ok
  | .reshare w => w.ok
  | .shareErase w => w.ok
  | .ceremonyTimeout => true
  | .portLinkChange port _ => portOk port
  | .neighbourSolicitation port _ => portOk port
  | .hello f => f.ok
  | .reply f => f.ok
  | .finish f => f.ok
  | .data f => f.ok
  | .ack f => f.ok
  | .probe f => f.ok
  | .close f => f.ok
  | .headOffer peer => peerOk peer
  | .headAck peer => peerOk peer
  | .headQuery peer => peerOk peer
  | .headHeld peer => peerOk peer
  | .claimReq peer => peerOk peer
  | .claimVerdict peer => peerOk peer
  | .lockSend peer => peerOk peer
  | .lockHeld peer => peerOk peer
  | .timeReq peer _ => peerOk peer
  | .timeResp peer _ => peerOk peer
  | .timeReqSend peer _ => peerOk peer
  | .timeRespSend peer => peerOk peer
  | .peerAdd w => w.ok
  | .peerRemove w => w.ok
  | .peerSet w => w.ok
  | .peerInfo w => w.ok
  | .sessionOpen w => w.ok
  | .sessionClose w => w.ok
  | .handshakeRetry peer => peerOk peer
  | .rekey peer => peerOk peer
  | .drainTimeout peer => peerOk peer
  | .ackDelay peer => peerOk peer
  | .retransmissionTimeout peer => peerOk peer
  | .idleProbe peer => peerOk peer
  | .silenceTimeout peer => peerOk peer
  | .interlockHoldExpiry index => lt index 64
  | .portConfigWrite port _ => portOk port
  | .ptpCorrectionWrite r _ => r.ok
  | .deviceCertRead w => w.ok
  | .deviceCertInstall w => w.ok
  | .authChallenge w => w.ok
  | .debugOpen w => w.ok
  | .lcTransition w => w.ok
  | .codeKeySet w => w.ok
  | .challengeExpiry => true
  | .transitionComplete => true
  | .tamperCycle _ xs => samplesOk xs
  | .meshMeasure loop cls => lt loop 16 && lt cls 8
  | .detectorSplit src => lt src 53
  | .tamperEnrol w meas _ => w.ok && lt meas.length 17
  | .railUndervoltage src _ => lt src 53
  | .railGlitchReturn src => lt src 53
  | .railLowTimeout src => lt src 53
  | .tamperPolicyWrite reg _ => lt reg 8
  | .tamperPolicyLock _ => true
  | .tamperFlagsClear _ => true
  | .diagStatus => true
  | .diagEvents => true
  | .diagTamper => true
  | .diagHelp => true
  | .diagHeldLine => true
  | .selfTestEngine w => w.ok
  | .selfTestLane w => w.ok
  | .selfTestPk w => w.ok
  | .selfTestFull w => w.ok
  | .selfTestDone r => r.ok
  | .stable _ => true
  | .stabledEnter => true
  | .stabledEntryTimeout => true
  | .wake => true
  | .wakeComplete _ _ => true
  | .signalBoxAccess a => a.ok
  | .sigboxRuleWrite initiator pl _ => lt initiator 16 && lt pl 4
  | .sigboxLockWrite initiator _ _ => lt initiator 16
  | .sigboxFence initiator => lt initiator 16
  | .fenceComplete => true
  | .eventFreezeTimeout => true
  | .mirrorWrite _ => true
  | .mirrorSearchEnd => true
  | .operatingHeartbeat => true
  | .countersCfgWrite _ => true
  | .snapReq => true
  | .bwWindowEnd _ => true
  | .dimmTempPoll channel _ => lt channel 4
  | .smbVariant => true
  | .smbStepping => true
  | .smbDeviceId => true
  | .smbState => true
  | .smbLifecycle => true
  | .smbTempHottest => true
  | .smbTempAnchor => true
  | .smbTempEngineDie k => dieOk k
  | .smbTempSubstrate => true
  | .smbThermalFlags => true
  | .smbWrite _ _ => true
  | .smbClkTimeout => true
  | .pauseFrame port quanta => portOk port && lt quanta 65536
  | .pauseTimeExpiry port => portOk port
  | .followUp _ port _ => portOk port
  | .frameDropped port _ => portOk port
  | .rsFecAlarm port => portOk port
  | .ideKmRequest _ => true
  | .jtagAccess a => a.ok
  | .ppsOutEdge _ => true

end Sys2Proof
end

