-- ==== Sys2Proof/Decode.lean ====
section
/-! DEFINITION. Words that spell commands. The manual gives the commands of this block no words: a host reaches them
by register accesses, descriptors, frames and pins, and no row of the table of operations carries bits. -/

namespace Sys2Proof

/-- The command that a word of the table's bits spells: no row gives bits, so no word spells a command. (DESIGN CHOICE, log 9) -/
def decodeTableWord (_nbits _w : Nat) : Option Instr := none

end Sys2Proof
end

