-- ==== Sys2Proof/Config.lean ====
section
/-! DEFINITION. What an implementation fixes, and every value the manual leaves open. Each constant below has no
body that a proof can see: a statement about it holds whatever its value is. The algorithms that the manual
takes from a standard by name (R4) stand here as functions of their inputs; random draws are functions
of the number of draws made before. -/

namespace Sys2Proof

/-- SHA-384 (R8). -/
opaque Config.sha384 : Bytes → Digest

/-- The other digests of the cipher lanes, by algorithm code (R281): the digest as a number. -/
opaque Config.digest : Nat → Bytes → Nat

/-- KMAC256 of SP 800-185: key, message, output length in bits, customisation string; the output as a number
whose byte 0 is the least significant. -/
opaque Config.kmac256 : Bytes → Bytes → Nat → Bytes → Nat

/-- KMAC128 of SP 800-185, as `kmac256`. -/
opaque Config.kmac128 : Bytes → Bytes → Nat → Bytes → Nat

/-- The AES-CTR keystream of a key, an initial counter block and a length in bytes. -/
opaque Config.ctrStream : Bytes → Bytes → Nat → Nat

/-- The AES-GCM keystream of a key, a nonce and a length in bytes. -/
opaque Config.gcmStream : Bytes → Bytes → Nat → Nat

/-- The AES-GCM tag over additional data and ciphertext. -/
opaque Config.gcmTag : Bytes → Bytes → Bytes → Bytes → BitVec 128

/-- AES-XTS over one data unit: key pair, tweak, data; true encrypts. -/
opaque Config.xts : Bool → Bytes → Bytes → Bytes → Nat

/-- CRC32C and the other checks of received structures that a standard defines. -/
opaque Config.crc32c : Bytes → BitVec 32

/-- Signature verification by scheme code: public key, message, signature. -/
opaque Config.verify : Nat → Bytes → Bytes → Bytes → Bool

/-- Signature by scheme code: private key, message, the randomness used; the signature as a number. -/
opaque Config.sign : Nat → Bytes → Bytes → Nat → Nat

/-- The public key of a private key by algorithm code, as a number. -/
opaque Config.public : Nat → Bytes → Nat

/-- A private key made from generator output by algorithm code. -/
opaque Config.keygen : Nat → Nat → Nat

/-- Key agreement by algorithm code: private key, the peer's public value or ciphertext; none where the
standard's validity check fails. -/
opaque Config.agree : Nat → Bytes → Bytes → Option Nat

/-- Encapsulation by algorithm code: public key, randomness; ciphertext and shared secret as numbers. -/
opaque Config.encaps : Nat → Bytes → Nat → Nat × Nat

/-- Whether a public key, private key or curve passes its standard's validity check, by algorithm code. -/
opaque Config.valid : Nat → Bytes → Bool

/-- The k-th draw from the generator, of n bytes (R313-R323): a free value. (DESIGN CHOICE, log 1) -/
opaque Config.random : Nat → Nat → Nat

/-- A value that the manual leaves undefined, drawn fresh with the counter of the state. (DESIGN CHOICE, log 1) -/
opaque Config.freeNat : Nat → Nat

/-- The vendor public keys in the ROM (R416): kind (0 code, 1 authorisation, 2 test), generation, and true for the
ML-DSA-87 key. -/
opaque Config.romKey : Nat → Nat → Bool → Bytes

/-- SHA-384 of the ROM (R420). -/
opaque Config.romDigest : Digest

/-- The SRAM PUF response (R229). -/
opaque Config.puf : BitVec 256

/-- The keyed placement hash of owner id and clause subject (R25): key, owner id, subject. -/
opaque Config.placementHash : Nat → W64 → W64 → Nat

/-- Shamir shares over GF(2^8) (R367): secret, share index, threshold, randomness. -/
opaque Config.share : Bytes → Nat → Nat → Nat → Nat

/-- The secret rebuilt from shares (R367): (index, share) list and the length in bytes. -/
opaque Config.combine : List (Nat × Bytes) → Nat → Nat

/-- The 4 KiB chunks of the device metadata at the head of a snapshot image (R212): the manual does not size it. (DESIGN CHOICE, log 44) -/
opaque Config.metaChunks : Nat

/-- A keyed hash of R195: a 16-byte key and a record key. The manual does not give the function. (DESIGN CHOICE, log 23) -/
opaque Config.bucketHash : Bytes → Nat → Nat

/-- The bytes of metadata chunk k (R212) of an owner table, game table, adoption table and peer table: the manual names
the parts and not their layout. (DESIGN CHOICE, log 44) -/
opaque Config.metaLayout : List Bytes → Nat → Bytes

/-- The 8 parity symbols, 16 bytes, of the RS(40,32) codeword of a 64-byte line (R189): the manual does not give the
field's polynomial or the generator. (DESIGN CHOICE, log 58) -/
opaque Config.rsParity : Bytes → BitVec 128


/-- The limits that a source's OTP words hold (R453): source, true for the absolute band; low and high. (DESIGN CHOICE, log 8) -/
opaque Config.tamperLimit : Nat → Bool → Nat × Nat

end Sys2Proof
end

