-- ==== Sys2Proof/Machine/Records.lean ====
section
/-! DEFINITION. The records that the state of the block is made of, for the chapters on the host
interface, admission, engines, departures, vault memory and keys. Plain data only; every field that is a
register, a flag or a table names the rule of the manual that gives it. -/

namespace Sys2Proof.Machine

/-- A table keyed by a number, kept in ascending key order (one entry for a key). -/
abbrev Tbl (α : Type) := List (Nat × α)

/-- Device states (R28); `off` has no code. -/
inductive DevState where
  | off | booting | held | restoring | ready | degraded | stabled | zeroised
  deriving DecidableEq, Repr

/-- Completion status codes (R63). -/
inductive Status where
  | ok | sealedReject | refusedBusy | refusedClosed | authFail | keyLimit | noKey | badDescriptor
  | ringStopped | aborted | fault | rngUnavailable | paramInvalid | accordRequired | ownerUnreachable
  | alreadyPaid | notFound | policy | held | cardUncertain | transitionRefused
  deriving DecidableEq, Repr

/-- Ring states (R42). -/
inductive RingState where
  | free | configured | running | stopping | stopped | error
  deriving DecidableEq, Repr

/-- A diagnostic UART line (R465, R466), before it is rendered as ASCII text. -/
inductive UartLine where
  | boot (variant : Nat) (id : W64) (cause power : Nat)
  | stepOk (step ms : Nat)
  | stepFail (step unit detail : Nat)
  | stateIs (st : DevState) (ms : Nat)
  | tamper (src cls : Nat)
  | heldLine (step unit detail lc : Nat) (flags : W64)
  | statusLine (st : DevState) (step heldStep heldUnit heldDetail lc : Nat) (flags : W64)
  | eventRecord (b : Bytes)
  | tamperRegs (flags severe active : W64)
  | help
  deriving DecidableEq, Repr

/-- A response on the SMBus (R538, R539). -/
inductive SmbAnswer where
  | data (b : Bytes)
  | nack
  | released
  deriving DecidableEq, Repr

/-- What the device sends out of the block: the model's own trace of writes, messages and frames. (DESIGN CHOICE, log 2; DESIGN CHOICE, log 49) -/
inductive Out where
  /-- The data of a host register read (R6). -/
  | regData (off : Nat) (v : Nat)
  /-- A read request to host memory with the requester id of a function (R38): address and length. -/
  | dmaRead (func addr len : Nat)
  /-- A posted write to host memory with the requester id of a function (R38, R564). -/
  | dma (func addr : Nat) (b : Bytes)
  /-- An MSI-X message (R67). -/
  | msix (func vec : Nat)
  /-- Configuration request answered with retry status (R39). -/
  | cfgRetry
  /-- Configuration request served (R39, R459). -/
  | cfgServed
  /-- A UART line with the operating time in ms (R465). -/
  | uart (ms : Nat) (l : UartLine)
  | smb (a : SmbAnswer)
  /-- Boundary scan shifts its register out (R424). -/
  | jtag (b : Bytes)
  /-- A frame on a junction port (R378-R402). -/
  | frame (port : Nat) (kind : Nat) (b : Bytes)
  /-- A command token on the custody bus (R343): slot, index, argument. -/
  | cardCmd (slot index arg : Nat)
  /-- Data blocks to a card (R343). -/
  | cardData (slot : Nat) (b : Bytes)
  /-- The data and response the signal box returns to an initiator for one part (R488). -/
  | boxReply (initiator : Nat) (allowed error : Bool)
  /-- A broadcast over the couplings: zeroise, cache invalidation, tokens (R15, R243, R266). -/
  | coupling (kind arg : Nat)
  deriving DecidableEq, Repr

/-- Sequence number, admission time and departure fixed at admission (R85 step 4). -/
structure Stamp where
  seq : Nat
  t : Nat
  dep : Nat
  deriving DecidableEq, Repr

/-- A finished descriptor waiting in the reorder buffer for its turn (R59, R62, R64). -/
structure Done where
  idx : Nat
  tag : Nat
  status : Status
  detail : Nat
  stamp : Option Stamp
  receipt : Option Bytes
  untrusted : Bool
  irq : Bool
  /-- Owner rule-counter marks of the applied run, counted when the completion is written (R509). -/
  marks : BitVec 16 := 0
  deriving DecidableEq, Repr

/-- One ring (R42, R44, R69, R95, R114). -/
structure Ring where
  cls : Nat := 0
  func : Nat := 0
  log2 : Nat := 6
  vector : Nat := 0
  localIdx : Nat := 0
  epoch : Nat := 0
  qbase : Nat := 0
  cqbase : Nat := 0
  rbase : Nat := 0
  state : RingState := .free
  lastErr : Nat := 0
  /-- Submission rings: tail accepted by the last doorbell. Output rings: release index. -/
  tail : Nat := 0
  /-- DEVICE_INDEX of R42. -/
  fetch : Nat := 0
  /-- Index of the next completion to write, and the PHASE it carries (R59, R64). -/
  next : Nat := 0
  phase : Bool := true
  lost : Nat := 0
  rate : Nat := 0
  burst : Nat := 0
  tokens : Nat := 0
  /-- The incarnation: one more at each START and each deletion, so that work of an earlier ring never
  reaches a later one. -/
  gen : Nat := 0
  fin : List Done := []
  deriving DecidableEq, Repr

/-- A descriptor whose fetch has ended and that waits for its admission decision (R83, R84). -/
structure Fetched where
  ring : Nat
  gen : Nat
  idx : Nat
  desc : BitVec 512
  src : SourceRead
  /-- The 10 ns admission step in which its last byte was written (R83). -/
  step : Nat
  deriving DecidableEq, Repr

/-- A descriptor that waits for the command of its opcode (R102), or is being worked on. -/
structure Work where
  ring : Nat
  gen : Nat
  idx : Nat
  desc : BitVec 512
  src : Bytes
  stamp : Option Stamp
  deriving DecidableEq, Repr

/-- A sequence number that has been issued and whose leaf is not yet sealed (R17, R20). -/
structure Owed where
  seq : Nat
  owner : Nat
  dep : Nat
  deriving DecidableEq, Repr

/-- A game-table entry (R98). A FREE entry is absent from the table. -/
structure Game where
  owner : Nat
  id : Nat
  /-- true: LIVE; false: CLOSED. -/
  live : Bool
  reason : Nat
  rulebook : Nat
  openT : Nat
  closeT : Nat
  guard : Nat
  deriving DecidableEq, Repr, Inhabited

/-- One syntax entry (R124). -/
structure SynField where
  hi : Nat
  lo : Nat
  off : Nat
  len : Nat
  ty : Nat
  count : Nat
  deriving DecidableEq, Repr

/-- A decoded agreement op (R128). -/
structure AgOp where
  op : Nat
  f : OpFields
  deriving DecidableEq, Repr

/-- A loaded rulebook version (R121-R123, R142, R146). -/
structure Book where
  owner : Nat
  /-- OWNER_ID of the image. -/
  ownerId : W64
  handle : Nat
  version : Nat
  digest : Digest
  lmax : Nat
  fields : List SynField
  ops : List AgOp
  consts : List W64
  tables : List (List W64)
  cancel : Option Nat
  wWager : Nat
  cWager : Nat
  wCancel : Nat
  cCancel : Nat
  bytes : Nat
  /-- Draining: replaced by a newer version whose switch has happened. -/
  draining : Bool
  deriving DecidableEq, Repr

/-- A change staged by an op (R134, R136, R137). -/
inductive Staged where
  | nonce (terminal tense ctr : Nat)
  | limit (id delta : Nat) (sub : Bool) (reason defLimit : Nat)
  | ticketInsert (amount data : W64)
  | ticketMove (st : Nat)
  deriving DecidableEq, Repr

/-- How a thread ended (R130, R131, R134). -/
structure EndOp where
  status : Status
  reason : Nat
  /-- The staged set that goes to the controller; none when AUTH ended the thread (nothing is committed). -/
  staged : Option (List Staged)
  ruleField : W64
  marks : BitVec 16
  deriving DecidableEq, Repr

/-- A placed work item (R88, R132): the anchor's copy of the record and everything fixed at admission. -/
structure Item where
  seq : Nat
  t : Nat
  dep : Nat
  unc : Nat
  owner : Nat
  ring : Nat
  gen : Nat
  idx : Nat
  desc : BitVec 512
  record : Bytes
  game : Nat
  openT : Nat
  closeT : Nat
  guard : Nat
  handle : Nat
  version : Nat
  /-- CANCEL entry rather than WAGER entry. -/
  isCancel : Bool
  /-- CTX selectors 15 and 16. -/
  targetDev : Nat
  targetSeq : Nat
  /-- The engine die it runs or ran on; 0 while it waits. -/
  die : Nat
  /-- The reserve engine on which an item of a failed engine is placed again (R35). -/
  reserve : Option EngineId := none
  /-- The receipt key that AUTH derived on the die (R133). -/
  receiptKey : Option Bytes := none
  /-- The receipt MAC has faulted once (R287). -/
  macFault : Bool := false
  ended : Option EndOp
  deriving DecidableEq, Repr

/-- A terminal record (R204, TYPE 2). -/
structure Terminal where
  owner : Nat
  id : Nat
  tense : Nat
  ctr : Nat
  /-- Its bucket of the COUNTERS area (R195). -/
  bucket : Nat := 0
  deriving DecidableEq, Repr

/-- A hardware thread that runs a work item (R116). (DESIGN CHOICE, log 51) -/
structure Thread where
  id : ThreadId
  seq : Nat
  pc : BitVec 12
  regs : Vector W64 32
  staged : List Staged
  ruleField : W64
  /-- Window 0x0000-0x0FFF. -/
  record : Bytes
  /-- Window 0x1000-0x3FFF: bytes that are not 0, by offset, ascending. -/
  scratch : List Host.Cell
  marks : BitVec 16
  /-- The op whose lane operation has faulted once and runs again on another lane (R287). -/
  laneFault : Option (BitVec 12) := none
  /-- The terminal record as read while the work item crossed the coupling (R133). -/
  terminal : Option Terminal := none
  deriving DecidableEq, Repr

/-- An engine, lane, public-key engine or die named as a unit of a fault (R34). -/
inductive FaultUnit where
  | engine (e : EngineId)
  | lane (l : LaneId)
  | pk (e : Nat)
  | die (k : Nat)
  deriving DecidableEq, Repr

/-- A kept commit outcome (R139). -/
structure Kept where
  seq : Nat
  status : Status
  reason : Nat
  ruleField : W64
  replay : Bytes
  /-- Rule-counter marks of the applied run (R509). -/
  marks : BitVec 16 := 0
  deriving DecidableEq, Repr

/-- A leaf hash in a departure's subtree (R168). -/
structure LeafHash where
  seq : Nat
  dep : Nat
  subtree : Nat
  hash : Digest
  deriving DecidableEq, Repr

/-- A peer head that may be included as a witness (R179, R181). -/
structure PeerHead where
  peer : Nat
  device : W64
  dep : Nat
  head : Digest
  conflict : Bool
  deriving DecidableEq, Repr

/-- A departure whose close tick has been inserted and whose record is not yet signed (R156, R170). -/
structure Closing where
  dep : Nat
  flags : BitVec 16
  periodNs : Nat
  runNs : Nat
  sched : Nat
  actual : Nat
  late : Nat
  unc : Nat
  clockState : Nat
  firstSeq : Nat
  lastSeq : Nat
  rulebookCount : Nat
  rulebookSet : Digest
  eventDigest : Digest
  counterDigest : Digest
  witness : List PeerHead
  nextKey : Digest
  keyDigest : Digest
  serial : Nat
  deriving DecidableEq, Repr

/-- The fields of a leaf record that its KIND sets (R163). -/
structure Leaf where
  subject : Nat := 0
  arg : Nat := 0
  arg2 : Nat := 0
  tag : Nat := 0
  arg3 : Nat := 0
  version : Nat := 0
  handle : Nat := 0
  ring : Nat := 0xFFFF
  reason : Nat := 0
  status : Status := .ok
  kind : Nat
  owner : Nat
  subtree : Nat := 0
  ext : Option Bytes := none
  deriving DecidableEq, Repr

/-- A device-originated leaf that waits for its number, and the descriptor that completes with it (R165, R334,
R370). -/
structure Ending where
  leaf : Leaf
  work : Option Work
  status : Status
  detail : Nat
  out : Bytes
  /-- The completion carries the leaf's own number, not the one the descriptor was admitted with. -/
  ownStamp : Bool
  /-- Its replay record; none is an empty one. -/
  replay : Option Bytes := none
  deriving DecidableEq, Repr

/-- A signed departure record (R170). -/
structure Signed where
  /-- KEY_DIGEST of the record. -/
  keyDigest : Digest
  dep : Nat
  lastSeq : Nat
  head : Digest
  bytes : Bytes
  deriving DecidableEq, Repr

/-- A closed journal block (R210). -/
structure JBlock where
  owner : Nat
  dep : Nat
  seq : Nat
  units : Nat
  bytes : Bytes
  deriving DecidableEq, Repr

/-- One entry of a journal block: the leaf and its replay record (R210, R211). -/
structure JEntry where
  seq : Nat
  dep : Nat
  leaf : Bytes
  replay : Bytes
  deriving DecidableEq, Repr

/-- A checkpoint that runs, or the newest one written (R213-R215): its epoch, departure D, and, once the record of D
is signed, LAST_SEQ and the head of D. -/
structure Ckpt where
  epoch : Nat
  dep : Nat
  lastSeq : Nat
  head : Option Digest
  deriving DecidableEq, Repr

/-- A settlement entry (R197). -/
structure Ticket where
  issuer : Nat
  seq : Nat
  amount : W64
  data : W64
  game : Nat
  payer : Nat
  pending : Bool
  /-- R198: 0 SOLD, 1 CANCELLED, 2 WON_UNPAID, 3 PAID, 4 VOID. -/
  state : Nat
  owner : Nat
  /-- Its bucket of the SETTLE area (R195). -/
  bucket : Nat := 0
  deriving DecidableEq, Repr

/-- A limit counter record (R204, TYPE 1). -/
structure LimitCtr where
  owner : Nat
  id : Nat
  value : Nat
  limit : Nat
  window : Nat
  wlenH : Nat
  /-- Its bucket of the COUNTERS area (R195). -/
  bucket : Nat := 0
  deriving DecidableEq, Repr

/-- A sweep whose background scan is running (R207). -/
structure Sweep where
  owner : Nat
  game : Nat
  mode : BitVec 3
  atSeq : Nat
  deleted : Nat
  voided : Nat
  work : Work
  deriving DecidableEq, Repr

/-- A claim that was sent, or waits to be sent, to its issuing peer (R202, R399). -/
structure RoutedClaim where
  peer : Nat
  owner : Nat
  ownerId : W64
  device : W64
  seq : Nat
  sent : Bool
  die : Nat
  work : Work
  deriving DecidableEq, Repr

/-- An inbound claim entry queued at the issuer (R400). -/
structure InClaim where
  peer : Nat
  presenter : W64
  claimSeq : Nat
  ownerId : W64
  device : W64
  seq : Nat
  /-- The CLAIM_REQ that brought it, and its verdict entry once it is decided. -/
  batch : Nat
  verdict : Option Bytes
  deriving DecidableEq, Repr

/-- A counter-area record of user flash (R217). -/
structure FlashRec where
  type : Nat
  writeNo : Nat
  epoch : Nat
  departure : Nat
  sequence : Nat
  seqHigh : Nat
  depHigh : Nat
  head : Digest
  accordHigh : Nat
  /-- Its place in the ring of 256 sectors of 32 records, and its MAC. -/
  place : Nat := 0
  mac : Bytes := []
  deriving DecidableEq, Repr

/-- The enrolment record of mesh loops and case inputs (R439), with its MAC. (DESIGN CHOICE, log 7) -/
structure MeshRec where
  caseMask : BitVec 4
  count : Nat
  /-- MODE, CLASS and DELAY of loops 0-15. -/
  loops : List (Nat × Nat × Nat)
  mac : Bytes := []
  deriving DecidableEq, Repr

/-- A vault slot (R233, R234). -/
structure Slot where
  payload : Bytes := []
  attr : W64 := 0
  gen : Nat := 0
  /-- 0 FREE, 1 VALID, 2 EXHAUSTED, 3 FAILED. -/
  state : Nat := 0
  /-- CHECK, over the index and the fields above. -/
  check : Bytes := []
  deriving DecidableEq, Repr

/-- A KEYS record (R240). -/
structure KeyRec where
  owner : Nat
  index : Nat
  attr : W64
  gen : Nat
  state : Nat
  payload : Bytes
  check : Bytes := []
  deriving DecidableEq, Repr

/-- An official of an owner (R246). -/
structure Official where
  card : Bytes
  pub : Bytes
  deriving DecidableEq, Repr

/-- An open accord (R249, R250). -/
structure Accord where
  no : Nat
  openT : Nat
  windowS : Nat
  owner : Nat
  m : Nat
  opcode : Nat
  digest : Digest
  /-- OFFICIAL entries kept with the accord for opcodes 0x50 and 0x52. -/
  body : List Official
  signers : List Bytes
  deriving DecidableEq, Repr

/-- A held interlock message (R262). -/
structure HeldLock where
  index : Nat
  peer : Nat
  device : W64
  ownerId : W64
  root : Bytes
  attr : W64
  setDigest : Digest
  lo : Nat
  hi : Nat
  deriving DecidableEq, Repr

/-- A generation of an owner root, with the owner id and terminal range that went with it, in force for sequence numbers
below `upto` (R244). Payload and USES are those the slot had when it was last written over. -/
structure OldRoot where
  owner : Nat
  id : W64
  upto : Nat
  slot : Nat
  gen : Nat
  lo : Nat
  hi : Nat
  key : Option Bytes
  uses : Nat
  deriving DecidableEq, Repr

/-- An owner's root and terminal range as a work item finds them (R244). -/
structure RootView where
  id : W64
  slot : Nat
  gen : Nat
  lo : Nat
  hi : Nat
  /-- The root's key bytes; none where the root is absent, EXHAUSTED or FAILED. -/
  key : Option Bytes
  /-- The slot still holds this generation, and its uses are counted there. -/
  live : Bool
  deriving DecidableEq, Repr

/-- Everything the device keeps for one owner function (R93, R99, R194, R195, R206, R246, R269). (DESIGN CHOICE, log 5) -/
structure Owner where
  share : Nat := 0
  maxUnc : Nat := 10000000
  cmdCtr : Nat := 0
  /-- KEYS_OWNER_STATE.STATE: 0 not enrolled, 1 enrolled without root, 2 enrolled. -/
  enrolled : Nat := 0
  id : W64 := 0
  n : Nat := 0
  m : Nat := 0
  windowS : Nat := 0
  officials : List Official := []
  /-- Enrolled with NO_ROOT: a root may come by interlocking (R246, R262). -/
  noRoot : Bool := false
  /-- Index of the ROOT slot. -/
  root : Option Nat := none
  lo : Nat := 0
  hi : Nat := 2 ^ 64 - 1
  quota : Nat := 0
  parts : List Nat := [0, 0, 0, 0]
  relaying : Bool := false
  hashKeys : Bytes := []
  origin : Nat := 0
  wlenH : Nat := 0
  blockNo : Nat := 0
  /-- BLOCK_NO of the first block that holds, or will hold, a leaf after D of the newest checkpoint (R214). -/
  pos : Nat := 1
  /-- SHA-384 of the block before that one. -/
  posPrev : Digest := 0
  blockPrev : Digest := 0
  blockOpen : List JEntry := []
  waiting : List JEntry := []
  closed : List JBlock := []
  backlogFull : Bool := false
  /-- Handles of the owner's last accepted import (R257). -/
  lastImport : List Nat := []
  deriving DecidableEq, Repr, Inhabited

/-- An event record (R494). Times are kept in ns, the digest bytes are built by the operations. -/
structure Ev where
  seq : Nat
  opNs : Nat
  tai : Nat
  arg : Bytes
  code : Nat
  rep : Nat
  /-- The departure open at creation; none is NO_DEP 1 (R565). -/
  dep : Option Nat
  sub : Nat
  power : Nat
  owner : Nat
  carry : Bool
  trunc : Bool
  frozen : Bool
  deriving DecidableEq, Repr

/-- A record in the flash mirror, at its place (R503). -/
structure MirrorRec where
  place : Nat
  ev : Ev
  /-- The first 6 bytes of its MAC under the mirror key (R494). -/
  mac : List (BitVec 8)
  deriving DecidableEq, Repr

/-- A violation-log entry (R490). -/
structure Violation where
  time : Nat
  addr : Nat
  seq : Nat
  len : Nat
  slot : Nat
  initiator : Nat
  pl : Nat
  kind : BitVec 8
  rep : Nat
  gen : Nat
  deriving DecidableEq, Repr

end Sys2Proof.Machine
end

