-- ==== Sys2Proof/Machine/PartsA.lean ====
section
/-! DEFINITION. The parts of the state for start-up and device state, the PCIe link, rings, the bulk
port, admission, the station clock, engines, departures, vault memory, keys, the signal box, the event
recorder, the counters, user flash and OTP. A field's initial value is its value at reset; a value that the
manual does not give is named in the assumption log. -/

namespace Sys2Proof.Machine

/-- Device state and start-up (R28-R36, R455-R479). (DESIGN CHOICE, log 3) -/
structure Sys where
  state : DevState := .off
  /-- The state held before STABLED (R477). -/
  prior : DevState := .ready
  /-- Internal reset is held (R530). -/
  inReset : Bool := true
  /-- Every rail within its operating limits (R530). -/
  rails : Bool := false
  porst : Bool := true
  warmPin : Bool := false
  /-- GLOBAL_STATUS.WARM. -/
  warm : Bool := false
  /-- Cause of the start-up (R566): 1 PORST_N, 2 WARM_RESET_N, 3 supply glitch. -/
  cause : Nat := 1
  bootStep : Nat := 1
  heldStep : Nat := 0
  heldUnit : Nat := 0
  heldDetail : Nat := 0
  bootUs : Nat := 0
  /-- Firmware runs at PL1 (step 0x0B on). -/
  firmwareUp : Bool := false
  pwrFail : Bool := false
  pwrFailHold : Bool := false
  selftest : Bool := false
  selftestWork : Option (Work × Nat) := none
  stableBusy : Bool := false
  stableValid : Bool := false
  stableResult : Nat := 0
  stableDetail : Nat := 0
  /-- The departure n whose durability STABLED entry waits for (R474). -/
  stableDep : Option Nat := none
  waking : Bool := false
  /-- Running count at the first write of GLOBAL_ABANDON (R469). -/
  abandonAt : Option Nat := none
  abandoned : Bool := false
  /-- GLOBAL_DIES.BIST_FAIL: bit k-1 for Ek. -/
  bistFail : BitVec 7 := 0
  /-- GLOBAL_DIES.IN_SERVICE: dies in placement. -/
  inService : BitVec 7 := 0
  /-- Dies lost (R27), held in isolation reset (R267, R461, R462) and power-gated (R474). -/
  lost : BitVec 7 := 0
  isolated : BitVec 7 := 0
  gated : BitVec 7 := 0
  /-- Dies held out of placement for lack of lanes (R275). -/
  heldOut : BitVec 7 := 0
  /-- Uncorrectable anchor fault in force (R36). -/
  anchorFault : Bool := false
  /-- The departure unit has stopped after an anchor fault (R36, R565). -/
  anchorStopped : Bool := false
  /-- Single faults that have begun and not ended (R34). -/
  faults : List FaultUnit := []
  /-- Two faults overlap, from the second's beginning to the later's end (R36). -/
  overlap : Bool := false
  /-- CLOSE in force (R447). -/
  close : Bool := false
  deriving DecidableEq, Repr

/-- PCIe link, functions and interrupts (R37-R43, R67). (PRESUMED, log 4) -/
structure Link where
  perst : Bool := true
  trained : Bool := false
  /-- The ROM answers configuration requests (R459). -/
  rom : Bool := false
  numVFs : Nat := 0
  /-- Bus Master Enable by function number. -/
  bme : BitVec 64 := 0
  ideKeys : Option Bytes := none
  /-- MSI-X vector mask bits by global vector, where cleared (unmasked). -/
  unmasked : List Nat := []
  /-- MSI-X pending bits by global vector. -/
  pba : List Nat := []
  /-- Pending completions by global vector (R67), where not 0. -/
  pend : Tbl Nat := []
  /-- MSI-X table entries by global vector where not 0 (R40, R41): message address and message data. -/
  msix : Tbl (W64 × W32) := []
  /-- RINGCTL_MOD by global vector where not at its reset value: (HOLDOFF, COUNT). -/
  mods : Tbl (Nat × Nat) := []
  modSel : Nat := 0
  deriving DecidableEq, Repr

/-- The ring unit (R44-R75). -/
structure Rings where
  tbl : Tbl Ring := []
  sel : Nat := 0
  dbReject : Nat := 0
  /-- A second without an ignored doorbell has passed or none was ever ignored (R76). -/
  dbQuietSince : Option Nat := none
  deriving DecidableEq, Repr

/-- Bulk-port states (R77). -/
inductive BulkState where
  | idle | opened | verifying | done | failed
  deriving DecidableEq, Repr

/-- The bulk port (R77-R82): OWNER and TARGET of the session, and the register fields. -/
structure Bulk where
  ctlOwner : Nat := 0
  ctlTarget : Nat := 0
  owner : Nat := 0
  target : Nat := 0
  len : Nat := 0
  addr : Nat := 0
  consumed : Nat := 0
  overrun : Bool := false
  seqErr : Bool := false
  result : Nat := 0
  state : BulkState := .idle
  data : Bytes := []
  deriving DecidableEq, Repr

/-- The admission unit (R83-R104, R114). -/
structure Adm where
  fetched : List Fetched := []
  work : List Work := []
  items : List Item := []
  owed : List Owed := []
  /-- Device-originated leaves that wait for a number. -/
  ends : List Ending := []
  nextSeq : Nat := 0
  firstSeq : Nat := 0
  lastT : Nat := 0
  /-- Last sequence number of the last durable departure of this start-up (R91). -/
  durSeq : Option Nat := none
  games : List Game := []
  owners : Tbl Owner := []
  pausedAt : Option Nat := none
  pauseLast : Nat := 0
  refused : Nat := 0
  ledgerFull : Bool := false
  spanSeen : Bool := false
  ownerSel : Nat := 0
  ringSel : Nat := 0
  err : Nat := 0
  lowered : Bool := false
  /-- A fetch is stopped for STABLED entry or PWR_FAIL_N (R219, R474). -/
  stopFetch : Bool := false
  deriving DecidableEq, Repr

/-- Station-clock states (R105). -/
inductive ClkState where
  | unset | acquiring | locked | holdover | lost
  deriving DecidableEq, Repr

/-- The station clock (R105-R110, R115, R157). (DESIGN CHOICE, log 6) -/
structure Clk where
  /-- The running count, TAI ns while valid. -/
  run : Nat := 0
  /-- Operating time since the reset was deasserted, ns (R496). -/
  upNs : Nat := 0
  state : ClkState := .unset
  everValid : Bool := false
  /-- Remaining correction, signed ns (R108). -/
  corr : Int := 0
  uEntry : Nat := 0
  holdSince : Nat := 0
  /-- Active source code of TIME_STATE.SOURCE. -/
  source : Nat := 0
  ppsOkAt : Option Nat := none
  refPresent : Bool := false
  srcEn : BitVec 4 := 0
  srcLock : Bool := false
  ppsAllow : Nat := 100
  ptpAllow : Nat := 1000
  holdFreq : Nat := 100
  holdAging : Nat := 100
  ppsDelay : W32 := 0
  offsetLast : W64 := 0
  uncLatch : W32 := 0xFFFFFFFF
  ppsOutEn : Bool := false
  ppsOut : Bool := false
  /-- Last reading of each time-of-day source: (source code, source time minus running count, at). -/
  readings : List (TimeSrc × Int × Nat) := []
  /-- Last admission time of the last departure verified at start-up (R107, R157). -/
  floorT : Nat := 0
  deriving DecidableEq, Repr

/-- Engines, threads, tests and rulebooks (R12, R116-R152). -/
structure Eng where
  threads : List Thread := []
  quarantined : List EngineId := []
  /-- Reserve engine by 8 * die + cluster, where not engine 7. -/
  reserve : Tbl Nat := []
  /-- Next engine of the rotation by die: 8 * cluster + engine. -/
  rotation : Tbl Nat := []
  /-- Engine under test by die. -/
  underTest : Tbl EngineId := []
  /-- Clusters whose skip event of this pass was recorded: 8 * die + cluster. -/
  skipped : List Nat := []
  /-- Clusters whose quarantined engine has passed its retest in this pass (R150): 8 * die + cluster. -/
  resting : List Nat := []
  books : List Book := []
  /-- A new version that waits for its switch or for a drain to end. -/
  waiting : Option Book := none
  /-- Affinity buckets (R25, R27): die by bucket. -/
  buckets : List Nat := []
  hashKey : Nat := 0
  deriving DecidableEq, Repr

/-- The departure unit (R153-R183). -/
structure Dep where
  periodUs : Nat := 1000
  err : Nat := 0
  /-- No departure is open before the first one after READY or DEGRADED (R565). -/
  isOpen : Bool := false
  number : Nat := 0
  firstSeq : Nat := 0
  /-- SCHED_CLOSE of the open departure, its target close, granted run and the lateness left over. -/
  sched : Nat := 0
  target : Nat := 0
  runNs : Nat := 0
  lateness : Nat := 0
  /-- P under which the open departure runs, in ns. -/
  periodNs : Nat := 0
  catchUp : Bool := false
  reanchored : Bool := false
  restart : Bool := false
  seqGap : Bool := false
  timeStep : Bool := false
  /-- Lateness causes of R566 met by the open departure. -/
  causes : List Nat := []
  periodChanged : Bool := false
  closing : List Closing := []
  leaves : List LeafHash := []
  signed : List Signed := []
  stopped : Bool := false
  deterministic : Bool := false
  /-- Records posted to LEDGER slots and not yet acknowledged: (slot, departure, last sequence number). -/
  posted : List (Nat × Nat × Nat) := []
  durable : Option Nat := none
  head : Digest := 0
  prevHead : Digest := 0
  lastPub : Nat := 0
  pubLate : Nat := 0
  witLag : Nat := 0
  witWaitUs : Nat := 0
  witLock : Bool := false
  /-- First departure of this start-up (R180). -/
  first : Nat := 0
  peerHeads : List PeerHead := []
  /-- Newest head offered by each peer: (peer, departure, head). -/
  newest : List (Nat × Nat × Digest) := []
  /-- Newest departure of this device that each peer has acknowledged. -/
  acked : List (Nat × Nat) := []
  serial : Nat := 0
  nextSerial : Option Nat := none
  keyDigest : Digest := 0
  nextKeyDigest : Digest := 0
  /-- Earlier pairs that closing departures are still to be signed with: SERIAL and the two private keys (R177). -/
  oldKeys : List (Nat × Bytes × Bytes) := []
  /-- Key certificates issued since the start-up, newest first (R264). -/
  certs : List Bytes := []
  deriving DecidableEq, Repr

/-- A 64-byte data line as DRAM holds it: ciphertext and MAC (R186, R187). -/
structure Line where
  cipher : Bytes
  mac : Bytes
  deriving DecidableEq, Repr

/-- A counter line (R187): its minors that are not 0. -/
structure CtrLine where
  mac : Bytes := []
  minors : Tbl Nat := []
  major : Nat := 0
  deriving DecidableEq, Repr

/-- The lines of vault memory, and what the controller keeps of them (R186-R188, R212, R216). -/
structure LineStore where
  /-- The XTS key pair and the MAC key of this start-up. -/
  xtsKey : Bytes := []
  macKey : Bytes := []
  /-- Data lines that have been written. -/
  lines : Tbl Line := []
  /-- Counter lines, at level * 2^40 + index. -/
  tree : Tbl CtrLine := []
  /-- Lines found poisoned, or with an integrity failure. -/
  bad : List Nat := []
  /-- Chunks changed since the newest checkpoint was copied, and between the one before and that one. -/
  dirty : List Nat := []
  dirtyOld : List Nat := []
  /-- Chunks of the metadata as last copied, and as copied before that. -/
  metaNew : List Bytes := []
  metaOld : List Bytes := []
  /-- Regions (0, 1) that hold no image of this start-up's regions yet: all chunks are written. -/
  full : Nat := 2
  /-- Commit number of the newest set applied to a chunk; where it is not listed, or lower, that of the last re-lay. -/
  commits : Tbl Nat := []
  floor : Nat := 0
  deriving DecidableEq, Repr

/-- Vault memory and the settlement register (R184-R228). (DESIGN CHOICE, log 51) -/
structure Vm where
  rawMib : Nat := 0
  usableMib : Nat := 0
  trained : Nat := 0
  stopped : Bool := false
  locked : Bool := false
  behind : Bool := false
  err : Nat := 0
  restore : Nat := 0
  partSel : Nat := 0
  ckptPeriod : Nat := 60
  claimWait : Nat := 100
  epochAck : Nat := 0
  epochDep : Nat := 0
  verified : Option Nat := none
  eccCorr : Nat := 0
  eccUncorr : Nat := 0
  /-- Marked device by 2 * channel + sub-channel: (rank, device). -/
  erased : Tbl (Nat × Nat) := []
  /-- Corrections of the last second: (channel, sub-channel, rank, device, time). -/
  corrections : List (Nat × Nat × Nat × Nat × Nat) := []
  adoptSel : Nat := 0
  /-- Adopted ids: (owner, index, device id). -/
  adopted : List (Nat × Nat × W64) := []
  tickets : List Ticket := []
  limits : List LimitCtr := []
  terminals : List Terminal := []
  keyRecs : List KeyRec := []
  commitNo : Nat := 0
  kept : List Kept := []
  sweeps : List Sweep := []
  claims : List RoutedClaim := []
  /-- Claims that ended before the issuer's verdict: peer, claim sequence number and SEQUENCE of the ticket (R203). -/
  lateClaims : List (Nat × Nat × Nat) := []
  inbound : List InClaim := []
  /-- CLAIM_REQ messages taken. -/
  batchNo : Nat := 0
  /-- Snapshot regions: (base, length) of regions 0 and 1. -/
  regions : Option ((Nat × Nat) × (Nat × Nat)) := none
  ckptNow : Bool := false
  ckptLast : Nat := 0
  ckptRunning : Option Ckpt := none
  ckptDone : Option Ckpt := none
  epochWritten : Nat := 0
  manifestPrev : Digest := 0
  ackWait : List Work := []
  waiters : List Work := []
  /-- Settlement load that waits for its checkpoint: (owner, adopted index, image digest, epoch). -/
  load : Option (Nat × Nat × Digest × Nat) := none
  patrol : Nat := 0
  store : LineStore := {}
  /-- Departure in which event 0x060F was last recorded (R196). -/
  noRoomDep : Option Nat := none
  deriving DecidableEq, Repr

/-- Keys, owners' accords and zeroisation (R229-R270). -/
structure Keys where
  identityRoot : Option (BitVec 256) := none
  wrapRoot : Option (BitVec 256) := none
  mirrorKey : Option (BitVec 256) := none
  slots : Tbl Slot := []
  locked : Bool := false
  /-- The first sequence number that the owner-key lock holds for (R426). -/
  lockFrom : Nat := 0
  zeroisePending : Bool := false
  newSalt : Bool := false
  err : Nat := 0
  ownerSel : Nat := 0
  accords : List Accord := []
  nextAccord : Nat := 1
  checkFail : Nat := 0
  oldRoots : List OldRoot := []
  held : List HeldLock := []
  sends : List (Nat × Work) := []
  /-- Zeroisation progress (R266): 0 none, 1 line asserted, 2 salt erased, 3 wrapped area erased. -/
  zeroStep : Nat := 0
  /-- Derived-key cache tags by die: (die, owner, slot, generation, clause). -/
  cache : List (Nat × Nat × Nat × Nat × Bytes) := []
  deriving DecidableEq, Repr

/-- The signal box (R481-R493). -/
structure Box where
  sel : Nat := 0
  /-- Rules that differ from their ceiling, by slot. -/
  rules : Tbl (BitVec 12) := []
  lock : BitVec 64 := 0
  gen : Nat := 0
  err : Nat := 0
  vlog : List Violation := []
  vlogSeq : Nat := 0
  /-- Initiators of the fence reads that wait, oldest first (R487). -/
  fence : List Nat := []
  deriving DecidableEq, Repr

/-- The event recorder (R494-R507, R516). -/
structure Rec where
  /-- Newest first, at most 4,096. -/
  evs : List Ev := []
  head : Nat := 0
  frozen : Nat := 0
  mirrored : Nat := 0
  posted : Nat := 0
  staging : Bool := true
  staged : List Ev := []
  page : Nat := 0
  mirrorErr : Bool := false
  cycles : Nat := 0
  /-- Operating-time base of this start-up, ns (R496). -/
  opBase : Nat := 0
  /-- The mirror held no valid record at this start-up (R499). -/
  emptyAtStart : Bool := false
  lost : Nat := 0
  /-- Event 0x0110 of this start-up is in the mirror (R497). -/
  committed : Bool := false
  deriving DecidableEq, Repr

/-- The performance counters (R508-R517). -/
structure Cnt where
  sel : Nat := 0
  cfg : Tbl W32 := []
  live : Tbl Nat := []
  shadow : Tbl Nat := []
  snapNo : Nat := 0
  snapDep : Nat := 2 ^ 64 - 1
  every : Nat := 0
  window : Nat := 20
  dumpEn : Bool := false
  dumpAddr : Nat := 0
  dumpErr : Bool := false
  /-- Dumps are stopped until DUMP_EN is written again (R514). -/
  dumpStop : Bool := false
  /-- Departure-aligned snapshots since the last dump. -/
  sinceDump : Nat := 0
  /-- Dies not in service at the newest latch (R513). -/
  outDies : BitVec 7 := 0
  deriving DecidableEq, Repr

/-- User flash (R217, R226, R231, R418, R439, R503): what survives reset and power loss. (DESIGN CHOICE, log 7; DESIGN CHOICE, log 51) -/
structure Flash where
  salt : Option (BitVec 256) := none
  saltMac : Bytes := []
  /-- Wrapped copies of non-expiring slots (R237). -/
  wrapped : Tbl Slot := []
  /-- Enrolled owners with their officials and ranges, as the owner slots' copies carry them. -/
  owners : Tbl Owner := []
  /-- Rulebook images: (owner function, handle, image). -/
  books : List (Nat × Nat × Bytes) := []
  /-- Version floors: (owner id, handle, version). -/
  floors : List (W64 × Nat × Nat) := []
  counters : List FlashRec := []
  /-- The place of the counter area that is written next (R217). -/
  counterNext : Nat := 0
  /-- Counter records whose write has begun (R218); their marks and number are set as they are written. -/
  writing : List FlashRec := []
  mirror : List MirrorRec := []
  mirrorNext : Nat := 0
  /-- The mesh enrolment record. -/
  mesh : Option MeshRec := none
  /-- Rolled departure pair (R264): next serial that is certified and not yet in effect. -/
  serial : Nat := 0
  nextSerial : Option Nat := none
  deriving DecidableEq, Repr

/-- One-time-programmable values of the part (R268, R407, R438, R479); the life-cycle area is in `Life`. (DESIGN CHOICE, log 8) -/
structure Otp where
  /-- GLOBAL_ID.VARIANT: 2, 4 or 8. -/
  variant : Nat := 8
  deviceId : W64 := 0x0000001000000A01
  mac0 : BitVec 48 := 0x020000000001
  mac1 : BitVec 48 := 0x020000000002
  /-- Zeroise pairs whose pending bit is programmed, and whose done bit is programmed (R268); 65 pairs used
  stands for a zeroisation that found all 64 used. -/
  pairsUsed : Nat := 0
  pairsDone : Nat := 0
  /-- MESH_ENR holds 0xA55A (R438). -/
  meshEnr : Bool := false
  deriving DecidableEq, Repr

end Sys2Proof.Machine
end

