-- ==== Sys2Proof/Machine/PartsB.lean ====
section
/-! DEFINITION. The parts of the state for cipher lanes, public-key engines, the generator, custody cards,
the junction, the life cycle, the tamper logic and the package. -/

namespace Sys2Proof.Machine

/-- A cipher command that a vault lane runs (R281-R287). -/
structure CipherOp where
  work : Work
  lane : LaneId
  owner : Nat
  /-- The key as read at admission (R284); empty for HASH. -/
  key : Bytes
  /-- The class D nonce the lane took; empty where the command takes none. -/
  nonce : Bytes
  /-- The operation has faulted once and been placed again. -/
  faulted : Bool
  deriving DecidableEq, Repr

/-- Cipher lanes (R271-R290). Lane groups are numbered 0 vault, 1-7 engine dies, 8 junction. -/
structure Lanes where
  /-- Class D lane counters by 16 * die + lane code (R278, R279). -/
  ctr : Tbl Nat := []
  quarantined : List LaneId := []
  /-- SERVICE commands that vault lanes run, one for a lane. -/
  ops : List CipherOp := []
  /-- SERVICE commands that wait for a vault lane, in admission order (R285). -/
  queue : List CipherOp := []
  /-- Lane under test, next lane of the rotation, and groups whose skip event of this pass was recorded. -/
  underTest : Tbl LaneId := []
  rotation : Tbl Nat := []
  skipped : List Nat := []
  /-- Groups whose quarantined lane has passed its retest in this pass (R288). -/
  resting : List Nat := []
  deriving DecidableEq, Repr

/-- A public-key command that is placed on an engine (R292, R296). -/
structure PkOp where
  work : Work
  engine : Nat
  owner : Nat
  /-- Payload of the private key as read at admission; empty where the command reads none. -/
  key : Bytes
  handle : Nat
  faulted : Bool
  /-- The engine runs it; otherwise it is staged, or in the anchor queue. -/
  running : Bool := false
  deriving DecidableEq, Repr

/-- A loaded curve (R305, R306). -/
structure Curve where
  index : Nat
  owner : Nat
  params : Bytes
  deriving DecidableEq, Repr

/-- Public-key engines (R291-R312); engine e is 2 * die + unit, die 0 the anchor. -/
structure Pk where
  quarantined : List Nat := []
  /-- Operations that an engine holds: the one that runs and the staged ones (R292). -/
  ops : List PkOp := []
  /-- The anchor queue: admitted operations that no engine holds (R307, R308). -/
  queue : List PkOp := []
  /-- L of each engine's operand memory, bytes; 0 once it has been cleared (R292, R293). -/
  lens : Tbl Nat := []
  /-- Aborts that wait for another running operation of the engine to end: target and PK_ABORT (R307). -/
  aborts : List (PkOp × Work) := []
  curves : List Curve := []
  underTest : Option Nat := none
  rotation : Nat := 0
  skipped : Bool := false
  /-- A quarantined engine has passed its retest in this pass: the others are tested again from the next (R311). -/
  resting : Bool := false
  deriving DecidableEq, Repr

/-- The life cycle, firmware and debug (R406-R428). The first group is OTP, the second user flash, the rest is
lost at reset. (DESIGN CHOICE, log 7; DESIGN CHOICE, log 8) -/
structure Life where
  /-- Transition intents IT, IP, IE. -/
  it : BitVec 16 := 0
  ip : BitVec 16 := 0
  ie : BitVec 16 := 0
  /-- The three copies: slots T, P, E. -/
  copies : List (BitVec 16 × BitVec 16 × BitVec 16) := [(0, 0, 0), (0, 0, 0), (0, 0, 0)]
  bankA : BitVec 256 := 0
  doneA : Bool := false
  bankB : BitVec 256 := 0
  doneB : Bool := false
  /-- Bits set in the SVN thermometer. -/
  svnFloor : Nat := 0
  revoke : BitVec 16 := 0
  /-- Firmware slots 0 and 1 of user flash. -/
  fwSlots : Tbl Bytes := []
  cert : Option Bytes := none
  /-- Owner code key, and regulator key where one is enrolled, by owner. -/
  codeKeys : Tbl (Option Bytes × Option Bytes) := []
  /-- LIFECYCLE_STATE. -/
  decided : Nat := 0
  invalid : Bool := false
  copyValid : BitVec 3 := 0
  resumed : Bool := false
  pendingTo : Nat := 0
  /-- A settled transition whose remaining steps still run. -/
  settling : Bool := false
  /-- The running image. -/
  fw : Option Bytes := none
  fwSlot : Nat := 0
  deny : Bool := false
  scope : BitVec 2 := 0
  challenge : Option Bytes := none
  refused : Nat := 0
  deriving DecidableEq, Repr

/-- A draw whose commitment leaf is sealed (R332). -/
structure DrawCommit where
  seq : Nat
  dep : Nat
  outcome : List Nat
  salt : Bytes
  deriving DecidableEq, Repr

/-- A certified draw that is admitted and not yet revealed or voided (R329-R336). -/
structure DrawRec where
  owner : Nat
  stamp : Stamp
  spec : Bytes
  work : Work
  commit : Option DrawCommit
  deriving DecidableEq, Repr

/-- The generator (R313-R337). -/
structure Rng where
  draws : List DrawRec := []
  ready : Bool := false
  failed : Bool := false
  /-- RNG_FAIL_CAUSE. -/
  failSource : Nat := 0
  failCause : Nat := 0
  failStartup : Bool := false
  stretching : Bool := false
  halted : Bool := false
  /-- Seeds in the pool, 0-8. -/
  pool : Nat := 0
  /-- Generate requests of G since its last reseed. -/
  requests : Nat := 0
  alarms : Nat := 0
  readFail : Nat := 0
  reseeds : Nat := 0
  stretches : Nat := 0
  longest : Nat := 0
  rawSel : Nat := 0
  /-- Time of the last first alarm by source, ns of operation since the reset. -/
  firstAlarm : Tbl Nat := []
  /-- Seeds that the draw instance has received and not used (R318). -/
  drawSeeds : Nat := 0
  /-- Reads of RNG_DATA that are held. -/
  heldReads : Nat := 0
  /-- Outputs of the last 64 revealed draws: owner, admission number, output. -/
  revealed : List (Nat × Nat × Bytes) := []
  deriving DecidableEq, Repr

/-- A step of the custody bus for one card (R349, R352, R354, R359-R366, R371). -/
inductive CardStep where
  | goIdle
  | sendVdd
  | allSendId
  | setAddr
  | sendLife
  | select
  | deselect
  | switchMode (speed width : Nat)
  | readMode (speed width : Nat)
  | sendStatus
  | request (block : Bytes)
  | fetch
  | cancelRequest
  | sessionOpen (req : Bytes)
  | sessionAccept
  /-- SHARE_WRITE and SHARE_ERASE: TXN, share slot, and the block of a write. -/
  | shareWrite (txn slot : Nat) (block : Bytes)
  | shareErase (txn slot : Nat)
  | shareInfo (bank : Nat)
  /-- READ_COMMIT: of a write that is about to be repeated, or of an unconfirmed record. -/
  | readCommit (settle : Bool)
  deriving DecidableEq, Repr

/-- A card slot with a seated card (R339-R358). -/
structure Card where
  powered : Bool := false
  /-- Card state code (R348). -/
  state : Nat := 0
  identified : Bool := false
  id : Bytes := []
  validUntil : Nat := 0
  commits : Nat := 0
  slotsUsed : BitVec 16 := 0
  pinTries : Nat := 0
  readOnly : Bool := false
  pinBlocked : Bool := false
  hs : Bool := false
  width : Nat := 0
  /-- Kept at default speed until the card is removed (R354). -/
  slow : Bool := false
  /-- Card failures in a row at 50 MHz (R347). -/
  failures : Nat := 0
  lastTxn : Nat := 0
  lastSlot : Nat := 0
  /-- Session keys: device to card, card to device. -/
  session : Option (Bytes × Bytes) := none
  /-- Ephemeral private key and request of a session that is being opened. -/
  opening : Option (Bytes × Bytes) := none
  deriving DecidableEq, Repr

/-- A transaction record (R364-R366). -/
structure TxnRec where
  card : Bytes
  txn : Nat
  slot : Nat
  commits : Nat
  /-- The header written; none for an erase. -/
  header : Option Bytes
  unconfirmed : Bool
  deriving DecidableEq, Repr

/-- What a card operation asks of its cards (R363, R368). -/
inductive CardTask where
  | sign (accord : Nat)
  | shareOut
  | shareIn
  | reshare
  | shareErase
  deriving DecidableEq, Repr

/-- One card of an operation: its part 0 to start, 1 session opening, 2 session open, 3 request waiting,
4 confirmed, 5 done. -/
structure CardPart where
  slot : Nat
  card : Bytes
  stage : Nat
  /-- Header and share: to be written, or as fetched. -/
  header : Bytes
  share : Bytes
  /-- Share slot on the card. -/
  place : Nat
  deriving DecidableEq, Repr

/-- An operation of the custody bus (R359-R371). -/
structure CardOp where
  task : CardTask
  work : Work
  owner : Nat
  /-- Running count at which its deadline passes. -/
  deadline : Nat
  parts : List CardPart
  /-- KCV, and SET_NO or 0. -/
  kcv : Bytes
  setNo : Nat
  deriving DecidableEq, Repr

/-- The custody card controller (R339-R374). (DESIGN CHOICE, log 6) -/
structure Cards where
  /-- SLOT_EN, HS_EN and LOCK of CARD_CONFIG. -/
  slotEn : BitVec 8 := 0xFF
  hsEn : Bool := true
  lock : Bool := false
  sel : Nat := 0
  crcErr : Nat := 0
  timeouts : Nat := 0
  /-- VDDIO_CARD is 3.3 V. -/
  v33 : Bool := false
  /-- Slots detected, by slot. -/
  slots : Tbl Card := []
  /-- Steps that wait for the bus, the one in progress first. -/
  bus : List (Nat × CardStep) := []
  /-- Phase of the step in progress: 0 response, 1 data or CRC status, 2 busy; it has been repeated once. -/
  phase : Nat := 0
  repeated : Bool := false
  /-- Data blocks of the step in progress that are not yet sent. -/
  blocks : List Bytes := []
  /-- Slot whose card was given back its RCA in the identification in progress (R350). -/
  regiven : Option Nat := none
  txn : Nat := 1
  records : List TxnRec := []
  ops : List CardOp := []
  deriving DecidableEq, Repr

/-- One direction pair of an established Linzen session (R390-R395). -/
structure Session where
  num : Nat
  initiator : Bool
  /-- The session secret MS: 64 bytes. -/
  ms : Bytes
  /-- SEQ of the last DATA frame sent, and its acknowledged part. -/
  sent : Nat := 0
  acked : Nat := 0
  /-- SEQ of the last DATA frame delivered, and deliveries not yet acknowledged. -/
  got : Nat := 0
  owedAcks : Nat := 0
  dup : Nat := 0
  /-- Unacknowledged frames: SEQ, body, time sent, sent once. -/
  flight : List (Nat × Bytes × Nat × Bool) := []
  queue : List Bytes := []
  rtoUs : Nat := 10000
  srtt : Nat := 0
  rttvar : Nat := 0
  expiries : Nat := 0
  retx : Nat := 0
  deriving DecidableEq, Repr

/-- A handshake that runs (R390, R391): 1 HELLO sent, 2 REPLY sent, 3 FINISH sent. -/
structure Handshake where
  stage : Nat
  num : Nat
  tries : Nat
  /-- Own ephemeral ECDH private key and ML-KEM decapsulation seed. -/
  ecdh : Bytes
  kem : Bytes
  th : Digest
  ms : Bytes
  /-- The frame to send again. -/
  frame : Bytes
  deriving DecidableEq, Repr

/-- A peer-table entry that is not FREE (R386). -/
structure Peer where
  id : W64
  ecdsaPub : Bytes
  mldsaPub : Bytes
  flags : BitVec 8
  /-- 1 IDLE, 2 HANDSHAKE, 3 UP, 4 REFUSED. -/
  state : Nat := 1
  port : Option Nat := none
  path0 : Bytes
  path1 : Bytes
  cur : Option Session := none
  drain : Option Session := none
  hs : Option Handshake := none
  /-- Delay before the next handshake, ms, after a lost session (R391). -/
  backoff : Nat := 100
  /-- A handshake is retried after a lost session or a failed try (R391). -/
  retry : Bool := true
  /-- Delivered messages that their service has not taken yet, oldest first. -/
  inbox : List Bytes := []
  /-- The newest head offer the peer has not acknowledged (R398). -/
  offer : Option (Nat × Digest) := none
  /-- KEY_DIGEST of that record (R179). -/
  offerKey : Digest := 0
  /-- Latest TIME_REQ: REQ_ID and T1. -/
  timeReq : Option (Nat × Nat) := none
  /-- TIME_REQs to answer, oldest first: REQ_ID and T2. -/
  timeOwed : List (Nat × Nat) := []
  /-- Uncertainty of the peer's last usable time reading. -/
  timeUnc : Option Nat := none
  /-- Restore head query answered (R225). -/
  answered : Bool := false
  deriving DecidableEq, Repr

/-- One junction port (R375-R382, R404). -/
structure Port where
  cfg : W32 := 0
  /-- MEDIA and VLAN in effect since the last change of ENABLE from 0 to 1. -/
  media : Nat := 0
  vlan : Nat := 0
  up : Bool := false
  paused : Bool := false
  /-- Frames that wait for a pause to end: kind and bytes. -/
  held : List (Nat × Bytes) := []
  ip : BitVec 128 := 0
  /-- Grandmasters seen (identity, rank; the lowest rank is best) and the one selected. -/
  masters : List (W64 × Nat) := []
  gm : Option W64 := none
  /-- Measured path delay; a Delay_Req waits for its response; a two-step Sync waits for its Follow_Up. -/
  delay : Option Nat := none
  delayWait : Bool := false
  syncWait : Bool := false
  domain : Nat := 0
  ingress : W32 := 0
  egress : W32 := 0
  fecCorr : Nat := 0
  fecUncorr : Nat := 0
  deriving DecidableEq, Repr

/-- The junction unit (R375-R405). -/
structure Jct where
  port0 : Port := {}
  port1 : Port := {}
  udp : Nat := 19546
  rtoMin : Nat := 1000
  peerSel : Nat := 0
  rxDrop : Nat := 0
  retx : Nat := 0
  claimDrop : Nat := 0
  /-- Running count at the last event 0x0B09. -/
  claimDropAt : Option Nat := none
  /-- Entries dropped since that event. -/
  claimDropN : Nat := 0
  peers : Tbl Peer := []
  deriving DecidableEq, Repr

/-- The tamper logic (R429-R454). Flags and TAMPER_SEVERE survive the start-up resets. (DESIGN CHOICE, log 6) -/
structure Tamper where
  flags : W64 := 0
  severe : W64 := 0
  active : W64 := 0
  split : W64 := 0
  /-- Policy fields (MAIN * 4 + OPER) where not at their reset value, by source. -/
  policy : Tbl Nat := []
  locked : Bool := false
  alertRecord : Bool := false
  err : Nat := 0
  last : Nat := 0
  fired : Nat := 0
  sel : Nat := 0
  /-- Bands by source where not inside: 1 outside operating, 2 outside absolute. -/
  bands : Tbl Nat := []
  /-- Readings of detectors A and B by source. -/
  values : Tbl (Nat × Nat) := []
  /-- The active enrolment record. -/
  enr : Option MeshRec := none
  /-- Last measured class, measurements in a row that differed, measured delay and PRBS bit errors, by loop. -/
  meas : Tbl Nat := []
  misses : Tbl Nat := []
  delays : Tbl Nat := []
  bitErr : Tbl Nat := []
  /-- PRBS seeds of the loops, drawn at each start-up (R437). -/
  seeds : List Nat := []
  /-- TIME_REF showed an edge at the start: source 43 is in use (R430, R536). -/
  refUsed : Bool := false
  caseOpen : BitVec 4 := 0
  /-- The rail that froze the device (R448). -/
  frozen : Option Nat := none
  deriving DecidableEq, Repr

/-- The package: SMBus straps and DIMM temperatures (R538, R544). (DESIGN CHOICE, log 6) -/
structure Pkg where
  straps : BitVec 2 := 0
  /-- Channels refreshed at the doubled rate. -/
  fast : BitVec 4 := 0
  /-- Operating time of the last event 0x0E08 by channel. -/
  hotAt : Tbl Nat := []
  deriving DecidableEq, Repr

end Sys2Proof.Machine
end

