-- ==== Sys2Proof/Machine/State.lean ====
section
/-! DEFINITION. The state of the block, its reset value, and the reasons a step can stop. -/

namespace Sys2Proof.Machine

/-- Reasons a step can stop with a fault. There is none: every command of this block has an effect in every
state (a command whose event cannot happen leaves the state as it is), so no meaning raises a fault. -/
inductive Fault where
  deriving DecidableEq, Repr

/-- Reasons a command is refused by the model. (DESIGN CHOICE, log 50) -/
inductive Refusal where
  /-- A command whose meaning is not written; raised by exec's arms only. Safe: the run stops. -/
  | notModelled (mnemonic : String)
  /-- JTAG_ACCESS reaches a supervisor core or an engine in an open debug scope: the manual (R424) gives the
  access and not its effect. Raised by JTAG_ACCESS only. Safe: the run stops. -/
  | jtagDebugAccess
  deriving DecidableEq, Repr

/-- The state of the block. (DESIGN CHOICE, log 51) -/
structure State where
  sys : Sys := {}
  link : Link := {}
  rings : Rings := {}
  bulk : Bulk := {}
  adm : Adm := {}
  clk : Clk := {}
  eng : Eng := {}
  dep : Dep := {}
  vm : Vm := {}
  keys : Keys := {}
  box : Box := {}
  evt : Rec := {}
  cnt : Cnt := {}
  flash : Flash := {}
  otp : Otp := {}
  lanes : Lanes := {}
  pk : Pk := {}
  life : Life := {}
  rng : Rng := {}
  cards : Cards := {}
  jct : Jct := {}
  tamper : Tamper := {}
  pkg : Pkg := {}
  /-- The model's own trace of what the device sends out, newest first. -/
  out : List Out := []
  /-- The model's own counter of free values and random draws. -/
  free : Nat := 0
  /-- Commands that wait, first in, first out. -/
  pending : List Instr := []
  deriving DecidableEq, Repr

/-- The block as it is before power is applied, with every register at its reset value. (DESIGN CHOICE, log 3) -/
def State.reset : State := {}

end Sys2Proof.Machine
end

