-- ==== Sys2Proof/Machine/Ops.lean ====
section
/-! DEFINITION. The shared operations: byte strings, keyed tables, the clock, events, outputs, owners, rings,
sequence numbers, leaves and the journal. Every meaning goes through these. -/

namespace Sys2Proof.Machine

/-- The result of a command. -/
abbrev Res := Host.Outcome State Fault Refusal

/-! ### Byte strings (R5) -/

/-- The n low bytes of v, byte 0 first. -/
def le : Nat → Nat → Bytes
  | 0, _ => []
  | n + 1, v => BitVec.ofNat 8 v :: le n (v / 256)

/-- The number a byte string spells, little-endian. -/
def leNat : Bytes → Nat
  | [] => 0
  | b :: r => b.toNat + 256 * leNat r

def zeros (n : Nat) : Bytes := List.replicate n 0

/-- n bytes from offset off. -/
def slice (b : Bytes) (off n : Nat) : Bytes := (b.drop off).take n

/-- The little-endian number of n bytes at offset off; bytes beyond the end read 0. -/
def rd (b : Bytes) (off n : Nat) : Nat := leNat (slice b off n)

/-- b cut or zero-padded to n bytes. -/
def padTo (n : Nat) (b : Bytes) : Bytes := (b ++ zeros (n - b.length)).take n

/-- Every byte of b from offset off, n bytes, is 0. -/
def allZero (b : Bytes) (off n : Nat) : Bool := (slice b off n).all (· == 0)

def xorBytes (a b : Bytes) : Bytes := List.zipWith (· ^^^ ·) a b

/-- The bytes of an ASCII string. -/
def ascii (s : String) : Bytes := s.toList.map fun c => BitVec.ofNat 8 c.toNat

def digestBytes (d : Digest) : Bytes := le 48 d.toNat

def sha (b : Bytes) : Digest := Config.sha384 b

/-- KMAC256 with an n-byte output. -/
def kmac (n : Nat) (key x : Bytes) (s : String) : Bytes := le n (Config.kmac256 key x (8 * n) (ascii s))

/-- AES-256-GCM encryption: ciphertext and 16-byte tag. -/
def gcmSeal (key nonce aad pt : Bytes) : Bytes × Bytes :=
  let ct := xorBytes pt (le pt.length (Config.gcmStream key nonce pt.length))
  (ct, le 16 (Config.gcmTag key nonce aad ct).toNat)

/-- AES-256-GCM decryption: the plaintext, and whether the tag verifies. -/
def gcmOpen (key nonce aad ct tag : Bytes) : Bytes × Bool :=
  (xorBytes ct (le ct.length (Config.gcmStream key nonce ct.length)),
   decide (le 16 (Config.gcmTag key nonce aad ct).toNat = tag))

/-- The message that an ML-DSA signature with a context string is over. -/
def inContext (ctx : Bytes) (m : Bytes) : Bytes := le 1 0 ++ le 1 ctx.length ++ ctx ++ m

/-- A counter that stops at the largest 32-bit value. -/
def sat32 (n : Nat) : Nat := min n (2 ^ 32 - 1)

def ceilDiv (a b : Nat) : Nat := (a + b - 1) / b

/-- The bit of a mask over engine dies: Ek is bit k - 1. -/
def dieIn (m : BitVec 7) (k : Nat) : Bool := decide (1 ≤ k) && m.getLsbD (k - 1)

def dieBit (k : Nat) : BitVec 7 := if 1 ≤ k then (1 : BitVec 7) <<< (k - 1) else 0

/-- The engine dies of a mask in ascending order. -/
def diesOf (m : BitVec 7) : List Nat := [1, 2, 3, 4, 5, 6, 7].filter (dieIn m)

/-! ### Tables -/

def Tbl.at? {α : Type} : Tbl α → Nat → Option α
  | [], _ => none
  | (k, v) :: r, i => if k = i then some v else Tbl.at? r i

def Tbl.atD {α : Type} (t : Tbl α) (i : Nat) (d : α) : α := (t.at? i).getD d

/-- Insert or replace, keeping the keys in ascending order. -/
def Tbl.put {α : Type} : Tbl α → Nat → α → Tbl α
  | [], i, v => [(i, v)]
  | (k, w) :: r, i, v =>
    if k = i then (i, v) :: r else if i < k then (i, v) :: (k, w) :: r else (k, w) :: Tbl.put r i v

def Tbl.del {α : Type} (t : Tbl α) (i : Nat) : Tbl α := t.filter fun p => p.1 != i

/-! ### Outputs, free values and draws -/

/-- (DESIGN CHOICE, log 2) -/
def emit (o : Out) (s : State) : State := { s with out := o :: s.out }

/-- One generate request of the instance G (R319). -/
def gRequest (s : State) : State := { s with rng := { s.rng with requests := s.rng.requests + 1 } }

/-- n fresh bytes from the generator (a free value). (DESIGN CHOICE, log 1) -/
def drawBytes (n : Nat) (s : State) : Bytes × State :=
  (le n (Config.random s.free n), gRequest { s with free := s.free + 1 })

/-- A fresh number that nothing constrains. (DESIGN CHOICE, log 1) -/
def freeNat (s : State) : Nat × State := (Config.freeNat s.free, { s with free := s.free + 1 })

/-- A number drawn from the generator, as a signature's nonce is (R304, R319). (DESIGN CHOICE, log 1) -/
def drawNat (s : State) : Nat × State := (Config.freeNat s.free, gRequest { s with free := s.free + 1 })

/-- An element of a list that nothing singles out; none of the empty list. (DESIGN CHOICE, log 1; DESIGN CHOICE, log 19) -/
def pick {α : Type} (l : List α) (s : State) : Option α × State :=
  let (k, s') := freeNat s
  (l[k % l.length]?, s')

/-! ### The clock (R105, R109, R157, R496) -/

/-- The clock is valid in LOCKED and HOLDOVER only (R105). -/
def clkValid (s : State) : Bool := s.clk.state == .locked || s.clk.state == .holdover

/-- The allowance of the active source (R105, R115). -/
def allowance (s : State) : Nat := if s.clk.source = 1 then s.clk.ppsAllow else s.clk.ptpAllow

/-- F of R109 in ns/s. -/
def holdF (s : State) : Nat := if s.clk.refPresent then s.clk.holdFreq else 50000

/-- The uncertainty u, rounded up to 1 ns; none where it is not defined (R105, R109). -/
def uncertainty (s : State) : Option Nat :=
  match s.clk.state with
  | .locked => some (s.clk.corr.natAbs + allowance s)
  | .holdover =>
    let tau := s.clk.run - s.clk.holdSince
    some (s.clk.uEntry + ceilDiv (holdF s * tau * (2 * 10 ^ 12) + s.clk.holdAging * tau * tau) (2 * 10 ^ 21))
  | _ => none

/-- The remaining correction after steering by k ns towards 0 (R108). (DESIGN CHOICE, log 12) -/
def steered (c : Int) (k : Nat) : Int := if c < 0 then min 0 (c + k) else max 0 (c - k)

/-- Powered time passes until the running count reads t. The count never goes back (R157). In LOCKED the remaining
correction falls by steering of at most 100 ppm; the rate itself is the device's own and free (R108). (DESIGN CHOICE, log 12) -/
def advance (t : Nat) (s : State) : State :=
  let dt := t - s.clk.run
  let s' := { s with clk := { s.clk with run := max s.clk.run t, upNs := s.clk.upNs + dt } }
  if s.clk.state == .locked && s.clk.corr != 0 && decide (10000 ≤ dt) then
    let (k, s') := freeNat s'
    { s' with clk := { s'.clk with corr := steered s'.clk.corr (k % (dt / 10000 + 1)) } }
  else s'

/-- Operating time now, ns (R496). -/
def opNow (s : State) : Nat := s.evt.opBase + s.clk.upNs

/-- OP_TIME or EVENTS_OPTIME of an operating time (R494). -/
def opTimeWord (ns : Nat) : Nat := (ns / 10 ^ 9) * 2 ^ 24 + (ns / 1000) % 10 ^ 6

def uart (l : UartLine) (s : State) : State := emit (.uart (opNow s / 10 ^ 6) l) s

/-! ### Counters (R508-R510) -/

/-- Whether a counter's configuration selects an occurrence (R509): EVENT, SUB, OWNER and ENABLE.
`sub` is a list because some selectors have a code for all. -/
def cfgSelects (cfg : W32) (ev : Nat) (subs : List Nat) (owner : Nat) : Bool :=
  cfg.getLsbD 31 && decide ((cfg.extractLsb' 0 8).toNat = ev)
    && subs.contains (cfg.extractLsb' 8 8).toNat
    && (decide ((cfg.extractLsb' 22 6).toNat = 0) || decide ((cfg.extractLsb' 22 6).toNat = owner))

/-- CHAIN on an odd-numbered counter (R510). -/
def chained (c : Nat) (cfg : W32) : Bool := decide (c % 2 = 1) && cfg.getLsbD 30

/-- Event 0x0E04 of a wrapped counter is due for these counters. -/
def bumpOne (c n : Nat) (k : Cnt) : Cnt × Bool :=
  let v := k.live.atD c 0 + n
  let wraps := decide (2 ^ 48 ≤ v)
  let k := { k with live := k.live.put c (v % 2 ^ 48) }
  if !wraps then (k, false)
  else if chained (c + 1) (k.cfg.atD (c + 1) 0) && decide (c % 2 = 0) then
    ({ k with live := k.live.put (c + 1) ((k.live.atD (c + 1) 0 + v / 2 ^ 48) % 2 ^ 48) }, false)
  else ({ k with cfg := k.cfg.put c (k.cfg.atD c 0 ||| (1 <<< 29)) }, true)

/-- The counters of an island range that count an occurrence; returns the counters that wrapped. -/
def bumpAll (lo hi ev : Nat) (subs : List Nat) (owner n : Nat) (k : Cnt) : Cnt × List Nat :=
  k.cfg.foldl (fun (acc : Cnt × List Nat) p =>
    if decide (lo ≤ p.1) && decide (p.1 < hi) && cfgSelects p.2 ev subs owner && !chained p.1 p.2 then
      let r := bumpOne p.1 n acc.1
      (r.1, if r.2 then p.1 :: acc.2 else acc.2)
    else acc) (k, [])

/-! ### Event records (R494-R501, R504) -/

/-- Size of the first named argument of the codes whose repeats are counted on the last record. -/
def repeatFirst : Nat → Option Nat
  | 0x0303 => some 1
  | 0x0601 => some 1
  | 0x090A => some 0
  | 0x0B06 => some 1
  | 0x0D01 => some 4
  | _ => none

/-- The packed arguments of R495. (DEDUCED, log 20) -/
def packArgs (args : List (Nat × Nat)) : Bytes := args.flatMap fun p => le p.1 p.2

/-- The departure open at this moment (R565). -/
def openDep (s : State) : Option Nat := if s.dep.isOpen && !s.sys.anchorStopped then some s.dep.number else none

/-- A record created now, before it has its number (R494). -/
def mkEv (code owner sub : Nat) (args : List (Nat × Nat)) (s : State) : Ev where
  seq := 0
  opNs := s.clk.upNs
  tai := if clkValid s then s.clk.run else 0
  arg := padTo 22 (packArgs args)
  code := code
  rep := 0
  dep := openDep s
  sub := sub
  power := s.evt.cycles
  owner := owner
  carry := false
  trunc := decide (22 < (packArgs args).length)
  frozen := decide (code = 0x0110)

/-- R500: the event counts on the newest record. -/
def countsOn (last e : Ev) : Bool :=
  !last.frozen && last.code == e.code && last.owner == e.owner
    && (last.arg == e.arg ||
        match repeatFirst e.code with
        | some n => last.arg.take n == e.arg.take n
        | none => false)

/-- Enter a record as the newest one: it takes its number, POWER and OP_TIME, and the record before it is
frozen (R498, R501). The recorder keeps 4,096 records. -/
def pushEv (e : Ev) (r : Rec) : Rec :=
  let olds := match r.evs with
    | [] => []
    | n :: rest => { n with frozen := true } :: rest
  let e := { e with seq := r.head + 1, power := r.cycles, opNs := r.opBase + e.opNs }
  { r with
    evs := (e :: olds).take 4096
    head := r.head + 1
    frozen := if e.frozen then r.head + 1 else if olds.isEmpty then r.frozen else r.head }

/-- R504: the record that the next one will overwrite has not been mirrored. -/
def losesOld (r : Rec) : Option Nat :=
  if r.evs.length < 4096 then none
  else match r.evs.getLast? with
    | some o => if r.mirrored < o.seq then some o.seq else none
    | none => none

/-- Record an event: staged before the mirror search has ended (R498), counted on the newest record
where R500 allows, otherwise a new record. A record overwritten before it was mirrored is counted and noted, and the
note overwrites the next one (R504). (DEDUCED, log 20) -/
def recordEv (e : Ev) (s : State) : State :=
  let r := s.evt
  if r.staging then
    if r.staged.length < 64 then { s with evt := { r with staged := e :: r.staged } }
    else { s with evt := { r with lost := sat32 (r.lost + 1) } }
  else
    match r.evs with
    | n :: rest =>
      if countsOn n e then
        { s with evt := { r with evs := { n with rep := min (n.rep + 1) 0xFFFF } :: rest } }
      else
        match losesOld r with
        | none => { s with evt := pushEv e r }
        | some q =>
          let lostEv := mkEv 0x0E02 0 0 [(8, q), (4, 2)] s
          { s with evt := pushEv lostEv (pushEv e { r with lost := sat32 (r.lost + 2) }) }
    | [] => { s with evt := pushEv e r }

/-- Count an occurrence on the anchor's counters, or on a die's (R508, R509); a wrap records event
0x0E04 (R510). (DESIGN CHOICE, log 48) -/
def countAt (die ev : Nat) (subs : List Nat) (owner n : Nat) (s : State) : State :=
  let lo := if die = 0 then 0 else 1024 + 512 * (die - 1)
  let hi := if die = 0 then 1024 else lo + 512
  let r := bumpAll lo hi ev subs owner n s.cnt
  r.2.foldr (fun c st => recordEv (mkEv 0x0E04 0 0 [(2, c)] st) st) { s with cnt := r.1 }

/-- Event records created since an earlier state, numbered or staged. -/
def createdSince (s t : State) : Nat := (t.evt.head - s.evt.head) + (t.evt.staged.length - s.evt.staged.length)

/-- `countAt`, with the records of wraps counted as created records in their turn (R509). -/
def bumpAt (die ev : Nat) (subs : List Nat) (owner n : Nat) (s : State) : State :=
  let t := countAt die ev subs owner n s
  if createdSince s t = 0 then t else countAt 0 0x0F [0] 0 (createdSince s t) t

def bump (ev : Nat) (subs : List Nat) (owner n : Nat) (s : State) : State := bumpAt 0 ev subs owner n s

/-- Create an event with its arguments as (size, value) pairs; a new record is counted, a repeat on the newest one is
not (R500, R509). -/
def eventSub (code owner sub : Nat) (args : List (Nat × Nat)) (s : State) : State :=
  let t := recordEv (mkEv code owner sub args s) s
  if createdSince s t = 0 then t else bump 0x0F [0] 0 (createdSince s t) t

/-- (DEDUCED, log 20) -/
def event (code owner : Nat) (args : List (Nat × Nat)) (s : State) : State := eventSub code owner 0 args s

/-- Freeze the newest record (R501). -/
def freezeNewest (s : State) : State :=
  match s.evt.evs with
  | n :: rest => { s with evt := { s.evt with evs := { n with frozen := true } :: rest, frozen := n.seq } }
  | [] => s

/-- The 58 bytes of a record that digests and MACs cover (R494). -/
def evBytes (e : Ev) : Bytes :=
  le 8 e.seq ++ le 8 (opTimeWord e.opNs) ++ le 8 e.tai ++ e.arg ++ le 2 e.code ++ le 2 e.rep
    ++ le 2 (e.dep.getD 0 % 65536) ++ le 4 (e.sub * 2 ^ 24 + e.power % 2 ^ 24) ++ le 1 e.owner
    ++ le 1 ((if e.carry then 4 else 0) + (if e.dep.isNone then 2 else 0) + (if e.trunc then 1 else 0))

/-! ### Device state (R28, R29, R32) -/

def DevState.code : DevState → Nat
  | .off => 0 | .booting => 1 | .held => 2 | .restoring => 3 | .ready => 4 | .degraded => 5
  | .stabled => 6 | .zeroised => 7

/-- A change of device state that is neither reset nor power: nothing but a reset leaves ZEROISED (R32).
The UART prints the new state (R465). -/
def enterDev (d : DevState) (s : State) : State :=
  if s.sys.state == .zeroised then s
  else uart (.stateIs d (s.sys.bootUs / 1000)) { s with sys := { s.sys with state := d } }

/-- READY or DEGRADED: all rings run, admission is open (R28). (DESIGN CHOICE, log 10) -/
def inService (s : State) : Bool := s.sys.state == .ready || s.sys.state == .degraded

/-- Powered and out of internal reset. (DESIGN CHOICE, log 10) -/
def alive (s : State) : Bool := s.sys.state != .off && !s.sys.inReset

/-- Guard of a command whose event can happen only while the condition holds. (DESIGN CHOICE, log 10) -/
def when (c : Bool) (f : State → State) (s : State) : State := if c then f s else s

/-! ### Owners -/

def ownerOf (s : State) (o : Nat) : Owner := s.adm.owners.atD o {}

def setOwner (o : Nat) (w : Owner) (s : State) : State :=
  { s with adm := { s.adm with owners := s.adm.owners.put o w } }

def mapOwner (o : Nat) (f : Owner → Owner) (s : State) : State := setOwner o (f (ownerOf s o)) s

/-- The owner function with an enrolled id, if any. -/
def funcOfId (s : State) (id : W64) : Option Nat :=
  (s.adm.owners.find? fun (p : Nat × Owner) => p.2.enrolled != 0 && p.2.id == id).map (·.1)

/-! ### Rings -/

def ringOf (s : State) (r : Nat) : Ring := s.rings.tbl.atD r {}

def setRing (r : Nat) (x : Ring) (s : State) : State :=
  { s with rings := { s.rings with tbl := s.rings.tbl.put r x } }

def mapRing (r : Nat) (f : Ring → Ring) (s : State) : State := setRing r (f (ringOf s r)) s

/-- Entries of a ring (R44). -/
def Ring.size (x : Ring) : Nat := 2 ^ x.log2

def RingState.code : RingState → Nat
  | .free => 0 | .configured => 1 | .running => 2 | .stopping => 3 | .stopped => 4 | .error => 5

def ringIs (s : State) (c : Nat) (f : Nat) (st : RingState) : Option Nat :=
  (s.rings.tbl.find? fun (p : Nat × Ring) => p.2.cls == c && p.2.func == f && p.2.state == st).map (·.1)

/-! ### Descriptors (R56) -/

def dOp (d : BitVec 512) : Nat := (d.extractLsb' 0 8).toNat
def dIrq (d : BitVec 512) : Bool := d.getLsbD 8
def dInline (d : BitVec 512) : Bool := d.getLsbD 9
def dFlagsRsv (d : BitVec 512) : Bool := d.extractLsb' 10 6 != 0
def dSrcLen (d : BitVec 512) : Nat := (d.extractLsb' 16 16).toNat
def dTag (d : BitVec 512) : Nat := (d.extractLsb' 32 32).toNat
def dSrcAddr (d : BitVec 512) : Nat := (d.extractLsb' 64 64).toNat
def dDstAddr (d : BitVec 512) : Nat := (d.extractLsb' 128 64).toNat
def dDstLen (d : BitVec 512) : Nat := (d.extractLsb' 192 32).toNat
def dArg (d : BitVec 512) : BitVec 32 := d.extractLsb' 224 32
def dParams (d : BitVec 512) : Bytes := le 32 (d.extractLsb' 256 256).toNat

/-- The input of an operation (R56, R251): SRC_LEN bytes of PARAMS, or the source buffer. -/
def Work.input (w : Work) : Bytes := if dInline w.desc then (dParams w.desc).take (dSrcLen w.desc) else w.src

def Work.func (w : Work) (s : State) : Nat := (ringOf s w.ring).func

/-- ACCORD_ID of OP_ARG[31:16] (R251). -/
def Work.accordId (w : Work) : Nat := ((dArg w.desc).extractLsb' 16 16).toNat

/-! ### Completions -/

def Status.code : Status → Nat
  | .ok => 0x00 | .sealedReject => 0x01 | .refusedBusy => 0x02 | .refusedClosed => 0x03
  | .authFail => 0x04 | .keyLimit => 0x05 | .noKey => 0x06 | .badDescriptor => 0x07
  | .ringStopped => 0x08 | .aborted => 0x09 | .fault => 0x0A | .rngUnavailable => 0x0B
  | .paramInvalid => 0x0C | .accordRequired => 0x0D | .ownerUnreachable => 0x0E
  | .alreadyPaid => 0x0F | .notFound => 0x10 | .policy => 0x11 | .held => 0x12
  | .cardUncertain => 0x13 | .transitionRefused => 0x14

def allOnes64 : Nat := 2 ^ 64 - 1

/-- The ring still takes results: same incarnation, and RUNNING or STOPPING (R74, R75). (DEDUCED, log 16) -/
def ringTakes (x : Ring) (gen : Nat) : Bool :=
  x.gen == gen && (x.state == .running || x.state == .stopping)

/-- Hand a finished descriptor to the reorder buffer of its ring; of a ring that is gone or in ERROR it is
discarded (R64, R75). -/
def deliver (ring gen : Nat) (d : Done) (s : State) : State :=
  if ringTakes (ringOf s ring) gen then mapRing ring (fun x => { x with fin := x.fin ++ [d] }) s else s

/-- Output bytes of an operation are written to DST_ADDR with the ring's requester id (R38, R564). -/
def writeDst (w : Work) (b : Bytes) (s : State) : State :=
  let x := ringOf s w.ring
  if b.isEmpty || !ringTakes x w.gen || !s.link.bme.getLsbD x.func then s
  else emit (.dma x.func (dDstAddr w.desc) b) s

/-- End a SERVICE or QUERY descriptor with its output, status, DETAIL and UNTRUSTED_OUTPUT (R59). -/
def finishWith (untrusted : Bool) (w : Work) (st : Status) (detail : Nat) (out : Bytes) (s : State) : State :=
  deliver w.ring w.gen
    { idx := w.idx, tag := dTag w.desc, status := st, detail := detail, stamp := w.stamp, receipt := none
      untrusted := untrusted, irq := dIrq w.desc }
    (writeDst w out s)

def finish (w : Work) (st : Status) (detail : Nat) (out : Bytes) (s : State) : State := finishWith false w st detail out s

/-- Offset and size of an area of user flash (R226): 0 header and salt, 1 wrapped keys, 2 firmware slots, 3 rulebooks,
4 event mirror, 5 counters. -/
def flashArea : Nat → Nat × Nat
  | 0 => (0x00000000, 0x10000)
  | 1 => (0x00010000, 0x400000)
  | 2 => (0x00410000, 0x1000000)
  | 3 => (0x01410000, 0x1000000)
  | 4 => (0x02410000, 0x1000000)
  | 5 => (0x03410000, 0x100000)
  | _ => (0x03510000, 0)

/-! ### Sequence numbers (R85 step 4, R86, R90, R218) -/

/-- The counter record in force: the valid record with the highest WRITE_NO (R217). -/
def flashNow (s : State) : Option FlashRec :=
  s.flash.counters.foldl (fun a r => match a with
    | none => some r
    | some b => if b.writeNo < r.writeNo then some r else some b) none

def seqHigh (s : State) : Nat := ((flashNow s).map (·.seqHigh)).getD 0
def depHigh (s : State) : Nat := ((flashNow s).map (·.depHigh)).getD 0
def accordHigh (s : State) : Nat := ((flashNow s).map (·.accordHigh)).getD 0

/-- The record of a power failure is the newest one written, and names the last number issued (R92, R219): none is
issued until a TYPE 4 record supersedes it (R220). -/
def lastIssued (s : State) : Bool :=
  match flashNow s with
  | some r => r.type == 2
  | none => false

/-- The next number may be issued under the SEQ_HIGH mark of the newest record written (R218), and a
departure is open to hold its leaf. -/
def canNumber (s : State) : Bool :=
  s.dep.isOpen && decide (s.adm.nextSeq ≤ seqHigh s) && decide (s.adm.nextSeq < allOnes64) && !lastIssued s

/-- The admission time of an admission decided now (R86). (DESIGN CHOICE, log 12) -/
def admitTime (s : State) : Nat := max s.clk.run (s.adm.lastT + 1)

/-- Issue the next sequence number for an owner: number, admission time and departure (R85 step 4). -/
def issue (owner : Nat) (s : State) : Stamp × State :=
  let t := admitTime s
  let st : Stamp := { seq := s.adm.nextSeq, t := t, dep := s.dep.number }
  (st, { s with adm := { s.adm with
    nextSeq := s.adm.nextSeq + 1
    lastT := t
    owed := { seq := st.seq, owner := owner, dep := st.dep } :: s.adm.owed } })

/-! ### Leaves (R163-R168) -/

def leafBytes (st : Stamp) (l : Leaf) : Bytes :=
  le 8 st.seq ++ le 8 st.t ++ le 8 l.subject ++ le 8 l.arg ++ le 8 l.arg2 ++ le 4 l.tag ++ le 4 l.arg3
    ++ le 4 l.version ++ le 2 l.handle ++ le 2 l.ring ++ le 2 l.reason ++ le 1 l.status.code ++ le 1 l.kind
    ++ le 1 l.owner ++ le 1 (if l.ext.isSome then 2 else 1) ++ le 1 l.subtree ++ [0]
    ++ (match l.ext with
        | some e => padTo 64 e
        | none => [])

/-- R167: the leaf hash and the node hash. -/
def leafHash (b : Bytes) : Digest := sha ((0 : Byte) :: b)
def nodeHash (l r : Digest) : Digest := sha ((1 : Byte) :: (digestBytes l ++ digestBytes r))

/-- The largest power of two below m, for m above 1 (R167). -/
def pow2Below : Nat → Nat → Nat
  | 0, k => k
  | fuel + 1, m => if 2 < m then 2 * pow2Below fuel ((m + 1) / 2) else 1

/-- MTH of a list of hashes (R167); the fuel bounds the depth of the tree. -/
def mthFuel : Nat → List Digest → Digest
  | _, [] => sha []
  | _, [h] => h
  | 0, h :: _ => h
  | fuel + 1, hs =>
    let k := pow2Below 64 hs.length
    nodeHash (mthFuel fuel (hs.take k)) (mthFuel fuel (hs.drop k))

def mth (hs : List Digest) : Digest := mthFuel 64 hs

/-- A list in ascending order of a number. -/
def insertBy {α : Type} (f : α → Nat) (x : α) : List α → List α
  | [] => [x]
  | y :: r => if f x ≤ f y then x :: y :: r else y :: insertBy f x r

def sortBy {α : Type} (f : α → Nat) (l : List α) : List α := l.foldr (insertBy f) []

/-- ROOT of a departure: the MTH of its eight subtree roots (R168). -/
def depRoot (dep : Nat) (ls : List LeafHash) : Digest :=
  mth ([0, 1, 2, 3, 4, 5, 6, 7].map fun k =>
    mth ((sortBy (·.seq) (ls.filter fun l => l.dep == dep && l.subtree == k)).map (·.hash)))

/-! ### Class D nonces (R278-R280) -/

/-- DIE and LANE of a lane identity. -/
def laneCode (l : LaneId) : Nat × Nat :=
  match l.group with
  | .die k => (k, l.lane)
  | .vault => (0, l.lane)
  | .junction => (0, 4 + l.lane)

/-- The next class D nonce of a lane, and the lane counter moved on (R278, R279). -/
def classD (l : LaneId) (s : State) : Bytes × State :=
  let (d, k) := laneCode l
  let i := 16 * d + k
  let c := s.lanes.ctr.atD i 0
  (le 4 ((s.evt.cycles % 2 ^ 24) * 256 + d * 16 + k) ++ le 8 c,
   { s with lanes := { s.lanes with ctr := s.lanes.ctr.put i (c + 1) } })

/-- The vault lanes that placement may choose (R25, R271). -/
def vaultLanes (s : State) : List LaneId :=
  ([0, 1, 2, 3].map fun k => ({ group := .vault, lane := k } : LaneId)).filter
    fun l => !s.lanes.quarantined.contains l && !(s.lanes.underTest.any fun p => p.2 == l)

/-- A class D encryption by a vault lane of placement's choice: nonce, ciphertext, tag. (DESIGN CHOICE, log 19) -/
def vaultSeal (key : Bytes) (aad : Bytes → Bytes) (pt : Bytes) (s : State) : (Bytes × Bytes × Bytes) × State :=
  let (l, s) := pick (vaultLanes s) s
  let (n, s) := classD (l.getD { group := .vault, lane := 0 }) s
  let (ct, tag) := gcmSeal key n (aad n) pt
  ((n, ct, tag), s)

/-! ### Owner roots and clause keys (R242, R244, R260) -/

/-- An encoded clause (R242). -/
def clause (subject verb object tense : Nat) : Bytes :=
  le 8 subject ++ le 2 verb ++ le 8 object ++ le 4 tense

/-- The key derived from a root payload by a clause (R242). -/
def clauseKey (root : Bytes) (c : Bytes) : Bytes := kmac 32 root c "SOLNY CLAUSE"

def Slot.klen (x : Slot) : Nat := (x.attr.extractLsb' 0 7).toNat
def Slot.verb (x : Slot) : Nat := (x.attr.extractLsb' 16 16).toNat
def Slot.uses (x : Slot) : Nat := (x.attr.extractLsb' 32 32).toNat
def Slot.owner (x : Slot) : Nat := (x.attr.extractLsb' 10 6).toNat
def Slot.key (x : Slot) : Bytes := x.payload.take x.klen

def slotOf (s : State) (i : Nat) : Slot := s.keys.slots.atD i {}

/-- Bytes 0-79 of a slot (R233). -/
def Slot.bytes (x : Slot) : Bytes :=
  padTo 64 x.payload ++ le 8 x.attr.toNat ++ le 2 x.gen ++ le 1 x.state ++ zeros 5

/-- CHECK of slot i with these contents, under the slot-check key in slot 1 (R230, R233). -/
def slotCheck (s : State) (i : Nat) (x : Slot) : Bytes :=
  kmac 8 (if i = 1 then x.key else (slotOf s 1).key) (le 2 i ++ x.bytes) "SOLNY SLOT"

/-- A slot of which user flash holds a wrapped copy: departure seeds and owner slots, unless EXPIRE is set (R230, R237). -/
def Slot.wraps (x : Slot) (i : Nat) : Bool :=
  ((decide (5 ≤ i) && decide (i ≤ 8)) || decide (64 ≤ i)) && x.state != 0 && !x.attr.getLsbD 7

/-- Change a slot: its CHECK (R233), and its wrapped copy in user flash, which a destroyed slot loses (R237). -/
def setSlot (i : Nat) (x : Slot) (s : State) : State :=
  let x := { x with check := slotCheck s i x }
  { s with
    keys := { s.keys with slots := s.keys.slots.put i x }
    flash := { s.flash with wrapped := if x.wraps i then s.flash.wrapped.put i x else s.flash.wrapped.del i } }

/-- CHECK verifies (R235). -/
def slotSound (s : State) (i : Nat) : Bool := (slotOf s i).check == slotCheck s i (slotOf s i)

/-- A check of a key fails: event 0x0703 with the handle, and KEYS_CHECK_FAIL (R235). -/
def noteCheckFail (owner handle : Nat) (s : State) : State :=
  event 0x0703 owner [(4, handle)] { s with keys := { s.keys with checkFail := sat32 (s.keys.checkFail + 1) } }

/-- A slot whose check fails is FAILED (R235). -/
def failSlot (i : Nat) (s : State) : State :=
  let x := slotOf s i
  if x.state = 0 ∨ x.state = 3 then s else noteCheckFail x.owner (x.gen * 4096 + i) (setSlot i { x with state := 3 } s)

/-- The check before a use of a slot (R235). -/
def checkSlot (i : Nat) (s : State) : State := if slotSound s i then s else failSlot i s

/-- Take one use of a slot (R236): from 1 to 0 it becomes EXHAUSTED and records event 0x0704. (DEDUCED, log 18) -/
def useSlot (i : Nat) (s : State) : State :=
  let x := slotOf s i
  if x.uses = 0 then s
  else
    let x' := { x with attr := x.attr - ((1 : W64) <<< 32) }
    if x.uses = 1 then event 0x0704 x.owner [(4, x.gen * 4096 + i)] (setSlot i { x' with state := 2 } s)
    else setSlot i x' s

/-- The root generation, owner id and terminal range of an owner in force at a sequence number (R244): the oldest
kept generation whose end lies above the number, otherwise the present one. -/
def rootAt (s : State) (owner seq : Nat) : RootView :=
  let olds := s.keys.oldRoots.filter fun r => r.owner == owner && decide (seq < r.upto)
  let held := fun (i : Nat) => if (slotOf s i).state = 1 then some (slotOf s i).key else none
  match (sortBy (·.upto) olds).head? with
  | some r =>
    let live := decide (64 ≤ r.slot) && (slotOf s r.slot).gen == r.gen
    { id := r.id, slot := r.slot, gen := r.gen, lo := r.lo, hi := r.hi
      key := if live then held r.slot else r.key, live := live }
  | none =>
    let o := ownerOf s owner
    match o.root with
    | some i => { id := o.id, slot := i, gen := (slotOf s i).gen, lo := o.lo, hi := o.hi, key := held i, live := true }
    | none => { id := o.id, slot := 0, gen := 0, lo := o.lo, hi := o.hi, key := none, live := false }

/-- The owner keys are locked for a work item of this number: one below the admission step of DEBUG_OPEN still
completes under them (R241, R426). -/
def ownerLocked (s : State) (seq : Nat) : Bool := s.keys.locked && decide (s.keys.lockFrom ≤ seq)

/-- The owner root usable for a terminal at a sequence number: present, not FAILED or EXHAUSTED, not
locked for debug, and the terminal in range (R134 check 2, R241, R260). -/
def rootFor (s : State) (owner seq terminal : Nat) : Option Bytes :=
  let v := rootAt s owner seq
  if ownerLocked s seq || terminal < v.lo || v.hi < terminal then none else v.key

/-- The check before a use of the root in force at a sequence number (R235). -/
def checkRoot (owner seq : Nat) (s : State) : State :=
  let v := rootAt s owner seq
  if v.live then checkSlot v.slot s else s

/-- One derivation from the root in force at a sequence number (R236); a generation that the slot no longer holds
counts its own uses. -/
def useRoot (owner seq : Nat) (s : State) : State :=
  let v := rootAt s owner seq
  if v.live then useSlot v.slot s
  else
    let same := fun (r : OldRoot) => r.owner == owner && r.slot == v.slot && r.gen == v.gen
    let last := s.keys.oldRoots.any fun r => same r && r.uses == 1
    let s := { s with keys := { s.keys with oldRoots := s.keys.oldRoots.map fun r =>
      if (same r) then { r with uses := r.uses - 1, key := if r.uses = 1 then none else r.key } else r } }
    if last then event 0x0704 owner [(4, v.gen * 4096 + v.slot)] s else s

/-! ### Journal (R51, R166, R210) -/

/-- Journal bytes an owner has waiting: closed blocks, the open block and entries that wait. -/
def jEntryBytes (l : List JEntry) : Nat := l.foldl (fun n e => n + e.leaf.length + e.replay.length) 0

def jBacklog (o : Owner) : Nat :=
  o.closed.foldl (fun n b => n + b.bytes.length) 0 + jEntryBytes o.blockOpen + jEntryBytes o.waiting

/-- The units of 64 bytes that hold n bytes. -/
def units64 (n : Nat) : Nat := ceilDiv n 64

/-- The size of a block with these entries (R210). (DESIGN CHOICE, log 22) -/
def blockSize (l : List JEntry) : Nat :=
  128 + l.foldl (fun n e => n + e.leaf.length) 0 + 64 * units64 (l.foldl (fun n e => n + e.replay.length) 0)

/-- Close an owner's open block: header, leaves in clear, replay area encrypted under the owner's journal
clause key (R210, R242), whose derivation takes a use of the root. For an owner without a usable root the manual gives
no journal key: it is a free value. (DESIGN CHOICE, log 22) -/
def closeBlock (o : Nat) (s : State) : State :=
  let w := ownerOf s o
  match w.blockOpen with
  | [] => s
  | e0 :: _ =>
    let leaves := w.blockOpen.flatMap (·.leaf)
    let replay := w.blockOpen.flatMap (·.replay)
    let ru := units64 replay.length
    let lu := leaves.length / 64
    let s := checkRoot o e0.seq s
    let v := rootAt s o e0.seq
    let (fk, s) := freeNat s
    let (key, s) := match (if ownerLocked s e0.seq then none else v.key) with
      | some r => (clauseKey r (clause v.id.toNat 0x0007 s.otp.deviceId.toNat 0), useRoot o e0.seq s)
      | none => (le 32 fk, s)
    let head := le 4 0x4A524E31 ++ le 1 o ++ [0] ++ le 2 w.blockOpen.length ++ le 8 (w.blockNo + 1)
      ++ le 8 s.vm.epochAck ++ le 2 lu ++ le 2 ru ++ zeros 4 ++ digestBytes w.blockPrev
    let ((n, ct, tag), s) := vaultSeal key (fun n => head ++ n ++ zeros 20 ++ leaves)
      (padTo (64 * ru) replay) s
    let bytes := head ++ n ++ zeros 20 ++ tag ++ leaves ++ ct
    let upTo := match s.vm.ckptRunning with
      | some c => w.pos == w.blockNo + 1 && w.blockOpen.all fun e => decide (e.dep ≤ c.dep)
      | none => false
    mapOwner o (fun w => { w with
      pos := if upTo then w.blockNo + 2 else w.pos
      posPrev := if upTo then sha bytes else w.posPrev
      blockNo := w.blockNo + 1, blockPrev := sha bytes, blockOpen := []
      closed := w.closed ++ [{ owner := o, dep := e0.dep, seq := e0.seq, units := 2 + lu + ru, bytes := bytes }] }) s

/-- Add one entry to the owner's open block, closing the block first where the entry does not fit (R210). -/
def addEntry (o : Nat) (e : JEntry) (s : State) : State :=
  let s := if 4096 < blockSize ((ownerOf s o).blockOpen ++ [e]) then closeBlock o s else s
  mapOwner o (fun w => { w with blockOpen := w.blockOpen ++ [e] }) s

/-- Move the owner's waiting leaves whose lower-numbered leaves are all in the journal into the open block,
in ascending sequence order (R166). -/
def flushJournal (o : Nat) (s : State) : State :=
  let w := ownerOf s o
  let blocked := (s.adm.owed.filter fun x => x.owner == o).map (·.seq)
  let free := fun (e : JEntry) => blocked.all fun q => decide (e.seq < q)
  let ready := sortBy (·.seq) (w.waiting.filter free)
  let s := mapOwner o (fun w => { w with waiting := w.waiting.filter fun e => !free e }) s
  ready.foldl (fun st e => addEntry o e st) s

/-- R51 and R76: the owner's backlog reaches 1 MiB, or falls to 512 KiB or less. -/
def backlogCheck (o : Nat) (s : State) : State :=
  let w := ownerOf s o
  let n := jBacklog w
  if !w.backlogFull && 2 ^ 20 ≤ n then
    event 0x0204 o [(1, o)] (mapOwner o (fun w => { w with backlogFull := true }) s)
  else if w.backlogFull && n ≤ 2 ^ 19 then mapOwner o (fun w => { w with backlogFull := false }) s
  else s

/-- An empty replay record of one commit number (R211): a change of no record. -/
def replayNone (s : State) : Bytes := zeros 8 ++ le 8 s.vm.commitNo

/-- Seal the leaf of an issued number: it joins its departure's subtree and its owner's journal, and the
number is owed no more (R163-R168, R210). -/
def sealLeaf (st : Stamp) (l : Leaf) (replay : Bytes) (s : State) : State :=
  let b := leafBytes st l
  let s := { s with
    adm := { s.adm with owed := s.adm.owed.filter fun x => x.seq != st.seq }
    dep := { s.dep with leaves := { seq := st.seq, dep := st.dep, subtree := l.subtree, hash := leafHash b } :: s.dep.leaves } }
  let s := bump 0x04 [0, l.kind] l.owner 1 s
  let s := if 1 ≤ l.subtree then bumpAt l.subtree 0x44 [0] 0 1 s else s
  let s := mapOwner l.owner (fun w => { w with
    waiting := w.waiting ++ [{ seq := st.seq, dep := st.dep, leaf := b, replay := replay }] }) s
  backlogCheck l.owner (flushJournal l.owner s)

/-- Issue a number and seal its leaf in one admission step: every device-originated leaf (R165). While no number may
be issued the leaf is held (R218). -/
def sealNow (l : Leaf) (replay : Bytes) (s : State) : State :=
  if canNumber s then
    (let (st, s) := issue l.owner s
     sealLeaf st l replay s)
  else { s with adm := { s.adm with ends := s.adm.ends ++
    [{ leaf := l, work := none, status := .ok, detail := 0, out := [], ownStamp := false, replay := some replay }] } }

/-- The first 8 bytes of SHA-384, as a number (R164). -/
def digest8 (b : Bytes) : Nat := (sha b).toNat % 2 ^ 64

/-- The SERVICE leaf of a work item (R164). -/
def serviceLeaf (w : Work) (owner : Nat) (st : Status) (detail : Nat) : Leaf :=
  { subject := dOp w.desc, arg := digest8 w.input, tag := dTag w.desc, ring := w.ring, reason := detail
    status := st, kind := 0x07, owner := owner }

/-- Take the next number for a work item at its admission step (R102). -/
def stampWork (w : Work) (owner : Nat) (s : State) : Work × State :=
  let (st, s) := issue owner s
  ({ w with stamp := some st }, s)

/-- End a sealed work item: leaf, then output and completion. -/
def finishSealed (w : Work) (l : Leaf) (replay : Bytes) (out : Bytes) (s : State) : State :=
  let s := match w.stamp with
    | some st => sealLeaf st l replay s
    | none => s
  finish w l.status l.reason out s

/-! ### Work items -/

/-- The tamper response CLOSE, or an uncorrectable anchor fault, which handles other work in the same way
(R36, R447). -/
def closeWork (s : State) : Bool := s.sys.close || s.sys.anchorFault

/-- Opcodes that complete with POLICY, unsealed, while CLOSE is in force (R447): every VF SERVICE opcode
that is not served as usual, and PF0 0x50-0x5E, 0x74-0x78 and 0x7E. DRAW, the game commands and the QUERY
opcodes have rules of their own. -/
def closeRefuses (op func : Nat) : Bool :=
  if op < 0x20 || (0x60 ≤ op && op ≤ 0x6F) || op = 0x57 || op = 0x5C || op = 0x46 || op = 0x21 then false
  else if func = 0 then (0x50 ≤ op && op ≤ 0x5E) || (0x74 ≤ op && op ≤ 0x78) || op == 0x7E
  else true

/-- Take the waiting work item of a row out of the list and run a body on it. The row's event cannot happen
without such an item in READY or DEGRADED, and then changes nothing. (DESIGN CHOICE, log 10; DESIGN CHOICE, log 13) -/
def withWork (id : WorkId) (op : Nat) (body : Work → State → State) (s : State) : State :=
  if !inService s then s
  else
    match s.adm.work.find? fun w => w.ring == id.ring && w.idx == id.idx && dOp w.desc == op with
    | none => s
    | some w =>
      let s' := { s with adm := { s.adm with work := s.adm.work.filter fun x => x != w } }
      if closeWork s && closeRefuses op (w.func s) then finish w .policy 0 [] s' else body w s'

/-- A work item waits on, as it was. -/
def putBack (w : Work) (s : State) : State := { s with adm := { s.adm with work := w :: s.adm.work } }

/-- As withWork, for a row that takes a sequence number: it is held while no number may be issued (R218). (DESIGN CHOICE, log 10; DESIGN CHOICE, log 13) -/
def withSealedWork (id : WorkId) (op : Nat) (body : Work → State → State) (s : State) : State :=
  if canNumber s then withWork id op body s else s

end Sys2Proof.Machine
end

