-- ==== Sys2Proof/Machine/LineStore.lean ====
section
/-! DEFINITION. Vault memory as it is stored (R186-R197, R204, R212): record images, the buckets of the hash tables, the
encrypted lines with their counter tree, the chunks of the saved image, and what a commit writes. -/

namespace Sys2Proof.Machine

/-! ### Images (R197, R204, R240) -/

def ticketBytes (t : Ticket) : Bytes :=
  le 8 t.seq ++ le 8 t.amount.toNat ++ le 8 t.data.toNat ++ le 4 t.game ++ le 2 t.payer
    ++ le 1 ((if t.pending then 128 else 0) + t.issuer * 8 + t.state) ++ le 1 t.owner

def limitBytes (c : LimitCtr) : Bytes :=
  le 8 c.id ++ le 8 c.value ++ le 8 c.limit ++ le 4 c.window ++ le 2 c.wlenH ++ [1] ++ le 1 c.owner

def terminalBytes (t : Terminal) : Bytes :=
  le 8 t.id ++ le 4 t.tense ++ le 4 t.ctr ++ zeros 8 ++ zeros 4 ++ zeros 2 ++ [2] ++ le 1 t.owner

/-- Header bytes 0-55 of a KEYS record. -/
def KeyRec.header (r : KeyRec) : Bytes :=
  le 8 r.attr.toNat ++ le 2 r.gen ++ le 1 r.state ++ [0] ++ le 2 r.payload.length ++ zeros 42

/-- The 4,096 bytes of a KEYS record. -/
def keyRecBytes (r : KeyRec) : Bytes := r.header ++ padTo 8 r.check ++ padTo 4032 r.payload

/-! ### Areas and buckets (R193-R196) -/

/-- Record places of n units of 32-byte records, and the most that may be held (R196). -/
def areaCap (units : Nat) : Nat := 6 * (units * 2 ^ 21) / 7

/-- Units of an owner's area: 0 KEYS, 1 COUNTERS, 2 SETTLE, 3 TREE. -/
def partOf (s : State) (o area : Nat) : Nat := (ownerOf s o).parts.getD area 0

def counterCap (s : State) (o : Nat) : Nat := areaCap (partOf s o 1)
def settleCap (s : State) (o : Nat) : Nat := areaCap (partOf s o 2)

def counterUsed (s : State) (o : Nat) : Nat :=
  (s.vm.limits.filter fun c => c.owner == o).length + (s.vm.terminals.filter fun t => t.owner == o).length
def settleUsed (s : State) (o : Nat) : Nat := (s.vm.tickets.filter fun t => t.owner == o).length

/-- Keys of the hash tables: the type and id of a counter or terminal, the issuer and SEQUENCE of a ticket. -/
def limitKey (id : Nat) : Nat := 2 ^ 64 + id
def terminalKey (id : Nat) : Nat := 2 * 2 ^ 64 + id
def ticketKey (issuer seq : Nat) : Nat := issuer * 2 ^ 64 + seq

/-- The two candidate buckets of a key among those of n units (R195); the hash function is the controller's own.
 (DESIGN CHOICE, log 23) -/
def candidates (keys : Bytes) (units key : Nat) : Nat × Nat :=
  let n := max 1 (units * 2 ^ 20)
  (Config.bucketHash (keys.take 16) key % n, Config.bucketHash (keys.drop 16) key % n)

/-- Who is where in an area: key and bucket. -/
abbrev Places := List (Nat × Nat)

/-- A bucket of two places has a free one. -/
def Places.free (l : Places) (b : Nat) : Bool := decide ((l.filter fun e => e.2 == b).length < 2)

/-- Move residents to their other bucket, at most `fuel` of them, until a bucket has a free place (R195). -/
def Places.vacate (c : Nat → Nat × Nat) : Nat → Nat → Places → Option Places
  | 0, b, l => if Places.free l b then some l else none
  | fuel + 1, b, l =>
    if Places.free l b then some l
    else (l.filter fun e => e.2 == b).findSome? fun e =>
      let dst := if (c e.1).1 = b then (c e.1).2 else (c e.1).1
      if dst = b then none
      else (Places.vacate c fuel dst l).bind fun l' =>
        if Places.free l' dst then some (l'.map fun x => if x.1 == e.1 then (x.1, dst) else x) else none

/-- The places after an insert; none is "no room" (R195, R196). With fewer than two records held the first bucket has a
free place, whichever it is. -/
def Places.insert (c : Nat → Nat × Nat) (cap key : Nat) (l : Places) : Option Places :=
  if cap ≤ l.length then none
  else
    let (a, b) := c key
    if decide (l.length < 2) || Places.free l a then some ((key, a) :: l)
    else if Places.free l b then some ((key, b) :: l)
    else match Places.vacate c 3 a l with
      | some l' => some ((key, a) :: l')
      | none => (Places.vacate c 3 b l).map fun l' => (key, b) :: l'

def Places.insertAll (c : Nat → Nat × Nat) (cap : Nat) : List Nat → Places → Option Places
  | [], l => some l
  | k :: r, l => (Places.insert c cap k l).bind (Places.insertAll c cap r)

def Places.bucket (l : Places) (key dflt : Nat) : Nat := ((l.find? fun e => e.1 == key).map (·.2)).getD dflt

def counterPlaces (s : State) (o : Nat) : Places :=
  ((s.vm.limits.filter fun c => c.owner == o).map fun c => (limitKey c.id, c.bucket))
    ++ ((s.vm.terminals.filter fun t => t.owner == o).map fun t => (terminalKey t.id, t.bucket))

def settlePlaces (s : State) (o : Nat) : Places :=
  (s.vm.tickets.filter fun t => t.owner == o).map fun t => (ticketKey t.issuer t.seq, t.bucket)

def areaCandidates (s : State) (o area : Nat) : Nat → Nat × Nat :=
  candidates (ownerOf s o).hashKeys (partOf s o area)

/-- The places of the COUNTERS area after inserting these keys. -/
def counterInsert (s : State) (o : Nat) (keys : List Nat) : Option Places :=
  Places.insertAll (areaCandidates s o 1) (counterCap s o) keys (counterPlaces s o)

/-- The places of the SETTLE area after inserting these keys. -/
def settleInsert (s : State) (o : Nat) (keys : List Nat) : Option Places :=
  Places.insertAll (areaCandidates s o 2) (settleCap s o) keys (settlePlaces s o)

/-- Room in COUNTERS for records of these keys (R196). -/
def counterRoom (s : State) (o : Nat) (keys : List Nat) : Bool := (counterInsert s o keys).isSome
/-- Room in SETTLE for one ticket. -/
def settleRoom (s : State) (o key : Nat) : Bool := (settleInsert s o [key]).isSome

/-- R196: event 0x060F at the first failure in each departure, with the owner and the area (1 COUNTERS, 2 SETTLE, in
the order of R193). (DEDUCED, log 20) -/
def noteFull (o area : Nat) (s : State) : State :=
  if s.vm.noRoomDep == some s.dep.number then s
  else event 0x060F o [(1, o), (1, area)] { s with vm := { s.vm with noRoomDep := some s.dep.number } }

/-! ### Record updates -/

/-- The buckets of an owner's counters and terminals after moves. -/
def movedCounters (o : Nat) (l : Places) (s : State) : State :=
  { s with vm := { s.vm with
    limits := s.vm.limits.map fun c => if c.owner == o then { c with bucket := l.bucket (limitKey c.id) c.bucket } else c
    terminals := s.vm.terminals.map fun t => if t.owner == o then { t with bucket := l.bucket (terminalKey t.id) t.bucket } else t } }

def movedTickets (o : Nat) (l : Places) (s : State) : State :=
  { s with vm := { s.vm with tickets := s.vm.tickets.map fun t =>
    if t.owner == o then { t with bucket := l.bucket (ticketKey t.issuer t.seq) t.bucket } else t } }

/-- Write a ticket: in its bucket where it is held, otherwise inserted. -/
def putTicket (t : Ticket) (s : State) : State :=
  let same := fun (x : Ticket) => x.owner == t.owner && x.issuer == t.issuer && x.seq == t.seq
  let k := ticketKey t.issuer t.seq
  match s.vm.tickets.find? same with
  | some x => { s with vm := { s.vm with tickets := ({ t with bucket := x.bucket } :: s.vm.tickets.filter fun x => !same x) } }
  | none =>
    let l := (settleInsert s t.owner [k]).getD []
    let s := movedTickets t.owner l s
    { s with vm := { s.vm with tickets := ({ t with bucket := l.bucket k 0 } :: s.vm.tickets) } }

def putLimit (c : LimitCtr) (s : State) : State :=
  let same := fun (x : LimitCtr) => x.owner == c.owner && x.id == c.id
  match s.vm.limits.find? same with
  | some x => { s with vm := { s.vm with limits := ({ c with bucket := x.bucket } :: s.vm.limits.filter fun x => !same x) } }
  | none =>
    let l := (counterInsert s c.owner [limitKey c.id]).getD []
    let s := movedCounters c.owner l s
    { s with vm := { s.vm with limits := ({ c with bucket := l.bucket (limitKey c.id) 0 } :: s.vm.limits) } }

def putTerminal (t : Terminal) (s : State) : State :=
  let same := fun (x : Terminal) => x.owner == t.owner && x.id == t.id
  match s.vm.terminals.find? same with
  | some x => { s with vm := { s.vm with terminals := ({ t with bucket := x.bucket } :: s.vm.terminals.filter fun x => !same x) } }
  | none =>
    let l := (counterInsert s t.owner [terminalKey t.id]).getD []
    let s := movedCounters t.owner l s
    { s with vm := { s.vm with terminals := ({ t with bucket := l.bucket (terminalKey t.id) 0 } :: s.vm.terminals) } }

/-! ### Lines and the counter tree (R186, R187) -/

/-- The level of the counter tree that anchor SRAM holds. (DESIGN CHOICE, log 58) -/
def treeTop : Nat := 6

/-- Counter line i of a level, 1 to treeTop. -/
def LineStore.ctr (st : LineStore) (l i : Nat) : CtrLine := st.tree.atD (l * 2 ^ 40 + i) {}

def LineStore.putCtr (st : LineStore) (l i : Nat) (c : CtrLine) : LineStore := { st with tree := st.tree.put (l * 2 ^ 40 + i) c }

/-- The counter value major * 64 + minor of line i of a level; level 0 is the data lines. -/
def LineStore.counter (st : LineStore) (l i : Nat) : Nat :=
  let c := st.ctr (l + 1) (i / 64)
  c.major * 64 + c.minors.atD (i % 64) 0

/-- MAJOR and the 64 minors of 6 bits. -/
def CtrLine.bytes (c : CtrLine) : Bytes :=
  le 8 c.major ++ le 48 ((List.range 64).foldl (fun n k => n + c.minors.atD k 0 * 64 ^ k) 0)

/-- The MAC of a counter line under its parent's counter. (DESIGN CHOICE, log 58) -/
def LineStore.ctrMac (st : LineStore) (l i : Nat) (c : CtrLine) : Bytes :=
  kmac 8 st.macKey (c.bytes ++ le 8 (l * 2 ^ 40 + i) ++ le 8 (st.counter l i)) ""

/-- A counter line takes its MAC; the top level needs none. -/
def LineStore.sealCtr (st : LineStore) (l i : Nat) : LineStore :=
  if l < treeTop then st.putCtr l i { st.ctr l i with mac := st.ctrMac l i (st.ctr l i) } else st

/-- The XTS tweak of a data line: its address and its counter value, 8 bytes each. -/
def LineStore.tweak (st : LineStore) (a : Nat) : Bytes := le 8 (64 * a) ++ le 8 (st.counter 0 a)

/-- The MAC of a data line over ciphertext, address and counter value. -/
def LineStore.lineMac (st : LineStore) (a : Nat) (cipher : Bytes) : Bytes :=
  kmac 8 st.macKey (cipher ++ le 8 (64 * a) ++ le 8 (st.counter 0 a)) ""

/-- Encrypt and store a data line under its present counter. -/
def LineStore.encrypt (st : LineStore) (a : Nat) (plain : Bytes) : LineStore :=
  let c := le 64 (Config.xts true st.xtsKey (st.tweak a) plain)
  { st with lines := st.lines.put a { cipher := c, mac := st.lineMac a c } }

/-- The content of a stored line. -/
def LineStore.decrypt (st : LineStore) (a : Nat) : Option Bytes :=
  (st.lines.at? a).map fun l => le 64 (Config.xts false st.xtsKey (st.tweak a) l.cipher)

/-- The 64 lines that counter line p of level l + 1 covers are written again under their new counters; `old` is the
store before. -/
def LineStore.reseal (old : LineStore) (l p : Nat) (st : LineStore) : LineStore :=
  (List.range 64).foldl (fun st k =>
    let i := 64 * p + k
    if l = 0 then
      (match old.decrypt i with
       | some plain => st.encrypt i plain
       | none => st)
    else if (st.tree.at? (l * 2 ^ 40 + i)).isSome then st.sealCtr l i else st) st

/-- Raise the counter of line i of a level, and of every counter line above that changes with it. A minor that would
pass 63 raises MAJOR, clears the 64 minors and writes the covered lines again. -/
def LineStore.raise : Nat → Nat → Nat → LineStore → LineStore
  | 0, _, _, st => st
  | fuel + 1, l, i, st =>
    let p := i / 64
    let c := st.ctr (l + 1) p
    let n := c.minors.atD (i % 64) 0
    let st' := if n = 63 then st.reseal l p (st.putCtr (l + 1) p { c with major := c.major + 1, minors := [] })
      else st.putCtr (l + 1) p { c with minors := c.minors.put (i % 64) (n + 1) }
    (LineStore.raise fuel (l + 1) p st').sealCtr (l + 1) p

/-- Write one data line. -/
def LineStore.write (st : LineStore) (a : Nat) (plain : Bytes) : LineStore :=
  (LineStore.raise treeTop 0 a st).encrypt a plain

/-- Every counter line from a data line to the top verifies. -/
def LineStore.pathOk (st : LineStore) : Nat → Nat → Nat → Bool
  | 0, _, _ => true
  | fuel + 1, l, i =>
    (l + 1 == treeTop || (st.ctr (l + 1) (i / 64)).mac == st.ctrMac (l + 1) (i / 64) (st.ctr (l + 1) (i / 64)))
      && LineStore.pathOk st fuel (l + 1) (i / 64)

/-! ### Where records lie (R185, R193, R212) -/

/-- Units of the owners below an owner, and of its areas below an area; the saved image leaves TREE out. -/
def unitsBefore (s : State) (tree : Bool) (o area : Nat) : Nat :=
  let areas := if tree then [0, 1, 2, 3] else [0, 1, 2]
  let all := fun (k : Nat) => areas.foldl (fun n a => n + partOf s k a) 0
  (List.range o).foldl (fun n k => n + all k) 0 + (areas.filter fun a => decide (a < area)).foldl (fun n a => n + partOf s o a) 0

/-- The line of an area's line b, above the device area. (DESIGN CHOICE, log 58) -/
def lineAddr (s : State) (o area b : Nat) : Nat := 2 ^ 22 + unitsBefore s true o area * 2 ^ 20 + b

/-- The chunk of the saved image that holds an area's line b. -/
def chunkAt (s : State) (o area b : Nat) : Nat := Config.metaChunks + unitsBefore s false o area * 2 ^ 14 + b / 64

/-- The content of line b of an area: two records of a bucket, or 64 bytes of a KEYS record. -/
def areaLine (s : State) (o area b : Nat) : Bytes :=
  match area with
  | 0 => match s.vm.keyRecs.find? fun r => r.owner == o && r.index == b / 64 with
    | some r => slice (keyRecBytes r) (64 * (b % 64)) 64
    | none => zeros 64
  | 1 => padTo 64 (((s.vm.limits.filter fun c => c.owner == o && c.bucket == b).flatMap limitBytes)
      ++ ((s.vm.terminals.filter fun t => t.owner == o && t.bucket == b).flatMap terminalBytes))
  | 2 => padTo 64 ((s.vm.tickets.filter fun t => t.owner == o && t.bucket == b).flatMap ticketBytes)
  | _ => zeros 64

/-- The lines of the areas that hold something: owner, area, line. -/
def usedLines (s : State) : List (Nat × Nat × Nat) :=
  (s.vm.keyRecs.flatMap fun r => (List.range 64).map fun k => (r.owner, 0, 64 * r.index + k))
    ++ (s.vm.limits.map fun c => (c.owner, 1, c.bucket)) ++ (s.vm.terminals.map fun t => (t.owner, 1, t.bucket))
    ++ (s.vm.tickets.map fun t => (t.owner, 2, t.bucket))

/-- What a change of the records writes: each changed line, and for its chunk the mark and the commit number of the
newest set applied to it (R213, R216). -/
def LineStore.after (before after : State) : LineStore :=
  (((usedLines before ++ usedLines after).dedup).filter fun c =>
      areaLine before c.1 c.2.1 c.2.2 != areaLine after c.1 c.2.1 c.2.2).foldl (fun st c =>
    let k := chunkAt after c.1 c.2.1 c.2.2
    let st := st.write (lineAddr after c.1 c.2.1 c.2.2) (areaLine after c.1 c.2.1 c.2.2)
    { st with dirty := if st.dirty.contains k then st.dirty else k :: st.dirty, commits := st.commits.put k after.vm.commitNo })
    after.vm.store

/-- Write the lines that a change of the records touches. -/
def syncVault (before after : State) : State :=
  { after with vm := { after.vm with store := LineStore.after before after } }

/-- The store after the places or addresses of the records have changed: every line is written where it now lies, and
both regions take a whole image (R194, R195). (DESIGN CHOICE, log 58) -/
def relayStore (s : State) : State :=
  let st : LineStore := { s.vm.store with
    lines := [], tree := [], dirty := [], dirtyOld := [], full := 2, commits := [], floor := s.vm.commitNo }
  { s with vm := { s.vm with store := (usedLines s).dedup.foldl (fun st c =>
    st.write (lineAddr s c.1 c.2.1 c.2.2) (areaLine s c.1 c.2.1 c.2.2)) st } }

/-- Commit number of the newest set applied to a chunk (R213). -/
def LineStore.commitOf (st : LineStore) (k : Nat) : Nat := max st.floor (st.commits.atD k 0)

/-- PENDING entries are dropped (R209). -/
def dropPending (s : State) : State :=
  syncVault s { s with vm := { s.vm with tickets := s.vm.tickets.filter fun t => !t.pending } }

/-- A set is applied: the commit number moves on, and its lines are written (R211). -/
def commitSet (before after : State) : State :=
  syncVault before { after with vm := { after.vm with commitNo := after.vm.commitNo + 1 } }

/-! ### Bad lines (R188) -/

/-- The controller has found a line bad that an access to this key of an area reads. -/
def keyBad (s : State) (o area key : Nat) : Bool :=
  s.vm.store.bad.any fun a =>
    a == lineAddr s o area (areaCandidates s o area key).1 || a == lineAddr s o area (areaCandidates s o area key).2

/-- A line of a KEYS record is bad. -/
def recordBad (s : State) (o index : Nat) : Bool :=
  s.vm.store.bad.any fun a => (List.range 64).any fun k => a == lineAddr s o 0 (64 * index + k)

/-- A line that the records of a staged set need is bad. -/
def stagedBad (s : State) (i : Item) (l : List Staged) : Bool :=
  l.any fun x => match x with
    | .nonce t _ _ => keyBad s i.owner 1 (terminalKey t)
    | .limit id _ _ _ _ => keyBad s i.owner 1 (limitKey id)
    | .ticketInsert _ _ => keyBad s i.owner 2 (ticketKey 0 i.seq)
    | .ticketMove _ => keyBad s i.owner 2 (ticketKey 0 i.targetSeq)

end Sys2Proof.Machine
end

