-- ==== Sys2Proof/Machine/SignalBox.lean ====
section
/-! DEFINITION. The signal box (R481-R493): the slot map, the check of an access, the violation log, rule
writes, locks and the fence; and the gate that every host register access goes through (R464, R476, R483). -/

namespace Sys2Proof.Machine

/-- Permission codes of a level: R is bit 0, W is bit 1, X is bit 2 (R492). -/
def permR : Nat := 1
def permW : Nat := 2
def permX : Nat := 4

/-- One row of the slot map (R482). -/
structure SlotRow where
  slot : Nat
  base : Nat
  size : Nat
  pl0 : Nat
  pl1 : Nat
  pl2 : Nat
  pl3 : Nat
  deriving DecidableEq, Repr

def blockRow (k : Nat) : SlotRow := { slot := k, base := k * 0x10000, size := 0x10000, pl0 := 3, pl1 := 3, pl2 := 0, pl3 := 3 }

def mailboxRow (k : Nat) : SlotRow :=
  { slot := 32 + k, base := 0x300000000 + k * 0x10000, size := 0x10000, pl0 := 0, pl1 := 3, pl2 := 3, pl3 := 0 }

/-- The slot map (R482). -/
def slotMap : List SlotRow :=
  (List.range 15).map blockRow ++
  [ { slot := 16, base := 0x0000F0000, size := 0x10000, pl0 := 0, pl1 := 3, pl2 := 0, pl3 := 3 },
    { slot := 17, base := 0x100000000, size := 0x40000, pl0 := 5, pl1 := 0, pl2 := 0, pl3 := 0 },
    { slot := 18, base := 0x100040000, size := 0x4000, pl0 := 3, pl1 := 1, pl2 := 0, pl3 := 0 },
    { slot := 19, base := 0x100080000, size := 0x4000, pl0 := 1, pl1 := 0, pl2 := 0, pl3 := 0 },
    { slot := 20, base := 0x100100000, size := 0x80000, pl0 := 3, pl1 := 0, pl2 := 0, pl3 := 0 },
    { slot := 21, base := 0x101000000, size := 0x800000, pl0 := 3, pl1 := 5, pl2 := 0, pl3 := 0 },
    { slot := 22, base := 0x102000000, size := 0x400000, pl0 := 3, pl1 := 3, pl2 := 0, pl3 := 0 },
    { slot := 23, base := 0x104000000, size := 0x1000000, pl0 := 0, pl1 := 3, pl2 := 0, pl3 := 0 },
    { slot := 24, base := 0x105000000, size := 0x100000, pl0 := 0, pl1 := 1, pl2 := 0, pl3 := 0 },
    { slot := 25, base := 0x105100000, size := 0x40000, pl0 := 3, pl1 := 3, pl2 := 0, pl3 := 0 },
    { slot := 26, base := 0x200000000, size := 0x10000000, pl0 := 3, pl1 := 3, pl2 := 0, pl3 := 0 },
    { slot := 27, base := 0x1000000000, size := 0x10000000, pl0 := 0, pl1 := 3, pl2 := 0, pl3 := 0 },
    { slot := 28, base := 0x400000000, size := 0x1000, pl0 := 3, pl1 := 3, pl2 := 0, pl3 := 0 },
    { slot := 29, base := 0x400010000, size := 0x10000, pl0 := 3, pl1 := 1, pl2 := 0, pl3 := 0 },
    { slot := 30, base := 0x400020000, size := 0x1000, pl0 := 0, pl1 := 3, pl2 := 0, pl3 := 0 } ]
  ++ (List.range 7).map mailboxRow

/-- The slots that the firmware locks at step 0x0E (R482, R485). -/
def lockedAtStart : List Nat := [17, 18, 19, 20, 21, 29]

def rowOf (slot : Nat) : Option SlotRow := slotMap.find? fun r => r.slot == slot

/-- The ceiling of a slot in the layout of SIGBOX_RULE; 0 for a reserved slot (R492). -/
def ceilOf (slot : Nat) : BitVec 12 :=
  match rowOf slot with
  | some r => BitVec.ofNat 12 (r.pl3 * 512 + r.pl2 * 64 + r.pl1 * 8 + r.pl0)
  | none => 0

/-- The rule in force for a slot; its ceiling at reset (R483). -/
def ruleOf (s : State) (slot : Nat) : BitVec 12 := s.box.rules.atD slot (ceilOf slot)

/-- The permissions a rule gives a level. -/
def levelOf (rule : BitVec 12) (pl : Nat) : Nat := (rule.extractLsb' (3 * pl) 3).toNat

def kindPerm : BoxKind → Nat
  | .read => permR
  | .write => permW
  | .fetch => permX

/-- The rule grants the access's kind to its level (R483). -/
def grants (rule : BitVec 12) (pl : Nat) (k : BoxKind) : Bool := levelOf rule pl &&& kindPerm k != 0

/-- The slot that holds an address, if any. -/
def slotAt (addr : Nat) : Option SlotRow :=
  slotMap.find? fun r => decide (r.base ≤ addr) && decide (addr < r.base + r.size)

def kindCode : BoxKind → Nat
  | .read => 0
  | .write => 1
  | .fetch => 2

/-- Enter a forbidden part in the violation log: identical to the newest entry, it is counted there;
otherwise a new entry (R490, R491). (DEDUCED, log 21) -/
def logViolation (initiator pl slot addr len : Nat) (kind : BitVec 8) (s : State) : State :=
  let ev := fun (q : Nat) => event 0x0D01 0 [(4, q), (1, slot), (1, initiator), (1, kind.toNat)]
  let fresh := fun (_ : Unit) =>
    let q := s.box.vlogSeq + 1
    let e : Violation := { time := s.clk.run, addr := addr, seq := q, len := len, slot := slot
                           initiator := initiator, pl := pl, kind := kind, rep := 0, gen := s.box.gen }
    ev q { s with box := { s.box with vlog := (e :: s.box.vlog).take 64, vlogSeq := q } }
  match s.box.vlog with
  | n :: rest =>
    if n.initiator = initiator ∧ n.slot = slot ∧ n.kind = kind ∧ n.addr = addr then
      ev n.seq { s with box := { s.box with vlog := { n with rep := min (n.rep + 1) 0xFFFF } :: rest } }
    else fresh ()
  | [] => fresh ()

/-! ### Host register accesses -/

/-- PF0's functions answer: out of reset, the link trained, and the firmware or the ROM serving (R39, R459). -/
def hostOpen (s : State) : Bool :=
  alive s && !s.link.perst && s.link.trained && (s.sys.firmwareUp || s.link.rom)

/-- The interfaces behave as in HELD: HELD itself, and the ROM-served mode (R464). -/
def heldGate (s : State) : Bool := s.sys.state == .held || s.link.rom

/-- Registers that can be read in HELD (R464). -/
def heldReadable (off : Nat) : Bool :=
  decide (off < 0x28) || off / 0x10000 == 0xA || off / 0x10000 == 0xB || off / 0x10000 == 0xD

/-- The slot of a BAR0 offset (R482): the bulk window is slot 16. -/
def barSlot (off : Nat) : Nat := if off / 0x10000 = 15 then 16 else off / 0x10000

/-- A host write that the signal box and the device state let through runs; one that the rule of its slot
forbids is dropped and logged as imprecise (R483, R488, R489); one that the state forbids is dropped
(R464, R476). `inHeld` and `inStabled` mark the writes that those states accept. -/
def hostWriteIn (inHeld inStabled : Bool) (off len : Nat) (f : State → State) (s : State) : State :=
  if !hostOpen s then s
  else if !grants (ruleOf s (barSlot off)) 3 .write then logViolation 5 3 (barSlot off) off len 0x05 s
  else if (heldGate s && !inHeld) || (s.sys.state == .stabled && !inStabled) then s
  else f s

/-- A host register write with no exception in HELD or STABLED. -/
def hostWrite (off len : Nat) (f : State → State) (s : State) : State := hostWriteIn false false off len f s

/-- A host register read: the value goes out, zeros where the rule or the state forbids it (R464, R476, R489). -/
def hostRead (off len : Nat) (f : State → Nat × State) (s : State) : State :=
  if !hostOpen s then s
  else if !grants (ruleOf s (barSlot off)) 3 .read then
    emit (.regData off 0) (logViolation 5 3 (barSlot off) off len 0x00 s)
  else if heldGate s && !heldReadable off then emit (.regData off 0) s
  else if off / 0x10000 = 15 then emit (.regData off 0) s
  else emit (.regData off (f s).1) (f s).2

/-! ### Accesses that enter the signal box (R481, R486, R488, R489) -/

/-- The privilege level of an initiator (R481). -/
def levelNow (s : State) (initiator : Nat) : Nat :=
  if initiator ≤ 4 then (if s.sys.firmwareUp then 1 else 0) else if initiator = 5 then 3 else if initiator = 6 then 0 else 2

/-- The initiator exists, and the access carries its level (R481). -/
def plAllowed (s : State) (initiator pl : Nat) : Bool :=
  (decide (initiator ≤ 6) || (decide (8 ≤ initiator) && decide (initiator ≤ 14))) && pl == levelNow s initiator

/-- The end of the part that begins at an address: the end of its slot, or the base of the next slot (R488). -/
def partEnd (addr stop : Nat) : Nat :=
  match slotAt addr with
  | some r => min stop (r.base + r.size)
  | none => slotMap.foldl (fun m r => if addr < r.base then min m r.base else m) stop

/-- The parts of an access in ascending order: slot (none for no slot), address, length. -/
def partsOf : Nat → Nat → Nat → List (Option Nat × Nat × Nat)
  | 0, _, _ => []
  | fuel + 1, addr, stop =>
    if stop ≤ addr then []
    else
      let e := partEnd addr stop
      ((slotAt addr).map (·.slot), addr, e - addr) :: partsOf fuel e stop

/-- A part is allowed when its slot's rule grants it; no slot grants nothing (R482). -/
def partOk (s : State) (a : BoxAccess) (p : Option Nat × Nat × Nat) : Bool :=
  match p.1 with
  | some k => grants (ruleOf s k) a.pl a.kind
  | none => false

/-- KIND of the log entry of a forbidden part (R490). (DEDUCED, log 21) -/
def violationKind (a : BoxAccess) (split anyOk : Bool) : BitVec 8 :=
  BitVec.ofNat 8 (kindCode a.kind + (if a.posted && a.kind == .write then 4 else 0)
    + (if split then 8 else 0) + (if anyOk then 16 else 0))

/-- Whether the initiator of a forbidden part gets an error response (R488, R489). -/
def partError (a : BoxAccess) : Bool :=
  match a.kind with
  | .read => a.initiator != 5
  | .write => !a.posted
  | .fetch => true

def doSignalBoxAccess (a : BoxAccess) (s : State) : State :=
  let ps := partsOf 80 a.addr (a.addr + a.len)
  let split := decide (1 < ps.length)
  let anyOk := ps.any (partOk s a)
  ps.foldl (fun st p =>
    if partOk s a p then emit (.boxReply a.initiator true false) st
    else emit (.boxReply a.initiator false (partError a))
      (logViolation a.initiator a.pl (p.1.getD 0xFF) p.2.1 p.2.2 (violationKind a split anyOk) st)) s

/-- R486-R491: each part is checked once, under the rule in force when the access enters. -/
def execSignalBoxAccess (a : BoxAccess) (s : State) : Res :=
  .next (when (alive s && plAllowed s a.initiator a.pl) (doSignalBoxAccess a) s)

/-! ### Rules and locks (R484, R485) -/

/-- No field of a rule exceeds the ceiling's. -/
def within (v c : BitVec 12) : Bool := v &&& c == v

/-- The ERR of a rule write, 0 where every condition of R484 holds. (DEDUCED, log 21) -/
def ruleErr (s : State) (slot pl : Nat) (v : BitVec 12) : Nat :=
  let old := ruleOf s slot
  let c := ceilOf slot
  if s.box.lock.getLsbD slot then 1
  else if !within v c || v.extractLsb' 0 3 != c.extractLsb' 0 3 then 2
  else if pl = 3 && (v.extractLsb' 0 9 != old.extractLsb' 0 9 || !within v old) then 3
  else if (rowOf slot).isNone then 4
  else 0

def doSigboxRuleWrite (initiator pl : Nat) (v : W32) (s : State) : State :=
  let slot := s.box.sel
  let r := v.extractLsb' 0 12
  let e := ruleErr s slot pl r
  if e ≠ 0 then event 0x0D03 0 [(1, slot), (1, initiator), (1, e)] { s with box := { s.box with err := e } }
  else
    let old := ruleOf s slot
    let g := (s.box.gen + 1) % 2 ^ 32
    event 0x0D02 0 [(1, slot), (2, old.toNat), (2, r.toNat), (1, initiator), (4, g)]
      { s with box := { s.box with rules := s.box.rules.put slot r, gen := g } }

/-- A register access of the SIGBOX block by any initiator: the host's goes through the host gate, a core's
through the rule of slot 12 at its level (R483). -/
def boxRegWrite (initiator pl off : Nat) (f : State → State) (s : State) : State :=
  if !alive s || !plAllowed s initiator pl then s
  else if initiator = 5 then hostWrite off 4 f s
  else if grants (ruleOf s 12) pl .write then f s
  else logViolation initiator pl 12 off 4 0x05 s

def execSigboxRuleWrite (initiator pl : Nat) (v : W32) (s : State) : Res :=
  .next (boxRegWrite initiator pl 0xC0004 (doSigboxRuleWrite initiator pl v) s)

/-- Set the lock of one slot; a lock that is set already stays and records nothing (R485, R563). -/
def lockSlot (initiator slot : Nat) (s : State) : State :=
  if s.box.lock.getLsbD slot then s
  else event 0x0D04 0 [(1, slot), (1, initiator)]
    { s with box := { s.box with lock := s.box.lock ||| ((1 : BitVec 64) <<< slot) } }

def doSigboxLockWrite (initiator : Nat) (bank : Fin 2) (v : W32) (s : State) : State :=
  (List.range 32).foldl (fun st i => if v.getLsbD i then lockSlot initiator (32 * bank.val + i) st else st) s

def execSigboxLockWrite (initiator : Nat) (bank : Fin 2) (v : W32) (s : State) : Res :=
  .next (boxRegWrite initiator (if initiator = 5 then 3 else 1) (0xC0020 + 4 * bank.val)
    (doSigboxLockWrite initiator bank v) s)

/-- R487: the fence read waits. -/
def doSigboxFence (initiator : Nat) (s : State) : State :=
  { s with box := { s.box with fence := s.box.fence ++ [initiator] } }

/-- A fence read by the host needs its R permission of slot 12 (R489); a core's needs its level's. -/
def execSigboxFence (initiator : Nat) (s : State) : Res :=
  .next (
    let pl := levelNow s initiator
    if initiator = 5 then
      (if !hostOpen s then s
       else if !grants (ruleOf s 12) 3 .read then
         emit (.regData 0xC0030 0) (logViolation 5 3 12 0xC0030 4 0x00 s)
       else if heldGate s then emit (.regData 0xC0030 0) s
       else doSigboxFence initiator s)
    else if !alive s || !plAllowed s initiator pl then s
    else if grants (ruleOf s 12) pl .read then doSigboxFence initiator s
    else emit (.boxReply initiator false true) (logViolation initiator pl 12 0xC0030 4 0x00 s))

/-- R487: every access checked under an older rule has completed, and the oldest fence read returns SIGBOX_GEN. -/
def doFenceComplete (s : State) : State :=
  match s.box.fence with
  | [] => s
  | k :: rest =>
    let s := emit (.regData 0xC0030 s.box.gen) { s with box := { s.box with fence := rest } }
    if k = 5 then s else emit (.boxReply k true false) s

def execFenceComplete (s : State) : Res := .next (doFenceComplete s)

end Sys2Proof.Machine
end

