-- ==== Sys2Proof/Machine/Rings.lean ====
section
/-! DEFINITION. Rings and the PCIe link (R37-R76, R564): doorbells, fetches, set-up, completions, output
rings, interrupts, and what happens to work when a ring or a function goes away. -/

namespace Sys2Proof.Machine

/-! ### Interrupts (R67, R68) -/

def gvec (func vec : Nat) : Nat := 32 * func + vec

/-- (HOLDOFF, COUNT) of a vector; reset values 0 and 1. -/
def modOf (s : State) (g : Nat) : Nat × Nat := s.link.mods.atD g (0, 1)

/-- A vector fires: its pending count is cleared, and the message is sent or, while it is masked, its pending
bit is set (R67). -/
def fireVector (func vec : Nat) (s : State) : State :=
  let g := gvec func vec
  let s := { s with link := { s.link with pend := s.link.pend.del g } }
  if s.link.unmasked.contains g then emit (.msix func vec) s
  else { s with link := { s.link with pba := if s.link.pba.contains g then s.link.pba else g :: s.link.pba } }

/-- A completion is written while its vector is masked: the pending bit is set (R67). -/
def notePending (g : Nat) (s : State) : State :=
  if s.link.unmasked.contains g || s.link.pba.contains g then s
  else { s with link := { s.link with pba := g :: s.link.pba } }

/-- A completion is written on a vector: it fires at once with IRQ, at HOLDOFF 0, or when COUNT is
reached (0 counts as 1); otherwise the completion is pending (R67, R68). -/
def noteCompletion (func vec : Nat) (irq : Bool) (s : State) : State :=
  let g := gvec func vec
  let s := notePending g s
  let n := s.link.pend.atD g 0 + 1
  let m := modOf s g
  if irq || m.1 == 0 || decide (max m.2 1 ≤ n) then fireVector func vec s
  else { s with link := { s.link with pend := s.link.pend.put g n } }

/-- The hold-off of a vector with pending completions has passed (R67). -/
def execVectorHoldoff (func vec : Nat) (s : State) : Res :=
  .next (when (decide (0 < s.link.pend.atD (gvec func vec) 0)) (fireVector func vec) s)

/-- The vector is unmasked; a pending message is sent and its pending bit cleared (R67). -/
def doVectorUnmask (func vec : Nat) (s : State) : State :=
  let g := gvec func vec
  let s := { s with link := { s.link with
    unmasked := if s.link.unmasked.contains g then s.link.unmasked else g :: s.link.unmasked } }
  if s.link.pba.contains g then
    emit (.msix func vec) { s with link := { s.link with pba := s.link.pba.filter fun x => x != g } }
  else s

/-- The function exists: PF0 or an enabled VF. -/
def funcOn (s : State) (f : Nat) : Bool := decide (f ≤ s.link.numVFs) && decide (f ≤ 63)

def execVectorUnmask (func vec : Nat) (s : State) : Res :=
  .next (when (hostOpen s && funcOn s func && decide (vec < 32)) (doVectorUnmask func vec) s)

/-! ### Completion entries (R59, R61) -/

/-- The 32 bytes of a completion entry. -/
def completionBytes (status detail tag : Nat) (phase receipt untrusted : Bool) (seq t dep : Nat) : Bytes :=
  le 1 status
    ++ le 1 ((if untrusted then 1 else 0) + (if receipt then 2 else 0) + (if phase then 128 else 0))
    ++ le 2 detail ++ le 4 tag ++ le 8 seq ++ le 8 t ++ le 8 dep

def doneBytes (d : Done) (phase : Bool) : Bytes :=
  match d.stamp with
  | some st => completionBytes d.status.code d.detail d.tag phase d.receipt.isSome d.untrusted st.seq st.t st.dep
  | none => completionBytes d.status.code d.detail d.tag phase d.receipt.isSome d.untrusted allOnes64 0 allOnes64

/-- Count the rule-counter marks of an applied run (R509, event 0x10). -/
def countMarks (owner : Nat) (m : BitVec 16) (s : State) : State :=
  (List.range 16).foldl (fun st i => if m.getLsbD i then bump 0x10 [i] owner 1 st else st) s

/-- A STOPPING ring becomes STOPPED when its last completion is written (R74). -/
def settleStop (r : Nat) (s : State) : State :=
  let x := ringOf s r
  if x.state == .stopping && x.next == x.tail && x.fetch == x.tail then
    mapRing r (fun x => { x with state := .stopped }) s
  else s

/-- Forget what was kept for a completed wager: the anchor copy (R88) and the kept commit outcome (R139). -/
def dropItem (seq : Nat) (s : State) : State :=
  { s with
    adm := { s.adm with items := s.adm.items.filter fun i => i.seq != seq }
    vm := { s.vm with kept := s.vm.kept.filter fun k => k.seq != seq } }

/-- R64, R66: the completion of the next descriptor in ring order is written, after its receipt, and any
interrupt follows it. (DESIGN CHOICE, log 13) -/
def doCompletionWrite (r : Nat) (s : State) : State :=
  let x := ringOf s r
  if !(x.state == .running || x.state == .stopping) then s
  else
    match x.fin.find? fun d => d.idx == x.next with
    | none => s
    | some d =>
      let s := match d.receipt with
        | some b => emit (.dma x.func (x.rbase + 64 * d.idx) b) s
        | none => s
      let s := emit (.dma x.func (x.cqbase + 32 * d.idx) (doneBytes d x.phase)) s
      let nxt := (x.next + 1) % x.size
      let s := mapRing r (fun x => { x with
        fin := x.fin.filter fun e => e.idx != d.idx
        next := nxt, phase := if nxt = 0 then !x.phase else x.phase }) s
      let s := bump 0x02 [0xFF, d.status.code] x.func 1 s
      let s := countMarks x.func d.marks s
      let s := match d.stamp with
        | some st => dropItem st.seq s
        | none => s
      settleStop r (noteCompletion x.func x.vector d.irq s)

def execCompletionWrite (ring : Nat) (s : State) : Res := .next (doCompletionWrite ring s)

/-! ### Doorbells (R42, R43, R53-R55) -/

/-- The ring that a doorbell slot names: PF0 BAR2 by number, a VF BAR0 by local index (R43). Where two rings of a VF
that are not FREE hold one local index, it is the one of the lowest number. (DESIGN CHOICE, log 54) -/
def doorbellRing (s : State) (bar : DoorbellBar) (slot : Nat) : Option Nat :=
  match bar with
  | .pf0Bar2 => if slot < 8192 then some slot else none
  | .vfBar0 f => (s.rings.tbl.find? fun (p : Nat × Ring) =>
      p.2.func == f && p.2.localIdx == slot && p.2.state != .free && f != 0).map (·.1)

/-- The cause by which R54 ignores a doorbell, 0 where it is accepted. The lowest code is reported where
several hold. (DEDUCED, log 16) -/
def doorbellCause (x : Ring) (bar : DoorbellBar) (v : W32) (single : Bool) : Nat :=
  if (v.extractLsb' 16 16).toNat ≠ x.epoch then 1
  else if x.size ≤ (v.extractLsb' 0 16).toNat then 2
  else if x.state ≠ .running then 3
  else if !single then 4
  else if bar == .pf0Bar2 && x.func != 0 then 5
  else 0

/-- R54, R76: an ignored doorbell is counted; the first after a quiet second of operation records event 0x0205, under
the function that owns the ring. -/
def rejectDoorbell (ring cause : Nat) (s : State) : State :=
  let quiet := match s.rings.dbQuietSince with
    | none => true
    | some t => decide (t + 10 ^ 9 ≤ s.clk.upNs)
  let s := { s with rings := { s.rings with
    dbReject := sat32 (s.rings.dbReject + 1), dbQuietSince := some s.clk.upNs } }
  if quiet then event 0x0205 (ringOf s ring).func [(2, ring), (1, cause)] s else s

/-- The LEDGER slots that a doorbell passes, n from slot `tail` of a ring of `size` entries, make their departures
durable (R49, R91). -/
def ackLedger (tail size n : Nat) (s : State) : State :=
  let passed := fun (p : Nat × Nat × Nat) => decide ((p.1 + size - tail) % size < n)
  match (s.dep.posted.filter passed).getLast? with
  | none => s
  | some (_, d, q) =>
    { s with
      dep := { s.dep with posted := s.dep.posted.filter fun p => !passed p, durable := some d }
      adm := { s.adm with durSeq := some q } }

/-- The slots of a LEDGER ring that goes away or starts anew are acknowledged by no later doorbell (R49). -/
def forgetPosted (cls : Nat) (s : State) : State :=
  if cls = 3 then { s with dep := { s.dep with posted := [] } } else s

/-- R91: the span by which the next number runs ahead of the durable ones. -/
def span (s : State) : Nat := s.adm.nextSeq - (s.adm.durSeq.getD (s.adm.firstSeq - 1))

def spanResume (s : State) : State :=
  if span s ≤ 2 ^ 31 then { s with adm := { s.adm with spanSeen := false } } else s

/-- An accepted doorbell moves the tail, or returns slots (R53). -/
def acceptDoorbell (r idx : Nat) (s : State) : State :=
  let x := ringOf s r
  let n := (idx + x.size - x.tail) % x.size
  let s := setRing r { x with tail := idx } s
  if x.cls = 3 then spanResume (ackLedger x.tail x.size n s) else s

/-- A slot that names no ring is reported as ring 0xFFFF. (DESIGN CHOICE, log 54) -/
def doDoorbell (bar : DoorbellBar) (slot : Nat) (v : W32) (single : Bool) (s : State) : State :=
  let r := (doorbellRing s bar slot).getD 0xFFFF
  let c := doorbellCause (ringOf s r) bar v single
  if c ≠ 0 then rejectDoorbell r c s else acceptDoorbell r (v.extractLsb' 0 16).toNat s

/-- In HELD and while the ROM serves, doorbells are ignored (R464). -/
def execDoorbell (bar : DoorbellBar) (slot : Nat) (v : W32) (single : Bool) (s : State) : Res :=
  .next (when (hostOpen s && !heldGate s &&
    (match bar with
     | .pf0Bar2 => true
     | .vfBar0 f => funcOn s f && f != 0)) (doDoorbell bar slot v single) s)

/-! ### Fetches (R46, R83, R84, R564) -/

def isSubmission (cls : Nat) : Bool := decide (cls ≤ 2)

/-- A ring that may fetch: RUNNING (or STOPPING, to read the descriptors that complete with RING_STOPPED), with
descriptors before the tail, of a bus-master function, while fetching is not stopped. -/
def mayFetch (s : State) (r : Nat) : Bool :=
  let x := ringOf s r
  isSubmission x.cls && (x.state == .running || x.state == .stopping) && x.fetch != x.tail
    && decide (s.adm.fetched.length < 16) && s.link.bme.getLsbD x.func && inService s && !s.adm.stopFetch

/-- The read of the next descriptor carries the requester ID of the ring's function (R38). -/
def readDescriptor (r : Nat) (s : State) : State :=
  let x := ringOf s r
  emit (.dmaRead x.func (x.qbase + 64 * x.fetch) 64) s

/-- The source buffer is read once, with the requester ID of the ring's function (R38, R46); an INLINE input has none,
and a STOPPING ring's descriptors are read without it (R74). -/
def readSource (r : Nat) (desc : BitVec 512) (s : State) : State :=
  let x := ringOf s r
  if dInline desc || x.state == .stopping then s else emit (.dmaRead x.func (dSrcAddr desc) (dSrcLen desc)) s

/-- The last byte of a record is written into anchor SRAM (R83); fewer than 16 are in flight (R84). (DESIGN CHOICE, log 13) -/
def doRecordFetched (r : Nat) (desc : BitVec 512) (src : SourceRead) (s : State) : State :=
  let x := ringOf s r
  let s := readSource r desc (readDescriptor r s)
  let s := { s with adm := { s.adm with
    fetched := s.adm.fetched ++ [{ ring := r, gen := x.gen, idx := x.fetch, desc := desc, src := src
                                   step := s.clk.upNs / 10 }] } }
  setRing r { x with fetch := (x.fetch + 1) % x.size } s

def execRecordFetched (ring : Nat) (desc : BitVec 512) (src : SourceRead) (s : State) : Res :=
  .next (when (mayFetch s ring) (doRecordFetched ring desc src) s)

/-- Descriptors of a ring that are fetched and not admitted are dropped (R75). -/
def dropFetched (r : Nat) (s : State) : State :=
  { s with adm := { s.adm with fetched := s.adm.fetched.filter fun f => f.ring != r } }

/-- The event concerns the function that owns the ring (R494). -/
def doDescriptorFetchError (r : Nat) (s : State) : State :=
  event 0x0201 (ringOf s r).func [(2, r)]
    (mapRing r (fun x => { x with state := .error, lastErr := 0x0A, fin := [] }) (dropFetched r (readDescriptor r s)))

/-- R75, R564: a DMA error on the descriptor array. -/
def execDescriptorFetchError (ring : Nat) (s : State) : Res :=
  .next (when (mayFetch s ring) (doDescriptorFetchError ring) s)

/-! ### Set-up (R69-R74) -/

def configurable (x : Ring) : Bool :=
  x.state == .free || x.state == .configured || x.state == .stopped

/-- The new configuration of a ring after a write of one register (R69, R70). -/
def writeRingReg (x : Ring) (r : RingReg) (v : W64) : Ring :=
  match r with
  | .cfg => { x with
      vector := (v.extractLsb' 24 5).toNat, func := (v.extractLsb' 16 6).toNat
      log2 := (v.extractLsb' 8 5).toNat, cls := (v.extractLsb' 0 3).toNat
      state := if x.state == .free then .configured else x.state }
  | .localIndex => { x with localIdx := (v.extractLsb' 0 11).toNat }
  | .epoch => { x with epoch := (v.extractLsb' 0 16).toNat }
  | .qbase => { x with qbase := (v.extractLsb' 12 52).toNat * 4096 }
  | .cqbase => { x with cqbase := (v.extractLsb' 12 52).toNat * 4096 }
  | .rbase => { x with rbase := (v.extractLsb' 12 52).toNat * 4096 }

def ringRegOff : RingReg → Nat
  | .cfg => 0x10004 | .localIndex => 0x10008 | .epoch => 0x1000C
  | .qbase => 0x10010 | .cqbase => 0x10018 | .rbase => 0x10020

/-- R70: in any other state the write is dropped and sets LAST_ERR 0x09. -/
def doRingConfigWrite (r : RingReg) (v : W64) (s : State) : State :=
  mapRing s.rings.sel (fun x => if configurable x then writeRingReg x r v else { x with lastErr := 0x09 }) s

def execRingConfigWrite (r : RingReg) (v : W64) (s : State) : Res :=
  .next (hostWrite (ringRegOff r) 8 (doRingConfigWrite r v) s)

/-- The class is allowed for the owning function (R44). -/
def classAllowed (x : Ring) : Bool :=
  match x.cls with
  | 0 => x.func != 0
  | 1 => x.func != 0
  | 2 => true
  | 3 => x.func == 0
  | 4 => x.func != 0
  | 5 => true
  | _ => false

/-- A ring other than r that is RUNNING or STOPPING. -/
def otherLive (s : State) (r : Nat) (p : Ring → Bool) : Bool :=
  s.rings.tbl.any fun e => e.1 != r && (e.2.state == .running || e.2.state == .stopping) && p e.2

/-- Bytes of a slot of the data or descriptor array (R44). -/
def slotBytes (cls : Nat) : Nat := if cls = 3 ∨ cls = 4 then 4096 else 64

def disjoint (a la b lb : Nat) : Bool := decide (a + la ≤ b) || decide (b + lb ≤ a)

/-- No base register is 0 and the arrays do not overlap (R71, 0x03). -/
def arraysOk (x : Ring) : Bool :=
  x.qbase != 0 && x.cqbase != 0 && disjoint x.qbase (x.size * slotBytes x.cls) x.cqbase (x.size * 32)
    && (x.cls != 0 || (x.rbase != 0 && disjoint x.rbase (x.size * 64) x.qbase (x.size * 64)
        && disjoint x.rbase (x.size * 64) x.cqbase (x.size * 32)))

/-- The device state allows the class (R71, 0x07). -/
def stateAllows (s : State) (cls : Nat) : Bool :=
  inService s || (s.sys.state == .restoring && decide (3 ≤ cls))

/-- The LAST_ERR of a START, 0 where every check of R71 passes; the lowest code where several fail. (DESIGN CHOICE, log 54) -/
def startErr (s : State) (r : Nat) : Nat :=
  let x := ringOf s r
  if !classAllowed x then 0x01
  else if (x.cls == 3 && otherLive s r fun y => y.cls == 3)
      || (x.cls == 4 && otherLive s r fun y => y.cls == 4 && y.func == x.func)
      || (x.cls == 5 && otherLive s r fun y => y.cls == 5 && y.func == x.func) then 0x02
  else if !arraysOk x then 0x03
  else if x.cls ≤ 1 ∧ (ringIs s 4 x.func .running).isNone then 0x04
  else if x.cls ≤ 1 ∧ (ringIs s 3 0 .running).isNone then 0x05
  else if x.func != 0 && (decide (s.link.numVFs < x.func)
      || s.rings.tbl.any fun e => e.1 != r && e.2.state != .free && e.2.func == x.func && e.2.localIdx == x.localIdx) then 0x06
  else if !stateAllows s x.cls then 0x07
  else if x.log2 < 6 ∨ 16 < x.log2 then 0x08
  else if x.cls ≤ 1 ∧ ((ownerOf s x.func).relaying || (ownerOf s x.func).enrolled == 0) then 0x0C
  else 0

/-- R71, R95: RUNNING with both indices 0, PHASE 1 and a full token bucket, or ERROR with the code. In any other state
START changes nothing. (DESIGN CHOICE, log 54) -/
def doStart (s : State) : State :=
  let r := s.rings.sel
  let x := ringOf s r
  if !(x.state == .configured || x.state == .stopped) then s
  else
    let e := startErr s r
    if e ≠ 0 then setRing r { x with state := .error, lastErr := e } s
    else forgetPosted x.cls (setRing r { x with state := .running, tail := 0, fetch := 0, next := 0, phase := true, fin := []
                                                tokens := x.burst, gen := x.gen + 1 } s)

def execStart (s : State) : Res := .next (hostWrite 0x10028 4 doStart s)

/-- R73: STOP of a LEDGER ring, or of a JOURNAL ring whose VF has a RUNNING WAGER or QUERY ring. -/
def stopRefused (s : State) (x : Ring) : Bool :=
  x.cls == 3 || (x.cls == 4 && ((ringIs s 0 x.func .running).isSome || (ringIs s 1 x.func .running).isSome))

/-- R73, R74: a submission ring goes to STOPPING, an output ring to STOPPED at once. A ring that is not RUNNING and
whose STOP is not refused stays as it is. (DESIGN CHOICE, log 54) -/
def doStop (s : State) : State :=
  let r := s.rings.sel
  let x := ringOf s r
  if stopRefused s x then setRing r { x with lastErr := 0x09 } s
  else if x.state != .running then s
  else if isSubmission x.cls then settleStop r (setRing r { x with state := .stopping } s)
  else setRing r { x with state := .stopped } s

def execStop (s : State) : Res := .next (hostWrite 0x10028 4 doStop s)

/-- R72. A deleted ring keeps only its incarnation count, which is the model's own. (DEDUCED, log 16) -/
def doDelete (s : State) : State :=
  let r := s.rings.sel
  let x := ringOf s r
  if x.state == .stopped || x.state == .error then forgetPosted x.cls (setRing r { gen := x.gen + 1 } s)
  else setRing r { x with lastErr := 0x09 } s

def execDelete (s : State) : Res := .next (hostWrite 0x10028 4 doDelete s)

/-! ### Output rings (R47-R52, R61) -/

/-- A free slot of an output ring: one that the host has returned (R48). (DEDUCED, log 16) -/
def slotFree (x : Ring) : Bool := (x.fetch + 1) % x.size != x.tail

/-- Write one slot and its completion (R48, R61, R66). -/
def postSlot (r : Nat) (data : Bytes) (detail seq dep : Nat) (s : State) : State :=
  let x := ringOf s r
  let s := emit (.dma x.func (x.qbase + slotBytes x.cls * x.fetch) data) s
  let s := emit (.dma x.func (x.cqbase + 32 * x.fetch)
    (completionBytes 0 detail 0 x.phase false false seq s.clk.run dep)) s
  let nxt := (x.fetch + 1) % x.size
  let s := setRing r { x with fetch := nxt, phase := if nxt = 0 then !x.phase else x.phase } s
  noteCompletion x.func x.vector false (bump 0x02 [0xFF, 0] x.func 1 s)

/-- R28: output rings run in READY, DEGRADED and RESTORING, and in no other device state. -/
def outputsRun (s : State) : Bool := inService s || s.sys.state == .restoring

/-- The RUNNING output ring of a class and function that can take an entry now. -/
def outRing (s : State) (cls func : Nat) : Option Nat :=
  match ringIs s cls func .running with
  | some r => if outputsRun s && slotFree (ringOf s r) && s.link.bme.getLsbD func then some r else none
  | none => none

/-- R210: the owner's oldest closed journal block is posted to a returned JOURNAL slot. -/
def doJournalPost (o : Nat) (s : State) : State :=
  match outRing s 4 o, (ownerOf s o).closed with
  | some r, b :: rest =>
    let s := mapOwner o (fun w => { w with closed := rest }) s
    backlogCheck o (bump 0x05 [0] o b.bytes.length (postSlot r (padTo 4096 b.bytes) b.units b.seq b.dep s))
  | _, _ => s

def execJournalPost (owner : Nat) (s : State) : Res := .next (doJournalPost owner s)

/-- The 64 bytes of an event record on an EVENT ring: MAC reads 0 (R494). -/
def evSlot (e : Ev) : Bytes := evBytes e ++ zeros 6

/-- Post a frozen record to one function's EVENT ring, or count it as lost when no slot is free (R52). -/
def postEvent (func : Nat) (e : Ev) (s : State) : State :=
  match ringIs s 5 func .running with
  | none => s
  | some r =>
    if slotFree (ringOf s r) then postSlot r (evSlot e) 1 e.seq allOnes64 s
    else mapRing r (fun x => { x with lost := sat32 (x.lost + 1) }) s

/-- R502: the next frozen record in EVENT_SEQ order goes to PF0's ring and its owner's. -/
def doEventPost (s : State) : State :=
  let q := s.evt.posted + 1
  if s.evt.frozen < q then s
  else
    let s' := { s with evt := { s.evt with posted := q } }
    match s.evt.evs.find? fun e => e.seq == q with
    | none => s'
    | some e => let s' := postEvent 0 e s'
                if e.owner = 0 then s' else postEvent e.owner e s'

def execEventPost (s : State) : Res := .next (when (outputsRun s) doEventPost s)

/-! ### Loss of a function (R33, R75, R82) -/

/-- The sequence numbers of a ring's admitted descriptors whose completions are not written, and how many
admitted descriptors there are. -/
def discarded (s : State) (r : Nat) : Nat × List Nat :=
  let x := ringOf s r
  let items := (s.adm.items.filter fun i => i.ring == r && i.gen == x.gen && !(x.fin.any fun d => d.idx == i.idx)).map (·.seq)
  let works := (s.adm.work ++ s.adm.ends.filterMap (·.work) ++ (s.lanes.ops ++ s.lanes.queue).map (·.work) ++ (s.pk.ops ++ s.pk.queue).map (·.work) ++ s.pk.aborts.map (·.2)
      ++ s.rng.draws.map (·.work) ++ s.cards.ops.map (·.work)
      ++ s.vm.waiters ++ s.vm.ackWait ++ s.vm.sweeps.map (·.work) ++ s.vm.claims.map (·.work) ++ s.keys.sends.map (·.2)
      ++ (s.sys.selftestWork.map (·.1)).toList).filter
    fun w => w.ring == r && w.gen == x.gen
  let fins := x.fin.filterMap fun d => d.stamp.map (·.seq)
  (items.length + works.length + x.fin.length,
   items ++ fins ++ works.filterMap fun w => w.stamp.map (·.seq))

/-- Event 0x0202 with the ring, the discarded count and the first and last discarded sequence numbers; all
ones where none was sealed. -/
def discardEvent (r : Nat) (s : State) : State :=
  let (n, qs) := discarded s r
  let lo := qs.foldl min allOnes64
  let hi := if qs.isEmpty then allOnes64 else qs.foldl max 0
  event 0x0202 (ringOf s r).func [(2, r), (4, n), (8, lo), (8, hi)] s

/-- One ring of a reset function: unread descriptors dropped, results discarded, the ring deleted (R75). -/
def loseRing (r : Nat) (s : State) : State :=
  let s := dropFetched r (discardEvent r s)
  forgetPosted (ringOf s r).cls (setRing r { gen := (ringOf s r).gen + 1 } s)

/-- The rings of a function that are not FREE. -/
def ringsOf (s : State) (f : Nat) : List Nat :=
  (s.rings.tbl.filter fun e => e.2.func == f && e.2.state != .free).map (·.1)

/-- Function level reset of one function: its rings go, and its bus-master and MSI-X state is as after a
reset. -/
def flrOne (f : Nat) (s : State) : State :=
  let s := (ringsOf s f).foldl (fun st r => loseRing r st) s
  { s with link := { s.link with
    bme := s.link.bme &&& ~~~((1 : BitVec 64) <<< f)
    unmasked := s.link.unmasked.filter fun g => g / 32 != f
    pba := s.link.pba.filter fun g => g / 32 != f
    msix := s.link.msix.filter fun p => p.1 / 32 != f
    pend := s.link.pend.filter fun p => p.1 / 32 != f } }

def execFlrVf (func : Nat) (s : State) : Res :=
  .next (when (hostOpen s && func != 0 && funcOn s func) (flrOne func) s)

/-- NumVFs is reduced (or VF Enable cleared, 0): each removed VF as by FLR. -/
def doVfDisable (n : Nat) (s : State) : State :=
  let gone := (List.range (s.link.numVFs + 1)).filter fun f => decide (n < f)
  let s := gone.foldl (fun st f => flrOne f st) s
  { s with link := { s.link with numVFs := min n s.link.numVFs } }

def execVfDisable (numVFs : Nat) (s : State) : Res := .next (when (hostOpen s) (doVfDisable numVFs) s)

/-- CANCEL, FLR of PF0 and PERST_N end an OPEN or VERIFYING session as FAILED with ABORTED (R82); the failure
is recorded (R76). A load that waits for its checkpoint is dropped, and a restore under verification has failed (R209,
R227). (DEDUCED, log 26; DEDUCED, log 45) -/
def endBulk (st : Status) (s : State) : State :=
  let s := if s.vm.load.isNone then s else dropPending s
  event 0x0206 (if s.bulk.owner ≤ 63 then s.bulk.owner else 0) []
    { s with
      bulk := { s.bulk with state := .failed, result := st.code, data := [] }
      eng := { s.eng with waiting := none }
      vm := { s.vm with load := none, restore := if s.vm.restore = 2 then 5 else s.vm.restore } }

def bulkBusy (s : State) : Bool := s.bulk.state == .opened || s.bulk.state == .verifying

def abortBulk (s : State) : State := when (bulkBusy s) (endBulk .aborted) s

/-- FLR of PF0: every VF, PF0's rings, and the bulk session; the device state is unchanged (R75). -/
def doFlrPf0 (s : State) : State := abortBulk (flrOne 0 (doVfDisable 0 s))

def execFlrPf0 (s : State) : Res := .next (when (hostOpen s) doFlrPf0 s)

/-- PERST_N resets the interface and the functions and nothing else (R33, R75). -/
def doPerstNAssert (s : State) : State :=
  let s := when (s.sys.state != .off) doFlrPf0 s
  { s with link := { s.link with perst := true, trained := false, rom := false, mods := [], modSel := 0, ideKeys := none } }

def execPerstNAssert (s : State) : Res := .next (doPerstNAssert s)

/-- R39: training and retry-status timing start. -/
def execPerstNRelease (s : State) : Res := .next { s with link := { s.link with perst := false } }

def execLinkTrainingStart (s : State) : Res :=
  .next (when (alive s && !s.link.perst) (fun s => { s with link := { s.link with trained := true } }) s)

/-- R459: the ROM serves configuration requests while the firmware is not running. -/
def execRomConfigTakeover (s : State) : Res :=
  .next (when (alive s && !s.link.perst && !s.sys.firmwareUp)
    (fun s => { s with link := { s.link with rom := true } }) s)

/-- R39, R40, R464: retry status until the firmware or the ROM serves; VF Enable stays 0 in HELD. -/
def doConfigRequest (q : CfgRequest) (s : State) : State :=
  if !(s.sys.firmwareUp || s.link.rom) then emit .cfgRetry s
  else
    let s := emit .cfgServed s
    match q with
    | .other => s
    | .enableVFs n =>
      if heldGate s || 63 < n || n < s.link.numVFs then s else { s with link := { s.link with numVFs := n } }
    | .enableBusMaster f =>
      if funcOn s f then { s with link := { s.link with bme := s.link.bme ||| ((1 : BitVec 64) <<< f) } } else s

def execConfigRequest (q : CfgRequest) (s : State) : Res :=
  .next (when (alive s && !s.link.perst && s.link.trained) (doConfigRequest q) s)

/-- R37: the keys of the one IDE link stream are set over the DOE mailbox of PF0. -/
def execIdeKmRequest (keys : Bytes) (s : State) : Res :=
  .next (when (hostOpen s) (fun s => { s with link := { s.link with ideKeys := some keys } }) s)

/-- One live ring of a function whose Bus Master Enable is cleared (R75). -/
def errorRing (r : Nat) (s : State) : State :=
  let s := dropFetched r (discardEvent r s)
  mapRing r (fun x => { x with state := .error, lastErr := 0x0B, fin := [] }) s

/-- (DEDUCED, log 16) -/
def doBusMasterDisable (f : Nat) (s : State) : State :=
  let live := (ringsOf s f).filter fun r => (ringOf s r).state == .running || (ringOf s r).state == .stopping
  let s := live.foldl (fun st r => errorRing r st) s
  { s with link := { s.link with bme := s.link.bme &&& ~~~((1 : BitVec 64) <<< f) } }

def execBusMasterDisable (func : Nat) (s : State) : Res :=
  .next (when (hostOpen s && funcOn s func) (doBusMasterDisable func) s)

end Sys2Proof.Machine
end

