-- ==== Sys2Proof/Machine/Bulk.lean ====
section
/-! DEFINITION. The bulk port (R77-R82). A session takes effect by the command of its target when verification
ends. -/

namespace Sys2Proof.Machine

/-- OWNER is in range for the target, and the device state allows it (R78); while CLOSE is in force targets 1, 3
and 4 are refused (R447). -/
def bulkAllowed (s : State) (target owner : Nat) : Bool :=
  match target with
  | 1 => inService s && s.life.decided != 3 && decide (1 ≤ owner) && decide (owner ≤ 63) && !closeWork s
  | 2 => inService s && owner == 0
  | 3 => inService s && s.life.decided != 3 && decide (1 ≤ owner) && decide (owner ≤ 63) && !closeWork s
  | 4 => inService s && s.life.decided != 3 && decide (1 ≤ owner) && decide (owner ≤ 63) && !closeWork s
  | 5 => s.sys.state == .restoring && owner == 0
  | _ => false

/-- R78: OPEN is ignored while a session runs; otherwise the fields are taken and the session opens or fails. An OPEN
that opens no session records event 0x0206 too, under OWNER where that is a function. (DEDUCED, log 27; DESIGN CHOICE, log 55) -/
def doBulkOpen (v : W32) (s : State) : State :=
  if bulkBusy s then s
  else
    let target := (v.extractLsb' 0 3).toNat
    let owner := (v.extractLsb' 16 8).toNat
    let b := { s.bulk with target := target, owner := owner, ctlTarget := target, ctlOwner := owner }
    if bulkAllowed s target owner then
      { s with bulk := { b with state := .opened, addr := 0, consumed := 0, result := 0, data := [] } }
    else endBulk .policy { s with bulk := b }

def execBulkOpen (v : W32) (s : State) : Res := .next (hostWrite 0x400 4 (doBulkOpen v) s)

/-- R79: a write at the next offset and within the credit is accepted; any other sets its flags and fails the
session. `drained` bytes have left staging since the last write. A length that is no multiple of 4 sets SEQ_ERR.
 (DESIGN CHOICE, log 55) -/
def doBulkWindowWrite (off : Nat) (data : Bytes) (drained : Nat) (s : State) : State :=
  if s.bulk.state != .opened then s
  else
    let consumed := min s.bulk.addr (s.bulk.consumed + drained)
    let s := { s with bulk := { s.bulk with consumed := consumed } }
    let seq := decide (off ≠ s.bulk.addr % 65536) || decide (data.length % 4 ≠ 0)
    let beyond := decide (consumed + 2 ^ 20 < s.bulk.addr + data.length)
    if seq || beyond then
      endBulk .badDescriptor { s with bulk := { s.bulk with seqErr := s.bulk.seqErr || seq, overrun := s.bulk.overrun || beyond } }
    else { s with bulk := { s.bulk with addr := s.bulk.addr + data.length, data := s.bulk.data ++ data } }

/-- The window is slot 16; restore images arrive in RESTORING. -/
def execBulkWindowWrite (off : Nat) (data : Bytes) (drained : Nat) (s : State) : Res :=
  .next (hostWrite (0xF0000 + off % 65536) data.length (doBulkWindowWrite off data drained) s)

/-- R81. CLOSE with no OPEN session changes nothing. (DEDUCED, log 27; DESIGN CHOICE, log 55) -/
def doBulkClose (s : State) : State :=
  if s.bulk.state != .opened then s
  else if s.bulk.addr ≠ s.bulk.len then endBulk .paramInvalid s
  else { s with
    bulk := { s.bulk with state := .verifying, consumed := s.bulk.addr }
    vm := { s.vm with restore := if s.bulk.target = 5 then 2 else s.vm.restore } }

def execBulkClose (s : State) : Res := .next (hostWrite 0x400 4 doBulkClose s)

def execBulkCancel (s : State) : Res := .next (hostWrite 0x400 4 abortBulk s)

/-- Verification has ended well: the target takes effect (R81). (DEDUCED, log 27) -/
def bulkDone (s : State) : State :=
  { s with bulk := { s.bulk with state := .done, result := 0, data := [] } }

/-- A session of a target that is being verified. -/
def bulkVerifying (s : State) (target : Nat) : Bool := s.bulk.state == .verifying && s.bulk.target == target

end Sys2Proof.Machine
end

