-- ==== Sys2Proof/Machine/Ports.lean ====
section
/-! DEFINITION. The junction ports (R375-R379, R404): frames in and out, pauses and the port registers. -/

namespace Sys2Proof.Machine

def portOf (s : State) (p : Nat) : Port := if p = 0 then s.jct.port0 else s.jct.port1

def mapPort (p : Nat) (f : Port → Port) (s : State) : State :=
  if p = 0 then { s with jct := { s.jct with port0 := f s.jct.port0 } }
  else { s with jct := { s.jct with port1 := f s.jct.port1 } }

/-- The junction ports run (R377). -/
def portsRun (s : State) : Bool := s.sys.state == .restoring || inService s

/-- A port that carries frames. -/
def portUp (s : State) (p : Nat) : Bool := decide (p < 2) && portsRun s && (portOf s p).up

/-- Kinds of frames the model names beside the Linzen TYPE codes. -/
def kindDelayReq : Nat := 0x100
def kindNeighbour : Nat := 0x101

/-- Put a frame on a port; a paused port holds it (R375). -/
def sendFrame (p kind : Nat) (b : Bytes) (s : State) : State :=
  if (portOf s p).paused then mapPort p (fun x => { x with held := x.held ++ [(kind, b)] }) s
  else emit (.frame p kind b) s

/-- R375: a PAUSE frame stops the port for its time; a time of 0 ends the pause. -/
def endPause (p : Nat) (s : State) : State :=
  let fs := (portOf s p).held
  fs.foldl (fun st f => emit (.frame p f.1 f.2) st) (mapPort p (fun x => { x with paused := false, held := [] }) s)

def doPauseFrame (p quanta : Nat) (s : State) : State :=
  if quanta = 0 then endPause p s else mapPort p (fun x => { x with paused := true }) s

def execPauseFrame (port quanta : Nat) (s : State) : Res := .next (when (portUp s port) (doPauseFrame port quanta) s)

def execPauseTimeExpiry (port : Nat) (s : State) : Res :=
  .next (when (portUp s port && (portOf s port).paused) (endPause port) s)

/-! ### Encapsulation (R378, R379) -/

/-- Network byte order. -/
def be (n v : Nat) : Bytes := (le n v).reverse

def portMac (s : State) (p : Nat) : Bytes := le 6 (if p = 0 then s.otp.mac0 else s.otp.mac1).toNat

def vlanTag (s : State) (p : Nat) : Bytes :=
  if (portOf s p).vlan = 0 then [] else be 2 0x8100 ++ be 2 (portOf s p).vlan

/-- Sum of 16-bit words, for the UDP checksum. -/
def wordSum : Bytes → Nat
  | [] => 0
  | [b] => b.toNat * 256
  | a :: b :: r => a.toNat * 256 + b.toNat + wordSum r

/-- The one's complement checksum; a sum of 0 is sent as all ones. -/
def checksum (b : Bytes) : Nat :=
  let v := wordSum b
  let f := if v = 0 then 0 else (v - 1) % 65535 + 1
  if f = 65535 then 65535 else 65535 - f

/-- A path (R386): MODE, next-hop MAC, IPv6 address. -/
def pathMode (x : Bytes) : Nat := rd x 0 1

/-- A Linzen frame in its Ethernet frame, without FCS (R379). -/
def encap (s : State) (p : Nat) (path f : Bytes) : Bytes :=
  let eth := slice path 2 6 ++ portMac s p ++ vlanTag s p
  if pathMode path = 1 then eth ++ be 2 0x88B5 ++ f
  else
    let src := le 16 (portOf s p).ip.toNat
    let dst := slice path 8 16
    let n := f.length + 8
    let udp := be 2 s.jct.udp ++ be 2 s.jct.udp ++ be 2 n
    let sum := checksum (src ++ dst ++ be 4 n ++ be 4 17 ++ udp ++ zeros 2 ++ f)
    eth ++ be 2 0x86DD ++ be 4 0x60000000 ++ be 2 n ++ [17, 64] ++ src ++ dst ++ udp ++ be 2 sum ++ f

/-! ### Drops (R378, R379, R385) -/

def countDrop (s : State) : State := { s with jct := { s.jct with rxDrop := sat32 (s.jct.rxDrop + 1) } }

/-- R385, with the row that dropped the frame. -/
def dropLinzen (row : Nat) (s : State) : State := event 0x0B06 0 [(1, row)] (countDrop s)

def execFrameDropped (port : Nat) (cause : DropCause) (s : State) : Res :=
  .next (when (portUp s port) (fun s =>
    match cause with
    | .macFilter => countDrop s
    | .ipv6 => countDrop s
    | .linzen row => dropLinzen row s) s)

/-- R379: a Neighbour Advertisement answers a solicitation for the port's own address only. -/
def execNeighbourSolicitation (port : Nat) (target : BitVec 128) (s : State) : Res :=
  .next (when (portUp s port && target == (portOf s port).ip)
    (sendFrame port kindNeighbour (le 16 target.toNat)) s)

/-- R405: RS-FEC lost alignment or passed its limit. -/
def execRsFecAlarm (port : Nat) (s : State) : Res :=
  .next (when (portsRun s && decide (port < 2)) (event 0x0B02 0 [(1, port)]) s)

/-! ### PTP register writes (R382) -/

/-- No game of any owner is LIVE. -/
def anyLive (s : State) : Bool := s.adm.games.any (·.live)

def ptpRegOff : PtpReg → Nat
  | .ingress p => 0x90058 + 4 * p
  | .egress p => 0x90060 + 4 * p
  | .domain => 0x90054

def inNs (v : W32) : Bool := decide (-500 ≤ v.toInt) && decide (v.toInt ≤ 500)

/-- (DEDUCED, log 31) -/
def doPtpCorrectionWrite (r : PtpReg) (v : W32) (s : State) : State :=
  if anyLive s then s
  else
    match r with
    | .ingress p => if inNs v then mapPort p (fun x => { x with ingress := v }) s else s
    | .egress p => if inNs v then mapPort p (fun x => { x with egress := v }) s else s
    | .domain =>
      mapPort 1 (fun x => { x with domain := (v.extractLsb' 8 7).toNat })
        (mapPort 0 (fun x => { x with domain := (v.extractLsb' 0 7).toNat }) s)

def execPtpCorrectionWrite (r : PtpReg) (v : W32) (s : State) : Res :=
  .next (hostWrite (ptpRegOff r) 4 (doPtpCorrectionWrite r v) s)

end Sys2Proof.Machine
end

