-- ==== Sys2Proof/Machine/Linzen.lean ====
section
/-! DEFINITION. The Linzen network (R383-R403): the peer table, sessions, reliable delivery, and the coupling,
interlocking and time services. -/

namespace Sys2Proof.Machine

/-! ### Peers -/

def peerOf (s : State) (i : Nat) : Option Peer := s.jct.peers.at? i

def setPeer (i : Nat) (p : Peer) (s : State) : State :=
  { s with jct := { s.jct with peers := s.jct.peers.put i p } }

def mapPeer (i : Nat) (f : Peer → Peer) (s : State) : State :=
  match peerOf s i with
  | some p => setPeer i (f p) s
  | none => s

def coupled (p : Peer) : Bool := p.flags.getLsbD 0
def timePeer (p : Peer) : Bool := p.flags.getLsbD 1
def lockPeer (p : Peer) : Bool := p.flags.getLsbD 2

/-- The peer-table index of a device id. -/
def peerIndex (s : State) (dev : W64) : Option Nat :=
  (s.jct.peers.find? fun (e : Nat × Peer) => e.2.id == dev).map (·.1)

/-- The peer-table index of a device id, and whether its session is UP (R203). -/
def peerRoute (s : State) (dev : Nat) : Option (Nat × Bool) :=
  (s.jct.peers.find? fun (e : Nat × Peer) => e.2.id.toNat == dev).map fun e => (e.1, e.2.cur.isSome)

def pathOn (p : Peer) (port : Nat) : Bytes := if port = 0 then p.path0 else p.path1

/-- A port that can carry this peer's session. -/
def usable (s : State) (p : Peer) (port : Nat) : Bool := portUp s port && pathMode (pathOn p port) != 0

def pickPort (s : State) (p : Peer) : Option Nat :=
  if usable s p 0 then some 0 else if usable s p 1 then some 1 else none

/-! ### Frames (R383, R384) -/

def tHello : Nat := 1
def tReply : Nat := 2
def tFinish : Nat := 3
def tData : Nat := 4
def tAck : Nat := 5
def tProbe : Nat := 6
def tClose : Nat := 7

/-- The 64-byte header. -/
def header (type len src dst session seq ack : Nat) (nonce : Bytes) : Bytes :=
  [1] ++ le 1 type ++ le 2 len ++ zeros 4 ++ le 8 src ++ le 8 dst ++ le 4 session ++ zeros 4 ++ le 8 seq
    ++ le 8 ack ++ padTo 12 nonce ++ zeros 4

/-- Put a Linzen frame on the peer's port. -/
def putFrame (p : Peer) (type : Nat) (f : Bytes) (s : State) : State :=
  match p.port with
  | some port => sendFrame port type (encap s port (pathOn p port) f) s
  | none => s

/-- The junction lanes in service (R271): during the test of one the other carries both ports (R288). -/
def junctionLanes (s : State) : List LaneId :=
  ([0, 1].map fun k => ({ group := .junction, lane := k } : LaneId)).filter fun l =>
    !s.lanes.quarantined.contains l && !(s.lanes.underTest.any fun p => p.2 == l)

/-- The key of a direction (R390): the initiator's frames use the first half of MS. -/
def sendKey (x : Session) : Bytes := if x.initiator then slice x.ms 0 32 else slice x.ms 32 32

/-- Send an encrypted frame of a session. -/
def sendSealed (p : Peer) (x : Session) (type seq : Nat) (body : Bytes) (s : State) : State :=
  let (l, s) := pick (junctionLanes s) s
  let (n, s) := classD (l.getD { group := .junction, lane := 0 }) s
  let h := header type (body.length + 16) s.otp.deviceId.toNat p.id.toNat x.num seq x.got n
  let (ct, tag) := gcmSeal (sendKey x) n h body
  putFrame p type (h ++ ct ++ tag) s

/-! ### Sending messages (R393, R397) -/

/-- A message with its service header. (DEDUCED, log 32) -/
def message (service msg count : Nat) (body : Bytes) : Bytes := le 1 service ++ le 1 msg ++ le 2 count ++ zeros 4 ++ body

/-- The current session of an entry, or the draining one (R392). -/
def sessionOf (p : Peer) (old : Bool) : Option Session := if old then p.drain else p.cur

def setSession (i : Nat) (old : Bool) (x : Session) (s : State) : State :=
  mapPeer i (fun p => if old then { p with drain := some x } else { p with cur := some x }) s

/-- Send one waiting message as the next DATA frame, while fewer than 64 are unacknowledged. -/
def sendOne (i : Nat) (old : Bool) (s : State) : State :=
  match peerOf s i with
  | none => s
  | some p =>
    match sessionOf p old with
    | none => s
    | some x =>
      match x.queue with
      | m :: rest =>
        if 64 ≤ x.flight.length then s
        else
          let x' := { x with sent := x.sent + 1, queue := rest, owedAcks := 0
                             flight := x.flight ++ [(x.sent + 1, m, s.clk.run, true)] }
          sendSealed p x' tData (x.sent + 1) m (bump 0x0E [0] 0 1 (setSession i old x' s))
      | [] => s

/-- Send what the window allows. -/
def pump (i : Nat) (old : Bool) (s : State) : State := (List.range 64).foldl (fun st _ => sendOne i old st) s

/-- Hand a message to a peer's current session. -/
def sendMessage (i : Nat) (m : Bytes) (s : State) : State :=
  match (peerOf s i).bind (·.cur) with
  | some x => pump i false (setSession i false { x with queue := x.queue ++ [m] } s)
  | none => s

/-- A frame that carries only an acknowledgement. -/
def sendAck (i : Nat) (old : Bool) (s : State) : State :=
  match peerOf s i with
  | none => s
  | some p =>
    match sessionOf p old with
    | some x => sendSealed p x tAck 0 [] (setSession i old { x with owedAcks := 0 } s)
    | none => s

/-- Resend every frame from ACK + 1 (R393-R395). -/
def resend (i : Nat) (old : Bool) (s : State) : State :=
  match peerOf s i with
  | none => s
  | some p =>
    match sessionOf p old with
    | none => s
    | some x =>
      let n := x.flight.length
      let x' := { x with flight := x.flight.map (fun f => (f.1, f.2.1, f.2.2.1, false)), retx := min (x.retx + n) 0xFFFF
                         owedAcks := if n = 0 then x.owedAcks else 0 }
      let s := setSession i old x' { s with jct := { s.jct with retx := sat32 (s.jct.retx + n) } }
      x.flight.foldl (fun st f => sendSealed p x' tData f.1 f.2.1 (bump 0x0E [2] 0 1 st)) s

/-! ### Coupling offers (R179, R398) -/

def isOffer (m : Bytes) : Bool := rd m 0 1 == 1 && rd m 1 1 == 1

/-- Offer a head to one coupled peer: the newest offer replaces an older one that still waits. -/
def offerTo (i dep : Nat) (head key : Digest) (s : State) : State :=
  match peerOf s i with
  | none => s
  | some p =>
    if !coupled p then s
    else
      let drop := fun (x : Session) => { x with queue := x.queue.filter fun m => !isOffer m }
      let s := setPeer i { p with offer := some (dep, head), offerKey := key, cur := p.cur.map drop } s
      sendMessage i (message 1 1 1 (le 8 dep ++ digestBytes head ++ digestBytes key)) s

/-- R179: a posted record's head goes to every coupled peer. -/
def offerHead (dep : Nat) (head key : Digest) (s : State) : State :=
  s.jct.peers.foldl (fun st e => offerTo e.1 dep head key st) s

/-! ### Loss and close of sessions (R396) -/

/-- A waiting INTERLOCK_SEND to a lost peer ends (R396). -/
def dropSends (i : Nat) (s : State) : State :=
  let mine := s.keys.sends.filter fun e => e.1 == i
  mine.foldl (fun st e => finish e.2 .ownerUnreachable 0 [] st)
    { s with keys := { s.keys with sends := s.keys.sends.filter fun e => e.1 != i } }

/-- The claims of a lost session: their requests are dropped, and R203 ends them. -/
def dropRequests (i : Nat) (s : State) : State :=
  { s with vm := { s.vm with claims := s.vm.claims.map fun c => if c.peer = i then { c with sent := true } else c } }

/-- With no TIME peer left the Linzen source is dropped (R403). (DESIGN CHOICE, log 56) -/
def dropLinzenSource (s : State) : State :=
  if s.jct.peers.any fun e => timePeer e.2 && e.2.cur.isSome then s
  else
    { s with clk := { s.clk with
        readings := s.clk.readings.filter fun r => r.1 != .linzen
        source := if s.clk.source = 4 then 0 else s.clk.source } }

/-- A session is lost or closed with a cause of R566: event 0x0B04, IDLE, and the services' part. -/
def loseSession (i cause : Nat) (s : State) : State :=
  match peerOf s i with
  | none => s
  | some p =>
    if p.cur.isNone && p.drain.isNone then s
    else
      let s := setPeer i { p with cur := none, drain := none, hs := none, port := none, state := 1, backoff := 100
                                  retry := cause != 4 && cause != 5, timeReq := none, timeOwed := [] } s
      event 0x0B04 0 [(2, i), (1, cause)] (dropSends i (dropRequests i (dropLinzenSource s)))

/-- A device state that stops the ports loses every session (R377). -/
def stopPorts (s : State) : State :=
  let s := s.jct.peers.foldl (fun st e => loseSession e.1 7 st) s
  let down := fun (x : Port) => { x with up := false, paused := false, held := [], masters := [], gm := none
                                         delay := none, delayWait := false, syncWait := false }
  { s with jct := { s.jct with
      port0 := down s.jct.port0, port1 := down s.jct.port1
      peers := s.jct.peers.map fun e => (e.1, { e.2 with hs := none, state := if e.2.state = 2 then 1 else e.2.state }) } }

/-- Send CLOSE and end the session (R387, R388). -/
def closeSession (i : Nat) (s : State) : State :=
  match peerOf s i with
  | none => s
  | some p =>
    match p.cur with
    | some x => loseSession i 5 (sendSealed p x tClose 0 (le 4 5) s)
    | none => loseSession i 5 s

/-- Close a draining session: interchange and interlocking messages move to the new one, an offer is sent again,
time is dropped (R392, R396). -/
def closeDrain (i : Nat) (s : State) : State :=
  match peerOf s i with
  | none => s
  | some p =>
    match p.drain with
    | none => s
    | some d =>
      let ms := (d.flight.map (·.2.1) ++ d.queue).filter fun m => rd m 0 1 != 4
      let s := event 0x0B04 0 [(2, i), (1, 6)] (setPeer i { p with drain := none } s)
      ms.foldl (fun st m => sendMessage i m st) s

def execDrainTimeout (peer : Nat) (s : State) : Res := .next (when (portsRun s) (closeDrain peer) s)

/-! ### Handshakes (R390, R391) -/

/-- Codes of the algorithms that the handshake uses. -/
def algP384 : Nat := 0x02
def algMlkem768 : Nat := 0x28
def schemeP384 : Nat := 1
def schemeMldsa65 : Nat := 2

def canDraw (s : State) : Bool := s.rng.ready && !s.rng.failed && !s.rng.halted

/-- The identity key (R230). -/
def identityKey (s : State) : Bytes := (slotOf s 0).key

/-- Both identity signatures over a digest. -/
def identitySigs (th : Digest) (s : State) : Bytes × State :=
  let (r1, s) := drawNat s
  let (r2, s) := drawNat s
  (le 96 (Config.sign schemeP384 (identityKey s) (digestBytes th) r1)
    ++ le 3309 (Config.sign schemeMldsa65 (identityKey s) (inContext [] (digestBytes th)) r2), s)

/-- The first signature that does not verify: 1 ECDSA, 2 ML-DSA (R566). -/
def sigCheck (p : Peer) (th : Digest) (sigs : Bytes) : Option Nat :=
  if !Config.verify schemeP384 p.ecdsaPub (digestBytes th) (slice sigs 0 96) then some 1
  else if !Config.verify schemeMldsa65 p.mldsaPub (inContext [] (digestBytes th)) (slice sigs 96 3309) then some 2
  else none

/-- Handshakes that run. -/
def running (s : State) : Nat := (s.jct.peers.filter fun e => e.2.hs.isSome).length

/-- A handshake may start with this entry (R391, R392): a port, the generator and a place among the 16. -/
def mayStart (s : State) (p : Peer) : Bool :=
  (pickPort s p).isSome && canDraw s && decide (running s < 16) && p.hs.isNone

/-- Send HELLO (R390 step 1). -/
def startHandshake (i : Nat) (s : State) : State :=
  match peerOf s i with
  | none => s
  | some p =>
    if !mayStart s p then s
    else
      let (ri, s) := drawBytes 32 s
      let (e, s) := drawBytes 48 s
      let (k, s) := drawBytes 64 s
      let (n, s) := freeNat s
      let num := n % 2 ^ 32
      let part := ri ++ le 97 (Config.public algP384 e) ++ zeros 3 ++ le 1184 (Config.public algMlkem768 k)
      let h := header tHello 4721 s.otp.deviceId.toNat p.id.toNat num 0 0 []
      let th := sha (h ++ part)
      let (sigs, s) := identitySigs th s
      let f := h ++ part ++ sigs
      let p' := { p with port := if p.cur.isSome then p.port else pickPort s p
                         state := if p.cur.isSome then 3 else 2
                         hs := some { stage := 1, num := num, tries := 0, ecdh := e, kem := k, th := th, ms := [], frame := f } }
      putFrame p' tHello f (setPeer i p' s)

/-- A handshake that fails a check: REFUSED and event 0x0B05 (R391). (DEDUCED, log 32) -/
def refuseHandshake (i check : Nat) (s : State) : State :=
  event 0x0B05 0 [(2, i), (1, check)] (mapPeer i (fun p => { p with hs := none, state := 4 }) s)

/-- MS of the two shared secrets (R390). -/
def sessionSecret (zEc zKem : Nat) (th2 : Digest) : Bytes :=
  kmac 64 (le 32 zKem ++ le 48 zEc) (digestBytes th2) "SOLNY LINZEN"

def finCode (ms : Bytes) (th2 : Digest) : Bytes := kmac 32 ms (digestBytes th2) "SOLNY LINZEN FIN"

/-- A shared secret; the value that an invalid point leaves is not stated. (DESIGN CHOICE, log 1) -/
def sharedNat (o : Option Nat) (s : State) : Nat × State :=
  match o with
  | some z => (z, s)
  | none => freeNat s

/-- HEAD_QUERY for this device's own newest head (R225, R398). -/
def headQuery (s : State) : Bytes := message 1 3 1 (le 8 s.otp.deviceId.toNat)

/-- The session is UP: an old one drains with the messages it holds, and after a loss the newest offer is sent again
(R392, R396). The head query of a restore goes to a coupled peer as soon as it can be asked (R225). (DEDUCED, log 45) -/
def sessionUp (i : Nat) (num : Nat) (initiator : Bool) (ms : Bytes) (s : State) : State :=
  let s := closeDrain i s
  match peerOf s i with
  | none => s
  | some p =>
    let s := setPeer i { p with state := 3, hs := none, drain := p.cur, backoff := 100
                                cur := some { num := num, initiator := initiator, ms := ms } } s
    let s := event 0x0B03 0 [(2, i), (4, num), (1, p.port.getD 0xFF)] s
    let s := match p.offer, p.cur with
      | some (d, h), none => offerTo i d h p.offerKey s
      | _, _ => s
    if s.sys.state == .restoring && s.vm.restore == 4 && coupled p && !p.answered then sendMessage i (headQuery s) s else s

/-- R385 checks that come before the session's: the row that drops the frame. -/
def frameRow (s : State) (f : LinzenFrame) : Option Nat :=
  let tagLen := if f.type ≤ 2 then 0 else 16
  if f.ver ≠ 1 || f.type = 0 || 7 < f.type || !f.reservedZero then some 1
  else if f.len ≠ f.body.length + tagLen then some 2
  else if f.dstId ≠ s.otp.deviceId.toNat then some 3
  else
    match peerIndex s (BitVec.ofNat 64 f.srcId) with
    | none => some 4
    | some i =>
      match peerOf s i with
      | none => some 4
      | some p =>
        let known := f.type = 1 || (p.cur.map (·.num)) == some f.session || (p.drain.map (·.num)) == some f.session
          || (p.hs.map (·.num)) == some f.session
        if !known then some 5 else if !f.tagOk && decide (2 < f.type) then some 6 else none

/-- Run a frame that passes R385 on the entry of its sender. -/
def onFrame (f : LinzenFrame) (type : Nat) (body : Nat → Peer → State → State) (s : State) : State :=
  if !portUp s f.port || f.type ≠ type then s
  else
    match frameRow s f with
    | some row => dropLinzen row s
    | none =>
      match peerIndex s (BitVec.ofNat 64 f.srcId) with
      | some i =>
        match peerOf s i with
        | some p => body i p s
        | none => s
      | none => s

def frameHeader (f : LinzenFrame) : Bytes := header f.type f.len f.srcId f.dstId f.session f.seq f.ack []

/-- A HELLO proceeds unless this device's own HELLO is outstanding and its id is the lower one (R391). (DEDUCED, log 32) -/
def helloYields (s : State) (p : Peer) (f : LinzenFrame) : Bool :=
  match p.hs with
  | some h => h.stage == 1 && decide (s.otp.deviceId.toNat < f.srcId)
  | none => false

/-- Answer a HELLO with REPLY (R390 step 2). (DEDUCED, log 32) -/
def answerHello (f : LinzenFrame) (i : Nat) (p : Peer) (s : State) : State :=
  let th1 := sha (frameHeader f ++ slice f.body 0 1316)
  if helloYields s p f || !canDraw s || (p.hs.isNone && decide (16 ≤ running s)) then s
  else
    match sigCheck p th1 (slice f.body 1316 3405) with
    | some c => refuseHandshake i c s
    | none =>
      let (rr, s) := drawBytes 32 s
      let (e, s) := drawBytes 48 s
      let (k, s) := drawBytes 32 s
      let (ct, zKem) := Config.encaps algMlkem768 (slice f.body 132 1184) (leNat k)
      let (zEc, s) := sharedNat (Config.agree algP384 e (slice f.body 32 97)) s
      let part := rr ++ le 97 (Config.public algP384 e) ++ zeros 3 ++ le 1088 ct
      let h := header tReply 4625 s.otp.deviceId.toNat p.id.toNat f.session 0 0 []
      let th2 := sha (digestBytes th1 ++ h ++ part)
      let (sigs, s) := identitySigs th2 s
      let fr := h ++ part ++ sigs
      let p' := { p with port := if p.cur.isSome then p.port else some f.port
                         state := if p.cur.isSome then 3 else 2
                         hs := some { stage := 2, num := f.session, tries := 0, ecdh := e, kem := k, th := th2
                                      ms := sessionSecret zEc zKem th2, frame := fr } }
      putFrame p' tReply fr (setPeer i p' s)

def execHello (f : LinzenFrame) (s : State) : Res := .next (onFrame f tHello (answerHello f) s)

/-- Verify REPLY and send FINISH (R390 step 3). -/
def takeReply (f : LinzenFrame) (i : Nat) (p : Peer) (s : State) : State :=
  match p.hs with
  | none => s
  | some h =>
    if h.stage ≠ 1 ∨ h.num ≠ f.session then s
    else
      let th2 := sha (digestBytes h.th ++ frameHeader f ++ slice f.body 0 1220)
      match sigCheck p th2 (slice f.body 1220 3405) with
      | some c => refuseHandshake i c s
      | none =>
        let (zEc, s) := sharedNat (Config.agree algP384 h.ecdh (slice f.body 32 97)) s
        let (zKem, s) := sharedNat (Config.agree algMlkem768 h.kem (slice f.body 132 1088)) s
        let ms := sessionSecret zEc zKem th2
        let x : Session := { num := h.num, initiator := true, ms := ms }
        let s := setPeer i { p with hs := some { h with stage := 3, th := th2, ms := ms, tries := 0 } } s
        sendSealed p x tFinish 0 (finCode ms th2) s

def execReply (f : LinzenFrame) (s : State) : Res := .next (onFrame f tReply (takeReply f) s)

/-- Verify FINISH and hold the session UP (R390 step 4). -/
def takeFinish (f : LinzenFrame) (i : Nat) (p : Peer) (s : State) : State :=
  match p.hs with
  | none => s
  | some h =>
    if h.stage ≠ 2 ∨ h.num ≠ f.session then s
    else if f.body ≠ finCode h.ms h.th then refuseHandshake i 3 s
    else
      let x : Session := { num := h.num, initiator := false, ms := h.ms }
      sendSealed p x tAck 0 [] (sessionUp i h.num false h.ms s)

def execFinish (f : LinzenFrame) (s : State) : Res := .next (onFrame f tFinish (takeFinish f) s)

/-! ### Receiving (R393) -/

/-- SRTT and RTTVAR after a sample (RFC 6298), in ns, and the timeout in us (R394). -/
def rttUpdate (x : Session) (r minUs : Nat) : Session :=
  let srtt := if x.srtt = 0 then r else (7 * x.srtt + r) / 8
  let var := if x.srtt = 0 then r / 2 else (3 * x.rttvar + (if x.srtt < r then r - x.srtt else x.srtt - r)) / 4
  { x with srtt := srtt, rttvar := var, rtoUs := min 1000000 (max minUs ((srtt + 4 * var) / 1000)) }

/-- Take an ACK value: frames acknowledged leave; the third receipt of one value while frames are outstanding asks for a
resend. (DEDUCED, log 32) -/
def takeAck (ack now minUs : Nat) (x : Session) : Session × Bool :=
  if x.acked < ack ∧ ack ≤ x.sent then
    let x := match (x.flight.filter fun f => decide (f.1 ≤ ack) && f.2.2.2).getLast? with
      | some f => rttUpdate x (now - f.2.2.1) minUs
      | none => x
    ({ x with acked := ack, dup := 1, expiries := 0, flight := x.flight.filter fun f => decide (ack < f.1) }, false)
  else if ack = x.acked && !x.flight.isEmpty then
    (if x.dup + 1 = 3 then ({ x with dup := 0 }, true) else ({ x with dup := x.dup + 1 }, false))
  else (x, false)

/-- The session of an entry that a frame names: whether it is the draining one. -/
def frameSession (f : LinzenFrame) (p : Peer) : Option (Bool × Session) :=
  match p.cur, p.drain with
  | some x, d => if x.num = f.session then some (false, x) else
      (d.filter fun y => y.num == f.session).map fun y => (true, y)
  | none, d => (d.filter fun y => y.num == f.session).map fun y => (true, y)

/-- A draining session that holds nothing unacknowledged is closed (R392). (DEDUCED, log 32) -/
def endDrained (i : Nat) (s : State) : State :=
  match (peerOf s i).bind (·.drain) with
  | some d => if d.flight.isEmpty && d.queue.isEmpty then closeDrain i s else s
  | none => s

/-- The ACK value that every sealed frame carries. -/
def gotAck (f : LinzenFrame) (i : Nat) (s : State) : State :=
  match (peerOf s i).bind (frameSession f) with
  | none => s
  | some (old, x) =>
    let (x', again) := takeAck f.ack s.clk.run s.jct.rtoMin x
    let s := setSession i old x' s
    let s := pump i old (if again then resend i old s else s)
    if old then endDrained i s else s

/-- A message that R397 lists and the sender's flags allow. (DEDUCED, log 32) -/
def messageOk (p : Peer) (m : Bytes) : Bool :=
  match rd m 0 1, rd m 1 1 with
  | 1, k => decide (1 ≤ k) && decide (k ≤ 4) && coupled p
  | 2, k => k == 1 || k == 2
  | 3, k => (k == 1 || k == 2) && lockPeer p
  | 4, k => k == 1 || (k == 2 && timePeer p)
  | _, _ => false

/-- Deliver a message to its service, or drop it (R397). -/
def deliverMessage (i : Nat) (p : Peer) (m : Bytes) (s : State) : State :=
  if messageOk p m then mapPeer i (fun p => { p with inbox := p.inbox ++ [m] }) s else countDrop s

/-- A DATA frame in order is delivered; any other is discarded and answered at once. -/
def takeData (f : LinzenFrame) (i : Nat) (p : Peer) (s : State) : State :=
  let s := gotAck f i s
  match (peerOf s i).bind (frameSession f) with
  | none => s
  | some (old, x) =>
    if f.seq = x.got + 1 then
      let x' := { x with got := f.seq, owedAcks := x.owedAcks + 1 }
      let s := deliverMessage i p f.body (bump 0x0E [1] 0 1 (setSession i old x' s))
      if 8 ≤ x'.owedAcks then sendAck i old s else s
    else sendAck i old s

def execData (f : LinzenFrame) (s : State) : Res := .next (onFrame f tData (takeData f) s)

/-- An ACK also brings the initiator's new session UP. -/
def takeAckFrame (f : LinzenFrame) (i : Nat) (p : Peer) (s : State) : State :=
  match p.hs with
  | some h => if h.stage = 3 ∧ h.num = f.session then sessionUp i h.num true h.ms s else gotAck f i s
  | none => gotAck f i s

def execAck (f : LinzenFrame) (s : State) : Res := .next (onFrame f tAck (takeAckFrame f) s)

/-- R394: a PROBE carries only the acknowledgement. -/
def takeProbe (f : LinzenFrame) (i : Nat) (_p : Peer) (s : State) : State := gotAck f i s

def execProbe (f : LinzenFrame) (s : State) : Res := .next (onFrame f tProbe (takeProbe f) s)

def takeClose (f : LinzenFrame) (i : Nat) (p : Peer) (s : State) : State :=
  if (p.cur.map (·.num)) == some f.session then loseSession i 4 s
  else if (p.drain.map (·.num)) == some f.session then closeDrain i s
  else s

def execClose (f : LinzenFrame) (s : State) : Res := .next (onFrame f tClose (takeClose f) s)

/-! ### Timers (R391-R395) -/

/-- HELLO or REPLY is sent again, up to 5 times; a handshake with no result after that, the wait for the ACK of FINISH
among them, leaves the entry IDLE. An entry that is IDLE starts again, and its delay doubles up to 10 s.
 (DEDUCED, log 32) -/
def doHandshakeRetry (i : Nat) (s : State) : State :=
  match peerOf s i with
  | none => s
  | some p =>
    match p.hs with
    | some h =>
      let s' := setPeer i { p with hs := some { h with tries := h.tries + 1 } } s
      if 5 ≤ h.tries then setPeer i { p with hs := none, state := if p.cur.isSome then 3 else 1 } s
      else if h.stage = 3 then s'
      else putFrame p (if h.stage = 1 then tHello else tReply) h.frame s'
    | none =>
      if p.state = 1 && p.retry then
        startHandshake i (setPeer i { p with backoff := min 10000 (2 * p.backoff) } s)
      else s

def execHandshakeRetry (peer : Nat) (s : State) : Res := .next (when (portsRun s) (doHandshakeRetry peer) s)

/-- R392: a new session with the same peer, unless the generator has failed. -/
def execRekey (peer : Nat) (s : State) : Res :=
  .next (when (portsRun s && ((peerOf s peer).bind (·.cur)).isSome) (startHandshake peer) s)

/-- The entry's session that owes an ACK, the current one first. -/
def owesAck (p : Peer) : Option Bool :=
  [false, true].find? fun old => (sessionOf p old).any fun x => decide (0 < x.owedAcks)

def doAckDelay (i : Nat) (s : State) : State :=
  match (peerOf s i).bind owesAck with
  | some old => sendAck i old s
  | none => s

def execAckDelay (peer : Nat) (s : State) : Res := .next (when (portsRun s) (doAckDelay peer) s)

/-- The entry's session with frames outstanding, the current one first. -/
def waitsAck (p : Peer) : Option (Bool × Session) :=
  match p.cur.filter fun x => !x.flight.isEmpty with
  | some x => some (false, x)
  | none => (p.drain.filter fun x => !x.flight.isEmpty).map fun x => (true, x)

/-- At the eighth expiry for one frame the session is lost; a draining one is closed (R392, R394). (DEDUCED, log 32) -/
def doRetransmissionTimeout (i : Nat) (s : State) : State :=
  match (peerOf s i).bind waitsAck with
  | none => s
  | some (old, x) =>
    if 8 ≤ x.expiries + 1 then (if old then closeDrain i s else loseSession i 1 s)
    else resend i old (setSession i old { x with expiries := x.expiries + 1, rtoUs := min 1000000 (2 * x.rtoUs) } s)

def execRetransmissionTimeout (peer : Nat) (s : State) : Res :=
  .next (when (portsRun s) (doRetransmissionTimeout peer) s)

def doIdleProbe (i : Nat) (s : State) : State :=
  match peerOf s i with
  | none => s
  | some p =>
    match p.cur with
    | some x => sendSealed p x tProbe 0 [] (setSession i false { x with owedAcks := 0 } s)
    | none => s

def execIdleProbe (peer : Nat) (s : State) : Res := .next (when (portsRun s) (doIdleProbe peer) s)

def execSilenceTimeout (peer : Nat) (s : State) : Res := .next (when (portsRun s) (loseSession peer 2) s)

/-! ### Ports going up and down (R395, R404) -/

/-- Move a session off a port, or lose it (R395). -/
def leavePort (i port : Nat) (s : State) : State :=
  match peerOf s i with
  | none => s
  | some p =>
    if p.port ≠ some port then s
    else if p.cur.isNone then setPeer i { p with hs := none, port := none, state := if p.state = 2 then 1 else p.state } s
    else if usable s p (1 - port) then
      event 0x0B0C 0 [(2, i)] (resend i true (resend i false (setPeer i { p with port := some (1 - port) } s)))
    else loseSession i 3 s

/-- A port's link changes; it comes up only while it is enabled and the ports run. -/
def doPortLinkChange (port : Nat) (up : Bool) (s : State) : State :=
  let x := portOf s port
  if up then
    if x.up || !x.cfg.getLsbD 0 || x.media = 0 then s
    else event 0x0B01 0 [(1, port), (1, x.media)] (mapPort port (fun x => { x with up := true }) s)
  else if !x.up then s
  else
    let s := mapPort port (fun x => { x with up := false, paused := false, held := [], masters := [], gm := none
                                             delay := none, delayWait := false, syncWait := false }) s
    let s := event 0x0B01 0 [(1, port), (1, x.media)] s
    s.jct.peers.foldl (fun st e => leavePort e.1 port st) s

def execPortLinkChange (port : Nat) (up : Bool) (s : State) : Res :=
  .next (when (portsRun s && decide (port < 2)) (doPortLinkChange port up) s)

/-- JCT_PORT_CFG (R404): MEDIA and VLAN take effect as ENABLE goes from 0 to 1; ENABLE 0 takes the port down. -/
def doPortConfigWrite (port : Nat) (v : W32) (s : State) : State :=
  let x := portOf s port
  if x.cfg.getLsbD 31 then s
  else
    let v := v &&& 0x8FFF0307
    let rises := v.getLsbD 0 && !x.cfg.getLsbD 0
    let s := mapPort port (fun x => { x with
      cfg := v
      media := if rises then (v.extractLsb' 8 2).toNat else x.media
      vlan := if rises then (v.extractLsb' 16 12).toNat else x.vlan
      masters := if v.getLsbD 1 then x.masters else []
      gm := if v.getLsbD 1 then x.gm else none }) s
    if v.getLsbD 0 then s else doPortLinkChange port false s

def execPortConfigWrite (port : Nat) (v : W32) (s : State) : Res :=
  .next (when (decide (port < 2)) (hostWrite (0x90010 + 4 * port) 4 (doPortConfigWrite port v)) s)

/-! ### Delivered messages -/

/-- Take the oldest delivered message of one service and kind and run its handler. -/
def onMessage (i service msg : Nat) (body : Peer → Bytes → State → State) (s : State) : State :=
  match peerOf s i with
  | none => s
  | some p =>
    match p.inbox.find? fun m => rd m 0 1 == service && rd m 1 1 == msg with
    | none => s
    | some m => body p (m.drop 8) (setPeer i { p with inbox := p.inbox.erase m } s)

/-- The COUNT of the oldest delivered message of a kind. -/
def messageCount (s : State) (i service msg : Nat) : Nat :=
  match (peerOf s i).bind fun p => p.inbox.find? fun m => rd m 0 1 == service && rd m 1 1 == msg with
  | some m => rd m 2 2
  | none => 0

/-! ### Coupling (R181, R225, R398) -/

/-- The new head joins the pending ones: a conflicting one as evidence, another in place of the peer's last. -/
def pendHead (i : Nat) (p : Peer) (dep : Nat) (head : Digest) (conflict : Bool) (s : State) : State :=
  let others := s.dep.peerHeads.filter fun h => h.peer != i || h.conflict
  { s with dep := { s.dep with peerHeads :=
      others ++ [{ peer := i, device := p.id, dep := dep, head := head, conflict := conflict }] } }

/-- HEAD_OFFER: checked under R181, kept, and answered. -/
def takeOffer (i : Nat) (p : Peer) (b : Bytes) (s : State) : State :=
  let dep := rd b 0 8
  let head : Digest := BitVec.ofNat 384 (rd b 8 48)
  let old := s.dep.newest.find? fun e => e.1 == i
  let conflict := match old with
    | some (_, d, h) => decide (dep < d) || (dep == d && head != h)
    | none => false
  let fresh := match old with
    | some (_, d, _) => decide (d < dep)
    | none => true
  let s := if conflict then event 0x0509 0 [(8, p.id.toNat), (8, dep)] (pendHead i p dep head true s)
    else if fresh then pendHead i p dep head false s else s
  let s := if fresh then { s with dep := { s.dep with newest := (i, dep, head) :: s.dep.newest.filter fun e => e.1 != i } } else s
  sendMessage i (message 1 2 1 (le 8 dep)) s

def execHeadOffer (peer : Nat) (s : State) : Res := .next (when (portsRun s) (onMessage peer 1 1 (takeOffer peer)) s)

/-- HEAD_ACK: the offer is acknowledged, and a witness wait may end (R180). -/
def takeHeadAck (i : Nat) (p : Peer) (b : Bytes) (s : State) : State :=
  let dep := rd b 0 8
  let s := mapPeer i (fun q => { q with offer := match p.offer with
    | some (d, h) => if d ≤ dep then none else some (d, h)
    | none => none }) s
  let best := max dep ((s.dep.acked.find? fun e => e.1 == i).map (·.2) |>.getD 0)
  { s with dep := { s.dep with acked := (i, best) :: s.dep.acked.filter fun e => e.1 != i } }

def execHeadAck (peer : Nat) (s : State) : Res := .next (when (portsRun s) (onMessage peer 1 2 (takeHeadAck peer)) s)

/-- HEAD_QUERY is answered with the newest head held from the asking device. -/
def takeHeadQuery (i : Nat) (_p : Peer) (b : Bytes) (s : State) : State :=
  let (dep, head) := match s.dep.newest.find? fun e => e.1 == i with
    | some (_, d, h) => (d, digestBytes h)
    | none => (allOnes64, zeros 48)
  sendMessage i (message 1 4 1 (slice b 0 8 ++ le 8 dep ++ head)) s

def execHeadQuery (peer : Nat) (s : State) : Res := .next (when (portsRun s) (onMessage peer 1 3 (takeHeadQuery peer)) s)

/-- HEAD_HELD: a head above the restored departure sets BEHIND and records event 0x060B (R225). -/
def takeHeadHeld (i : Nat) (p : Peer) (b : Bytes) (s : State) : State :=
  let dep := rd b 8 8
  let s := mapPeer i (fun q => { q with answered := true }) s
  let above := match s.vm.verified with
    | some v => decide (v < dep)
    | none => false
  if s.sys.state == .restoring && dep != allOnes64 && above then
    event 0x060B 0 [(8, p.id.toNat), (8, dep)] { s with vm := { s.vm with behind := true } }
  else s

def execHeadHeld (peer : Nat) (s : State) : Res := .next (when (portsRun s) (onMessage peer 1 4 (takeHeadHeld peer)) s)

end Sys2Proof.Machine
end

