-- ==== Sys2Proof/Machine/Recorder.lean ====
section
/-! DEFINITION. The event recorder's own steps (R496-R505) and the performance counters (R508-R517). -/

namespace Sys2Proof.Machine

/-! ### Recorder -/

/-- R501: 1 s has passed since the newest record's creation. -/
def execEventFreezeTimeout (s : State) : Res := .next (when (alive s) freezeNewest s)

/-- R496. -/
def execOperatingHeartbeat (s : State) : Res :=
  .next (when (alive s) (fun s => event 0x0E01 0 [(5, opNow s / 10 ^ 9)] s) s)

/-- The mirror key of the PUF response (R497). -/
def mirrorKeyNow : BitVec 256 := BitVec.ofNat 256 (Config.kmac256 (le 32 Config.puf.toNat) [] 256 (ascii "SOLNY MIRROR"))

/-- MAC of a record's flash copy (R494). -/
def mirrorMac (e : Ev) : Bytes := kmac 6 (le 32 mirrorKeyNow.toNat) (evBytes e) "SOLNY EVENT"

/-- A mirror record is valid (R503). -/
def mirrorValid (r : MirrorRec) : Bool := r.mac == mirrorMac r.ev

/-- The record with the highest EVENT_SEQ. -/
def highestSeq (l : List MirrorRec) : Option MirrorRec :=
  l.foldl (fun a r => match a with
    | none => some r
    | some b => if b.ev.seq < r.ev.seq then some r else some b) none

/-- The newest valid mirror record: the sector whose first record has the highest EVENT_SEQ is read in full (R498). -/
def newestMirror (s : State) : Option MirrorRec :=
  let ok := s.flash.mirror.filter mirrorValid
  match highestSeq (ok.filter fun r => r.place % 64 == 0) with
  | none => none
  | some f => highestSeq (ok.filter fun r => r.place / 64 == f.place / 64)

/-- R496-R498: the search ends; operating time, the power-cycle count and EVENT_SEQ continue from the newest
valid record, and the staged records enter the recorder in order. -/
def doMirrorSearchEnd (s : State) : State :=
  if !s.evt.staging then s
  else
    let r := match newestMirror s with
      | some m => { s.evt with
          head := m.ev.seq, frozen := m.ev.seq, mirrored := m.ev.seq, posted := m.ev.seq
          cycles := (m.ev.power + 1) % 2 ^ 24, opBase := m.ev.opNs + 10 ^ 9 }
      | none => { s.evt with cycles := 1, emptyAtStart := true }
    let staged := r.staged.reverse
    { s with evt := staged.foldl (fun r e => pushEv e r) { r with staging := false, staged := [] } }

def execMirrorSearchEnd (s : State) : Res := .next (when (alive s) doMirrorSearchEnd s)

/-- Places and sectors of the mirror (R503). -/
def mirrorPlaces : Nat := (flashArea 4).2 / 64

/-- The oldest frozen record that is not in the mirror (R503). -/
def nextToMirror (s : State) : Option Ev :=
  (sortBy (·.seq) (s.evt.evs.filter fun e => e.frozen && decide (s.evt.mirrored < e.seq))).head?

/-- Write one record into the next free place, and keep the sector after it erased (R503). -/
def mirrorPut (e : Ev) (s : State) : State :=
  let p := s.flash.mirrorNext % mirrorPlaces
  let ahead := (p / 64 + 1) % 4096
  { s with
    flash := { s.flash with
      mirror := { place := p, ev := e, mac := mirrorMac e } :: s.flash.mirror.filter fun m => m.place != p && m.place / 64 != ahead
      mirrorNext := (p + 1) % mirrorPlaces }
    evt := { s.evt with
      mirrored := e.seq
      committed := s.evt.committed || (e.code == 0x0110 && e.power == s.evt.cycles) } }

/-- R503-R505: the next frozen record is written with its MAC; a failed program or erase skips the sector. After
PWR_FAIL_N the counter record goes first. -/
def doMirrorWrite (good : Bool) (s : State) : State :=
  if s.evt.staging || s.keys.mirrorKey.isNone || (s.sys.pwrFail && !s.flash.writing.isEmpty) then s
  else
    match nextToMirror s with
    | none => s
    | some e =>
      if good then mirrorPut e s
      else
        let sec := (s.flash.mirrorNext % mirrorPlaces) / 64
        event 0x0E07 0 [(2, sec)] { s with
          flash := { s.flash with mirrorNext := ((sec + 1) % 4096) * 64 }
          evt := { s.evt with mirrorErr := true } }

def execMirrorWrite (good : Bool) (s : State) : Res := .next (when (alive s) (doMirrorWrite good) s)

/-! ### Counters -/

/-- Engine dies that the variant holds (R1, R461). -/
def presentDies (s : State) : BitVec 7 :=
  if s.otp.variant = 2 then 0x01 else if s.otp.variant = 4 then 0x07 else 0x7F

def dieCount (s : State) : Nat := (diesOf (presentDies s)).length

/-- COUNT of R513. -/
def counterCount (s : State) : Nat := 1024 + 512 * dieCount s

/-- The die of a counter, 0 for the anchor (R508). -/
def counterDie (c : Nat) : Nat := if c < 1024 then 0 else (c - 1024) / 512 + 1

/-- The 16-byte entry of a counter in a snapshot (R513). -/
def counterEntry (s : State) (c : Nat) : Bytes :=
  let out := counterDie c != 0 && dieIn s.cnt.outDies (counterDie c)
  le 4 (s.cnt.cfg.atD c 0).toNat ++ zeros 4
    ++ (if out then le 8 allOnes64 else le 8 (s.cnt.shadow.atD c 0))

def counterEntries (s : State) : Bytes := (List.range (counterCount s)).flatMap (counterEntry s)

/-- COUNTER_DIGEST of the newest snapshot (R513). -/
def counterDigest (s : State) : Digest := sha (counterEntries s)

/-- Write the newest snapshot to its region: every entry, then the header (R514). -/
def dumpSnapshot (s : State) : State :=
  let region := s.cnt.snapNo % 2
  if s.cnt.dumpStop then s
  else if !s.link.bme.getLsbD 0 then
    event 0x0E06 0 [(1, region)] { s with cnt := { s.cnt with dumpErr := true, dumpStop := true } }
  else
    let base := s.cnt.dumpAddr + region * 0x14000
    let header := le 8 s.cnt.snapNo ++ le 8 s.cnt.snapDep ++ le 4 (counterCount s) ++ zeros 4
      ++ digestBytes (counterDigest s) ++ zeros 56
    emit (.dma 0 base header) (emit (.dma 0 (base + 128) (counterEntries s)) s)

/-- Counters of busy cycles, busy time and issue slots (R509): what they add is timing, which the model leaves out, so
each adds a free value before its value is taken. (DESIGN CHOICE, log 48) -/
def countsTime (s : State) (c : Nat) (cfg : W32) : Bool :=
  let ev := (cfg.extractLsb' 0 8).toNat
  let sub := (cfg.extractLsb' 8 8).toNat
  let k := counterDie c
  cfg.getLsbD 31 && (cfg.extractLsb' 22 6) == 0 && !chained c cfg
    && (if k = 0 then (ev == 0x0B || ev == 0x0C) && decide (sub < 2)
        else dieIn s.sys.inService k
          && ((ev == 0x40 && decide (sub < 8)) || (ev == 0x43 && decide (sub < 4)) || (ev == 0x45 && decide (sub < 2))))

def countTime (s : State) : State :=
  s.cnt.cfg.foldl (fun st p =>
    if countsTime st p.1 p.2 then
      (let (n, st) := freeNat st
       let r := bumpOne p.1 n st.cnt
       let t := { st with cnt := r.1 }
       if r.2 then event 0x0E04 0 [(2, p.1)] t else t)
    else st) s

/-- The counters of dies that are powered again restart from 0 (R513). -/
def restartCounters (dies : BitVec 7) (s : State) : State :=
  { s with cnt := { s.cnt with live := s.cnt.live.filter fun p => counterDie p.1 == 0 || !dieIn dies (counterDie p.1) } }

/-- R15, R16, R512: the token latches every counter into its shadow; a die out of service latches nothing
that counts. -/
def latchCounters (dep : Option Nat) (s : State) : State :=
  let s := countTime s
  emit (.coupling 1 (s.cnt.snapNo + 1)) { s with cnt := { s.cnt with
    shadow := s.cnt.live
    snapNo := s.cnt.snapNo + 1
    snapDep := dep.getD allOnes64
    outDies := presentDies s &&& ~~~(s.sys.inService) } }

/-- The departure-aligned snapshot of a close tick (R15, R514). -/
def snapAtTick (dep : Nat) (s : State) : State :=
  let s := latchCounters (some dep) s
  if !s.cnt.dumpEn || s.cnt.every = 0 then s
  else if s.cnt.sinceDump + 1 < s.cnt.every then
    { s with cnt := { s.cnt with sinceDump := s.cnt.sinceDump + 1 } }
  else dumpSnapshot { s with cnt := { s.cnt with sinceDump := 0 } }

/-- R512, R514. -/
def doSnapReq (s : State) : State :=
  let s := latchCounters none s
  if s.cnt.dumpEn then dumpSnapshot s else s

def execSnapReq (s : State) : Res := .next (hostWrite 0xE0028 4 doSnapReq s)

/-- COUNTERS_CFG as a write leaves it: reserved bits 0, CHAIN on odd counters only, OVF cleared by 1 (R517). -/
def cfgAfter (c : Nat) (old v : W32) : W32 :=
  let keep : W32 := if c % 2 = 1 then 0xCFC0FFFF else 0x8FC0FFFF
  (v &&& keep) ||| (old &&& ~~~v &&& 0x20000000)

def doCountersCfgWrite (v : W32) (s : State) : State :=
  let c := s.cnt.sel
  if counterCount s ≤ c then s
  else { s with cnt := { s.cnt with
    cfg := s.cnt.cfg.put c (cfgAfter c (s.cnt.cfg.atD c 0) v)
    live := s.cnt.live.put c 0 } }

def execCountersCfgWrite (v : W32) (s : State) : Res := .next (hostWrite 0xE0004 4 (doCountersCfgWrite v) s)

/-- The bytes of a unit in the window; an absent or gated one counts 0 (R511). -/
def unitBytes (s : State) (vals : List Nat) (u : Nat) : Nat :=
  if 12 ≤ u ∧ (dieIn (presentDies s) ((u - 12) / 2 + 1) = false ∨ dieIn s.sys.gated ((u - 12) / 2 + 1) = true) then 0
  else vals.getD u 0 % 2 ^ 48

/-- R511: at the end of a window each enabled bandwidth counter of the anchor takes the bytes that passed its unit.
 (DESIGN CHOICE, log 48) -/
def doBwWindowEnd (vals : List Nat) (s : State) : State :=
  let live := s.cnt.cfg.foldl (fun l (p : Nat × W32) =>
    if p.2.getLsbD 31 && (p.2.extractLsb' 0 8).toNat == 0x20 && (p.2.extractLsb' 22 6).toNat == 0
        && decide (p.1 < 1024) && !chained p.1 p.2 && decide ((p.2.extractLsb' 8 8).toNat < 26) then
      l.put p.1 (unitBytes s vals (p.2.extractLsb' 8 8).toNat)
    else l) s.cnt.live
  { s with cnt := { s.cnt with live := live } }

def execBwWindowEnd (vals : List Nat) (s : State) : Res := .next (when (alive s) (doBwWindowEnd vals) s)

/-- The value a VF reads at an offset below 0x4000 of its BAR0 (R515). -/
def vfCounterRead (s : State) (vf off : Nat) : Nat :=
  if off < 0x2000 then
    let c := off / 8
    let cfg := s.cnt.cfg.atD c 0
    if cfg.getLsbD 31 && (cfg.extractLsb' 22 6).toNat == vf then s.cnt.shadow.atD c 0 else 0
  else if off = 0x3FF0 then s.cnt.snapDep
  else if off = 0x3FF8 then s.cnt.snapNo
  else 0

end Sys2Proof.Machine
end

