-- ==== Sys2Proof/Machine/Departures.lean ====
section
/-! DEFINITION. The departure unit (R153-R183): the timetable, the close tick, signing, publication and the
DEPART registers. -/

namespace Sys2Proof.Machine

/-! ### The timetable (R153, R154, R156, R159) -/

/-- P in ns. -/
def periodNs (s : State) : Nat := s.dep.periodUs * 1000

/-- The smallest multiple of p that is not below c + p (R154). -/
def nextAnchor (c p : Nat) : Nat := ceilDiv (c + p) p * p

/-- T0 of a timetable on which departure n closes at `sched` (R154). -/
def anchorT0 (sched n p : Nat) : Nat := (sched + 2 ^ 64 - (n * p) % 2 ^ 64) % 2 ^ 64

/-- Re-anchor for the open departure at time c (R154), with the cause of event 0x0507 (R566). -/
def reanchor (c cause : Nat) (s : State) : State :=
  let p := periodNs s
  let sched := nextAnchor c p
  event 0x0507 0 [(1, cause), (8, anchorT0 sched s.dep.number p)]
    { s with dep := { s.dep with
        sched := sched, target := sched, runNs := sched - c, lateness := 0, periodNs := p
        catchUp := false, reanchored := true, periodChanged := false } }

/-- The departure unit opens the first departure after READY or DEGRADED is entered (R154, R565). -/
def openFirst (s : State) : State :=
  reanchor s.clk.run 1 { s with dep := { s.dep with
    isOpen := true, firstSeq := s.adm.nextSeq, restart := true, first := s.dep.number
    timeStep := false, causes := [] } }

/-- Open departure n + 1 after a close at `actual` that was due at `sched` (R159, R154): the lateness left
over shortens its run by at most half; above 1 s, or after a period change, the timetable is re-anchored. -/
def openNext (actual sched : Nat) (s : State) : State :=
  let late := actual - sched
  let p := s.dep.periodNs
  let s := { s with dep := { s.dep with
    number := s.dep.number + 1, firstSeq := s.adm.nextSeq, restart := false, seqGap := false
    timeStep := false, causes := [], reanchored := false } }
  if 10 ^ 9 < late then reanchor actual 3 s
  else if s.dep.periodChanged then reanchor actual 2 s
  else
    let cut := min late (p / 2)
    let sched' := sched + p
    { s with dep := { s.dep with
        sched := sched', target := sched' + late - cut, runNs := sched' + late - cut - actual
        lateness := late, catchUp := decide (0 < late), periodNs := p } }

/-! ### What a record holds (R170-R173, R507) -/

/-- One entry of the rulebook set (R173). -/
def bookEntry (b : Book) : Bytes := le 1 b.owner ++ le 2 b.handle ++ le 4 b.version ++ digestBytes b.digest

/-- The rulebook set at the tick, sorted by OWNER, HANDLE, VERSION (R173). -/
def bookSet (s : State) : List Book :=
  sortBy (fun b => (b.owner * 2 ^ 16 + b.handle) * 2 ^ 32 + b.version) s.eng.books

/-- EVENT_DIGEST of departure n (R507): its own records and, for the first departure of a start-up, that
start-up's records with NO_DEP 1. -/
def eventDigest (n : Nat) (restart : Bool) (s : State) : Digest :=
  sha ((s.evt.evs.reverse.filter fun e =>
    e.dep == some n || (restart && e.dep.isNone && e.power == s.evt.cycles)).flatMap evBytes)

/-- Up to three pending peer heads: a conflicting head first, then oldest arrival first (R179, R181). -/
def witnesses (s : State) : List PeerHead :=
  ((s.dep.peerHeads.filter (·.conflict)) ++ s.dep.peerHeads.filter (fun h => !h.conflict)).take 3

def flagBit (k : Nat) (b : Bool) : BitVec 16 := if b then (1 : BitVec 16) <<< k else 0

/-- FLAGS of the record of the open departure (R171); SIG_DETERMINISTIC is set at signing. (DEDUCED, log 17) -/
def closeFlags (late : Nat) (powerFail unwitnessed : Bool) (s : State) : BitVec 16 :=
  flagBit 0 (decide (0 < late)) ||| flagBit 1 s.dep.catchUp ||| flagBit 2 s.dep.reanchored
    ||| flagBit 4 s.dep.restart ||| flagBit 5 s.dep.seqGap ||| flagBit 6 powerFail ||| flagBit 7 s.dep.timeStep
    ||| flagBit 8 s.sys.close ||| flagBit 9 (s.sys.state == .degraded) ||| flagBit 10 unwitnessed

/-- What the tick fixes of departure n's record. -/
def mkClosing (actual : Nat) (powerFail unwitnessed : Bool) (s : State) : Closing :=
  let d := s.dep
  let late := if powerFail then 0 else actual - d.sched
  { dep := d.number, flags := closeFlags late powerFail unwitnessed s, periodNs := d.periodNs, runNs := d.runNs
    sched := d.sched, actual := actual, late := late
    unc := (uncertainty s).getD 0xFFFFFFFF
    clockState := match s.clk.state with
      | .unset => 0 | .acquiring => 1 | .locked => 2 | .holdover => 3 | .lost => 4
    firstSeq := d.firstSeq, lastSeq := s.adm.nextSeq - 1
    rulebookCount := s.eng.books.length
    rulebookSet := sha ((bookSet s).flatMap bookEntry)
    eventDigest := eventDigest d.number d.restart s
    counterDigest := counterDigest s
    witness := witnesses s
    nextKey := if d.nextSerial.isSome then d.nextKeyDigest else 0
    keyDigest := d.keyDigest
    serial := d.serial }

/-! ### The close tick (R155-R160, R177, R180) -/

/-- Departures whose subtrees are open: the open one, and every closing one that waits for a leaf (R17, R169). -/
def openSubtrees (s : State) : Nat :=
  (s.dep.closing.filter fun c => s.adm.owed.any fun o => o.dep == c.dep).length + 1

/-- R180: no wait is due, or a coupled peer has acknowledged the head of departure n - k. -/
def witnessOk (s : State) : Bool :=
  s.dep.witLag = 0 || decide (s.dep.number < s.dep.witLag + s.dep.first)
    || s.dep.acked.any fun p => decide (s.dep.number - s.dep.witLag ≤ p.2)

/-- The rolled pair is in the vault and not lost to a failed check (R177). -/
def pairLoaded (s : State) : Bool :=
  s.dep.nextSerial.isNone || ((slotOf s 7).state == 1 && (slotOf s 8).state == 1)

/-- The cause of R566 for which the tick has to wait: a pair that is not loaded, DEP_HIGH (or the number of all ones,
R60), closing stopped, or the subtree limit. (DEDUCED, log 17) -/
def tickBlocked (s : State) : Option Nat :=
  if !pairLoaded s then some 3
  else if depHigh s ≤ s.dep.number || decide (allOnes64 ≤ s.dep.number + 1) then some 5
  else if s.dep.stopped then some 6
  else if 64 ≤ openSubtrees s then some 7
  else none

/-- The tick may be inserted at all: a departure is open and the departure unit works. -/
def tickLive (s : State) : Bool := s.dep.isOpen && !s.sys.anchorStopped

def noteCause (c : Nat) (s : State) : State :=
  if s.dep.causes.contains c then s else { s with dep := { s.dep with causes := c :: s.dep.causes } }

/-- Move a slot's key: both slots are written, so both take a new GENERATION (R233, R265). -/
def moveSlot (i j : Nat) (s : State) : State :=
  let next := fun (k : Nat) => ((slotOf s k).gen + 1) % 65536
  setSlot i { gen := next i } (setSlot j { slotOf s i with gen := next j } s)

/-- The rolled pair takes effect at the tick whose record names it (R177, R265); the old one is kept for the records
that are still to be signed with it. -/
def applyRollover (s : State) : State :=
  match s.dep.nextSerial with
  | none => s
  | some k =>
    let s := { s with
      dep := { s.dep with serial := k, nextSerial := none, keyDigest := s.dep.nextKeyDigest, nextKeyDigest := 0
                          oldKeys := s.dep.oldKeys ++ [(s.dep.serial, (slotOf s 5).key, (slotOf s 6).key)] }
      flash := { s.flash with serial := k, nextSerial := none } }
    let s := moveSlot 8 6 (moveSlot 7 5 s)
    event 0x050A 0 [(8, s.dep.number + 1)] (event 0x070D 0 [(8, k)] s)

/-- Every owner's open journal block is closed at the tick (R210). -/
def closeBlocks (s : State) : State := s.adm.owners.foldl (fun st p => closeBlock p.1 st) s

/-- Insert the close tick of the open departure: freeze its last event, latch the counters, fix the record's
content, open the next departure, and record a late close or the end of catch-up. (DEDUCED, log 17) -/
def insertTick (powerFail unwitnessed : Bool) (s : State) : State :=
  let d := s.dep
  let actual := if d.target ≤ s.clk.run ∧ s.clk.run ≤ d.target + 10 then d.target else s.clk.run
  let s := closeBlocks (snapAtTick d.number (freezeNewest s))
  let c := mkClosing actual powerFail unwitnessed s
  let s := { s with dep := { s.dep with
    closing := s.dep.closing ++ [c]
    peerHeads := s.dep.peerHeads.filter fun h => !c.witness.contains h } }
  let s := bump 0x07 [0] 0 1 s
  let s := if d.catchUp then bump 0x07 [2] 0 1 s else s
  let s := openNext actual d.sched (applyRollover s)
  let s := if unwitnessed then event 0x0506 0 [] s else s
  let s := if d.target < actual && !powerFail then
      event 0x0501 0 [(8, d.number), (8, c.late), (1, (sortBy id d.causes).headD 1)] (bump 0x07 [1] 0 1 s)
    else s
  if 0 < d.lateness && s.dep.lateness == 0 then
    event 0x0502 0 [(8, if c.late = 0 then d.number else d.number + 1)] s
  else s

/-- The tick is due at a reading of the clock at or after the target close time (R155); none comes in STABLED
(R478). -/
def tickDue (s : State) : Bool := tickLive s && s.sys.state != .stabled && decide (s.dep.target ≤ s.clk.run)

/-- One admission step's share of the tick: inserted when it is due and nothing holds it back (R155, R180), an admission
pause among it; otherwise the reason it waits is noted. -/
def tryTick (s : State) : State :=
  if !tickDue s then s
  else if s.adm.pausedAt.isSome then noteCause 1 s
  else
    match tickBlocked s with
    | some c => noteCause c s
    | none => if witnessOk s then insertTick false false s else noteCause 4 s

/-- R155: the station clock reaches the target close time. -/
def execCloseTick (t : Nat) (s : State) : Res := .next (when (alive s) (fun s => tryTick (advance t s)) s)

/-- R180: the witness wait has lasted WAIT_US beyond the target close. -/
def doWitnessTimeout (s : State) : State :=
  if tickDue s && !witnessOk s && decide (s.dep.target + 1000 * s.dep.witWaitUs ≤ s.clk.run)
      && (tickBlocked s).isNone && s.adm.pausedAt.isNone then insertTick false true (noteCause 4 s)
  else s

def execWitnessTimeout (t : Nat) (s : State) : Res :=
  .next (when (alive s) (fun s => doWitnessTimeout (advance t s)) s)

/-! ### Signing and publication (R161, R175, R176) -/

/-- D of a firmware image (R417): SHA-384 of the header and the code. -/
def imageD (b : Bytes) : Digest := sha (slice b 0 (128 + rd b 16 8))

/-- The state code that a challenge, a record and the UART carry: 0xFF when invalid (R411, R420). -/
def stateCode (s : State) : Nat := if s.life.invalid then 0xFF else s.life.decided

/-- FIRMWARE_DIGEST (R420). -/
def firmwareDigest (s : State) : Digest :=
  sha (digestBytes Config.romDigest ++ digestBytes (imageD (s.life.fw.getD [])) ++ le 1 (stateCode s)
    ++ le 2 s.life.scope.toNat ++ le 1 s.life.svnFloor)

/-- M of a departure record (R170): bytes 0-687. -/
def recordM (c : Closing) (flags : BitVec 16) (pub : Nat) (root prev : Digest) (s : State) : Bytes :=
  le 4 0x44505231 ++ le 2 1 ++ le 2 flags.toNat ++ le 8 s.otp.deviceId.toNat ++ le 8 c.dep
    ++ le 4 c.periodNs ++ le 4 c.runNs ++ le 8 c.sched ++ le 8 c.actual
    ++ le 8 c.late ++ le 8 pub
    ++ le 4 c.unc ++ le 4 (s.evt.cycles % 2 ^ 24) ++ le 1 c.clockState ++ le 1 c.witness.length
    ++ le 2 c.rulebookCount ++ zeros 4 ++ le 8 c.firstSeq ++ le 8 c.lastSeq ++ le 8 (c.lastSeq + 1 - c.firstSeq)
    ++ digestBytes prev ++ digestBytes root ++ digestBytes (firmwareDigest s)
    ++ digestBytes c.rulebookSet ++ digestBytes c.eventDigest ++ digestBytes c.counterDigest
    ++ digestBytes c.keyDigest
    ++ padTo 192 (c.witness.flatMap fun h => le 8 h.device.toNat ++ le 8 h.dep ++ digestBytes h.head)
    ++ digestBytes c.nextKey ++ zeros 8

/-- Signature scheme codes of the model: 1 ECDSA P-384, 2 ML-DSA-65. -/
def schemeEcdsa : Nat := 1
def schemeMldsa : Nat := 2

/-- The 4,096 bytes of a signed record (R170). -/
def recordBytes (m : Bytes) (sigE sigM : Bytes) : Bytes := m ++ sigE ++ sigM ++ zeros 3

/-- Public-key engines in service (R25, R175): the anchor's two and those of the dies in placement. -/
def pkInService (s : State) : List Nat :=
  ([0, 1] ++ (diesOf s.sys.inService).flatMap fun k => [2 * k, 2 * k + 1]).filter
    fun e => !s.pk.quarantined.contains e

/-- The private keys of the pair that signs a closing departure's record: the pair in effect when it closed (R177). -/
def pairFor (s : State) (c : Closing) : Option (Bytes × Bytes) :=
  match s.dep.oldKeys.find? fun k => k.1 == c.serial with
  | some k => if c.serial = s.dep.serial then none else some k.2
  | none => none

/-- The keys that sign: the old pair of an earlier SERIAL, otherwise slots 5 and 6. -/
def signingKeys (s : State) (c : Closing) : Bytes × Bytes :=
  (pairFor s c).getD ((slotOf s 5).key, (slotOf s 6).key)

/-- R50, R162: what a further waiting record means for admission and for closing. -/
def backlogOnSigned (s : State) : State :=
  let n := s.dep.signed.length
  let s := if 16 ≤ n && !s.adm.ledgerFull then
      event 0x0203 0 [] { s with adm := { s.adm with ledgerFull := true } }
    else s
  if 4096 ≤ n && !s.dep.stopped then
    event 0x0508 0 [] { s with dep := { s.dep with stopped := true } }
  else s

/-- The oldest closing departure, once every leaf of it has arrived (R161, R169). -/
def readyToSign (s : State) : Option Closing :=
  match s.dep.closing with
  | c :: _ => if s.adm.owed.any fun o => o.dep == c.dep then none else some c
  | [] => none

/-- Sign, verify and release the record of a closing departure (R170, R175, R176). After the record of a power failure
every owner's open block is closed (R219 step 6). -/
def releaseRecord (c : Closing) (s : State) : State :=
  let det := s.dep.deterministic
  let flags := c.flags ||| flagBit 3 det
  let pub := s.clk.run
  let m := recordM c flags pub (depRoot c.dep s.dep.leaves) s.dep.prevHead s
  let (r1, s) := if det then (0, s) else drawNat s
  let (r2, s) := if det then (0, s) else drawNat s
  let sigE := le 96 (Config.sign schemeEcdsa (signingKeys s c).1 m r1)
  let sigM := le 3309 (Config.sign schemeMldsa (signingKeys s c).2 (inContext [] m) r2)
  let h := sha m
  let late := max (2 * c.periodNs) 2000000
  let g : Signed := { keyDigest := c.keyDigest, dep := c.dep, lastSeq := c.lastSeq, head := h, bytes := recordBytes m sigE sigM }
  let s := { s with dep := { s.dep with
    closing := s.dep.closing.drop 1
    oldKeys := s.dep.oldKeys.filter fun k => (s.dep.closing.drop 1).any fun x => x.serial == k.1
    leaves := s.dep.leaves.filter fun l => l.dep != c.dep
    signed := s.dep.signed ++ [g]
    head := h, prevHead := h, lastPub := pub } }
  let noted : Ckpt → Ckpt := fun k => if k.dep = c.dep then { k with lastSeq := c.lastSeq, head := some h } else k
  let s := { s with vm := { s.vm with ckptRunning := s.vm.ckptRunning.map noted } }
  let s := if c.actual + late < s.clk.run then
      event 0x0503 0 [(8, s.clk.run - (c.actual + late))]
        { s with dep := { s.dep with pubLate := sat32 (s.dep.pubLate + 1) } }
    else s
  let s := if c.flags.getLsbD 6 then closeBlocks s else s
  backlogOnSigned s

/-- The engine runs no operation (R308: a running one is never pre-empted). -/
def pkIdle (s : State) (e : Nat) : Bool := !(s.pk.ops.any fun c => c.engine == e && c.running)

/-- Engines that may sign now: those of the engine dies first, and the anchor's where none of these is free (R309). -/
def signers (s : State) : List Nat :=
  let idle := (pkInService s).filter (pkIdle s)
  let dies := idle.filter fun e => decide (2 ≤ e)
  if dies.isEmpty then idle else dies

/-- The pair that signs is held. -/
def pairHeld (s : State) (c : Closing) : Bool :=
  (pairFor s c).isSome || ((slotOf s 5).state == 1 && (slotOf s 6).state == 1)

/-- A public-key engine can sign the record: one is in service and free, and the pair is held. -/
def canSign (s : State) (c : Closing) : Bool := !(signers s).isEmpty && pairHeld s c

/-- A departure operation waits for an engine: no SERVICE command is started meanwhile (R308). -/
def signWaits (s : State) : Bool :=
  match readyToSign s with
  | some c => pairHeld s c && (signers s).isEmpty && !(pkInService s).isEmpty
  | none => false

/-- R162, R179: the oldest waiting record is written to a returned LEDGER slot, in departure order, and its
head offered to the coupled peers; admission and closing resume as the backlog falls (R50, R162). -/
def doLedgerPost (s : State) : State :=
  match outRing s 3 0, s.dep.signed with
  | some r, g :: rest =>
    let slot := (ringOf s r).fetch
    let s := postSlot r g.bytes 64 g.lastSeq g.dep s
    let s := { s with
      dep := { s.dep with signed := rest, posted := s.dep.posted ++ [(slot, g.dep, g.lastSeq)], stopped := false }
      adm := { s.adm with ledgerFull := s.adm.ledgerFull && decide (8 < rest.length) } }
    let s := if 4096 ≤ rest.length + 1 then noteCause 6 s else s
    offerHead g.dep g.head g.keyDigest s
  | _, _ => s

def execLedgerPost (s : State) : Res := .next (doLedgerPost s)

/-! ### DEPART registers (R153, R182) -/

/-- The period floor of the variant, us (R153). -/
def periodFloor (s : State) : Nat :=
  if s.otp.variant = 2 then 500 else if s.otp.variant = 4 then 200 else 100

def doDepartPeriodWrite (v : W32) (s : State) : State :=
  let us := (v.extractLsb' 0 20).toNat
  if us < periodFloor s || 1000000 < us then { s with dep := { s.dep with err := 0x1 } }
  else { s with dep := { s.dep with periodUs := us, periodChanged := true } }

def execDepartPeriodWrite (v : W32) (s : State) : Res := .next (hostWrite 0x40000 4 (doDepartPeriodWrite v) s)

/-- R182, R563: LOCK takes effect after the write that sets it; a WAIT_US above 1,000 is refused. -/
def doDepartWitnessWrite (v : W32) (s : State) : State :=
  if s.dep.witLock then s
  else if 1000 < (v.extractLsb' 0 11).toNat then { s with dep := { s.dep with err := 0x2 } }
  else { s with dep := { s.dep with
    witLag := (v.extractLsb' 16 8).toNat, witWaitUs := (v.extractLsb' 0 11).toNat, witLock := v.getLsbD 31 } }

def execDepartWitnessWrite (v : W32) (s : State) : Res := .next (hostWrite 0x40028 4 (doDepartWitnessWrite v) s)

end Sys2Proof.Machine
end

