-- ==== Sys2Proof/Machine/Accords.lean ====
section
/-! DEFINITION. Accords as every operation that needs one uses them (R249-R254, R372), and the placement of
work on engine dies (R25). -/

namespace Sys2Proof.Machine

/-! ### Officials and their set (R246) -/

/-- The 96 bytes of an OFFICIAL entry. -/
def Official.bytes (o : Official) : Bytes := padTo 16 o.card ++ padTo 65 o.pub ++ zeros 15

/-- The official set digest (R246). -/
def setDigest (l : List Official) : Digest := sha (l.flatMap Official.bytes)

/-- Entry i of a set has signed. -/
def signerBits (l : List Official) (signers : List Bytes) : Nat :=
  ((List.range l.length).map fun i =>
    match l[i]? with
    | some o => if signers.contains o.card then 2 ^ i else 0
    | none => 0).foldl (· + ·) 0

/-! ### The accord check (R253) -/

/-- Entries of an accord's body that the enrolled set does not hold (R247, R250). -/
def newOfficials (s : State) (a : Accord) : List Official :=
  a.body.filter fun o => !((ownerOf s a.owner).officials.any fun e => e.card == o.card)

/-- The officials whose signatures count towards M: the enrolled set, or for OWNER_ENROL those of the body. -/
def countingSet (s : State) (a : Accord) : List Official :=
  if a.opcode = 0x50 then a.body else (ownerOf s a.owner).officials

/-- M signatures are held, and for OFFICIAL_SET those of every new card (R247, R253). -/
def enoughSigned (s : State) (a : Accord) : Bool :=
  decide (a.m ≤ ((countingSet s a).filter fun o => a.signers.contains o.card).length)
    && (a.opcode != 0x52 || (newOfficials s a).all fun o => a.signers.contains o.card)

def expired (s : State) (a : Accord) : Bool := decide (a.openT + a.windowS * 10 ^ 9 < s.clk.run)

/-- R253: the accord, or the DETAIL of the first condition that fails; an expired accord is freed. -/
def accordCheck (id owner opcode : Nat) (digest : Digest) (s : State) : (Nat × State) ⊕ Accord :=
  match s.keys.accords.find? fun a => a.no % 65536 == id with
  | none => .inl (1, event 0x0705 owner [(8, 0), (2, 1)] s)
  | some a =>
    let no := fun (d : Nat) => Sum.inl (d, event 0x0705 owner [(8, a.no), (2, d)] s)
    if a.owner ≠ owner then no 2
    else if a.opcode ≠ opcode then no 3
    else if a.digest ≠ digest then no 4
    else if !enoughSigned s a then no 5
    else if expired s a then
      .inl (6, event 0x0706 owner [] { s with keys := { s.keys with
        accords := s.keys.accords.filter fun x => x.no != a.no } })
    else .inr a

/-- The accord is consumed (R254). -/
def dropAccord (a : Accord) (s : State) : State :=
  { s with keys := { s.keys with accords := s.keys.accords.filter fun x => x.no != a.no } }

/-- The CEREMONY leaf (R372). (DEDUCED, log 34) -/
def ceremonyLeaf (a : Accord) (handle : Nat) (tag ring : Nat) (s : State) : Leaf :=
  let set := countingSet s a
  { subject := a.no, arg := a.digest.toNat % 2 ^ 64, arg2 := handle, tag := tag
    arg3 := a.opcode + 256 * a.signers.length, ring := ring, kind := 0x0B, owner := a.owner
    ext := some (digestBytes (setDigest set) ++ le 2 (signerBits set a.signers)
      ++ le 2 (if a.opcode = 0x52 then signerBits a.body (a.signers.filter fun c => (newOfficials s a).any fun o => o.card == c) else 0)
      ++ zeros 12) }

/-- Consume an accord at an operation's admission step: number, CEREMONY leaf (R254, R372). -/
def ceremony (w : Work) (a : Accord) (handle : Nat) (s : State) : Work × State :=
  let l := ceremonyLeaf a handle (dTag w.desc) w.ring s
  let (w, s) := stampWork w a.owner (dropAccord a s)
  match w.stamp with
  | some st => (w, sealLeaf st l (replayNone s) s)
  | none => (w, s)

/-- Run an operation that always needs an accord: on failure ACCORD_REQUIRED with the DETAIL, otherwise the body
with the accord. -/
def withAccord (w : Work) (owner opcode : Nat) (body : Accord → State → State) (s : State) : State :=
  match accordCheck w.accordId owner opcode (sha w.input) s with
  | .inl (d, s') => finish w .accordRequired d [] s'
  | .inr a => body a s

/-! ### Placement (R24, R25) -/

/-- Placed work of a die that has not started. -/
def dieQueue (s : State) (k : Nat) : Nat :=
  (s.adm.items.filter fun i => i.die == k && i.ended.isNone && !(s.eng.threads.any fun t => t.seq == i.seq)).length

/-- Engines of a cluster that budgets count: seven, less those a quarantine leaves uncovered (R12, R94). -/
def clusterEngines (s : State) (die cluster : Nat) : Nat :=
  min 7 (8 - (s.eng.quarantined.filter fun e => e.die == die && e.cluster == cluster).length)

def dieEngines (s : State) (die : Nat) : Nat :=
  (List.range 8).foldl (fun n c => n + clusterEngines s die c) 0

/-- The die with the shortest queue among those in placement; the lowest number among equals. -/
def shortestQueue (s : State) : Nat :=
  ((diesOf s.sys.inService).foldl (fun (a : Option (Nat × Nat)) k =>
    match a with
    | none => some (k, dieQueue s k)
    | some (j, q) => if dieQueue s k < q then some (k, dieQueue s k) else some (j, q)) none).map (·.1) |>.getD 0

/-- The affinity die of an owner's clause subject (R25). -/
def affinityDie (s : State) (owner subject : Nat) : Nat :=
  s.eng.buckets.getD (Config.placementHash s.eng.hashKey (ownerOf s owner).id (BitVec.ofNat 64 subject) % 256) 0

/-- The die of a work item (R25): its affinity die, or the die with the shortest queue when the affinity die's
queue exceeds one-eighth of its in-service threads; 0 when no die is in placement. -/
def placeDie (s : State) (owner subject : Nat) : Nat :=
  let k := affinityDie s owner subject
  if !dieIn s.sys.inService k || 4 * dieEngines s k < 8 * dieQueue s k then shortestQueue s else k

end Sys2Proof.Machine
end

