-- ==== Sys2Proof/Machine/Operands.lean ====
section
/-! DEFINITION. The operand forms of the agreement ops (R128, R129): source registers, immediates, branch
targets, access sizes and window addresses. -/

namespace Sys2Proof.Machine

/-- Register g of a thread; g0 reads 0 (R116). -/
def Thread.reg (th : Thread) (g : BitVec 5) : W64 := if g = 0 then 0 else th.regs[g.toFin]

/-- Write register g; g0 ignores writes (R116). -/
def Thread.setReg (th : Thread) (g : BitVec 5) (v : W64) : Thread :=
  if g = 0 then th else { th with regs := th.regs.set g.toFin v }

/-- a: the value of the first source register. -/
def opA (th : Thread) (o : OpFields) : W64 := th.reg o.a

/-- IMM sign-extended to 64 bits. -/
def immS (o : OpFields) : W64 := o.imm.signExtend 64

/-- b of an arithmetic or logic op: MODE[0] replaces it with IMM sign-extended (R129). -/
def opB (th : Thread) (o : OpFields) : W64 := if o.mode.getLsbD 0 then immS o else th.reg o.b

/-- b of a branch: MODE[0] replaces it with MODE[8:1] zero-extended (R129). -/
def brB (th : Thread) (o : OpFields) : W64 :=
  if o.mode.getLsbD 0 then (o.mode.extractLsb' 1 8).setWidth 64 else th.reg o.b

/-- The op after this one. -/
def Thread.step (th : Thread) : Thread := { th with pc := th.pc + 1 }

/-- The branch target pc + 1 + IMM[15:0] (R129). -/
def Thread.branch (th : Thread) (o : OpFields) : Thread :=
  { th with pc := th.pc + 1 + (o.imm.extractLsb' 0 16).setWidth 12 }

/-- The access size of LD and ST: MODE[1:0] selects 1, 2, 4 or 8 bytes (R129). -/
def accessSize (o : OpFields) : Nat := 2 ^ (o.mode.extractLsb' 0 2).toNat

/-- The window offset a + IMM of LD and ST, the sum modulo 2^64 as in ADD. (DEDUCED, log 18; DESIGN CHOICE, log 59) -/
def windowAddr (th : Thread) (o : OpFields) : Nat := (opA th o + o.imm.setWidth 64).toNat

/-- The window is 16 KiB; scratch begins at 0x1000 (R116). -/
def windowSize : Nat := 0x4000
def scratchBase : Nat := 0x1000

/-! ### Scratch memory: bytes that are not 0, by offset, ascending -/

/-- The canonical form of a sparse byte memory: addresses strictly rise and no listed byte is 0. (DESIGN CHOICE, log 51) -/
def Memory.wf : List Host.Cell → Bool
  | [] => true
  | [c] => c.2 != 0
  | c :: d :: r => c.2 != 0 && decide (c.1 < d.1) && Memory.wf (d :: r)

/-- A byte that is not listed reads 0 (R117). (DESIGN CHOICE, log 51) -/
def Memory.read : List Host.Cell → Nat → Byte
  | [], _ => 0
  | c :: r, a => if c.1 = a then c.2 else Memory.read r a

/-- Write one byte, keeping the canonical form. (DESIGN CHOICE, log 51) -/
def Memory.write : List Host.Cell → Nat → Byte → List Host.Cell
  | [], a, v => if v = 0 then [] else [(a, v)]
  | c :: r, a, v =>
    if c.1 = a then (if v = 0 then r else (a, v) :: r)
    else if a < c.1 then (if v = 0 then c :: r else (a, v) :: c :: r)
    else c :: Memory.write r a v

/-- Write consecutive bytes. -/
def Memory.writes (m : List Host.Cell) (a : Nat) : Bytes → List Host.Cell
  | [] => m
  | v :: r => Memory.writes (Memory.write m a v) (a + 1) r

/-- One byte of the window (R116): the record below 0x1000, scratch above. -/
def Thread.readByte (th : Thread) (a : Nat) : Byte :=
  if a < scratchBase then th.record.getD a 0 else Memory.read th.scratch a

/-- n bytes of the window from an offset, byte 0 first. -/
def Thread.readBytes (th : Thread) (a : Nat) : Nat → Bytes
  | 0 => []
  | n + 1 => th.readByte a :: Thread.readBytes th (a + 1) n

end Sys2Proof.Machine
end

