-- ==== Sys2Proof/Machine/Agreement.lean ====
section
/-! DEFINITION. The 40 agreement ops (R130-R138): what each does to the thread that runs it. An op whose
thread runs no work item changes nothing. -/

namespace Sys2Proof.Machine

/-! ### Threads and items -/

def threadOf (s : State) (id : ThreadId) : Option Thread := s.eng.threads.find? fun t => t.id == id

def itemOf (s : State) (seq : Nat) : Option Item := s.adm.items.find? fun i => i.seq == seq

/-- The rulebook version that an item runs (R146), of the owner that was enrolled at its number (R248). -/
def bookFor (s : State) (i : Item) : Option Book :=
  s.eng.books.find? fun b => b.owner == i.owner && b.handle == i.handle && b.version == i.version
    && b.ownerId == (rootAt s i.owner i.seq).id

def setThread (th : Thread) (s : State) : State :=
  { s with eng := { s.eng with threads := s.eng.threads.map fun t => if t.id == th.id then th else t } }

def mapItem (seq : Nat) (f : Item → Item) (s : State) : State :=
  { s with adm := { s.adm with items := s.adm.items.map fun i => if i.seq == seq then f i else i } }

/-- Run a thread-local op: it needs the thread only. (DESIGN CHOICE, log 10) -/
def onThread (id : ThreadId) (f : Thread → Thread) (s : State) : State :=
  match threadOf s id with
  | some th => setThread (f th) s
  | none => s

/-- Run an op that needs the thread's work item and its rulebook. -/
def onWork (id : ThreadId) (f : Thread → Item → Book → State → State) (s : State) : State :=
  match threadOf s id with
  | some th =>
    match itemOf s th.seq with
    | some i =>
      match bookFor s i with
      | some b => f th i b s
      | none => s
    | none => s
  | none => s

/-- End a thread: it is free again, and its outcome goes to the controller (R138). `kind` is the SUB of
counter event 0x41. -/
def endThread (th : Thread) (e : EndOp) (kind : Nat) (s : State) : State :=
  let s := { s with eng := { s.eng with threads := s.eng.threads.filter fun t => t.id != th.id } }
  bumpAt th.id.die 0x41 [kind] 0 1 (mapItem th.seq (fun i => { i with ended := some e }) s)

/-- An op that reads a record ends its work item with FAULT where the controller has found the record's line bad
(R188). -/
def recordOp (id : ThreadId) (area : Nat) (key : Thread → Item → Nat) (f : Thread → Item → Book → State → State) (s : State) :
    State :=
  onWork id (fun t i b st =>
    if keyBad st i.owner area (key t i) then
      endThread t { status := .fault, reason := 0, staged := none, ruleField := 0, marks := 0 } 2 st
    else f t i b st) s

/-- The nonce advance of a staged set, alone (R130 REJECT, R138). -/
def nonceOnly (l : List Staged) : List Staged := l.filter fun x => match x with
  | .nonce _ _ _ => true
  | _ => false

/-- End as REJECT would, with a reason (R127, R130, R131). -/
def rejectWith (th : Thread) (reason kind : Nat) (s : State) : State :=
  endThread th { status := .sealedReject, reason := reason, staged := some (nonceOnly th.staged)
                 ruleField := th.ruleField, marks := th.marks } kind s

/-! ### Dispatch (R25, R117) -/

/-- Engines of a cluster that serve: not quarantined, not under test, and not the idle reserve. The reserve
serves in place of an engine that is quarantined or under test (R12, R149, R150). -/
def reserveOf (s : State) (die cluster : Nat) : Nat := s.eng.reserve.atD (8 * die + cluster) 7

def outOfWork (s : State) (e : EngineId) : Bool :=
  s.eng.quarantined.contains e || s.eng.underTest.any fun p => p.2 == e

def engineServes (s : State) (e : EngineId) : Bool :=
  dieIn s.sys.inService e.die && decide (e.cluster < 8) && decide (e.engine < 8) && !outOfWork s e
    && (e.engine != reserveOf s e.die e.cluster
        || (List.range 8).any fun k => k != e.engine && outOfWork s { die := e.die, cluster := e.cluster, engine := k })

def engineOf (t : ThreadId) : EngineId := { die := t.die, cluster := t.cluster, engine := t.engine }

/-- Threads of an engine that run an item. -/
def engineLoad (s : State) (e : EngineId) : Nat :=
  (s.eng.threads.filter fun t => engineOf t.id == e).length

/-- Engines of a die. -/
def enginesOf (die : Nat) : List EngineId :=
  (List.range 64).map fun k => { die := die, cluster := k / 8, engine := k % 8 }

/-- The free thread of a least-loaded in-service engine of the item's die (R25), or of the reserve on which an item of a
failed engine is placed again, while that engine serves (R35). -/
def dispatchable (s : State) (i : Item) (id : ThreadId) : Bool :=
  id.die == i.die && decide (id.thread < 4) && engineServes s (engineOf id) && (threadOf s id).isNone
    && match i.reserve.filter (engineServes s) with
      | some e => engineOf id == e
      | none => (enginesOf i.die).all fun e => !engineServes s e || decide (engineLoad s (engineOf id) ≤ engineLoad s e)

def terminalOf (s : State) (owner id : Nat) : Option Terminal :=
  s.vm.terminals.find? fun t => t.owner == owner && t.id == id

/-- The thread state at dispatch: everything 0, the record in the window (R117), and the terminal record that the anchor
reads as the item crosses the coupling (R133). (DEDUCED, log 18) -/
def freshThread (id : ThreadId) (i : Item) (entry : Nat) (term : Option Terminal) : Thread :=
  { id := id, seq := i.seq, pc := BitVec.ofNat 12 entry, regs := Vector.replicate 32 0, staged := []
    ruleField := 0, record := padTo 4096 i.record, scratch := [], marks := 0, terminal := term }

def doWorkDispatch (seq : Nat) (id : ThreadId) (s : State) : State :=
  match itemOf s seq with
  | some i =>
    match bookFor s i with
    | some b =>
      if i.ended.isSome || (s.eng.threads.any fun t => t.seq == seq) || !dispatchable s i id then s
      else
        let entry := if i.isCancel then b.cancel.getD 0 else 0
        let th := freshThread id i entry (terminalOf s i.owner (rd i.record 0 8))
        { s with eng := { s.eng with threads := th :: s.eng.threads } }
    | none => s
  | none => s

def execWorkDispatch (seq : Nat) (th : ThreadId) (s : State) : Res := .next (doWorkDispatch seq th s)

/-! ### Control flow and arithmetic (R129, R130) -/

def execNop (th : ThreadId) (_o : OpFields) (s : State) : Res := .next (onThread th (·.step) s)

def execJmp (th : ThreadId) (o : OpFields) (s : State) : Res := .next (onThread th (·.branch o) s)

/-- A conditional branch. -/
def branchOp (th : ThreadId) (o : OpFields) (c : W64 → W64 → Bool) (s : State) : State :=
  onThread th (fun t => if c (opA t o) (brB t o) then t.branch o else t.step) s

def execBeq (th : ThreadId) (o : OpFields) (s : State) : Res := .next (branchOp th o (fun a b => a == b) s)
def execBne (th : ThreadId) (o : OpFields) (s : State) : Res := .next (branchOp th o (fun a b => a != b) s)
def execBltu (th : ThreadId) (o : OpFields) (s : State) : Res := .next (branchOp th o (fun a b => a.ult b) s)
def execBgeu (th : ThreadId) (o : OpFields) (s : State) : Res := .next (branchOp th o (fun a b => !a.ult b) s)

/-- An op that writes d and goes on. -/
def writeOp (th : ThreadId) (o : OpFields) (f : Thread → W64) (s : State) : State :=
  onThread th (fun t => (t.setReg o.d (f t)).step) s

def aluOp (th : ThreadId) (o : OpFields) (f : W64 → W64 → W64) (s : State) : State :=
  writeOp th o (fun t => f (opA t o) (opB t o)) s

/-- min(a + b, 2^64 - 1). -/
def addSat (a b : W64) : W64 := if 2 ^ 64 ≤ a.toNat + b.toNat then BitVec.allOnes 64 else a + b

/-- ⌊a / b⌋, all ones for b = 0. -/
def divU (a b : W64) : W64 := if b = 0 then BitVec.allOnes 64 else a.udiv b

def execMovi (th : ThreadId) (o : OpFields) (s : State) : Res := .next (writeOp th o (fun _ => immS o) s)

/-- d[63:32] ← IMM; d[31:0] kept. -/
def execMovhi (th : ThreadId) (o : OpFields) (s : State) : Res :=
  .next (writeOp th o (fun t => o.imm ++ (t.reg o.d).extractLsb' 0 32) s)

def execAdd (th : ThreadId) (o : OpFields) (s : State) : Res := .next (aluOp th o (· + ·) s)
def execSub (th : ThreadId) (o : OpFields) (s : State) : Res := .next (aluOp th o (· - ·) s)
def execAddsat (th : ThreadId) (o : OpFields) (s : State) : Res := .next (aluOp th o addSat s)
def execMulu (th : ThreadId) (o : OpFields) (s : State) : Res := .next (aluOp th o (· * ·) s)
def execDivu (th : ThreadId) (o : OpFields) (s : State) : Res := .next (aluOp th o divU s)
def execAnd (th : ThreadId) (o : OpFields) (s : State) : Res := .next (aluOp th o (· &&& ·) s)
def execOr (th : ThreadId) (o : OpFields) (s : State) : Res := .next (aluOp th o (· ||| ·) s)
def execXor (th : ThreadId) (o : OpFields) (s : State) : Res := .next (aluOp th o (· ^^^ ·) s)
def execShl (th : ThreadId) (o : OpFields) (s : State) : Res :=
  .next (aluOp th o (fun a b => a <<< (b.toNat % 64)) s)
def execShr (th : ThreadId) (o : OpFields) (s : State) : Res :=
  .next (aluOp th o (fun a b => a >>> (b.toNat % 64)) s)
def execMinu (th : ThreadId) (o : OpFields) (s : State) : Res :=
  .next (aluOp th o (fun a b => if a.ult b then a else b) s)
def execMaxu (th : ThreadId) (o : OpFields) (s : State) : Res :=
  .next (aluOp th o (fun a b => if a.ult b then b else a) s)

/-! ### Memory, constants, tables, context (R130-R132) -/

/-- An op that may end its thread by a check. -/
def checkedOp (id : ThreadId) (f : Thread → Sum Nat Thread) (s : State) : State :=
  match threadOf s id with
  | none => s
  | some th =>
    match f th with
    | .inl reason => rejectWith th reason 2 s
    | .inr th' => setThread th' s

/-- The access lies inside the window (R131). -/
def inWindow (a n : Nat) : Bool := decide (a + n ≤ windowSize)

def execLd (th : ThreadId) (o : OpFields) (s : State) : Res :=
  .next (checkedOp th (fun t =>
    let a := windowAddr t o
    if inWindow a (accessSize o) then
      .inr ((t.setReg o.d (BitVec.ofNat 64 (leNat (t.readBytes a (accessSize o))))).step)
    else .inl 0xFF01) s)

def execSt (th : ThreadId) (o : OpFields) (s : State) : Res :=
  .next (checkedOp th (fun t =>
    let a := windowAddr t o
    if inWindow a (accessSize o) && decide (scratchBase ≤ a) then
      .inr { t with scratch := Memory.writes t.scratch a (le (accessSize o) (t.reg o.b).toNat), pc := t.pc + 1 }
    else .inl 0xFF01) s)

/-- CONST at index IMM + a; at or beyond NCONST the thread ends with 0xFF02 (R131). -/
def doConst (th : ThreadId) (o : OpFields) (s : State) : State :=
  onWork th (fun t _ b st =>
    match b.consts[(opA t o).toNat + o.imm.toNat]? with
    | some v => setThread ((t.setReg o.d v).step) st
    | none => rejectWith t 0xFF02 2 st) s

def execConst (th : ThreadId) (o : OpFields) (s : State) : Res := .next (doConst th o s)

/-- The index of a value in a list, all ones when absent. -/
def indexOf64 (l : List W64) (v : W64) : W64 :=
  match l.findIdx? (· == v) with
  | some i => BitVec.ofNat 64 i
  | none => BitVec.allOnes 64

def execLookup (th : ThreadId) (o : OpFields) (s : State) : Res :=
  .next (onWork th (fun t _ b st =>
    setThread ((t.setReg o.d (indexOf64 (b.tables.getD o.imm.toNat []) (opA t o))).step) st) s)

/-- The fixed header of a record (R119). -/
def hTerminal (r : Bytes) : Nat := rd r 0 8
def hTense (r : Bytes) : Nat := rd r 8 4
def hGame (r : Bytes) : Nat := rd r 12 4
def hCtr (r : Bytes) : Nat := rd r 16 4
def hBodyLen (r : Bytes) : Nat := rd r 28 2
def hFormat (r : Bytes) : Nat := rd r 30 1

/-- A context value (R132); the loader admits no other selector. -/
def ctxValue (s : State) (i : Item) (sel : Nat) : Nat :=
  match sel with
  | 0 => i.t | 1 => i.unc | 2 => i.seq | 3 => i.dep | 4 => i.game | 5 => i.openT | 6 => i.closeT
  | 7 => i.guard | 8 => (ownerOf s i.owner).id.toNat | 9 => s.otp.deviceId.toNat | 10 => i.ring
  | 11 => hTerminal i.record | 12 => hTense i.record | 13 => hCtr i.record | 14 => dSrcLen i.desc
  | 15 => i.targetDev | 16 => i.targetSeq
  | _ => 0

def execCtx (th : ThreadId) (o : OpFields) (s : State) : Res :=
  .next (onWork th (fun t i _ st =>
    setThread ((t.setReg o.d (BitVec.ofNat 64 (ctxValue st i o.imm.toNat))).step) st) s)

def execCnt (th : ThreadId) (o : OpFields) (s : State) : Res :=
  .next (onThread th (fun t => { t with
    marks := t.marks ||| ((1 : BitVec 16) <<< (o.imm.extractLsb' 0 4).toNat), pc := t.pc + 1 }) s)

/-! ### Syntax (R124-R127, R130) -/

/-- The body in the window. -/
def bodyAt (t : Thread) (off n : Nat) : Bytes := slice t.record (32 + off) n

/-- The received length of a field: for VBYTES the rest of the body (R125). -/
def fieldLen (t : Thread) (f : SynField) : Nat := if f.ty = 5 then hBodyLen t.record - f.off else f.len

def fieldBytes (t : Thread) (f : SynField) : Bytes := bodyAt t f.off (fieldLen t f)

/-- The value of a UINT field, or the first 8 bytes of another field (R130 FLD). -/
def fieldValue (t : Thread) (f : SynField) : Nat := leNat ((fieldBytes t f).take 8)

/-- The count of a DSET field (R125). -/
def dsetCount (t : Thread) (b : Book) (f : SynField) : Nat :=
  match b.fields[f.count]? with
  | some g => fieldValue t g
  | none => 0

/-- Elements strictly ascend within bounds. -/
def strictIn (lo hi : Nat) : Bytes → Bool
  | [] => true
  | [x] => decide (lo ≤ x.toNat) && decide (x.toNat ≤ hi)
  | x :: y :: r => decide (lo ≤ x.toNat) && decide (x.toNat ≤ hi) && decide (x.toNat < y.toNat) && strictIn lo hi (y :: r)

/-- A field passes the syntax (R125). -/
def fieldOk (t : Thread) (b : Book) (f : SynField) : Bool :=
  match f.ty with
  | 1 => [1, 2, 4, 8].contains f.len && decide (f.lo ≤ fieldValue t f) && decide (fieldValue t f ≤ f.hi)
  | 2 => true
  | 3 => (fieldBytes t f).all (· == 0)
  | 4 =>
    let k := dsetCount t b f
    decide (k ≤ f.len) && strictIn f.lo f.hi ((fieldBytes t f).take k) && ((fieldBytes t f).drop k).all (· == 0)
  | 5 => true
  | _ => false

/-- BODY_LEN equals the end of the last field, or lies within the VBYTES range (R127). -/
def bodyLenOk (t : Thread) (b : Book) : Bool :=
  match b.fields.getLast? with
  | some f =>
    if f.ty = 5 then decide (f.off ≤ hBodyLen t.record) && decide (hBodyLen t.record ≤ f.off + f.len)
    else hBodyLen t.record == f.off + f.len
  | none => hBodyLen t.record == 0

def parseOk (t : Thread) (b : Book) : Bool := bodyLenOk t b && b.fields.all (fieldOk t b)

def execParse (th : ThreadId) (o : OpFields) (s : State) : Res :=
  .next (onWork th (fun t _ b st =>
    if parseOk t b then setThread t.step st
    else rejectWith t (o.imm.extractLsb' 0 16).toNat 2 st) s)

/-- An op on a syntax field; the loader admits only fields of the syntax. -/
def fieldOp (th : ThreadId) (o : OpFields) (f : Thread → Book → SynField → Nat) (s : State) : State :=
  onWork th (fun t _ b st =>
    match b.fields[o.imm.toNat]? with
    | some g => setThread ((t.setReg o.d (BitVec.ofNat 64 (f t b g))).step) st
    | none => st) s

def execFld (th : ThreadId) (o : OpFields) (s : State) : Res :=
  .next (fieldOp th o (fun t _ g => fieldValue t g) s)

def execFlen (th : ThreadId) (o : OpFields) (s : State) : Res :=
  .next (fieldOp th o (fun t b g => if g.ty = 4 then dsetCount t b g else fieldLen t g) s)

/-- The first 8 bytes, little-endian, of SHA-384 over a field as received. -/
def execDigest (th : ThreadId) (o : OpFields) (s : State) : Res :=
  .next (fieldOp th o (fun t _ g => digest8 (fieldBytes t g)) s)

/-! ### Terminal authentication (R133-R135) -/

/-- The wager and receipt clauses of a record (R133). -/
def wagerClause (s : State) (owner seq : Nat) (r : Bytes) : Bytes :=
  clause (hTerminal r) 0x0001 (rootAt s owner seq).id.toNat (hTense r)
def receiptClause (s : State) (owner seq : Nat) (r : Bytes) : Bytes :=
  clause (hTerminal r) 0x0002 (rootAt s owner seq).id.toNat (hTense r)

/-- Check 1 of R134; a CANCEL or CLAIM record has the form of R200. -/
def formOk (r : Bytes) (srcLen lmax : Nat) (isClaim : Bool) : Bool :=
  (hFormat r == 1 || hFormat r == 2) && rd r 31 1 == 0 && srcLen == 48 + hBodyLen r
    && decide (srcLen ≤ if isClaim then 64 else lmax)
    && (!isClaim || (hFormat r == 1 && hBodyLen r == 16 && hGame r == 0))

/-- Checks 1 to 5 of R134, in order, against the terminal record that was read: the status and DETAIL of the first
that fails. -/
def authPre (s : State) (owner seq srcLen lmax : Nat) (isClaim : Bool) (term : Option Terminal) (r : Bytes) :
    Option (Status × Nat) :=
  if !formOk r srcLen lmax isClaim then some (.authFail, 0x0004)
  else if (rootFor s owner seq (hTerminal r)).isNone then some (.noKey, 0x0001)
  else
    match term with
    | none => none
    | some x =>
      if hTense r < x.tense then some (.noKey, 0x0003)
      else if x.tense = hTense r ∧ x.ctr = 0xFFFFFFFF then some (.keyLimit, 0x0001)
      else if x.tense = hTense r ∧ hCtr r ≤ x.ctr then some (.authFail, 0x0002)
      else none

/-- Check 6: the GCM tag under the wager key; the body as the thread will see it. -/
def authGcm (s : State) (owner seq : Nat) (r : Bytes) : Bytes × Bool :=
  let key := clauseKey ((rootFor s owner seq (hTerminal r)).getD []) (wagerClause s owner seq r)
  let n := hBodyLen r
  let nonce := slice r 16 12
  let tag := slice r (32 + n) 16
  if hFormat r = 1 then (slice r 32 n, (gcmOpen key nonce (slice r 0 (32 + n)) [] tag).2)
  else gcmOpen key nonce (slice r 0 32) (slice r 32 n) tag

/-- One entry of a die's derived-key cache leaves it where it could not take two more. (DESIGN CHOICE, log 19) -/
def makeRoom {α : Type} (l : List α) (s : State) : List α × State :=
  if l.length ≤ 4094 then (l, s)
  else
    let (k, s) := freeNat s
    (l.eraseIdx (k % l.length), s)

/-- The derived-key cache of a die (R243): a hit, or one lane pass that derives both keys (R133) and uses the root in
force at the sequence number once (R236). The cache holds 4,096 entries. -/
def cacheLookup (die owner seq : Nat) (r : Bytes) (s : State) : State :=
  let v := rootAt s owner seq
  let e1 := (die, owner, v.slot, v.gen, wagerClause s owner seq r)
  let e2 := (die, owner, v.slot, v.gen, receiptClause s owner seq r)
  if s.keys.cache.contains e1 && s.keys.cache.contains e2 then bumpAt die 0x42 [0] 0 1 s
  else
    let others := s.keys.cache.filter fun e => e.1 != die
    let (mine, s) := makeRoom (s.keys.cache.filter fun e => e.1 == die && e != e1 && e != e2) s
    let (mine, s) := makeRoom mine s
    bumpAt die 0x42 [1] 0 1 (useRoot owner seq { s with keys := { s.keys with cache := e1 :: e2 :: mine ++ others } })

/-- The receipt key of a record, where the root in force gives one (R141). -/
def receiptKeyOf (s : State) (owner seq : Nat) (r : Bytes) : Option Bytes :=
  (rootFor s owner seq (hTerminal r)).map fun k => clauseKey k (receiptClause s owner seq r)

/-- AUTH (R134, R135): the first check that fails ends the thread and commits nothing; otherwise both keys are derived
or found in the cache (R133), and after a good tag the nonce advance is staged and the body holds plaintext.
 (DEDUCED, log 18) -/
def doAuth (id : ThreadId) (s : State) : State :=
  recordOp id 1 (fun _ i => terminalKey (hTerminal i.record)) (fun t i b st =>
    let r := i.record
    let st := checkRoot i.owner i.seq st
    match authPre st i.owner i.seq (dSrcLen i.desc) b.lmax i.isCancel t.terminal r with
    | some (status, detail) =>
      endThread t { status := status, reason := detail, staged := none, ruleField := t.ruleField, marks := t.marks } 2 st
    | none =>
      let (body, ok) := authGcm st i.owner i.seq r
      let key := receiptKeyOf st i.owner i.seq r
      let st := mapItem i.seq (fun x => { x with receiptKey := key }) (cacheLookup id.die i.owner i.seq r st)
      if ok then
        setThread { t with
          record := slice t.record 0 32 ++ body ++ t.record.drop (32 + body.length)
          staged := t.staged ++ [.nonce (hTerminal r) (hTense r) (hCtr r)]
          pc := t.pc + 1 } st
      else
        endThread t { status := .authFail, reason := 0x0001, staged := none, ruleField := t.ruleField, marks := t.marks } 2 st) s

def execAuth (th : ThreadId) (_o : OpFields) (s : State) : Res := .next (doAuth th s)

/-! ### Limit counters (R136, R205) -/

def limitOf (s : State) (owner id : Nat) : Option LimitCtr :=
  s.vm.limits.find? fun c => c.owner == owner && c.id == id

/-- The window index of a time (R205). -/
def windowIndex (origin wlenH t : Nat) : Nat :=
  if wlenH = 0 then 0 else (t - origin) / (wlenH * 3600000000000)

/-- The current value of a counter for a change at time t: its value in t's window, 0 in a newer window or an
older one (R205). -/
def windowValue (s : State) (owner id t : Nat) : Nat :=
  match limitOf s owner id with
  | none => 0
  | some c => if windowIndex (ownerOf s owner).origin c.wlenH t = c.window then c.value else 0

/-- t's window lies below the counter's WINDOW: nothing is staged (R205). -/
def windowPast (s : State) (owner id t : Nat) : Bool :=
  match limitOf s owner id with
  | none => false
  | some c => decide (windowIndex (ownerOf s owner).origin c.wlenH t < c.window)

/-- A value after one staged change: additions add, subtractions stop at 0 (R136). -/
def applyDelta (v delta : Nat) (sub : Bool) : Nat := if sub then v - delta else v + delta

/-- The value after every change that the path has staged for the counter (R136). -/
def stagedValue (id v : Nat) (l : List Staged) : Nat :=
  l.foldl (fun v x => match x with
    | .limit i d sub _ _ => if i = id then applyDelta v d sub else v
    | _ => v) v

/-- The current window value as a path sees it: with every change an earlier LIMADD has staged (R136). -/
def pathValue (s : State) (t : Thread) (i : Item) (id : Nat) : Nat :=
  stagedValue id (windowValue s i.owner id i.t) t.staged

/-- LIMGET reads the current window value (R130, R136). -/
def execLimget (th : ThreadId) (o : OpFields) (s : State) : Res :=
  .next (recordOp th 1 (fun t _ => limitKey (opA t o).toNat) (fun t i _ st =>
    setThread ((t.setReg o.d (BitVec.ofNat 64 (pathValue st t i (opA t o).toNat))).step) st) s)

/-- LIMADD (R136): checked against the limit or saturating at 0 by MODE[1]; IMM[15:0] is the reason of a failed
re-check, constant IMM[31:16] the limit of an absent counter. -/
def doLimadd (id : ThreadId) (o : OpFields) (s : State) : State :=
  recordOp id 1 (fun t _ => limitKey (opA t o).toNat) (fun t i b st =>
    let cid := (opA t o).toNat
    let delta := (t.reg o.b).toNat
    let defLimit := (b.consts.getD (o.imm.extractLsb' 16 16).toNat 0).toNat
    let limit := match limitOf st i.owner cid with
      | some c => c.limit
      | none => defLimit
    let past := windowPast st i.owner cid i.t
    let cur := pathValue st t i cid
    let sub := o.mode.getLsbD 1
    let fits := sub || decide (cur + delta ≤ limit)
    let v := applyDelta cur delta sub
    let entry := Staged.limit cid delta sub (o.imm.extractLsb' 0 16).toNat defLimit
    let t' := t.setReg o.d (if fits then BitVec.ofNat 64 v else BitVec.allOnes 64)
    setThread { t' with
      staged := if fits && !past then t.staged ++ [entry] else t.staged, pc := t.pc + 1 } st) s

def execLimadd (th : ThreadId) (o : OpFields) (s : State) : Res := .next (doLimadd th o s)

/-! ### Tickets (R137, R197, R198) -/

def ticketOf (s : State) (owner issuer seq : Nat) : Option Ticket :=
  s.vm.tickets.find? fun t => t.owner == owner && t.issuer == issuer && t.seq == seq

def execTkins (th : ThreadId) (o : OpFields) (s : State) : Res :=
  .next (onThread th (fun t => { t with
    staged := t.staged ++ [.ticketInsert (opA t o) (t.reg o.b)], pc := t.pc + 1 }) s)

/-- The state code of the target ticket; all ones when absent. A PENDING entry is not yet a ticket (R209). -/
def execTkget (th : ThreadId) (o : OpFields) (s : State) : Res :=
  .next (recordOp th 2 (fun _ i => ticketKey 0 i.targetSeq) (fun t i _ st =>
    let v := match ticketOf st i.owner 0 i.targetSeq with
      | some k => if k.pending then BitVec.allOnes 64 else BitVec.ofNat 64 k.state
      | none => BitVec.allOnes 64
    setThread ((t.setReg o.d v).step) st) s)

def execTkset (th : ThreadId) (o : OpFields) (s : State) : Res :=
  .next (onThread th (fun t => { t with
    staged := t.staged ++ [.ticketMove (o.imm.extractLsb' 0 3).toNat], pc := t.pc + 1 }) s)

/-! ### Rule field and end ops (R130) -/

def execRfield (th : ThreadId) (o : OpFields) (s : State) : Res :=
  .next (onThread th (fun t => { t with ruleField := opA t o, pc := t.pc + 1 }) s)

/-- RULE_FIELD ← first 8 bytes, little-endian, of SHA-384 over the body. -/
def execRfdig (th : ThreadId) (_o : OpFields) (s : State) : Res :=
  .next (onThread th (fun t => { t with
    ruleField := BitVec.ofNat 64 (digest8 (bodyAt t 0 (hBodyLen t.record))), pc := t.pc + 1 }) s)

def doAccept (id : ThreadId) (s : State) : State :=
  match threadOf s id with
  | some t => endThread t { status := .ok, reason := 0, staged := some t.staged
                            ruleField := t.ruleField, marks := t.marks } 0 s
  | none => s

def execAccept (th : ThreadId) (_o : OpFields) (s : State) : Res := .next (doAccept th s)

def doReject (id : ThreadId) (o : OpFields) (s : State) : State :=
  match threadOf s id with
  | some t => rejectWith t (o.imm.extractLsb' 0 16).toNat 1 s
  | none => s

def execReject (th : ThreadId) (o : OpFields) (s : State) : Res := .next (doReject th o s)

end Sys2Proof.Machine
end

