-- ==== Sys2Proof/Machine/Settlement.lean ====
section
/-! DEFINITION. The settlement register, limit counters and terminal records (R136-R141, R193-R209), the commit
rule, and the QUERY commands. -/

namespace Sys2Proof.Machine

/-! ### Replay records (R211) -/

/-- A replay record (R211) of the present commit number. -/
structure Replay where
  nonce : Option (Nat × Nat × Nat) := none
  /-- TK code and the ticket. -/
  ticket : Option (Nat × Ticket) := none
  counters : List (Nat × Int) := []
  misc : Option (Nat × Bytes) := none
  deriving DecidableEq, Repr

def replayBytes (r : Replay) (s : State) : Bytes :=
  le 1 r.counters.length ++ le 1 (match r.ticket with
      | some (k, _) => k
      | none => 0)
    ++ le 1 (match r.misc with
      | some (k, _) => k
      | none => 0)
    ++ le 1 (if r.nonce.isSome then 1 else 0) ++ zeros 4 ++ le 8 s.vm.commitNo
    ++ (match r.nonce with
        | some (t, n, c) => le 8 t ++ le 4 n ++ le 4 c
        | none => [])
    ++ (match r.ticket with
        | some (_, t) => le 8 t.amount.toNat ++ le 8 t.data.toNat ++ le 4 t.game ++ le 1 t.state ++ le 1 t.issuer ++ le 2 t.payer
        | none => [])
    ++ r.counters.flatMap (fun c => le 8 c.1 ++ le 8 (BitVec.ofInt 64 c.2).toNat)
    ++ (match r.misc with
        | some (_, b) => padTo 32 b
        | none => [])

/-! ### The commit rule (R138, R245) -/

/-- The pair (TENSE, NONCE_CTR) exceeds the terminal record's pair (R245). -/
def nonceAdvances (s : State) (o term tense ctr : Nat) : Bool :=
  match terminalOf s o term with
  | none => true
  | some x => decide (x.tense < tense) || (x.tense == tense && decide (x.ctr < ctr))

def stagedNonce (l : List Staged) : Option (Nat × Nat × Nat) :=
  l.findSome? fun x => match x with
    | .nonce t n c => some (t, n, c)
    | _ => none

def stagedInsert (l : List Staged) : Option (W64 × W64) :=
  l.findSome? fun x => match x with
    | .ticketInsert a b => some (a, b)
    | _ => none

def stagedMove (l : List Staged) : Option Nat :=
  l.findSome? fun x => match x with
    | .ticketMove k => some k
    | _ => none

/-- Ids of the counters that a staged set would create. -/
def newCounters (s : State) (o : Nat) (l : List Staged) : List Nat :=
  (l.filterMap fun x => match x with
    | .limit i _ _ _ _ => if (limitOf s o i).isNone then some i else none
    | _ => none).dedup

/-- The counter as a change at time t finds it: in t's window, created when absent (R136, R205). -/
def counterAt (s : State) (o id t defLimit : Nat) : LimitCtr :=
  let w := ownerOf s o
  match limitOf s o id with
  | none => { owner := o, id := id, value := 0, limit := defLimit, window := windowIndex w.origin w.wlenH t, wlenH := w.wlenH }
  | some c =>
    let k := windowIndex w.origin c.wlenH t
    if c.window < k then { c with value := 0, window := k } else c

/-- Apply one staged counter change; a change for a past window applies nothing (R205). -/
def applyLimit (o t : Nat) (id delta : Nat) (sub : Bool) (defLimit : Nat) (s : State) : State :=
  if windowPast s o id t then s
  else
    let c := counterAt s o id t defLimit
    putLimit { c with value := applyDelta c.value delta sub % 2 ^ 64 } s

/-- The reason of the first staged addition, in path order, that now exceeds its limit (R138). -/
def failingLimit (o t : Nat) : List Staged → State → Option Nat
  | [], _ => none
  | x :: r, s =>
    match x with
    | .limit id delta sub reason defLimit =>
      let c := counterAt s o id t defLimit
      if !sub && !windowPast s o id t && decide (c.limit < c.value + delta) then some reason
      else failingLimit o t r (applyLimit o t id delta sub defLimit s)
    | _ => failingLimit o t r s

/-- A move that R198 allows to a CANCEL entry's TKSET. -/
def tksetAllowed (frm dst : Nat) : Bool := frm == 0 && (dst == 1 || dst == 4)

/-- The target's move is allowed. -/
def moveOk (s : State) (i : Item) (dst : Nat) : Bool :=
  match ticketOf s i.owner 0 i.targetSeq with
  | some k => !k.pending && tksetAllowed k.state dst
  | none => false

/-- What the commit checks of R138 decide: the first row that holds. -/
inductive CommitRow where
  | nothing (st : Status) (reason : Nat)
  | nonceOnly (st : Status) (reason : Nat)
  | whole
  deriving DecidableEq, Repr

/-- The terminal record that a staged set creates. -/
def newTerminal (s : State) (o : Nat) (l : List Staged) : List Nat :=
  match stagedNonce l with
  | some (t, _, _) => if (terminalOf s o t).isNone then [terminalKey t] else []
  | none => []

/-- The staged ticket finds no place. -/
def noTicketRoom (s : State) (i : Item) (l : List Staged) : Bool :=
  (stagedInsert l).isSome && !settleRoom s i.owner (ticketKey 0 i.seq)

def commitRow (s : State) (i : Item) (l : List Staged) : CommitRow :=
  let o := i.owner
  let nonceBad := match stagedNonce l with
    | some (t, n, c) => !nonceAdvances s o t n c
    | none => false
  let term := newTerminal s o l
  let cs := (newCounters s o l).map limitKey
  if nonceBad then .nothing .authFail 0x0002
  else if !term.isEmpty && !counterRoom s o term then .nothing .noKey 0x0002
  else if (!cs.isEmpty && !counterRoom s o (term ++ cs)) || noTicketRoom s i l then .nonceOnly .sealedReject 0xFF03
  else
    match failingLimit o i.t l s with
    | some r => .nonceOnly .sealedReject r
    | none =>
      match stagedMove l with
      | some k => if moveOk s i k then .whole else .nonceOnly .sealedReject 0xFF04
      | none => .whole

/-- The nonce advance of a staged set is applied (R134). -/
def applyNonce (o : Nat) (l : List Staged) (s : State) : State :=
  match stagedNonce l with
  | some (t, n, c) => putTerminal { owner := o, id := t, tense := n, ctr := c } s
  | none => s

/-- What a sweep does to one ticket of its game: the ticket it leaves, if any, and whether it was deleted or
voided (R207). (DEDUCED, log 24) -/
def sweepTicket (mode : BitVec 3) (t : Ticket) : Option Ticket :=
  if t.state = 0 && mode.getLsbD 0 then none
  else if t.state = 2 && mode.getLsbD 1 then some { t with state := 4 }
  else if (t.state = 1 || t.state = 3 || t.state = 4) && mode.getLsbD 2 then none
  else some t

/-- The ticket of a wager admitted before a running sweep of its game is swept as it is sold (R207). (DEDUCED, log 24) -/
def sellTicket (t : Ticket) (s : State) : State :=
  match s.vm.sweeps.find? fun x => x.owner == t.owner && x.game == t.game && decide (t.seq < x.atSeq) with
  | none => putTicket t s
  | some x =>
    match sweepTicket x.mode t with
    | some t' => putTicket t' s
    | none => { s with vm := { s.vm with sweeps := s.vm.sweeps.map fun y =>
        if y == x then { y with deleted := y.deleted + 1 } else y } }

/-- Counter, ticket and move changes of a staged set. -/
def applyOthers (i : Item) (l : List Staged) (s : State) : State :=
  l.foldl (fun st x => match x with
    | .limit id d sub _ dl => applyLimit i.owner i.t id d sub dl st
    | .ticketInsert a b => sellTicket
        { issuer := 0, seq := i.seq, amount := a, data := b, game := i.game, payer := 0, pending := false
          state := 0, owner := i.owner } st
    | .ticketMove k => match ticketOf st i.owner 0 i.targetSeq with
      | some t => putTicket { t with state := k } st
      | none => st
    | .nonce _ _ _ => st) s

/-- The counter parts of a replay record: one per counter, with the applied delta. -/
def replayCounters (i : Item) (l : List Staged) (before after : State) : List (Nat × Int) :=
  ((l.filterMap fun x => match x with
    | .limit id _ _ _ _ => some id
    | _ => none).dedup).map fun id =>
      let v := fun (s : State) => ((limitOf s i.owner id).map (·.value)).getD 0
      (id, if windowPast before i.owner id i.t then 0
           else (v after : Int) - (windowValue before i.owner id i.t : Int))

def replayTicket (i : Item) (l : List Staged) (after : State) : Option (Nat × Ticket) :=
  if (stagedInsert l).isSome then (ticketOf after i.owner 0 i.seq).map fun t => (1, t)
  else if (stagedMove l).isSome then (ticketOf after i.owner 0 i.targetSeq).map fun t => (2, t)
  else none

/-! ### Finishing a wager or a cancellation (R62, R141, R164) -/

/-- Outcomes without a receipt (R62). -/
def noReceipt : Status → Bool
  | .authFail => true
  | .noKey => true
  | .keyLimit => true
  | .ringStopped => true
  | _ => false

/-- A receipt (R62, R141): its 48 content bytes and their MAC under the terminal's receipt key. -/
def receiptBytes (key : Bytes) (dev : W64) (st : Stamp) (ctr : Nat) (status : Status) (reason : Nat)
    (ruleField : W64) : Bytes :=
  let b := le 8 st.seq ++ le 8 st.t ++ le 8 st.dep ++ le 8 dev.toNat ++ le 4 ctr ++ le 1 status.code ++ [1]
    ++ le 2 reason ++ le 8 ruleField.toNat
  padTo 48 b ++ kmac 16 key (padTo 48 b) "SOLNY RECEIPT"

/-- The die on a lane of which a receipt is made: the one named, or another in service (R62, R141). -/
def receiptDie (s : State) (die : Nat) : Option Nat :=
  if dieIn s.sys.inService die then some die else (diesOf s.sys.inService).head?

/-- Derive the receipt key on a die, where the root in force gives one: a cache miss takes a use (R141, R236). -/
def deriveReceipt (die : Option Nat) (owner seq : Nat) (r : Bytes) (s : State) : Option Bytes × State :=
  let s := checkRoot owner seq s
  match die, receiptKeyOf s owner seq r with
  | some d, some k => (some k, cacheLookup d owner seq r s)
  | _, _ => (none, s)

/-- The receipt key of an ended wager (R62, R141): the key that AUTH derived, where its die still serves; otherwise it
is derived on a die in service. -/
def receiptKey (i : Item) (status : Status) (s : State) : Option Bytes × State :=
  if noReceipt status || i.isCancel then (none, s)
  else
    match i.receiptKey with
    | some k => if dieIn s.sys.inService i.die || status != .fault then (some k, s)
      else deriveReceipt (receiptDie s i.die) i.owner i.seq i.record s
    | none => deriveReceipt (receiptDie s i.die) i.owner i.seq i.record s

/-- The WAGER leaf (R164). -/
def wagerLeaf (ring owner : Nat) (desc : BitVec 512) (r : Bytes) (status : Status) (reason : Nat) (ruleField : W64)
    (handle version subtree : Nat) : Leaf :=
  { subject := hTerminal r, arg := digest8 r, arg2 := ruleField.toNat, tag := dTag desc, arg3 := hCtr r
    version := version, handle := handle, ring := ring, reason := reason, status := status, kind := 0x01
    owner := owner, subtree := subtree }

/-- The QUERY leaf of a ticket (R164). -/
def queryLeaf (ring owner : Nat) (desc : BitVec 512) (dev seq : Nat) (status : Status) (reason subtree : Nat) : Leaf :=
  { subject := dev, arg := seq, tag := dTag desc, arg3 := dOp desc, ring := ring, reason := reason
    status := status, kind := 0x02, owner := owner, subtree := subtree }

/-- The output of a CANCEL: the image of its ticket where it holds one. -/
def imageOf (t : Option Ticket) : Bytes :=
  match t with
  | some k => ticketBytes k
  | none => []

/-- End an item with its outcome: leaf, receipt or image, completion. Of a ring that is gone, the outcome is
sealed and its completion discarded (R75). -/
def finishItem (i : Item) (status : Status) (reason : Nat) (ruleField : W64) (marks : BitVec 16) (replay : Bytes)
    (s : State) : State :=
  let st : Stamp := { seq := i.seq, t := i.t, dep := i.dep }
  let l := if i.isCancel then queryLeaf i.ring i.owner i.desc i.targetDev i.targetSeq status reason i.die
    else wagerLeaf i.ring i.owner i.desc i.record status reason ruleField i.handle i.version i.die
  let (key, s) := receiptKey i status (sealLeaf st l replay s)
  let receipt := key.map fun k => receiptBytes k s.otp.deviceId st (hCtr i.record) status reason ruleField
  let w : Work := { ring := i.ring, gen := i.gen, idx := i.idx, desc := i.desc, src := [], stamp := some st }
  let s := if i.isCancel then writeDst w (imageOf (ticketOf s i.owner 0 i.targetSeq)) s else s
  let d : Done := { idx := i.idx, tag := dTag i.desc, status := status, detail := reason, stamp := some st
                    receipt := receipt, untrusted := false, irq := dIrq i.desc, marks := marks }
  if ringTakes (ringOf s i.ring) i.gen then deliver i.ring i.gen d s else dropItem i.seq s

/-- R139: the outcome is kept until the completion is written. -/
def keep (k : Kept) (s : State) : State := { s with vm := { s.vm with kept := k :: s.vm.kept } }

/-- Apply a staged set under the commit rule: status, reason, the replay record of what was applied, and whether a set
was applied. A set that needs a line found bad applies nothing and completes with FAULT (R188). -/
def applyCommit (i : Item) (e : EndOp) (l : List Staged) (s : State) : (Status × Nat × Bytes × Bool) × State :=
  if stagedBad s i l then ((.fault, 0, replayBytes {} s, false), s)
  else
    match commitRow s i l with
    | .nothing st r => ((st, r, replayBytes {} s, false), if st = .noKey then noteFull i.owner 1 s else s)
    | .nonceOnly st r =>
      let s := if r = 0xFF03 then noteFull i.owner (if noTicketRoom s i l then 2 else 1) s else s
      let s := bump 0x09 [0] i.owner 1 (commitSet s (applyNonce i.owner l s))
      ((st, r, replayBytes { nonce := stagedNonce l } s, true), s)
    | .whole =>
      let after := bump 0x09 [0] i.owner 1 (commitSet s (applyOthers i l (applyNonce i.owner l s)))
      ((e.status, e.reason, replayBytes { nonce := stagedNonce l, ticket := replayTicket i l after
                                          counters := replayCounters i l s after } after, true), after)

/-- R138, R139: the staged set of an ended work item is applied in one atomic step, or, for a number already
applied, the kept outcome is returned; the outcome is sealed and completed. -/
def doCommit (seq : Nat) (s : State) : State :=
  match itemOf s seq with
  | none => s
  | some i =>
    match i.ended with
    | none => s
    | some e =>
      if !(s.adm.owed.any fun o => o.seq == seq) then s
      else
        match s.vm.kept.find? fun k => k.seq == seq with
        | some k => finishItem i k.status k.reason k.ruleField k.marks k.replay s
        | none =>
          match e.staged with
          | none => finishItem i e.status e.reason e.ruleField 0 (replayBytes {} s) s
          | some l =>
            let ((st, r, rb, applied), s) := applyCommit i e l s
            let field := if st = .fault then 0 else e.ruleField
            if applied then
              finishItem i st r field e.marks rb
                (keep { seq := seq, status := st, reason := r, ruleField := field, replay := rb, marks := e.marks } s)
            else finishItem i st r field 0 rb s

def execCommit (seq : Nat) (s : State) : Res := .next (doCommit seq s)

/-! ### Owner-tagged bodies (R100, R101, R199) -/

/-- The outcome of the body checks of R101, in order; `ok` carries the new command counter. -/
inductive BodyCheck where
  | bad (st : Status)
  | good (ctr : Nat)
  deriving DecidableEq, Repr

/-- The owner's clause key of a command verb at the next number, where the root gives one (R235, R241, R242). -/
def bodyKey (s : State) (owner verb : Nat) : Option Bytes :=
  let v := rootAt s owner s.adm.nextSeq
  (if ownerLocked s s.adm.nextSeq then none else v.key).map fun root => clauseKey root (clause v.id.toNat verb s.otp.deviceId.toNat 0)

/-- R101: TAG, then reserved bits and OPCODE, then COUNTER. An owner without a usable root answers NO_KEY. -/
def bodyCheck (s : State) (owner verb : Nat) (rsvOk : Bool) (b : Bytes) (op : Nat) : BodyCheck :=
  match bodyKey s owner verb with
  | none => .bad .noKey
  | some key =>
    if kmac 16 key (slice b 0 112) "SOLNY COMMAND" ≠ slice b 112 16 then .bad .authFail
    else if !rsvOk || rd b 40 1 ≠ op || !allZero b 41 71 then .bad .paramInvalid
    else if rd b 32 8 ≤ (ownerOf s owner).cmdCtr then .bad .paramInvalid
    else .good (rd b 32 8)

/-- The body checks as they happen: the root's CHECK, the derivation with its use (R235, R236), and the command counter,
which a good body moves (R101). -/
def takeBody (owner verb : Nat) (rsvOk : Bool) (b : Bytes) (op : Nat) (s : State) : BodyCheck × State :=
  let s := checkRoot owner s.adm.nextSeq s
  let c := bodyCheck s owner verb rsvOk b op
  let s := if (bodyKey s owner verb).isSome then useRoot owner s.adm.nextSeq s else s
  (c, match c with
    | .good n => mapOwner owner (fun o => { o with cmdCtr := n }) s
    | .bad _ => s)

/-- An owner-tagged command: it takes its number, and after the body checks its counter moves whatever it
then completes with (R101). While CLOSE is in force it is sealed POLICY with no check (R447), and while the integrity stop
holds with FAULT, where R188 names the command. The body gives the outcome; `leaf` builds the leaf from status and
detail. -/
def ownerTagged (w : Work) (verb : Nat) (rsvOk fault : Bool) (leaf : Status → Nat → Leaf)
    (body : Work → State → (Status × Nat × Bytes × Bytes) × State) (s : State) : State :=
  let owner := w.func s
  if closeWork s || fault then
    let (w, s') := stampWork w owner s
    finishSealed w (leaf (if closeWork s then .policy else .fault) 0) (replayNone s') [] s'
  else
    let (c, s') := takeBody owner verb rsvOk w.src (dOp w.desc) s
    let (w, s') := stampWork w owner s'
    match c with
    | .bad st => finishSealed w (leaf st 0) (replayNone s') [] s'
    | .good _ =>
      let ((st, d, out, rb), s') := body w s'
      finishSealed w (leaf st d) rb out s'

/-- The device id behind an issuer index (R197, R208): this device for 0. -/
def issuerDevice (s : State) (owner issuer : Nat) : Nat :=
  if issuer = 0 then s.otp.deviceId.toNat
  else ((s.vm.adopted.find? fun a => a.1 == owner && a.2.1 == issuer).map (·.2.2.toNat)).getD 0

/-- The issuer index of a device id for an owner: this device or an adopted id (R201). -/
def issuerIndex (s : State) (owner : Nat) (dev : Nat) : Option Nat :=
  if dev = s.otp.deviceId.toNat then some 0
  else (s.vm.adopted.find? fun a => a.1 == owner && a.2.2.toNat == dev).map (·.2.1)

/-! ### RESULT, LIMIT_SET, SWEEP and the status commands (R199, R200, R206, R207) -/

/-- Moves that RESULT makes (R198). -/
def resultAllowed (frm dst : Nat) : Bool := (frm == 0 && (dst == 2 || dst == 4)) || (frm == 2 && dst == 4)

def resultBody (w : Work) (s : State) : (Status × Nat × Bytes × Bytes) × State :=
  let owner := w.func s
  let b := w.src
  let issuer := (rd b 8 8 / 16) % 16
  let dst := rd b 8 8 % 8
  let none' := replayNone s
  if !(dst == 2 || dst == 4) then ((.paramInvalid, 0, [], none'), s)
  else
    match ticketOf s owner issuer (rd b 0 8) with
    | none => ((.notFound, 0, [], none'), s)
    | some t =>
      if t.pending then ((.notFound, 0, [], none'), s)
      else if t.game ≠ rd b 24 4 then ((.paramInvalid, 0, ticketBytes t, none'), s)
      else if !resultAllowed t.state dst then ((.sealedReject, 0xFF04, ticketBytes t, none'), s)
      else
        let t' := { t with state := dst, amount := if dst = 2 then BitVec.ofNat 64 (rd b 16 8) else t.amount }
        let s := bump 0x09 [0] owner 1 (commitSet s (putTicket t' s))
        ((.ok, 0, ticketBytes t', replayBytes { ticket := some (2, t') } s), s)

def execResult (w : WorkId) (s : State) : Res :=
  .next (withSealedWork w 0x12 (fun w s =>
    ownerTagged w 0x0004 true s.vm.stopped (fun st d => queryLeaf w.ring (w.func s) w.desc
      (issuerDevice s (w.func s) ((rd w.src 8 8 / 16) % 16)) (rd w.src 0 8) st d 0) resultBody s) s)

/-- TICKET_STATUS (R199): INLINE issuer index, SEQUENCE; no leaf. -/
def execTicketStatus (w : WorkId) (s : State) : Res :=
  .next (withWork w 0x13 (fun w s =>
    if keyBad s (w.func s) 2 (ticketKey (rd w.input 0 1) (rd w.input 1 8)) then finish w .fault 0 [] s
    else match ticketOf s (w.func s) (rd w.input 0 1) (rd w.input 1 8) with
    | some t => if t.pending then finish w .notFound 0 [] s else finish w .ok 0 (ticketBytes t) s
    | none => finish w .notFound 0 [] s) s)

/-- LIMIT_STATUS (R199): INLINE TYPE, id; no leaf. -/
def execLimitStatus (w : WorkId) (s : State) : Res :=
  .next (withWork w 0x14 (fun w s =>
    let o := w.func s
    let id := rd w.input 1 8
    if keyBad s o 1 (rd w.input 0 1 * 2 ^ 64 + id) then finish w .fault 0 [] s
    else if rd w.input 0 1 = 1 then
      (match limitOf s o id with
       | some c => finish w .ok 0 (limitBytes c) s
       | none => finish w .notFound 0 [] s)
    else if rd w.input 0 1 = 2 then
      (match terminalOf s o id with
       | some t => finish w .ok 0 (terminalBytes t) s
       | none => finish w .notFound 0 [] s)
    else finish w .paramInvalid 0 [] s) s)

def ownerLive (s : State) (o : Nat) : Bool := s.adm.games.any fun g => g.owner == o && g.live

/-- LIMIT_SET (R206). -/
def limitSetBody (w : Work) (s : State) : (Status × Nat × Bytes × Bytes) × State :=
  let o := w.func s
  let b := w.src
  let id := rd b 0 8
  let a1 := rd b 8 8
  let wlen := rd b 16 2
  let t := (w.stamp.map (·.t)).getD 0
  let args := slice b 0 24
  if id = 0 then
    if ownerLive s o then ((.policy, 0, [], replayNone s), s)
    else
      let s0 := s
      let s := mapOwner o (fun x => { x with origin := a1, wlenH := wlen }) s
      let s := { s with vm := { s.vm with limits := s.vm.limits.map fun c =>
        if c.owner == o then { c with value := 0, window := windowIndex a1 c.wlenH t } else c } }
      let s := bump 0x09 [0] o 1 (commitSet s0 s)
      let img := limitBytes { owner := o, id := 0, value := 0, limit := a1, window := 0, wlenH := wlen }
      ((.ok, 0, img, replayBytes { misc := some (3, args) } s), s)
  else
    let w0 := ownerOf s o
    let put := fun (c : LimitCtr) (s : State) =>
      let s := bump 0x09 [0] o 1 (commitSet s (putLimit c s))
      (((Status.ok, 0, limitBytes c, replayBytes { misc := some (3, args) } s) : Status × Nat × Bytes × Bytes), s)
    if keyBad s o 1 (limitKey id) then ((.fault, 0, [], replayNone s), s)
    else match limitOf s o id with
    | some c =>
      if c.wlenH = wlen then put { c with limit := a1 } s
      else put { c with limit := a1, wlenH := wlen, value := 0, window := windowIndex w0.origin wlen t } s
    | none =>
      if !counterRoom s o [limitKey id] then ((.sealedReject, 0xFF03, [], replayNone s), noteFull o 1 s)
      else put { owner := o, id := id, value := 0, limit := a1, window := windowIndex w0.origin wlen t, wlenH := wlen } s

def execLimitSet (w : WorkId) (s : State) : Res :=
  .next (withSealedWork w 0x15 (fun w s =>
    ownerTagged w 0x0005 true false (fun st d => queryLeaf w.ring (w.func s) w.desc 0 0 st d 0) limitSetBody s) s)

def findGame (s : State) (o g : Nat) : Option Game := s.adm.games.find? fun x => x.owner == o && x.id == g

/-- SWEEP (R207): the whole sweep takes effect at its admission step; its completion waits for SWEEP_END, so its
leaf is sealed here and the work is kept. (DEDUCED, log 24) -/
def doSweep (w : Work) (s : State) : State :=
  let o := w.func s
  let leaf := fun (st : Status) (d : Nat) => queryLeaf w.ring o w.desc 0 0 st d 0
  if closeWork s then
    let (w, s') := stampWork w o s
    finishSealed w (leaf .policy 0) (replayNone s') [] s'
  else
    let (c, s') := takeBody o 0x0006 true w.src 0x16 s
    let (w, s') := stampWork w o s'
    match c with
    | .bad st => finishSealed w (leaf st 0) (replayNone s') [] s'
    | .good _ =>
      let g := rd w.src 0 4
      let mode := BitVec.ofNat 3 (rd w.src 8 8)
      match findGame s' o g with
      | none => finishSealed w (leaf .policy 0) (replayNone s') [] s'
      | some x =>
        if s'.vm.stopped then finishSealed w (leaf .fault 0) (replayNone s') [] s'
        else if x.live then finishSealed w (leaf .policy 0) (replayNone s') [] s'
        else
          let hit := fun (t : Ticket) => t.owner == o && t.game == g && !t.pending
          let del := (s'.vm.tickets.filter fun t => hit t && (sweepTicket mode t).isNone).length
          let vd := (s'.vm.tickets.filter fun t => hit t && t.state == 2 && mode.getLsbD 1).length
          let s' := bump 0x09 [0] o 1 (commitSet s' { s' with vm := { s'.vm with
            tickets := s'.vm.tickets.filterMap fun t => if hit t then sweepTicket mode t else some t } })
          let s' := { s' with vm := { s'.vm with sweeps :=
            { owner := o, game := g, mode := mode, atSeq := (w.stamp.map (·.seq)).getD 0, deleted := del
              voided := vd, work := w } :: s'.vm.sweeps } }
          match w.stamp with
          | some st => sealLeaf st (leaf .ok 0) (replayBytes { misc := some (2, le 4 g ++ le 4 mode.toNat) } s') s'
          | none => s'

def execSweep (w : WorkId) (s : State) : Res := .next (withSealedWork w 0x16 doSweep s)

/-- R207: the background scan ends, once every item admitted before the sweep has completed; completion with the counts
and event 0x060D. (DEDUCED, log 24) -/
def doSweepEnd (o g : Nat) (s : State) : State :=
  match s.vm.sweeps.find? fun x => x.owner == o && x.game == g && !(s.adm.items.any fun i =>
      i.owner == o && decide (i.seq < x.atSeq)) with
  | none => s
  | some x =>
    let s := { s with vm := { s.vm with sweeps := s.vm.sweeps.filter fun y => y != x } }
    event 0x060D o [(4, g), (8, x.deleted), (8, x.voided)]
      (finish x.work .ok 0 (padTo 32 (le 8 x.deleted ++ le 8 x.voided)) s)

def execSweepEnd (owner game : Nat) (s : State) : Res := .next (doSweepEnd owner game s)

/-! ### Claims (R200-R203) -/

/-- The verdict of the register on a claim (R201): status, reason and the ticket afterwards. (DEDUCED, log 26) -/
def claimVerdict (t : Option Ticket) (presenterSeq : W64) (payer : Nat) : Status × Nat × Option Ticket :=
  match t with
  | none => (.notFound, 0, none)
  | some k =>
    if k.pending then (.notFound, 0, none)
    else match k.state with
      | 2 => (.ok, 0, some { k with state := 3, data := presenterSeq, payer := payer })
      | 3 => (.alreadyPaid, 0, some k)
      | 0 => (.sealedReject, 0xFF10, some k)
      | 1 => (.sealedReject, 0xFF11, some k)
      | _ => (.sealedReject, 0xFF12, some k)

/-- The register decides a claim in one atomic commit (R201). -/
def registerDecide (owner issuer seq : Nat) (presenterSeq : W64) (payer : Nat) (s : State) :
    (Status × Nat × Option Ticket) × State :=
  let v := claimVerdict (ticketOf s owner issuer seq) presenterSeq payer
  match v.1, v.2.2 with
  | .ok, some t => (v, bump 0x09 [0] owner 1 (commitSet s (putTicket t s)))
  | _, _ => (v, s)

/-- The nonce advance of a CLAIM, which commits with the outcome in one set (R200); none where the counter no longer
exceeds, or where there is no room. -/
def stageNonce (owner : Nat) (r : Bytes) (s : State) : Option (Status × Nat) × State :=
  if !nonceAdvances s owner (hTerminal r) (hTense r) (hCtr r) then (some (.authFail, 0x0002), s)
  else if (terminalOf s owner (hTerminal r)).isNone && !counterRoom s owner [terminalKey (hTerminal r)] then
    (some (.noKey, 0x0002), noteFull owner 1 s)
  else (none, putTerminal { owner := owner, id := hTerminal r, tense := hTense r, ctr := hCtr r } s)

/-- A set of the nonce advance alone. -/
def claimNonce (owner : Nat) (r : Bytes) (s : State) : Option (Status × Nat) × State :=
  match stageNonce owner r s with
  | (none, s') => (none, bump 0x09 [0] owner 1 (commitSet s s'))
  | f => f

/-- The replay record of a set of the nonce advance alone. -/
def nonceReplay (r : Bytes) (s : State) : Bytes := replayBytes { nonce := some (hTerminal r, hTense r, hCtr r) } s

/-- The six checks of R134 for a CLAIM or CANCEL record (R200), on a lane of a die. -/
def claimAuth (w : Work) (owner die : Nat) (s : State) : Option (Status × Nat) × State :=
  let seq := (w.stamp.map (·.seq)).getD 0
  let s := checkRoot owner seq s
  match authPre s owner seq (dSrcLen w.desc) 64 true (terminalOf s owner (hTerminal w.src)) w.src with
  | some f => (some f, s)
  | none => (if (authGcm s owner seq w.src).2 then none else some (.authFail, 0x0001), cacheLookup die owner seq w.src s)

def claimDev (r : Bytes) : Nat := rd r 32 8
def claimSeq (r : Bytes) : Nat := rd r 40 8

/-- The RELAY leaf of a routed claim (R164). -/
def relayLeaf (c : RoutedClaim) (status : Status) (reason verdictSeq : Nat) : Leaf :=
  { subject := c.device.toNat, arg := c.seq, arg2 := verdictSeq, tag := dTag c.work.desc, arg3 := dOp c.work.desc
    ring := c.work.ring, reason := reason, status := status, kind := 0x03, owner := c.owner, subtree := c.die }

/-- CLAIM on a local or adopted ticket: nonce and ticket in one commit. -/
def claimLocal (w : Work) (owner issuer die : Nat) (s : State) : State :=
  let dev := claimDev w.src
  let seq := claimSeq w.src
  let leaf := fun st d => queryLeaf w.ring owner w.desc dev seq st d die
  let (f, s1) := stageNonce owner w.src s
  match f with
  | some (st, d) => finishSealed w (leaf st d) (replayNone s1) [] s1
  | none =>
    let (st, d, t) := claimVerdict (ticketOf s1 owner issuer seq) (BitVec.ofNat 64 ((w.stamp.map (·.seq)).getD 0)) 0xFFFF
    let paid := match st, t with
      | .ok, some k => putTicket k s1
      | _, _ => s1
    let s2 := bump 0x09 [0] owner 1 (commitSet s paid)
    let rb := replayBytes { nonce := some (hTerminal w.src, hTense w.src, hCtr w.src)
                            ticket := if st == .ok then t.map fun k => (2, k) else none } s2
    finishSealed w (leaf st d) rb (imageOf t) s2

/-- R203: no session to the issuer, or no verdict in time; the nonce advance commits with the outcome. -/
def claimUnreachable (c : RoutedClaim) (s : State) : State :=
  let (f, s) := claimNonce c.owner c.work.src s
  finishSealed c.work (relayLeaf c .ownerUnreachable 0 allOnes64)
    (if f.isNone then nonceReplay c.work.src s else replayNone s) (zeros 32) s

def doClaim (w : Work) (s : State) : State :=
  let owner := w.func s
  let die := placeDie s owner (hTerminal w.src)
  let dev := claimDev w.src
  let leaf := fun st d => queryLeaf w.ring owner w.desc dev (claimSeq w.src) st d die
  if closeWork s then finishSealed w (leaf .policy 0) (replayNone s) [] s
  else if s.vm.stopped then finishSealed w (leaf .fault 0) (replayNone s) [] s
  else
    match claimAuth w owner die s with
    | (some (st, d), s) => finishSealed w (leaf st d) (replayNone s) [] s
    | (none, s) =>
      match issuerIndex s owner dev with
      | some i => claimLocal w owner i die s
      | none =>
        match peerRoute s dev with
        | none =>
          let (f, s1) := claimNonce owner w.src s
          (match f with
           | some (st, d) => finishSealed w (leaf st d) (replayNone s1) [] s1
           | none => finishSealed w (leaf .notFound 0) (nonceReplay w.src s1) [] s1)
        | some (p, up) =>
          let c : RoutedClaim := { peer := p, owner := owner, ownerId := (ownerOf s owner).id
                                   device := BitVec.ofNat 64 dev, seq := claimSeq w.src, sent := false
                                   die := die, work := w }
          if up && decide ((s.vm.claims.filter fun x => !x.sent).length < 65536) then
            { s with vm := { s.vm with claims := s.vm.claims ++ [c] } }
          else claimUnreachable c s

/-- R201: CLAIM took its number at its admission step. -/
def execClaim (w : WorkId) (s : State) : Res := .next (withWork w 0x10 doClaim s)

/-- R203: the verdict wait of a sent claim has passed. -/
def doClaimWaitTimeout (q : Nat) (s : State) : State :=
  match s.vm.claims.find? fun c => c.sent && (c.work.stamp.map (·.seq)) == some q with
  | none => s
  | some c =>
    let s := { s with vm := { s.vm with
      claims := s.vm.claims.filter fun x => x != c, lateClaims := (c.peer, q, c.seq) :: s.vm.lateClaims } }
    claimUnreachable c s

def execClaimWaitTimeout (claimSeq : Nat) (s : State) : Res := .next (doClaimWaitTimeout claimSeq s)

/-! ### CANCEL (R200) -/

/-- The loaded version of a game's rulebook, where it has a CANCEL entry. -/
def cancelBook (s : State) (g : Game) : Option Book :=
  s.eng.books.find? fun b => b.owner == g.owner && b.handle == g.rulebook && b.cancel.isSome && !b.draining

/-- The outcome of a CANCEL that passes the checks of R134 and runs no entry: the nonce advance commits with it. -/
def cancelEnd (w : Work) (owner : Nat) (leaf : Status → Nat → Leaf) (st : Status) (s : State) : State :=
  let (f, s) := claimNonce owner w.src s
  match f with
  | some (st, d) => finishSealed w (leaf st d) (replayNone s) [] s
  | none => finishSealed w (leaf st 0) (nonceReplay w.src s) [] s

/-- CANCEL: the ticket's game and its rulebook's CANCEL entry must exist and the issuer be this device, otherwise
POLICY; an absent ticket is NOT_FOUND. The item is placed and waits for an engine, whose entry authenticates the
record again with its own AUTH op. (DEDUCED, log 15) -/
def doCancel (w : Work) (s : State) : State :=
  let owner := w.func s
  let dev := claimDev w.src
  let seq := claimSeq w.src
  let leaf := fun st d => queryLeaf w.ring owner w.desc dev seq st d 0
  let die := placeDie s owner (hTerminal w.src)
  if closeWork s then finishSealed w (leaf .policy 0) (replayNone s) [] s
  else if s.vm.stopped then finishSealed w (leaf .fault 0) (replayNone s) [] s
  else
    match claimAuth w owner die s with
    | (some (st, d), s) => finishSealed w (leaf st d) (replayNone s) [] s
    | (none, s) =>
      let t := if dev = s.otp.deviceId.toNat then ticketOf s owner 0 seq else none
      let game : Option Game := t.bind fun t => findGame s owner t.game
      let book : Option Book := game.bind (cancelBook s)
      match t, game, book, w.stamp with
      | some t, some g, some b, some st =>
        let i : Item := { seq := st.seq, t := st.t, dep := st.dep, unc := (uncertainty s).getD 0xFFFFFFFF
                          owner := owner, ring := w.ring, gen := w.gen, idx := w.idx, desc := w.desc
                          record := w.src, game := t.game, openT := g.openT, closeT := g.closeT, guard := g.guard
                          handle := b.handle, version := b.version, isCancel := true, targetDev := dev
                          targetSeq := seq, die := die, ended := none }
        { s with adm := { s.adm with items := s.adm.items ++ [i] } }
      | _, _, _, _ =>
        let st := if t.isNone && dev == s.otp.deviceId.toNat then Status.notFound else .policy
        cancelEnd w owner leaf st s

/-- R200: CANCEL took its number at its admission step. -/
def execCancel (w : WorkId) (s : State) : Res := .next (withWork w 0x11 doCancel s)

/-! ### ADOPT (R208) -/

/-- A peer with a running session holds this id. -/
def peerRunning (s : State) (dev : Nat) : Bool :=
  match peerRoute s dev with
  | some (_, up) => up
  | none => false

/-- ADOPT: the id in bytes 0-7, the index in byte 8 and the owner in byte 9 of the input (the manual gives the
operation and not its layout). (DEDUCED, log 26) -/
def doAdopt (w : Work) (s : State) : State :=
  let b := w.input
  let dev := rd b 0 8
  let ix := rd b 8 1
  let owner := rd b 9 1
  if ix = 0 ∨ 15 < ix then finish w .paramInvalid 0 [] s
  else if dev = s.otp.deviceId.toNat || (s.vm.adopted.any fun a => a.2.2.toNat == dev || a.2.1 == ix)
      || peerRunning s dev then finish w .policy 0 [] s
  else withAccord w owner 0x74 (fun a s =>
    let (w, s) := ceremony w a 0 s
    finish w .ok 0 [] { s with vm := { s.vm with adopted := (owner, ix, BitVec.ofNat 64 dev) :: s.vm.adopted } }) s

def execAdopt (w : WorkId) (s : State) : Res := .next (withSealedWork w 0x74 doAdopt s)

end Sys2Proof.Machine
end

