-- ==== Sys2Proof/Machine/Games.lean ====
section
/-! DEFINITION. Guarantee budgets (R93-R97), the game table and its commands (R98-R102), and the time-lost
closure (R104). -/

namespace Sys2Proof.Machine

/-! ### Capacity and budgets (R93-R97) -/

def inServiceEngines (s : State) : Nat := (diesOf s.sys.inService).foldl (fun n k => n + dieEngines s k) 0

/-- ISSUE in M slots/s and THREADS (R94). -/
def issueCap (s : State) : Nat := inServiceEngines s * 1250
def threadCap (s : State) : Nat := inServiceEngines s * 4

/-- The newest loaded version of a handle. -/
def bookOf (s : State) (owner handle : Nat) : Option Book :=
  s.eng.books.find? fun b => b.owner == owner && b.handle == handle && !b.draining

/-- Figures of a rulebook for budgets: those of its WAGER entry (R93, R143). -/
def Book.w (b : Book) : Nat := b.wWager
def Book.c (b : Book) : Nat := b.cWager

/-- ADMIT_OWNER_COST: the largest W and C of the rulebooks bound to the owner's games (R93), the newest version of
each handle (R146). -/
def ownerCost (s : State) (owner : Nat) : Nat × Nat :=
  let bound := s.eng.books.filter fun b => b.owner == owner && !b.draining
    && s.adm.games.any fun g => g.owner == owner && g.rulebook == b.handle
  (bound.foldl (fun m b => max m b.w) 0, bound.foldl (fun m b => max m b.c) 0)

/-- What R96 checks: WAGER rings with their budgets, and owners with their shares and costs. -/
structure Budgets where
  /-- (owner, RATE in k wagers/s, BURST). -/
  rings : List (Nat × Nat × Nat)
  /-- (owner, SHARE). -/
  shares : List (Nat × Nat)
  /-- (owner, W, C), where not the state's own. -/
  costs : List (Nat × Nat × Nat)
  deriving DecidableEq, Repr

def budgetsOf (s : State) : Budgets :=
  { rings := (s.rings.tbl.filter fun p => p.2.cls == 0 && p.2.state != .free).map fun p => (p.2.func, p.2.rate, p.2.burst)
    shares := s.adm.owners.map fun p => (p.1, p.2.share)
    costs := (List.range 63).map fun k => (k + 1, ownerCost s (k + 1)) }

def Budgets.cost (b : Budgets) (o : Nat) : Nat × Nat :=
  match b.costs.find? fun c => c.1 == o with
  | some c => c.2
  | none => (0, 0)

/-- Threads a ring needs: BURST + RATE * (3 us + E), rounded up, with E = W / 1.25 GHz (R96). -/
def ringThreads (rate burst w : Nat) : Nat := burst + ceilDiv (rate * (15000 + 4 * w)) 5000000

/-- The threads check of R96. -/
def threadsFit (s : State) (b : Budgets) : Bool :=
  decide (((b.rings.map fun r => ringThreads r.2.1 r.2.2 (b.cost r.1).1).foldl (· + ·) 0) ≤ threadCap s)

/-- The ERR of the first check of R96 that fails, 0 where all hold. -/
def budgetErr (s : State) (b : Budgets) : Nat :=
  let sum := fun (f : Nat × Nat × Nat → Nat) => (b.rings.map f).foldl (· + ·) 0
  let owners := b.costs.map (·.1)
  let ownerFits := fun (o : Nat) =>
    let need : Nat := ((b.rings.filter fun r => r.1 == o).map fun r => r.2.1 * (b.cost o).2).foldl (· + ·) 0
    decide (need ≤ 1000 * (((b.shares.filter fun x => x.1 == o).map (·.2)).foldl (· + ·) 0))
  if 100000 < sum (·.2.1) then 0x01
  else if !owners.all ownerFits then 0x02
  else if !threadsFit s b then 0x03
  else if issueCap s < (b.shares.map (·.2)).foldl (· + ·) 0 then 0x05
  else if b.rings.any fun r => decide (4096 < r.2.2) then 0x06
  else 0

/-- R96 after a rulebook of these figures is bound to a game of an owner. -/
def bindErr (s : State) (owner w c : Nat) : Nat :=
  let b := budgetsOf s
  let (w0, c0) := ownerCost s owner
  budgetErr s { b with costs := (owner, max w w0, max c c0) :: b.costs.filter fun x => x.1 != owner }

/-- Scale by f = new / old, rounded down. -/
def scale (v new old : Nat) : Nat := if old = 0 then v else v * new / old

/-- R97: every share and rate is lowered when capacity falls from `old`, and every burst too when the threads
check still fails; LOWERED and event 0x0304. -/
def lowerBudgets (old : Nat) (s : State) : State :=
  let new := issueCap s
  if old ≤ new then s
  else
    let s := { s with
      adm := { s.adm with lowered := true, owners := s.adm.owners.map fun p => (p.1, { p.2 with share := scale p.2.share new old }) }
      rings := { s.rings with tbl := s.rings.tbl.map fun p => (p.1, { p.2 with rate := scale p.2.rate new old }) } }
    let s := if !threadsFit s (budgetsOf s) then
        { s with rings := { s.rings with tbl := s.rings.tbl.map fun p =>
          (p.1, { p.2 with burst := scale p.2.burst new old, tokens := min p.2.tokens (scale p.2.burst new old) }) } }
      else s
    event 0x0304 0 [(4, old), (4, new)] s

/-! ### The game table (R98) -/

/-- Little-endian bits of a packed record: (width, value) pairs from bit 0. -/
def packBits : List (Nat × Nat) → Nat
  | [] => 0
  | (n, v) :: r => v % 2 ^ n + 2 ^ n * packBits r

/-- The 32-byte image of a game entry (R98, R99). -/
def gameBytes (g : Game) : Bytes :=
  le 32 (packBits [(6, g.owner), (32, g.id), (2, if g.live then 1 else 2), (8, g.reason), (16, g.rulebook),
    (64, g.openT), (64, g.closeT), (32, g.guard)])

/-- The image of an entry that has been freed: owner and id, state FREE. -/
def freedBytes (o id : Nat) : Bytes := le 32 (packBits [(6, o), (32, id)])

def setGame (g : Game) (s : State) : State :=
  { s with adm := { s.adm with games := (g :: s.adm.games.filter fun x => !(x.owner == g.owner && x.id == g.id)) } }

def delGame (o g : Nat) (s : State) : State :=
  { s with adm := { s.adm with games := s.adm.games.filter fun x => !(x.owner == o && x.id == g) } }

/-- A sweep of the game is running (R207). -/
def sweeping (s : State) (o g : Nat) : Bool := s.vm.sweeps.any fun x => x.owner == o && x.game == g

/-- u exceeds the owner's maximum, or is not defined. -/
def uncTooBig (s : State) (o : Nat) : Bool :=
  match uncertainty s with
  | some u => decide ((ownerOf s o).maxUnc < u)
  | none => true

/-! ### Command bodies (R100) -/

def bGame (b : Bytes) : Nat := rd b 0 4
def bBook (b : Bytes) : Nat := rd b 4 2
def bOpen (b : Bytes) : Nat := rd b 8 8
def bClose (b : Bytes) : Nat := rd b 16 8
def bGuard (b : Bytes) : Nat := rd b 24 4
def bMaxUnc (b : Bytes) : Nat := rd b 28 4
def bCtr (b : Bytes) : Nat := rd b 32 8

/-- The fields that R100 marks reserved outside [895:328], which the common check covers: [63:48]. -/
def gameRsvOk (b : Bytes) : Bool := rd b 6 2 == 0

/-- The GAME leaf (R164): CLOSE_TIME as the table holds it after the command. -/
def gameLeaf (w : Work) (owner : Nat) (after : State) (st : Status) : Leaf :=
  { subject := bGame w.src, arg := bCtr w.src
    arg2 := match findGame after owner (bGame w.src) with
      | some g => g.closeT
      | none => 0
    tag := dTag w.desc, arg3 := dOp w.desc, ring := w.ring, status := st, kind := 0x04, owner := owner }

/-- What a game command decides: a status and, where it changes the table, the entry for its replay record. -/
abbrev GameBody := Nat → Bytes → State → (Status × Option Game) × State

/-- R99, R101, R102: number, body checks, change, leaf and completion in one admission step. (DEDUCED, log 15) -/
def gameCommand (op : Nat) (body : GameBody) (id : WorkId) (s : State) : State :=
  withSealedWork id op (fun w s =>
    let owner := w.func s
    if closeWork s then
      let (w, s') := stampWork w owner s
      finishSealed w (gameLeaf w owner s' .policy) (replayNone s') [] s'
    else
      let (c, s') := takeBody owner 0x0003 (gameRsvOk w.src) w.src op s
      let (w, s') := stampWork w owner s'
      match c with
      | .bad st => finishSealed w (gameLeaf w owner s' st) (replayNone s') [] s'
      | .good _ =>
        let ((st, g), s') := body owner w.src s'
        let rb := match g with
          | some g => replayBytes { misc := some (1, gameBytes g) } s'
          | none => if op = 0x65 ∧ st = .ok then replayBytes { misc := some (1, freedBytes owner (bGame w.src)) } s' else replayNone s'
        finishSealed w (gameLeaf w owner s' st) rb [] s') s

def putLive (g : Game) (s : State) : (Status × Option Game) × State := ((.ok, some g), setGame g s)

/-- GAME_DEFINE: POLICY also in END_OF_LIFE (R406), while the owner's areas are re-laid (R194), while a FULL
self-test runs (R472), for a handle that is not loaded (R147) and for W above 1,000,000 (R112). (DEDUCED, log 25) -/
def defineBody : GameBody := fun o b s =>
  let no := fun (st : Status) => ((st, none), s)
  match bookOf s o (bBook b) with
  | none => no .policy
  | some k =>
    if (findGame s o (bGame b)).isSome || decide (16384 ≤ s.adm.games.length) || s.life.decided == 3
        || (ownerOf s o).relaying || s.sys.selftest || decide (1000000 < k.w) || bindErr s o k.w k.c != 0 then no .policy
    else if bClose b ≤ bOpen b then no .paramInvalid
    else putLive { owner := o, id := bGame b, live := true, reason := 0, rulebook := bBook b, openT := bOpen b
                   closeT := bClose b, guard := bGuard b } s

def execGameDefine (w : WorkId) (s : State) : Res := .next (gameCommand 0x60 defineBody w s)

def closeBody : GameBody := fun o b s =>
  match findGame s o (bGame b) with
  | none => ((.notFound, none), s)
  | some g => putLive { g with live := false, reason := 0x04 } s

def execGameClose (w : WorkId) (s : State) : Res := .next (gameCommand 0x61 closeBody w s)

def rescheduleBody : GameBody := fun o b s =>
  match findGame s o (bGame b) with
  | none => ((.notFound, none), s)
  | some g =>
    if !g.live then ((.policy, none), s)
    else if bClose b ≤ bOpen b then ((.paramInvalid, none), s)
    else putLive { g with openT := bOpen b, closeT := bClose b, guard := bGuard b } s

def execGameReschedule (w : WorkId) (s : State) : Res := .next (gameCommand 0x62 rescheduleBody w s)

/-- GAME_REOPEN; POLICY also under a running sweep (R207) and while a FULL self-test runs (R472). (DEDUCED, log 25) -/
def reopenBody : GameBody := fun o b s =>
  match findGame s o (bGame b) with
  | none => ((.notFound, none), s)
  | some g =>
    let r96 := match bookOf s o g.rulebook with
      | some k => bindErr s o k.w k.c == 0
      | none => false
    if g.live || !clkValid s || uncTooBig s o || !r96 || sweeping s o g.id || s.sys.selftest then ((.policy, none), s)
    else if bClose b ≤ bOpen b then ((.paramInvalid, none), s)
    else putLive { g with live := true, reason := 0, openT := bOpen b, closeT := bClose b, guard := bGuard b } s

def execGameReopen (w : WorkId) (s : State) : Res := .next (gameCommand 0x63 reopenBody w s)

/-- n numbers may be issued now (R218). -/
def canNumberN (n : Nat) (s : State) : Bool := canNumber s && decide (s.adm.nextSeq + n ≤ seqHigh s + 1)

/-- Close the owner's LIVE games for lost time (R104): one TIME_LOST leaf for each game, and event 0x0302. A leaf whose
number may not be issued is held (R218). Where u is not defined the leaf and the event carry all ones.
 (DESIGN CHOICE, log 56) -/
def timeLost (o : Nat) (s : State) : State :=
  let gs := s.adm.games.filter fun g => g.owner == o && g.live
  if gs.isEmpty then s
  else
    let u := (uncertainty s).getD allOnes64
    let t := s.clk.run
    let s := gs.foldl (fun st g =>
      let g' := { g with live := false, reason := 0x03 }
      let st := setGame g' st
      sealNow { subject := g.id, arg := u, kind := 0x05, owner := o } (replayBytes { misc := some (1, gameBytes g') } st) st) s
    event 0x0302 o [(1, o), (8, t), (4, min u 0xFFFFFFFF), (4, gs.length)] s

/-- Every owner whose games must close for lost time (R104): the clock has left its valid states, or u exceeds
the owner's maximum. A clock that has not been valid since start-up closes nothing. -/
def timeLostAll (s : State) : State :=
  if !s.clk.everValid then s
  else s.adm.owners.foldl (fun st p => if uncTooBig st p.1 then timeLost p.1 st else st) s

/-- GAME_SET_MAXUNC; the closure that a lower maximum brings is TIME_LOST_CLOSURE's. (DEDUCED, log 25) -/
def maxuncBody : GameBody := fun o b s =>
  let v := bMaxUnc b
  if v < 1000 ∨ 100000000 < v then ((.paramInvalid, none), s)
  else ((.ok, none), mapOwner o (fun x => { x with maxUnc := v }) s)

def execGameSetMaxunc (w : WorkId) (s : State) : Res := .next (gameCommand 0x64 maxuncBody w s)

/-- GAME_DELETE; POLICY also for an id without an entry, and under a running sweep (R207). (DEDUCED, log 25) -/
def deleteBody : GameBody := fun o b s =>
  match findGame s o (bGame b) with
  | none => ((.policy, none), s)
  | some g =>
    if g.live || sweeping s o g.id then ((.policy, none), s)
    else ((.ok, none), delGame o g.id s)

def execGameDelete (w : WorkId) (s : State) : Res := .next (gameCommand 0x65 deleteBody w s)

/-- GAME_STATUS (R99): no leaf; the owner comes from PARAMS byte 4 on a PF0 ring. -/
def execGameStatus (w : WorkId) (s : State) : Res :=
  .next (withWork w 0x66 (fun w s =>
    let b := w.input
    let o := if w.func s = 0 then rd b 4 1 else w.func s
    match findGame s o (rd b 0 4) with
    | some g => finish w .ok 0 (gameBytes g) s
    | none => finish w .notFound 0 [] s) s)

/-- R104, as the clock reaches t. -/
def execTimeLostClosure (t : Nat) (s : State) : Res :=
  .next (when (inService s) (fun s => timeLostAll (advance t s)) s)

/-! ### Budget registers (R96, R114) -/

def setAdmErr (e : Nat) (s : State) : State := { s with adm := { s.adm with err := e } }

/-- ADMIT_RING_BUDGET (R95, R96): tokens are kept, reduced to the new BURST. -/
def doRingBudgetWrite (v : W64) (s : State) : State :=
  let r := s.adm.ringSel
  let x := ringOf s r
  let rate := (v.extractLsb' 0 17).toNat
  let burst := (v.extractLsb' 32 13).toNat
  if x.state == .free || x.cls != 0 then setAdmErr 0x04 s
  else
    let s' := setRing r { x with rate := rate, burst := burst, tokens := min x.tokens burst } s
    let e := budgetErr s' (budgetsOf s')
    if e = 0 then s' else setAdmErr e s

def execRingBudgetWrite (v : W64) (s : State) : Res := .next (hostWrite 0x20038 8 (doRingBudgetWrite v) s)

def doOwnerShareWrite (v : W32) (s : State) : State :=
  let o := s.adm.ownerSel
  let s' := mapOwner o (fun w => { w with share := (v.extractLsb' 0 20).toNat }) s
  let e := budgetErr s' (budgetsOf s')
  if e = 0 then s' else setAdmErr e s

/-- OWNER 0 names no owner, so its share has no register (R114). -/
def execOwnerShareWrite (v : W32) (s : State) : Res :=
  .next (hostWrite 0x20014 4 (fun s => if s.adm.ownerSel = 0 then s else doOwnerShareWrite v s) s)

/-- R95: one token, up to BURST. -/
def doTokenRefill (r : Nat) (s : State) : State :=
  let x := ringOf s r
  if x.cls == 0 && x.state == .running && decide (0 < x.rate) && decide (x.tokens < x.burst) then
    setRing r { x with tokens := x.tokens + 1 } s
  else s

def execTokenRefill (ring : Nat) (s : State) : Res := .next (doTokenRefill ring s)

end Sys2Proof.Machine
end

