-- ==== Sys2Proof/Machine/Clock.lean ====
section
/-! DEFINITION. The station clock (R105-R110, R115, R157) and its sources, with the PTP ordinary clocks of the
junction ports (R381). -/

namespace Sys2Proof.Machine

def ClkState.code : ClkState → Nat
  | .unset => 0 | .acquiring => 1 | .locked => 2 | .holdover => 3 | .lost => 4

/-- u for a register or an event: all ones where it is not defined (R105). -/
def uncWord (s : State) : Nat := (uncertainty s).getD 0xFFFFFFFF

/-- A change of clock state, with event 0x0301; PPS_OUT is low outside the valid states (R110). -/
def setClock (c : ClkState) (s : State) : State :=
  let old := s.clk.state
  if old == c then s
  else
    let s := { s with clk := { s.clk with state := c, ppsOut := s.clk.ppsOut && (c == .locked || c == .holdover) } }
    event 0x0301 0 [(1, old.code), (1, c.code), (4, uncWord s)] s

/-- The clock leaves its valid states: event, and the time-lost closure of every owner (R104). -/
def loseClock (s : State) : State := timeLostAll (setClock .lost s)

/-- TIME_STATE.SOURCE of a time-of-day source. -/
def srcCode : TimeSrc → Nat
  | .ptp0 => 2 | .ptp1 => 3 | .linzen => 4

/-- The bit of TIME_SRC_EN. -/
def srcEnabled (s : State) (x : TimeSrc) : Bool :=
  match x with
  | .ptp0 => s.clk.srcEn.getLsbD 1
  | .ptp1 => s.clk.srcEn.getLsbD 2
  | .linzen => s.clk.srcEn.getLsbD 3

/-- R113: a reading is discarded, with its source and signed offset. -/
def discardReading (code : Nat) (off : Int) (s : State) : State :=
  event 0x0303 0 [(1, code), (8, (BitVec.ofInt 64 off).toNat)] s

/-- Step the running count forward (R107, R108): event 0x0308, TIME_STEP in the open departure, and the lateness
cause. -/
def stepForward (n : Nat) (s : State) : State :=
  let s := { s with
    clk := { s.clk with run := s.clk.run + n, corr := 0 }
    dep := { s.dep with timeStep := true } }
  noteCause 2 (event 0x0308 0 [(8, n)] s)

/-- R108: a forward correction above 1 ms is one step; any other is slewed. -/
def correct (off : Int) (s : State) : State :=
  if 1000000 < off then stepForward off.toNat s else { s with clk := { s.clk with corr := off } }

/-- The reading lies in [clock - u, clock + u]. -/
def withinU (s : State) (off : Int) : Bool :=
  match uncertainty s with
  | some u => decide (off.natAbs ≤ u)
  | none => false

def noteReading (x : TimeSrc) (off : Int) (s : State) : State :=
  { s with clk := { s.clk with
    readings := (x, off, s.clk.run) :: s.clk.readings.filter (fun r => r.1 != x) } }

/-- A reading of an enabled time-of-day source: its time less the running count (R105-R108). The active source is
PPS_IN from its first accepted edge in LOCKED on while it is enabled, and otherwise the source of the last accepted
reading. (DESIGN CHOICE, log 56) -/
def sourceReading (x : TimeSrc) (off : Int) (s : State) : State :=
  if !srcEnabled s x then s
  else
    let s := noteReading x off s
    match s.clk.state with
    | .unset => setClock .acquiring s
    | .lost => setClock .acquiring s
    | .locked =>
      if withinU s off then
        let pps := s.clk.srcEn.getLsbD 0 && s.clk.source == 1
        correct off { s with clk := { s.clk with
          offsetLast := BitVec.ofInt 64 off, source := if pps then 1 else srcCode x } }
      else discardReading (srcCode x) off s
    | .holdover =>
      if withinU s off then { s with clk := { s.clk with offsetLast := BitVec.ofInt 64 off } }
      else discardReading (srcCode x) off s
    | .acquiring => { s with clk := { s.clk with offsetLast := BitVec.ofInt 64 off } }

/-! ### PPS_IN and PPS_OUT (R106, R110, R554) -/

/-- R106: the edge's deviation from the disciplined second, corrected for the cable delay. -/
def doPpsInEdge (deviation : Int) (s : State) : State :=
  let off := deviation + s.clk.ppsDelay.toInt
  if !s.clk.srcEn.getLsbD 0 || !clkValid s then s
  else if 1000 < off.natAbs || !withinU s off then discardReading 1 off s
  else
    let s := { s with clk := { s.clk with ppsOkAt := some s.clk.run, offsetLast := BitVec.ofInt 64 off } }
    if s.clk.state == .locked then { s with clk := { s.clk with source := 1, corr := off } } else s

def execPpsInEdge (t : Nat) (deviation : Int) (s : State) : Res :=
  .next (when (alive s) (fun s => doPpsInEdge deviation (advance t s)) s)

/-- R554, R110: PPS_OUT rises only while the clock is valid and driven, and is low otherwise. -/
def execPpsOutEdge (rise : Bool) (s : State) : Res :=
  .next (when (alive s) (fun s =>
    { s with clk := { s.clk with ppsOut := rise && s.clk.ppsOutEn && clkValid s } }) s)

/-! ### Agreement, holdover and loss (R105, R107, R109) -/

def readingOf (s : State) (x : TimeSrc) : Option Int :=
  (s.clk.readings.find? fun r => r.1 == x).map (·.2.1)

/-- Two sources that R107 counts as two: one is Linzen, or two ports follow different grandmasters. -/
def mayAgree (s : State) (a b : TimeSrc) : Bool :=
  a != b && srcEnabled s a && srcEnabled s b
    && (a == .linzen || b == .linzen
        || (s.jct.port0.gm.isSome && s.jct.port1.gm.isSome && s.jct.port0.gm != s.jct.port1.gm))

/-- The mean of two agreeing readings. -/
def agreedOffset (s : State) (a b : TimeSrc) : Option Int :=
  match readingOf s a, readingOf s b with
  | some x, some y => if mayAgree s a b && decide ((x - y).natAbs ≤ 1000) then some ((x + y) / 2) else none
  | _, _ => none

def refuseTime (s : State) : State := event 0x0307 0 [] s

/-- Enter LOCKED with the source named. -/
def lockClock (a : TimeSrc) (s : State) : State :=
  let s := if s.clk.everValid then s else noteCause 9 s
  setClock .locked { s with clk := { s.clk with everValid := true, source := srcCode a } }

/-- Acquisition (R107): step forward, slew from at most 1 s behind, or refuse. -/
def acquire (a : TimeSrc) (off : Int) (s : State) : State :=
  if (s.clk.run : Int) + off < s.clk.floorT then refuseTime s
  else if 0 < off then lockClock a (stepForward off.toNat s)
  else if off < -1000000000 then refuseTime s
  else lockClock a { s with clk := { s.clk with corr := off } }

def doSourceAgreement (a b : TimeSrc) (s : State) : State :=
  match agreedOffset s a b with
  | none => s
  | some off =>
    match s.clk.state with
    | .acquiring => acquire a off s
    | .holdover =>
      match readingOf s a, readingOf s b with
      | some x, some y => if withinU s x && withinU s y then lockClock a (correct off s) else s
      | _, _ => s
    | _ => s

def execSourceAgreement (t : Nat) (a b : TimeSrc) (s : State) : Res :=
  .next (when (alive s) (fun s => doSourceAgreement a b (advance t s)) s)

/-- R105, R109: HOLDOVER begins with the u of this moment. -/
def doSourceLossTimeout (s : State) : State :=
  if s.clk.state != .locked then s
  else
    let u := (uncertainty s).getD 0
    setClock .holdover { s with clk := { s.clk with uEntry := u, holdSince := s.clk.run, source := 0 } }

def execSourceLossTimeout (t : Nat) (s : State) : Res :=
  .next (when (alive s) (fun s => doSourceLossTimeout (advance t s)) s)

def doUncertaintyLimit (s : State) : State :=
  match uncertainty s with
  | some u => if 1000000000 < u then loseClock { s with clk := { s.clk with source := 0 } } else s
  | none => s

def execUncertaintyLimit (t : Nat) (s : State) : Res :=
  .next (when (alive s) (fun s => doUncertaintyLimit (advance t s)) s)

/-- R105: TIME_REF and REFCLK_SYS both fail the monitor. -/
def doClockMonitorFail (s : State) : State :=
  loseClock { s with clk := { s.clk with refPresent := false, source := 0 } }

def execClockMonitorFail (t : Nat) (s : State) : Res :=
  .next (when (alive s) (fun s => doClockMonitorFail (advance t s)) s)

/-! ### PTP (R381) -/

/-- The port's ordinary clock runs. -/
def ptpOn (s : State) (p : Nat) : Bool :=
  portUp s p && (portOf s p).cfg.getLsbD 1

def ptpSrc (p : Nat) : TimeSrc := if p = 0 then .ptp0 else .ptp1

/-- Select the best master of a port; a new selection records event 0x0B07. (DEDUCED, log 31) -/
def selectMaster (p : Nat) (s : State) : State :=
  let x := portOf s p
  let best := (sortBy (·.2) x.masters).head?.map (·.1)
  if best == x.gm then s
  else
    let s := mapPort p (fun x => { x with gm := best, syncWait := false }) s
    match best with
    | some g => event 0x0B07 0 [(1, p), (8, g.toNat)] s
    | none => s

/-- An Announce of the PTP timescale; any other is ignored. -/
def doAnnounce (p : Nat) (gm : W64) (rank : Nat) (s : State) : State :=
  selectMaster p (mapPort p (fun x => { x with masters := (gm, rank) :: x.masters.filter (fun m => m.1 != gm) }) s)

def execAnnounce (port : Nat) (gm : W64) (rank : Nat) (ptpTimescale : Bool) (s : State) : Res :=
  .next (when (ptpOn s port && ptpTimescale) (doAnnounce port gm rank) s)

/-- No Announce of the selected grandmaster for three intervals: it is dropped. -/
def doAnnounceReceiptTimeout (p : Nat) (s : State) : State :=
  match (portOf s p).gm with
  | none => s
  | some g => selectMaster p (mapPort p (fun x => { x with masters := x.masters.filter fun m => m.1 != g }) s)

def execAnnounceReceiptTimeout (port : Nat) (s : State) : Res :=
  .next (when (ptpOn s port) (doAnnounceReceiptTimeout port) s)

/-- A completed Sync: its offset and the measured path delay make one reading. -/
def ptpReading (p : Nat) (off : Int) (s : State) : State :=
  match (portOf s p).delay with
  | some d => sourceReading (ptpSrc p) (off + d) s
  | none => s

/-- (DEDUCED, log 31) -/
def doSync (p : Nat) (twoStep : Bool) (off : Int) (s : State) : State :=
  if (portOf s p).gm.isNone then s
  else if twoStep then mapPort p (fun x => { x with syncWait := true }) s
  else ptpReading p off s

def execSync (t port : Nat) (twoStep : Bool) (offset : Int) (s : State) : Res :=
  .next (when (ptpOn s port) (fun s => doSync port twoStep offset (advance t s)) s)

/-- (DEDUCED, log 31) -/
def doFollowUp (p : Nat) (off : Int) (s : State) : State :=
  if (portOf s p).syncWait then ptpReading p off (mapPort p (fun x => { x with syncWait := false }) s) else s

def execFollowUp (t port : Nat) (offset : Int) (s : State) : Res :=
  .next (when (ptpOn s port) (fun s => doFollowUp port offset (advance t s)) s)

def execDelayReq (port : Nat) (s : State) : Res :=
  .next (when (ptpOn s port && (portOf s port).gm.isSome) (fun s =>
    sendFrame port kindDelayReq [] (mapPort port (fun x => { x with delayWait := true }) s)) s)

/-- (DEDUCED, log 31) -/
def execDelayResp (port delay : Nat) (s : State) : Res :=
  .next (when (ptpOn s port && (portOf s port).delayWait) (fun s =>
    mapPort port (fun x => { x with delay := some delay, delayWait := false }) s) s)

/-! ### TIME registers (R110, R115) -/

def doTimeNowRead (s : State) : Nat × State :=
  (if clkValid s then s.clk.run else 0, { s with clk := { s.clk with uncLatch := BitVec.ofNat 32 (uncWord s) } })

def execTimeNowRead (s : State) : Res := .next (hostRead 0x30000 8 doTimeNowRead s)

/-- R110: a value is taken when it raises the old one, or lowers it to no less than the factory minimum while no
game is LIVE. (DEDUCED, log 31) -/
def allowed (s : State) (old v floor : Nat) : Bool := decide (old ≤ v) || (decide (floor ≤ v) && !anyLive s)

/-- (DEDUCED, log 31) -/
def doTimeAllowanceWrite (r : AllowReg) (v : W32) (s : State) : State :=
  let n := v.toNat
  let c := s.clk
  match r with
  | .ppsAllow => if allowed s c.ppsAllow n 20 then { s with clk := { c with ppsAllow := n } } else s
  | .ptpAllow => if allowed s c.ptpAllow n 50 then { s with clk := { c with ptpAllow := n } } else s
  | .holdFreq => if allowed s c.holdFreq n 10 then { s with clk := { c with holdFreq := n } } else s
  | .holdAging => if allowed s c.holdAging n 10 then { s with clk := { c with holdAging := n } } else s
  | .ppsDelay =>
    if anyLive s || decide (v.toInt < -1000) || decide (1000 < v.toInt) then s else { s with clk := { c with ppsDelay := v } }

def allowOff : AllowReg → Nat
  | .ppsAllow => 0x30014 | .ptpAllow => 0x30018 | .holdFreq => 0x3001C | .holdAging => 0x30020 | .ppsDelay => 0x30024

def execTimeAllowanceWrite (r : AllowReg) (v : W32) (s : State) : Res :=
  .next (hostWrite (allowOff r) 4 (doTimeAllowanceWrite r v) s)

end Sys2Proof.Machine
end

