-- ==== Sys2Proof/Machine/Network.lean ====
section
/-! DEFINITION. The interchange, interlocking and time services of Linzen (R399-R402) and the peer-table commands
(R386-R388). -/

namespace Sys2Proof.Machine

/-! ### Vendor signatures (R416, R423) -/

def schemeMldsa87 : Nat := 3

/-- A generation of a key kind whose REVOKE bit is set (R407, R416): code in [3:0], authorisation in [11:8]. -/
def revoked (s : State) (kind gen : Nat) : Bool := s.life.revoke.getLsbD (if kind = 1 then 8 + gen else gen)

/-- Both vendor signatures of a message under a generation that is not revoked; the ML-DSA one has a context. -/
def vendorOk (s : State) (kind gen : Nat) (ctx : String) (msg sigE sigM : Bytes) : Bool :=
  decide (gen < 4) && !revoked s kind gen && Config.verify schemeEcdsa (Config.romKey kind gen false) msg sigE
    && Config.verify schemeMldsa87 (Config.romKey kind gen true) (inContext (ascii ctx) msg) sigM

/-- A device identity certificate verifies (R423). -/
def certOk (s : State) (b : Bytes) : Bool :=
  rd b 0 4 == 0x49444331 && rd b 4 2 == 1 && allZero b 25 7 && allZero b 2081 7
    && vendorOk s 0 (rd b 24 1) "SOLNY IDENTITY" (slice b 0 2088) (slice b 2088 96) (slice b 2184 4627)

def certLen : Nat := 6811

/-! ### Interchange (R399, R400) -/

/-- One CLAIM_REQ with up to 127 waiting claims of a peer. -/
def doClaimBatchSend (i : Nat) (s : State) : State :=
  let mine := (s.vm.claims.filter fun c => c.peer == i && !c.sent).take 127
  if mine.isEmpty || ((peerOf s i).bind (·.cur)).isNone then s
  else
    let body := mine.flatMap fun c =>
      le 8 ((c.work.stamp.map (·.seq)).getD 0) ++ le 8 c.ownerId.toNat ++ le 8 c.device.toNat ++ le 8 c.seq
    let mark := fun (c : RoutedClaim) => if mine.contains c then { c with sent := true } else c
    let s := { s with vm := { s.vm with claims := s.vm.claims.map mark } }
    let s := mine.foldl (fun st c => bump 0x06 [0] c.owner 1 st) s
    sendMessage i (message 2 1 mine.length body) s

def execClaimBatchSend (peer : Nat) (s : State) : Res := .next (when (portsRun s) (doClaimBatchSend peer) s)

/-- Entries that wait for their decision. -/
def undecided (s : State) : Nat := (s.vm.inbound.filter fun c => c.verdict.isNone).length

/-- R400: dropped entries are counted, and event 0x0B09 comes at most once a second. -/
def dropClaims (n : Nat) (s : State) : State :=
  let m := s.jct.claimDropN + n
  let j := { s.jct with claimDrop := sat32 (s.jct.claimDrop + n), claimDropN := m }
  let due := match j.claimDropAt with
    | none => true
    | some t => decide (t + 10 ^ 9 ≤ s.clk.run)
  if due then event 0x0B09 0 [(4, m)] { s with jct := { j with claimDropAt := some s.clk.run, claimDropN := 0 } }
  else { s with jct := j }

/-- A CLAIM_REQ is queued (R400); from a STABLED request on its entries are dropped (R474). -/
def takeClaimReq (i : Nat) (p : Peer) (n : Nat) (b : Bytes) (s : State) : State :=
  let entries := (List.range n).map fun k =>
    ({ peer := i, presenter := p.id, claimSeq := rd b (32 * k) 8, ownerId := BitVec.ofNat 64 (rd b (32 * k + 8) 8)
       device := BitVec.ofNat 64 (rd b (32 * k + 16) 8), seq := rd b (32 * k + 24) 8, batch := s.vm.batchNo
       verdict := none } : InClaim)
  let room := if s.sys.stableBusy then 0 else 65536 - undecided s
  let s := { s with vm := { s.vm with inbound := s.vm.inbound ++ entries.take room, batchNo := s.vm.batchNo + 1 } }
  if room < n then dropClaims (n - room) s else s

def execClaimReq (peer : Nat) (s : State) : Res :=
  .next (when (portsRun s) (fun s =>
    let n := min 127 (messageCount s peer 2 1)
    onMessage peer 2 1 (fun p b s => takeClaimReq peer p n b s) s) s)

/-- A CLAIM_VERDICT entry (R399). -/
def verdictEntry (claimSeq issuerSeq : Nat) (st : Status) (image : Bytes) : Bytes :=
  le 8 claimSeq ++ le 8 issuerSeq ++ le 1 st.code ++ zeros 7 ++ padTo 32 image ++ zeros 8

/-- When the last entry of a CLAIM_REQ is decided, its CLAIM_VERDICT is sent in entry order. -/
def answerBatch (batch : Nat) (s : State) : State :=
  let mine := s.vm.inbound.filter fun c => c.batch == batch
  match mine with
  | [] => s
  | c :: _ =>
    if mine.any fun c => c.verdict.isNone then s
    else
      let s := { s with vm := { s.vm with inbound := s.vm.inbound.filter fun c => c.batch != batch } }
      sendMessage c.peer (message 2 2 mine.length (mine.flatMap fun c => c.verdict.getD [])) s

/-- The owner under which an inbound claim is decided: the presenting owner id's, otherwise the owner of the ticket
that the entry names. -/
def inboundOwner (s : State) (c : InClaim) : Option Nat :=
  match funcOfId s c.ownerId with
  | some o => some o
  | none => (s.vm.tickets.find? fun t => t.seq == c.seq && issuerDevice s t.owner t.issuer == c.device.toNat).map (·.owner)

/-- What the issuer answers (R201, R202, R447): status, reason, image. (DEDUCED, log 26; DEDUCED, log 32) -/
def inboundDecide (c : InClaim) (o : Nat) (s : State) : (Status × Nat × Bytes × Bytes) × State :=
  let none' := replayNone s
  if closeWork s then ((.policy, 0, [], none'), s)
  else if s.vm.stopped then ((.fault, 0, [], none'), s)
  else if (ownerOf s o).id ≠ c.ownerId then ((.notFound, 0, [], none'), s)
  else
    match issuerIndex s o c.device.toNat with
    | none => ((.notFound, 0, [], none'), s)
    | some k =>
      let ((st, d, t), s) := registerDecide o k c.seq (BitVec.ofNat 64 c.claimSeq) c.peer s
      ((st, d, imageOf t, replayBytes { ticket := if st == .ok then t.map fun x => (2, x) else none } s), s)

/-- R400: one inbound entry is admitted as a QUERY record without a ring and decided. -/
def decideInbound (s : State) : State :=
  match s.vm.inbound.find? fun c => c.verdict.isNone with
  | none => s
  | some c =>
    let put := fun (v : Bytes) (s : State) => answerBatch c.batch { s with vm := { s.vm with
      inbound := s.vm.inbound.map fun x => if x == c then { x with verdict := some v } else x } }
    match inboundOwner s c with
    | none => put (verdictEntry c.claimSeq allOnes64 .notFound []) s
    | some o =>
      if !canNumber s then s
      else
        let (st, s) := issue o s
        let ((code, d, img, rb), s) := inboundDecide c o s
        let leaf := queryLeaf 0xFFFF o (0x10 : BitVec 512) c.device.toNat c.seq code d (placeDie s o c.seq)
        put (verdictEntry c.claimSeq st.seq code img) (bump 0x06 [1] o 1 (sealLeaf st leaf rb s))

/-- The status that a code names; NOT_FOUND for a code that no verdict carries. -/
def verdictStatus (c : Nat) : Status :=
  if c = 0 then .ok else if c = 1 then .sealedReject else if c = 0x0F then .alreadyPaid
  else if c = 0x11 then .policy else if c = 0x0A then .fault else .notFound

/-- The reason that R201 gives for a refused claim, from the state in the entry image. -/
def verdictReason (st : Status) (image : Bytes) : Nat :=
  if st != .sealedReject then 0
  else match rd image 30 1 % 8 with
    | 0 => 0xFF10
    | 1 => 0xFF11
    | _ => 0xFF12

/-- One verdict entry (R202, R203): the waiting claim completes with a RELAY leaf; a late one is noted. -/
def takeVerdict (i : Nat) (p : Peer) (e : Bytes) (s : State) : State :=
  match s.vm.claims.find? fun c => c.peer == i && c.sent && (c.work.stamp.map (·.seq)) == some (rd e 0 8) with
  | none =>
    let late := fun (x : Nat × Nat × Nat) => x.1 == i && x.2.1 == rd e 0 8
    event 0x060C 0 [(8, p.id.toNat), (8, ((s.vm.lateClaims.find? late).map (·.2.2)).getD (rd e 24 8))]
      { s with vm := { s.vm with lateClaims := s.vm.lateClaims.filter fun x => !late x } }
  | some c =>
    let st := verdictStatus (rd e 16 1)
    let img := slice e 24 32
    let s := { s with vm := { s.vm with claims := s.vm.claims.filter fun x => x != c } }
    let (f, s) := claimNonce c.owner c.work.src s
    let r := c.work.src
    let rb := match f with
      | none => replayBytes { nonce := some (hTerminal r, hTense r, hCtr r) } s
      | some _ => replayNone s
    finishSealed c.work (relayLeaf c st (verdictReason st img) (rd e 8 8)) rb img s

def takeVerdicts (i : Nat) (p : Peer) (n : Nat) (b : Bytes) (s : State) : State :=
  (List.range n).foldl (fun st k => takeVerdict i p (slice b (64 * k) 64) st) s

def execClaimVerdict (peer : Nat) (s : State) : Res :=
  .next (when (portsRun s) (fun s =>
    let n := min 127 (messageCount s peer 2 2)
    onMessage peer 2 2 (fun p b s => takeVerdicts peer p n b s) s) s)

/-! ### Interlocking (R261, R262, R401) -/

/-- The KCV of a key (R255). -/
def kcv (key : Bytes) : Bytes := kmac 8 key [] "SOLNY KCV"

def lockKey (ms ownerId k : Bytes) : Bytes := kmac 32 ms (ownerId ++ k) "SOLNY INTERLOCK"

/-- The LOCK_SEND body of an owner root for a peer. -/
def lockBody (ms : Bytes) (ownerId : Bytes) (set : Digest) (lo hi : Nat) (root : Slot) (s : State) : Bytes × State :=
  let k := kcv root.key
  let head := ownerId ++ digestBytes set ++ le 8 lo ++ le 8 hi ++ le 8 root.attr.toNat ++ k
  let ((n, ct, tag), s) := vaultSeal (lockKey ms ownerId k) (fun _ => head) (padTo 64 root.payload) s
  (head ++ n ++ zeros 4 ++ ct ++ tag, s)

/-- The RESULT of a received LOCK_SEND, and the message to hold. -/
def lockResult (i : Nat) (p : Peer) (b : Bytes) (s : State) : Nat × Option HeldLock :=
  let ms := (p.cur.map (·.ms)).getD []
  let (pt, ok) := gcmOpen (lockKey ms (slice b 0 8) (slice b 80 8)) (slice b 88 12) (slice b 0 88)
    (slice b 104 64) (slice b 168 16)
  let attr : W64 := BitVec.ofNat 64 (rd b 72 8)
  let root := pt.take (attr.extractLsb' 0 7).toNat
  let same := s.keys.held.find? fun h => h.ownerId.toNat == rd b 0 8 && kcv h.root == slice b 80 8
  let free := ([0, 1, 2, 3].find? fun k => !(s.keys.held.any fun h => h.index == k))
  let slot := match same with
    | some h => some h.index
    | none => free
  if (funcOfId s (BitVec.ofNat 64 (rd b 0 8))).isNone then (2, none)
  else if !ok || kcv root ≠ slice b 80 8 then (3, none)
  else match slot with
    | none => (1, none)
    | some k => (0, some { index := k, peer := i, device := p.id, ownerId := BitVec.ofNat 64 (rd b 0 8), root := root
                           attr := attr, setDigest := BitVec.ofNat 384 (rd b 8 48), lo := rd b 56 8, hi := rd b 64 8 })

def takeLockSend (i : Nat) (p : Peer) (b : Bytes) (s : State) : State :=
  let (r, h) := lockResult i p b s
  let s := match h with
    | some h => { s with keys := { s.keys with held := h :: s.keys.held.filter fun x => x.index != h.index } }
    | none => s
  sendMessage i (message 3 2 1 (slice b 0 8 ++ slice b 80 8 ++ le 1 r ++ zeros 7)) s

def execLockSend (peer : Nat) (s : State) : Res := .next (when (portsRun s) (onMessage peer 3 1 (takeLockSend peer)) s)

/-- LOCK_HELD completes the SEND of its owner: OK on RESULT 0, POLICY on any other (R401). -/
def takeLockHeld (i : Nat) (p : Peer) (b : Bytes) (s : State) : State :=
  match s.keys.sends.find? fun e => e.1 == i && (ownerOf s (e.2.func s)).id.toNat == rd b 0 8 with
  | none => s
  | some e =>
    let s := { s with keys := { s.keys with sends := s.keys.sends.filter fun x => x != e } }
    if rd b 16 1 = 0 then
      event 0x0709 (e.2.func s) [(8, p.id.toNat), (8, rd b 8 8)] (finish e.2 .ok 0 (slice b 8 8) s)
    else finish e.2 .policy 0 [] s

def execLockHeld (peer : Nat) (s : State) : Res := .next (when (portsRun s) (onMessage peer 3 2 (takeLockHeld peer)) s)

/-- R262, R401: a held root that was not accepted within WINDOW_S is cleared. -/
def doInterlockHoldExpiry (index : Nat) (s : State) : State :=
  match s.keys.held.find? fun h => h.index == index with
  | none => s
  | some h => event 0x0B0A 0 [(8, h.ownerId.toNat), (8, leNat (kcv h.root))]
      { s with keys := { s.keys with held := s.keys.held.filter fun x => x.index != index } }

def execInterlockHoldExpiry (index : Nat) (s : State) : Res := .next (doInterlockHoldExpiry index s)

/-! ### Time (R402) -/

/-- TIME_REQ to a TIME peer, with a REQ_ID of the device's choice. -/
def doTimeReqSend (i t1 : Nat) (s : State) : State :=
  match peerOf s i with
  | none => s
  | some p =>
    if !timePeer p || p.cur.isNone then s
    else
      let (n, s) := freeNat s
      let id := n % 2 ^ 64
      sendMessage i (message 4 1 1 (le 8 id)) (setPeer i { p with timeReq := some (id, t1) } s)

def execTimeReqSend (peer t1 : Nat) (s : State) : Res := .next (when (portsRun s) (doTimeReqSend peer t1) s)

def execTimeReq (peer t2 : Nat) (s : State) : Res :=
  .next (when (portsRun s) (onMessage peer 4 1 (fun _ b s =>
    mapPeer peer (fun p => { p with timeOwed := p.timeOwed ++ [(rd b 0 8, t2)] }) s)) s)

/-- The TIME_RESP is launched when the station clock reads T3 = T2 + 20 us. -/
def doTimeRespSend (i : Nat) (s : State) : State :=
  match peerOf s i with
  | none => s
  | some p =>
    match p.timeOwed with
    | [] => s
    | (id, t2) :: rest =>
      let u := match uncertainty s with
        | some u => u
        | none => allOnes64
      let body := le 8 id ++ le 8 t2 ++ le 8 (t2 + 20000) ++ le 1 s.clk.state.code ++ le 1 s.clk.source ++ zeros 6 ++ le 8 u
      sendMessage i (message 4 2 1 body) (setPeer i { p with timeOwed := rest } s)

def execTimeRespSend (peer : Nat) (s : State) : Res := .next (when (portsRun s) (doTimeRespSend peer) s)

/-- The cause for which a response is discarded (R402, R566). -/
def timeRespCause (p : Peer) (b : Bytes) : Option Nat :=
  if rd b 24 1 ≠ 2 then some 1
  else if rd b 25 1 = 4 then some 2
  else if (p.timeReq.map (·.1)) ≠ some (rd b 0 8) then some 3
  else none

/-- The reading with the least uncertainty among the usable peers is the Linzen source. -/
def leastUnc (s : State) (u : Nat) : Bool :=
  s.jct.peers.all fun e => match e.2.timeUnc with
    | some v => e.2.cur.isNone || decide (u ≤ v)
    | none => true

def takeTimeResp (i t4 : Nat) (p : Peer) (b : Bytes) (s : State) : State :=
  match timeRespCause p b, p.timeReq with
  | some c, _ => event 0x0B08 0 [(2, i), (1, c)] s
  | none, none => s
  | none, some (_, t1) =>
    let t2 : Int := rd b 8 8
    let t3 : Int := rd b 16 8
    let theta : Int := ((t2 - t1) + (t3 - t4)) / 2
    let u := rd b 32 8 + (((t4 : Int) - t1 - (t3 - t2)) / 2).toNat + s.clk.ptpAllow
    let s := mapPeer i (fun q => { q with timeReq := none, timeUnc := some u }) s
    if leastUnc s u then sourceReading .linzen theta s else s

def execTimeResp (peer t4 : Nat) (s : State) : Res :=
  .next (when (portsRun s) (onMessage peer 4 2 (takeTimeResp peer t4)) s)

/-! ### Peer-table commands (R386-R388) -/

/-- Reserved fields of the common part of PEER_ADD and PEER_SET, and the path modes (R388 order 2). -/
def peerFormOk (b : Bytes) : Bool :=
  decide (rd b 0 2 ≤ 2047) && allZero b 2 6 && decide (rd b 8 1 < 8) && allZero b 9 7
    && decide (rd b 16 1 ≤ 2) && decide (rd b 48 1 ≤ 2) && (rd b 16 1 != 0 || rd b 48 1 != 0)
    && rd b 17 1 == 0 && allZero b 40 8 && rd b 49 1 == 0 && allZero b 72 8

def peerEvent (i : Nat) (id : W64) (s : State) : State := event 0x0B0B 0 [(2, i), (8, id.toNat)] s

/-- PEER_ADD completes at its first failing row. -/
def doPeerAdd (w : Work) (s : State) : State :=
  let b := w.input
  let cert := b.drop 80
  let i := rd b 0 2
  let id : W64 := BitVec.ofNat 64 (rd cert 8 8)
  if !peerFormOk b then finish w .paramInvalid 0 [] s
  else if !certOk s cert then finish w .authFail 0 [] s
  else if id == s.otp.deviceId || (peerIndex s id).isSome || (s.vm.adopted.any fun a => a.2.2 == id)
      || (peerOf s i).isSome then finish w .policy 0 [] s
  else
    let p : Peer := { id := id, ecdsaPub := slice cert 32 97, mldsaPub := slice cert 129 1952
                      flags := BitVec.ofNat 8 (rd b 8 1), path0 := slice b 16 32, path1 := slice b 48 32 }
    finish w .ok 0 [] (startHandshake i (peerEvent i id (setPeer i p s)))

def execPeerAdd (w : WorkId) (s : State) : Res := .next (withWork w 0x80 doPeerAdd s)

/-- Forget what is kept for an entry that is freed. -/
def freePeer (i : Nat) (s : State) : State :=
  { s with
    jct := { s.jct with peers := s.jct.peers.del i }
    dep := { s.dep with newest := s.dep.newest.filter fun e => e.1 != i, acked := s.dep.acked.filter fun e => e.1 != i } }

def doPeerRemove (w : Work) (s : State) : State :=
  let i := rd w.input 0 2
  match peerOf s i with
  | none => finish w .notFound 0 [] s
  | some p => finish w .ok 0 [] (peerEvent i p.id (freePeer i (closeSession i s)))

def execPeerRemove (w : WorkId) (s : State) : Res := .next (withWork w 0x81 doPeerRemove s)

/-- PEER_SET: a session whose active path changed moves or is lost; a REFUSED entry may start again. -/
def doPeerSet (w : Work) (s : State) : State :=
  let b := w.input
  let i := rd b 0 2
  match peerOf s i with
  | none => finish w (if i ≤ 2047 then .notFound else .paramInvalid) 0 [] s
  | some p =>
    if !peerFormOk b then finish w .paramInvalid 0 [] s
    else
      let p' := { p with flags := BitVec.ofNat 8 (rd b 8 1), path0 := slice b 16 32, path1 := slice b 48 32
                         state := if p.state = 4 then 1 else p.state, retry := p.retry || p.state == 4 }
      let s := peerEvent i p.id (setPeer i p' s)
      let s := match p.port with
        | some k => if pathOn p k = pathOn p' k then s else leavePort i k s
        | none => s
      finish w .ok 0 [] s

def execPeerSet (w : WorkId) (s : State) : Res := .next (withWork w 0x82 doPeerSet s)

/-- The 128-byte image (R386). -/
def peerBytes (p : Peer) : Bytes :=
  le 8 p.id.toNat ++ digestBytes (sha (p.ecdsaPub ++ p.mldsaPub)) ++ le 1 p.flags.toNat ++ le 1 p.state
    ++ le 1 (p.port.getD 0xFF) ++ [0] ++ le 4 ((p.cur.map (·.num)).getD 0) ++ padTo 32 p.path0 ++ padTo 32 p.path1

def doPeerInfo (w : Work) (s : State) : State :=
  match peerOf s (rd w.input 0 2) with
  | none => finish w .notFound 0 [] s
  | some p => finish w .ok 0 (peerBytes p) s

def execPeerInfo (w : WorkId) (s : State) : Res := .next (withWork w 0x83 doPeerInfo s)

def doSessionOpen (w : Work) (s : State) : State :=
  let i := rd w.input 0 2
  match peerOf s i with
  | none => finish w .notFound 0 [] s
  | some p =>
    if p.hs.isSome then finish w .policy 0 [] s
    else
      let st := if p.state = 4 then 1 else p.state
      finish w .ok 0 [] (startHandshake i (setPeer i { p with state := st, retry := true } s))

def execSessionOpen (w : WorkId) (s : State) : Res := .next (withWork w 0x84 doSessionOpen s)

def doSessionClose (w : Work) (s : State) : State :=
  let i := rd w.input 0 2
  match peerOf s i with
  | none => finish w .notFound 0 [] s
  | some p => if p.cur.isNone then finish w .policy 0 [] s else finish w .ok 0 [] (closeSession i s)

def execSessionClose (w : WorkId) (s : State) : Res := .next (withWork w 0x85 doSessionClose s)

end Sys2Proof.Machine
end

