-- ==== Sys2Proof/Machine/Keys.lean ====
section
/-! DEFINITION. Key custody (R229-R270): handles, slots and KEYS records, owners, accords, key commands, wrapping,
interlocking, departure keys and zeroisation. -/

namespace Sys2Proof.Machine

/-! ### Attribute words and handles (R234, R238) -/

def aKlen (a : W64) : Nat := (a.extractLsb' 0 7).toNat
def aExpire (a : W64) : Bool := a.getLsbD 7
def aExport (a : W64) : Bool := a.getLsbD 8
def aDual (a : W64) : Bool := a.getLsbD 9
def aOwner (a : W64) : Nat := (a.extractLsb' 10 6).toNat
def aVerb (a : W64) : Nat := (a.extractLsb' 16 16).toNat
def aUses (a : W64) : Nat := (a.extractLsb' 32 32).toNat

def verbRoot : Nat := 0x0100
def verbTransport : Nat := 0x0101
def verbCipher : Nat := 0x0102
def verbMac : Nat := 0x0103
def verbSign : Nat := 0x0104
def verbKem : Nat := 0x0105

/-- An attribute word. -/
def mkAttr (klen owner verb uses : Nat) : W64 :=
  BitVec.ofNat 64 (klen + owner * 2 ^ 10 + verb * 2 ^ 16 + uses * 2 ^ 32)

/-- Where a key is held. -/
inductive KeyRef where
  | slot (i : Nat)
  | record (owner index : Nat)
  deriving DecidableEq, Repr

/-- A key as the operations see it. -/
structure KeyView where
  ref : KeyRef
  attr : W64
  gen : Nat
  /-- 1 VALID, 2 EXHAUSTED, 3 FAILED. -/
  state : Nat
  key : Bytes
  deriving DecidableEq, Repr

def slotHandle (i gen : Nat) : Nat := (gen % 65536) * 4096 + i
def recordHandle (index gen : Nat) : Nat := 2 ^ 31 + (gen % 32) * 2 ^ 26 + index

def KeyView.handle (k : KeyView) : Nat :=
  match k.ref with
  | .slot i => slotHandle i k.gen
  | .record _ x => recordHandle x k.gen

/-- The key that a handle names for a function, in any state but FREE (R238). -/
def findKey (s : State) (owner h : Nat) : Option KeyView :=
  if h < 2 ^ 31 then
    let i := h % 4096
    let x := slotOf s i
    if h < 2 ^ 28 && decide (64 ≤ i) && x.state != 0 && x.owner == owner && x.gen == h / 4096 then
      some { ref := .slot i, attr := x.attr, gen := x.gen, state := x.state, key := x.key }
    else none
  else
    (s.vm.keyRecs.find? fun r => r.owner == owner && r.state != 0 && recordHandle r.index r.gen == h).map fun r =>
      { ref := .record owner r.index, attr := r.attr, gen := r.gen, state := r.state, key := r.payload }

/-- The key that a handle names, usable: VALID and not locked for debug (R235, R236, R241). -/
def usableKey (s : State) (owner h : Nat) : Option KeyView :=
  match findKey s owner h with
  | some k => if k.state = 1 && !s.keys.locked then some k else none
  | none => none

/-- A usable key of a verb: none names no usable key, and a wrong verb is POLICY (R238, R239). -/
def keyFor (s : State) (owner h verb : Nat) : Status ⊕ KeyView :=
  match usableKey s owner h with
  | some k => if aVerb k.attr = verb then .inr k else .inl .policy
  | none => .inl .noKey

/-- CHECK of a KEYS record: over the index and header bytes 0-55, followed by the payload, as for slots (R240).
 (DEDUCED, log 34) -/
def recordCheck (s : State) (r : KeyRec) : Bytes :=
  kmac 8 (slotOf s 1).key (le 4 r.index ++ r.header ++ padTo 4032 r.payload) "SOLNY SLOT"

/-- Change KEYS records, with the lines that hold them. -/
def mapRecords (f : KeyRec → KeyRec) (s : State) : State :=
  syncVault s { s with vm := { s.vm with keyRecs := s.vm.keyRecs.map f } }

/-- A KEYS record whose check fails is FAILED (R235, R240). -/
def failRecord (o x : Nat) (s : State) : State :=
  match s.vm.keyRecs.find? fun r => r.owner == o && r.index == x with
  | none => s
  | some r =>
    let bad := fun (q : KeyRec) => { q with state := 3, check := recordCheck s { q with state := 3 } }
    if r.state = 0 ∨ r.state = 3 then s
    else noteCheckFail o (recordHandle x r.gen)
      (mapRecords (fun q => if q.owner == o && q.index == x then bad q else q) s)

/-- Where the key that a handle names is held. -/
def refOf (s : State) (o h : Nat) : Option KeyRef := (findKey s o h).map KeyView.ref

/-- The check before a use of the key that a handle names (R235, R240). -/
def checkKey (o h : Nat) (s : State) : State :=
  match refOf s o h with
  | some (.slot i) => checkSlot i s
  | some (.record _ x) =>
    if s.vm.keyRecs.all (fun r => !(r.owner == o && r.index == x) || r.check == recordCheck s r) then s else failRecord o x s
  | none => s

/-- The handle names a KEYS record of which the controller has found a line bad (R188). -/
def keyLineBad (s : State) (o h : Nat) : Bool :=
  match refOf s o h with
  | some (.record _ x) => recordBad s o x
  | _ => false

/-- Take one use of a key (R236). -/
def useKey (k : KeyView) (s : State) : State :=
  match k.ref with
  | .slot i => useSlot i s
  | .record o x =>
    if aUses k.attr = 0 then s
    else
      let dec := fun (r : KeyRec) =>
        let q := { r with attr := r.attr - ((1 : W64) <<< 32), state := if aUses r.attr = 1 then 2 else r.state }
        if r.owner = o ∧ r.index = x then { q with check := recordCheck s q } else r
      let s := mapRecords dec s
      if aUses k.attr = 1 then event 0x0704 o [(4, k.handle)] s else s

/-- The key as the state holds it now: a view taken before has the payload and the attributes of that time. -/
def keyNow (k : KeyView) (s : State) : KeyView :=
  match k.ref with
  | .slot i => { k with attr := (slotOf s i).attr, state := (slotOf s i).state }
  | .record o x =>
    match s.vm.keyRecs.find? fun r => r.owner == o && r.index == x with
    | some r => { k with attr := r.attr, state := r.state }
    | none => { k with state := 0 }

/-- Take n uses, as long as the key is VALID: whether all were taken (R236). -/
def useTimes (k : KeyView) : Nat → State → Bool × State
  | 0, s => (true, s)
  | n + 1, s =>
    let k := keyNow k s
    if k.state = 1 then useTimes k n (useKey k s) else (false, s)

/-! ### Slots and records (R232, R237, R240) -/

/-- (DEDUCED, log 34) -/
def ownerSlots (s : State) (o : Nat) : Nat :=
  (s.keys.slots.filter fun e => decide (64 ≤ e.1) && e.2.state != 0 && e.2.owner == o).length

/-- The first FREE owner slot (R232). -/
def freeSlot (s : State) : Option Nat := ((List.range 4032).map (· + 64)).find? fun i => (slotOf s i).state == 0

/-- Write a slot (R233, R237). -/
def writeSlot (i : Nat) (attr : W64) (key : Bytes) (s : State) : State :=
  setSlot i { payload := padTo 64 key, attr := attr, gen := ((slotOf s i).gen + 1) % 65536, state := 1 } s

/-- Destroy a slot and its flash copy. -/
def destroySlot (i : Nat) (s : State) : State := setSlot i { gen := ((slotOf s i).gen + 1) % 65536 } s

/-- KEYS records an owner's area holds, and its places (R240). -/
def recordCount (s : State) (o : Nat) : Nat := (s.vm.keyRecs.filter fun r => r.owner == o && r.state != 0).length
def recordCap (s : State) (o : Nat) : Nat := (ownerOf s o).parts.getD 0 0 * 16384

def freeRecord (s : State) (o : Nat) : Option Nat :=
  if recordCap s o ≤ recordCount s o then none
  else (List.range (recordCount s o + 1)).find? fun x => !(s.vm.keyRecs.any fun r => r.owner == o && r.index == x && r.state != 0)

def writeRecord (o x : Nat) (attr : W64) (key : Bytes) (s : State) : State :=
  let g := match s.vm.keyRecs.find? fun r => r.owner == o && r.index == x with
    | some r => (r.gen + 1) % 65536
    | none => 1
  let r : KeyRec := { owner := o, index := x, attr := attr, gen := g, state := 1, payload := key }
  syncVault s { s with vm := { s.vm with keyRecs :=
    ({ r with check := recordCheck s r } :: s.vm.keyRecs.filter (fun r => !(r.owner == o && r.index == x))) } }

def destroyKey (k : KeyView) (s : State) : State :=
  match k.ref with
  | .slot i => destroySlot i s
  | .record o x =>
    let free := fun (r : KeyRec) =>
      let q := { r with state := 0, gen := (r.gen + 1) % 65536, payload := [], attr := 0 }
      if r.owner = o ∧ r.index = x then { q with check := recordCheck s q } else r
    mapRecords free s

/-- Place a new key for an owner: its handle. -/
def newKey (o : Nat) (record : Bool) (attr : W64) (key : Bytes) (s : State) : Option (Nat × State) :=
  if record then
    (freeRecord s o).map fun x =>
      let s := writeRecord o x attr key s
      let g := ((s.vm.keyRecs.find? fun r => r.owner == o && r.index == x).map (·.gen)).getD 0
      (recordHandle x g, s)
  else if (ownerOf s o).quota ≤ ownerSlots s o then none
  else (freeSlot s).map fun i =>
    let s := writeSlot i attr key s
    (slotHandle i (slotOf s i).gen, s)

/-- The enrolment of an owner is kept in user flash beside the wrapped copies. -/
def saveOwner (o : Nat) (s : State) : State :=
  { s with flash := { s.flash with owners := s.flash.owners.put o (ownerOf s o) } }

/-! ### Root changes (R244) -/

/-- Keep the root generation, owner id and range in force for work items below a sequence number. Generations kept
before take the payload and uses that their slot holds now. -/
def keepRoot (o seq : Nat) (s : State) : State :=
  let w := ownerOf s o
  let now := fun (i : Nat) => if (slotOf s i).state = 1 then some (slotOf s i).key else none
  let i := w.root.getD 0
  let r : OldRoot := { owner := o, id := w.id, upto := seq, slot := i, gen := if w.root.isSome then (slotOf s i).gen else 0
                       lo := w.lo, hi := w.hi, key := if w.root.isSome then now i else none
                       uses := if w.root.isSome then (slotOf s i).uses else 0 }
  let same := fun (x : OldRoot) => w.root.isSome && x.owner == o && x.slot == i && x.gen == (slotOf s i).gen
  { s with keys := { s.keys with oldRoots :=
    (s.keys.oldRoots.map fun x => if same x then { x with key := r.key, uses := r.uses } else x) ++ [r] } }

def isRoot (s : State) (o : Nat) (k : KeyView) : Bool :=
  match k.ref with
  | .slot i => (ownerOf s o).root == some i
  | .record _ _ => false

/-- R244: the last earlier work item has completed; the cache entries of the old generation go on every die. -/
def doCacheInvalidation (o : Nat) (s : State) : State :=
  let live := fun (r : OldRoot) => s.adm.owed.any fun x => x.owner == o && decide (x.seq < r.upto)
  let gone := s.keys.oldRoots.filter fun r => r.owner == o && !live r
  if gone.isEmpty then s
  else
    let stale := fun (e : Nat × Nat × Nat × Nat × Bytes) =>
      gone.any fun r => e.2.1 == o && e.2.2.1 == r.slot && e.2.2.2.1 == r.gen
    emit (.coupling 2 o) { s with keys := { s.keys with
      oldRoots := s.keys.oldRoots.filter fun r => r.owner != o || live r
      cache := s.keys.cache.filter fun e => !stale e } }

def execCacheInvalidation (owner : Nat) (s : State) : Res := .next (when (alive s) (doCacheInvalidation owner) s)

/-! ### The mesh enrolment record (R439) -/

/-- Bytes 0-111 of the enrolment record. -/
def MeshRec.bytes (r : MeshRec) : Bytes :=
  padTo 112 (le 4 0x4D534831 ++ le 2 1 ++ le 1 r.caseMask.toNat ++ [0] ++ le 8 r.count
    ++ padTo 64 (r.loops.flatMap fun l => le 1 l.1 ++ le 1 l.2.1 ++ le 2 l.2.2))

/-- Its MAC under the wrap key in slot 2. -/
def meshMac (s : State) (r : MeshRec) : Bytes := kmac 16 (slotOf s 2).key r.bytes "SOLNY MESH"

/-- The enrolment record in user flash, where it is valid: no wrap key, or another, verifies none. -/
def meshValid (s : State) : Option MeshRec :=
  match s.flash.mesh with
  | some r => if (slotOf s 2).state == 1 && r.mac == meshMac s r then some r else none
  | none => none

/-! ### Sealed key operations -/

/-- The CEREMONY leaf of an operation, sealed as the accord is consumed, with the replay record of its changes (R254,
R372). (DEDUCED, log 15) -/
def ceremonyAs (w : Work) (a : Accord) (handle : Nat) (rb : State → Bytes) (s : State) : Work × State :=
  let l := ceremonyLeaf a handle (dTag w.desc) w.ring s
  let (w, s) := stampWork w a.owner (dropAccord a s)
  match w.stamp with
  | some q => (w, sealLeaf q l (rb s) s)
  | none => (w, s)

def ceremonyOk (w : Work) (a : Accord) (handle : Nat) (s : State) : Work × State := ceremonyAs w a handle replayNone s

/-- Run an operation that always needs an accord: ACCORD_REQUIRED with the DETAIL where the check fails; otherwise the
accord is consumed and its leaf sealed at the admission step, whatever the operation then completes with (R254). -/
def withCeremony (w : Work) (owner opcode handle : Nat) (body : Work → State → State) (s : State) : State :=
  withAccord w owner opcode (fun a s =>
    let (w, s) := ceremonyOk w a handle s
    body w s) s

/-! ### Owners (R246-R248) -/

def bodyOfficials (b : Bytes) (n : Nat) : List Official :=
  (List.range n).map fun k => { card := slice b (16 + 96 * k) 16, pub := slice b (32 + 96 * k) 65 }

/-- The form of an R246 or R247 body. -/
def enrolFormOk (b : Bytes) (flagsMax : Nat) : Bool :=
  let n := rd b 9 1
  decide (1 ≤ n) && decide (n ≤ 16) && decide (1 ≤ rd b 10 1) && decide (rd b 10 1 ≤ n) && decide (rd b 11 1 ≤ flagsMax)
    && (rd b 12 2 == 0 || (decide (30 ≤ rd b 12 2) && decide (rd b 12 2 ≤ 3600))) && rd b 14 2 == 0
    && b.length == 16 + 96 * n && (List.range n).all fun k => allZero b (97 + 96 * k) 15

def bodyWindow (b : Bytes) : Nat := if rd b 12 2 = 0 then 300 else rd b 12 2

/-- Clear the content of an owner's KEYS, COUNTERS and SETTLE areas (R248). -/
def clearAreas (f : Nat) (s : State) : State :=
  syncVault s { s with vm := { s.vm with
    tickets := s.vm.tickets.filter fun t => t.owner != f, limits := s.vm.limits.filter fun t => t.owner != f
    terminals := s.vm.terminals.filter fun t => t.owner != f, keyRecs := s.vm.keyRecs.filter fun t => t.owner != f } }

/-- OWNER_ENROL (R246): refused in PRODUCTION without a valid mesh enrolment (R440), and where the root would pass the
owner's quota (R232). The new owner inherits nothing of a retired one (R248). (DEDUCED, log 34) -/
def doOwnerEnrol (w : Work) (s : State) : State :=
  let b := w.input
  let f := rd b 8 1
  let noRoot := rd b 11 1 = 1
  if !enrolFormOk b 1 then finish w .paramInvalid 0 [] s
  else if s.life.decided = 3 || f = 0 || decide (63 < f) || (ownerOf s f).enrolled != 0
      || (funcOfId s (BitVec.ofNat 64 (rd b 0 8))).isSome || (s.life.decided == 2 && (meshValid s).isNone)
      || (!noRoot && (decide ((ownerOf s f).quota ≤ ownerSlots s f) || (freeSlot s).isNone)) then finish w .policy 0 [] s
  else if !noRoot && !canDraw s then finish w .rngUnavailable 0 [] s
  else withAccord w f 0x50 (fun a s =>
      let i := (freeSlot s).getD 0
      let s := clearAreas f s
      let (key, s) := if noRoot then ([], s) else drawBytes 32 s
      let s := if noRoot then s else writeSlot i (mkAttr 32 f verbRoot 0) key s
      let h := if noRoot then 0 else slotHandle i (slotOf s i).gen
      let s := mapOwner f (fun o => { o with
        enrolled := if noRoot then 1 else 2, id := BitVec.ofNat 64 (rd b 0 8), n := rd b 9 1, m := rd b 10 1
        windowS := bodyWindow b, officials := bodyOfficials b (rd b 9 1), noRoot := noRoot
        blockNo := 0, blockPrev := 0, pos := 1, posPrev := 0
        root := if noRoot then none else some i, lo := 0, hi := 2 ^ 64 - 1, cmdCtr := 0 }) s
      let (w, s) := ceremonyOk w a h (saveOwner f s)
      finish w .ok 0 (le 4 h ++ zeros 4) (event 0x0701 f [(1, f), (8, rd b 0 8), (1, rd b 9 1), (1, rd b 10 1)] s)) s

def execOwnerEnrol (w : WorkId) (s : State) : Res := .next (withSealedWork w 0x50 doOwnerEnrol s)

/-- A draw of the owner is admitted and neither revealed nor voided. -/
def drawOpen (s : State) (o : Nat) : Bool := s.rng.draws.any fun d => d.owner == o

/-- What refuses OWNER_RETIRE (R248). -/
def retireRefused (s : State) (f : Nat) : Bool :=
  (ownerOf s f).enrolled == 0 || ownerLive s f || (ringIs s 0 f .running).isSome || (ringIs s 1 f .running).isSome
    || (s.vm.tickets.any fun t => t.owner == f && t.state == 2) || (s.vm.sweeps.any fun x => x.owner == f) || drawOpen s f

/-- The RULEBOOK leaf of an image (R164). -/
def rulebookLeaf (o handle version : Nat) (d : Digest) (reason : Nat) : Leaf :=
  { arg := d.toNat % 2 ^ 64, version := version, handle := handle, reason := reason, kind := 0x06, owner := o }

/-- Remove what R248 removes of an owner; the areas stay assigned. Work items admitted before `seq` end under the root,
owner id, range and rulebooks they were admitted with (R20, R244). (DESIGN CHOICE, log 5) -/
def clearOwner (f seq : Nat) (s : State) : State :=
  let s := keepRoot f seq s
  let old := ownerOf s f
  let mine := (s.keys.slots.filter fun e => decide (64 ≤ e.1) && e.2.state != 0 && e.2.owner == f).map (·.1)
  let s := clearAreas f (mine.foldl (fun st i => destroySlot i st) s)
  let runs := fun (b : Book) => s.adm.items.any fun i => i.owner == f && i.handle == b.handle && i.version == b.version
  { s with
    vm := { s.vm with adopted := s.vm.adopted.filter fun a => a.1 != f }
    adm := { s.adm with
      games := s.adm.games.filter fun g => g.owner != f
      owners := s.adm.owners.put f { share := old.share, parts := old.parts, quota := old.quota, hashKeys := old.hashKeys
                                     relaying := old.relaying, blockNo := old.blockNo, blockPrev := old.blockPrev
                                     pos := old.pos, posPrev := old.posPrev, blockOpen := old.blockOpen, waiting := old.waiting, closed := old.closed
                                     id := old.id } }
    eng := { s.eng with books := (s.eng.books.filter fun b => b.owner != f || runs b).map fun b =>
      if b.owner == f then { b with draining := true } else b }
    pk := { s.pk with curves := s.pk.curves.filter fun c => c.owner != f }
    keys := { s.keys with accords := s.keys.accords.filter fun a => a.owner != f }
    life := { s.life with codeKeys := s.life.codeKeys.del f }
    flash := { s.flash with owners := s.flash.owners.del f, books := s.flash.books.filter fun b => b.1 != f } }

def doOwnerRetire (w : Work) (s : State) : State :=
  let f := rd w.input 0 1
  if retireRefused s f then finish w .policy 0 [] s
  else withAccord w f 0x51 (fun a s =>
    let books := sortBy (·.handle) (s.eng.books.filter fun b => b.owner == f)
    if !canNumberN (books.length + 1) s then { s with adm := { s.adm with work := w :: s.adm.work } }
    else
      let (w, s) := ceremonyOk w a 0 s
      let s := books.foldl (fun st b => sealNow (rulebookLeaf f b.handle b.version b.digest 3) (replayNone st) st) s
      let s := clearOwner f ((w.stamp.map (·.seq)).getD 0) (closeBlock f s)
      finish w .ok 0 [] (event 0x0702 f [] (mapOwner f (fun o => { o with id := 0 }) s))) s

def execOwnerRetire (w : WorkId) (s : State) : Res := .next (withSealedWork w 0x51 doOwnerRetire s)

/-- OFFICIAL_SET (R247): every other open accord of the owner is void. -/
def doOfficialSet (w : Work) (s : State) : State :=
  let b := w.input
  let f := w.func s
  if !enrolFormOk b 0 || rd b 8 1 ≠ 0 || (ownerOf s f).id.toNat ≠ rd b 0 8 then finish w .paramInvalid 0 [] s
  else withAccord w f 0x52 (fun a s =>
    let (w, s) := ceremonyOk w a 0 s
    let s := mapOwner f (fun o => { o with
      n := rd b 9 1, m := rd b 10 1, windowS := bodyWindow b, officials := bodyOfficials b (rd b 9 1) }) s
    let s := { s with keys := { s.keys with accords := s.keys.accords.filter fun x => x.owner != f } }
    finish w .ok 0 [] (event 0x070F f [] (saveOwner f s))) s

def execOfficialSet (w : WorkId) (s : State) : Res := .next (withSealedWork w 0x52 doOfficialSet s)

/-! ### Keys (R255, R256, R258) -/

/-- A verb that a slot or a record may carry, ROOT apart (R239, R240). -/
def verbOk (record : Bool) (v : Nat) : Bool :=
  v == verbCipher || v == verbMac || v == verbSign || v == verbKem || (v == verbTransport && !record)

/-- An attribute word that a new key of an owner may have. (DEDUCED, log 34) -/
def attrFits (owner : Nat) (record : Bool) (attr : W64) (len : Nat) : Bool :=
  aOwner attr == owner && !(record && aExpire attr) && decide (1 ≤ len)
    && (if record then decide (len ≤ 4032) else aKlen attr == len && decide (len ≤ 64))
    && (aVerb attr != verbTransport || len == 32)

/-- A new key that is not wrapped or imported. -/
def attrOk (owner : Nat) (record : Bool) (attr : W64) (len : Nat) : Bool :=
  attrFits owner record attr len && verbOk record (aVerb attr)

/-- A key that a wrapped record brings: the clause verbs that CLAUSE_EXPORT writes are accepted too (R258). -/
def importOk (owner : Nat) (record : Bool) (attr : W64) (len : Nat) : Bool :=
  attrFits owner record attr len
    && (verbOk record (aVerb attr) || (decide (1 ≤ aVerb attr) && decide (aVerb attr ≤ 6)))

/-- SLOT_GENERATE: with DUAL a ceremony, otherwise a SERVICE leaf. -/
def doSlotGenerate (w : Work) (s : State) : State :=
  let o := w.func s
  let b := w.input
  let attr : W64 := BitVec.ofNat 64 (rd b 0 8)
  let record := rd b 8 1 = 1
  let n := aKlen attr
  let make := fun (s : State) =>
    let (key, s) := drawBytes n s
    (newKey o record attr key s).map fun r => (r.1, key, r.2)
  if aVerb attr = verbRoot then finish w .policy 0 [] s
  else if !attrOk o record attr n || 64 < n || 1 < rd b 8 1 then finish w .paramInvalid 0 [] s
  else if !canDraw s then finish w .rngUnavailable 0 [] s
  else if aDual attr then withAccord w o 0x53 (fun a s =>
    match make s with
    | none =>
      let (w, s) := ceremonyOk w a 0 s
      finish w .policy 0 [] s
    | some (h, key, s) =>
      let (w, s) := ceremonyOk w a h s
      finish w .ok 0 (le 4 h ++ zeros 4 ++ kcv key) s) s
  else
    match make s with
    | none => finish w .policy 0 [] s
    | some (h, key, s) =>
      let (w, s) := stampWork w o s
      finishSealed w (serviceLeaf w o .ok 0) (replayNone s) (le 4 h ++ zeros 4 ++ kcv key) s

def execSlotGenerate (w : WorkId) (s : State) : Res := .next (withSealedWork w 0x53 doSlotGenerate s)

/-- The padded size of a wrapped record with PLEN bytes of ciphertext (R256). -/
def wrapSize (plen : Nat) : Nat := 8 * ceilDiv (48 + plen) 8

/-- A wrapped record under a TRANSPORT key, by the lane named or another in service. -/
def wrapKey (lane : Nat) (tkey ownerId : Bytes) (index : Nat) (attr : W64) (key : Bytes) (s : State) : Bytes × State :=
  let l : LaneId := { group := .vault, lane := lane }
  let (l, s) := if (vaultLanes s).contains l then (some l, s) else pick (vaultLanes s) s
  let (n, s) := classD (l.getD { group := .vault, lane := 0 }) s
  let plen := 16 + key.length
  let mid := le 4 index ++ le 2 plen ++ zeros 14
  let (ct, tag) := gcmSeal tkey n (ownerId ++ mid) (le 8 attr.toNat ++ zeros 8 ++ key)
  (padTo (wrapSize plen) (n ++ mid ++ ct ++ tag), s)

/-- Open a wrapped record: its attribute word, its key (empty where PLEN is below 17), and whether the tag verifies. -/
def unwrapKey (tkey ownerId rec : Bytes) : W64 × Bytes × Bool :=
  let plen := rd rec 16 2
  let (pt, ok) := gcmOpen tkey (slice rec 0 12) (ownerId ++ slice rec 12 20) (slice rec 32 plen) (slice rec (32 + plen) 16)
  (BitVec.ofNat 64 (rd pt 0 8), pt.drop 16, ok)

def ownerIdBytes (s : State) (o : Nat) : Bytes := le 8 (ownerOf s o).id.toNat

/-- SLOT_WRITE (R235, R244, R255). A ROOT slot takes a ROOT key, any other slot another verb. -/
def doSlotWrite (w : Work) (s : State) : State :=
  let o := w.func s
  let b := w.input
  withCeremony w o 0x54 (rd b 0 4) (fun w s =>
    let s := checkKey o (rd b 4 4) s
    match findKey s o (rd b 0 4), keyFor s o (rd b 4 4) verbTransport with
    | none, _ => finish w .noKey 0 [] s
    | _, .inl st => finish w st 0 [] s
    | some k, .inr t =>
      let (attr, key, ok) := unwrapKey t.key (ownerIdBytes s o) (b.drop 8)
      let root := isRoot s o k
      let good := match k.ref with
        | .slot _ => if root then attrFits o false attr key.length && aVerb attr == verbRoot else importOk o false attr key.length
        | .record _ _ => importOk o true attr key.length
      if keyLineBad s o (rd b 0 4) then finish w .fault 0 [] s
      else if !ok then finish w .authFail 0 [] (useKey t s)
      else if !good then finish w .paramInvalid 0 [] (useKey t s)
      else
        let s := useKey t s
        let s := if root then keepRoot o ((w.stamp.map (·.seq)).getD 0) s else s
        let s := match k.ref with
          | .slot i => writeSlot i attr key s
          | .record o x => writeRecord o x attr key s
        finish w .ok 0 [] s) s

def execSlotWrite (w : WorkId) (s : State) : Res := .next (withSealedWork w 0x54 doSlotWrite s)

/-- SLOT_EXPORT (R258). -/
def doSlotExport (lane : Nat) (w : Work) (s : State) : State :=
  let o := w.func s
  let h := rd w.input 0 4
  let th := rd w.input 4 4
  withCeremony w o 0x55 h (fun w s =>
    let s := checkKey o th (checkKey o h s)
    match usableKey s o h, keyFor s o th verbTransport with
    | none, _ => finish w .noKey 0 [] s
    | _, .inl st => finish w st 0 [] s
    | some k, .inr t =>
      if keyLineBad s o h then finish w .fault 0 [] s
      else if !aExport k.attr then finish w .policy 0 [] s
      else
        let (rec', s) := wrapKey lane t.key (ownerIdBytes s o) 0 k.attr k.key (useKey k (useKey t s))
        finish w .ok 0 rec' (event 0x0707 o [(4, h), (4, th)] s)) s

def execSlotExport (w : WorkId) (lane : Nat) (s : State) : Res := .next (withSealedWork w 0x55 (doSlotExport lane) s)

def doSlotDestroy (w : Work) (s : State) : State :=
  let o := w.func s
  let h := rd w.input 0 4
  withCeremony w o 0x56 h (fun w s =>
    match findKey s o h with
    | none => finish w .noKey 0 [] s
    | some k =>
      if s.keys.locked then finish w .noKey 0 [] s
      else if keyLineBad s o h then finish w .fault 0 [] s
      else
        let root := isRoot s o k
        let s := if root then keepRoot o ((w.stamp.map (·.seq)).getD 0) s else s
        let s := destroyKey k s
        let s := if root then saveOwner o (mapOwner o (fun x => { x with root := none, enrolled := 1 }) s) else s
        finish w .ok 0 [] s) s

def execSlotDestroy (w : WorkId) (s : State) : Res := .next (withSealedWork w 0x56 doSlotDestroy s)

/-- SLOT_INFO (R255, R257). -/
def doSlotInfo (w : Work) (s : State) : State :=
  let o := w.func s
  let h := rd w.input 0 4
  let l := (ownerOf s o).lastImport
  if h = 0 then
    if dDstLen w.desc < 16 + 4 * l.length then finish w .paramInvalid 0 [] s
    else finish w .ok 0 (le 4 l.length ++ zeros 12 ++ l.flatMap (le 4)) s
  else
    match findKey s o h with
    | none => finish w .noKey 0 [] s
    | some k => if keyLineBad s o h then finish w .fault 0 [] s else finish w .ok 0 (le 8 k.attr.toNat ++ le 2 k.gen ++ le 1 k.state ++ zeros 5) s

def execSlotInfo (w : WorkId) (s : State) : Res := .next (withWork w 0x57 doSlotInfo s)

/-- A CLAUSE_EXPORT entry names an exportable verb and the object of R242. -/
def clauseEntryOk (s : State) (o : Nat) (e : Bytes) : Bool :=
  let v := rd e 20 2
  decide (1 ≤ v) && decide (v ≤ 6) && rd e 22 2 == 0
    && rd e 8 8 == (if v ≤ 2 then (ownerOf s o).id.toNat else s.otp.deviceId.toNat)

/-- The wrapped records of the entries: each derivation takes a use of the root and each wrap one of the TRANSPORT key;
none where one of the two is EXHAUSTED before the last (R236). -/
def exportClauses (lane o : Nat) (t root : KeyView) : List (Nat × Bytes) → State → Option Bytes × State
  | [], s => (some [], s)
  | (k, e) :: r, s =>
    let t := keyNow t s
    let root := keyNow root s
    if t.state ≠ 1 ∨ root.state ≠ 1 then (none, s)
    else
      let key := clauseKey root.key (clause (rd e 0 8) (rd e 20 2) (rd e 8 8) (rd e 16 4))
      let (b, s) := wrapKey lane t.key (ownerIdBytes s o) k (mkAttr 32 o (rd e 20 2) 0) key (useKey t (useKey root s))
      let (bs, s) := exportClauses lane o t root r s
      (bs.map fun x => b ++ x, s)

def doClauseExport (lane : Nat) (w : Work) (s : State) : State :=
  let o := w.func s
  let b := w.input
  let n := rd b 4 2
  let es := (List.range n).map fun k => (k, slice b (8 + 24 * k) 24)
  if n = 0 || decide (256 < n) || rd b 6 2 ≠ 0 || b.length ≠ 8 + 24 * n || es.any (fun e => !clauseEntryOk s o e.2) then
    finish w .paramInvalid 0 [] s
  else withCeremony w o 0x58 (rd b 0 4) (fun w s =>
    let s := checkKey o (rd b 0 4) s
    let s := match (ownerOf s o).root with
      | some ri => checkSlot ri s
      | none => s
    match keyFor s o (rd b 0 4) verbTransport, (ownerOf s o).root with
    | .inl st, _ => finish w st 0 [] s
    | _, none => finish w .noKey 0 [] s
    | .inr t, some ri =>
      let x := slotOf s ri
      match exportClauses lane o t { ref := .slot ri, attr := x.attr, gen := x.gen, state := x.state, key := x.key } es s with
      | (some out, s) => finish w .ok 0 out s
      | (none, s) => finish w .noKey 0 [] s) s

def execClauseExport (w : WorkId) (lane : Nat) (s : State) : Res := .next (withSealedWork w 0x58 (doClauseExport lane) s)

/-! ### Terminals and ranges (R259) -/

/-- (DEDUCED, log 26) -/
def doTerminalSet (w : Work) (s : State) : State :=
  let o := w.func s
  let b := w.input
  let x := rd b 8 8
  let y := rd b 16 8
  let old := terminalOf s o x
  let tense := match old with
    | some t => t.tense
    | none => 0
  if 1 < rd b 0 1 || !allZero b 1 7 || !allZero b 24 8 || (rd b 0 1 = 1 && decide (y < x)) then finish w .paramInvalid 0 [] s
  else if rd b 0 1 = 0 && decide (2 ^ 32 ≤ y) then finish w .paramInvalid 0 [] s
  else withAccord w o 0x59 (fun a s =>
    if rd b 0 1 = 0 && old.isSome && decide (y < tense) then finish w .paramInvalid 0 [] s
    else if rd b 0 1 = 0 && keyBad s o 1 (terminalKey x) then
      let (w, s) := ceremonyOk w a 0 s
      finish w .fault 0 [] s
    else if rd b 0 1 = 1 then
      let (w, s) := ceremonyOk w a 0 s
      let s := keepRoot o ((w.stamp.map (·.seq)).getD 0) s
      finish w .ok 0 [] (saveOwner o (mapOwner o (fun q => { q with lo := x, hi := y }) s))
    else if old.isSome && y == tense then
      let (w, s) := ceremonyOk w a 0 s
      finish w .ok 0 [] s
    else if old.isNone && !counterRoom s o [terminalKey x] then
      let (w, s) := ceremonyOk w a 0 s
      finish w .noKey 0x0002 [] (noteFull o 1 s)
    else
      let s := bump 0x09 [0] o 1 (commitSet s (putTerminal { owner := o, id := x, tense := y, ctr := 0 } s))
      let (w, s) := ceremonyAs w a 0 (replayBytes { nonce := some (x, y, 0) }) s
      finish w .ok 0 [] s) s

def execTerminalSet (w : WorkId) (s : State) : Res := .next (withSealedWork w 0x59 doTerminalSet s)

/-! ### Accords (R249-R252) -/

def accordBlock (dev : W64) (a : Accord) : Bytes :=
  ascii "SOLNY ACCORD" ++ zeros 4 ++ le 8 dev.toNat ++ le 8 a.no ++ le 8 a.openT ++ le 4 a.windowS ++ le 1 a.owner
    ++ le 1 a.m ++ le 1 a.opcode ++ [0] ++ digestBytes a.digest ++ zeros 32

/-- ACCORD_OPEN refusals of R249 and R250. -/
def accordOpenErr (s : State) (pf0 : Bool) (op owner : Nat) (b body : Bytes) : Option Status :=
  let carries := op = 0x50 || op = 0x52
  if !allZero b 2 14 || (!carries && b.length != 64) then some .paramInvalid
  else if op = 0x50 && (!pf0 || rd body 8 1 != owner) then some .policy
  else if op = 0x52 && pf0 then some .policy
  else if carries && !enrolFormOk body 1 then some .paramInvalid
  else if carries && digestBytes (sha body) != slice b 16 48 then some .paramInvalid
  else if 64 ≤ s.keys.accords.length then some .policy
  else if op ≠ 0x50 && (ownerOf s owner).enrolled == 0 then some .policy
  else none

def doAccordOpen (w : Work) (s : State) : State :=
  let b := w.input
  let pf0 := w.func s = 0
  let op := rd b 0 1
  let owner := if pf0 then rd b 1 1 else w.func s
  let body := b.drop 64
  match accordOpenErr s pf0 op owner b body with
  | some st => finish w st 0 [] s
  | none =>
    let o := ownerOf s owner
    let a : Accord :=
      { no := s.keys.nextAccord, openT := s.clk.run
        windowS := if op = 0x50 then bodyWindow body else o.windowS
        owner := owner, m := if op = 0x50 then rd body 9 1 else o.m, opcode := op
        digest := BitVec.ofNat 384 (rd b 16 48)
        body := if op = 0x50 || op = 0x52 then bodyOfficials body (rd body 9 1) else [], signers := [] }
    let s := { s with keys := { s.keys with accords := s.keys.accords ++ [a], nextAccord := s.keys.nextAccord + 1 } }
    finish w .ok (a.no % 65536) (accordBlock s.otp.deviceId a) s

/-- The next number may be issued under ACCORD_HIGH of the newest record written (R218, R249); otherwise the
command waits. -/
def execAccordOpen (w : WorkId) (s : State) : Res :=
  .next (if s.keys.nextAccord ≤ accordHigh s then withWork w 0x5A doAccordOpen s else s)

/-- The open accord that a function may act on. (DEDUCED, log 34) -/
def accordFor (s : State) (func id : Nat) : Option Accord :=
  s.keys.accords.find? fun a => a.no % 65536 == id && (func == 0 || a.owner == func)

/-- The public key that an accord holds for a card (R250). -/
def cardKeyFor (s : State) (a : Accord) (card : Bytes) : Option Bytes :=
  let set := if a.opcode = 0x50 then a.body else (ownerOf s a.owner).officials ++ newOfficials s a
  (set.find? fun o => o.card == card).map (·.pub)

def schemeP256 : Nat := 4

/-- Count a card's signature over the accord block: the status and DETAIL that answer it (R252). -/
def addSignature (a : Accord) (card sig : Bytes) (s : State) : (Status × Nat) × State :=
  match cardKeyFor s a card with
  | none => ((.policy, 1), s)
  | some pub =>
    if !Config.verify schemeP256 pub (accordBlock s.otp.deviceId a) sig then ((.authFail, 1), s)
    else
      let a' := { a with signers := if a.signers.contains card then a.signers else a.signers ++ [card] }
      ((.ok, a'.signers.length), { s with keys := { s.keys with accords := s.keys.accords.map fun x => if x.no = a.no then a' else x } })

end Sys2Proof.Machine
end

