-- ==== Sys2Proof/Machine/FlashArea.lean ====
section
/-! DEFINITION. The counter area of user flash (R217, R218). -/

namespace Sys2Proof.Machine

/-- The marks that the next record carries: each raised when its number comes within its margin (R218). -/
def nextSeqHigh (s : State) : Nat := if seqHigh s < s.adm.nextSeq + 2 ^ 28 then seqHigh s + 2 ^ 31 else seqHigh s
def nextDepHigh (s : State) : Nat := if depHigh s < s.dep.number + 2 ^ 12 then depHigh s + 2 ^ 16 else depHigh s
def nextAccordHigh (s : State) : Nat :=
  if accordHigh s < s.keys.nextAccord + 2 ^ 8 then accordHigh s + 2 ^ 16 else accordHigh s

/-- A raise of a mark is due. -/
def raiseDue (s : State) : Bool :=
  nextSeqHigh s != seqHigh s || nextDepHigh s != depHigh s || nextAccordHigh s != accordHigh s

/-- A record's own content; number and marks are filled as it is written. -/
def recordOf (type epoch departure sequence : Nat) (head : Digest) : FlashRec :=
  { type := type, writeNo := 0, epoch := epoch, departure := departure, sequence := sequence, seqHigh := 0
    depHigh := 0, head := head, accordHigh := 0 }

/-- Bytes 0-111 of a record (R217). -/
def FlashRec.bytes (r : FlashRec) : Bytes :=
  le 4 0x46435231 ++ le 1 r.type ++ zeros 3 ++ le 8 r.writeNo ++ le 8 r.epoch ++ le 8 r.departure ++ le 8 r.sequence
    ++ le 8 r.seqHigh ++ le 8 r.depHigh ++ digestBytes r.head ++ le 8 r.accordHigh

/-- MAC of a record under the flash key in slot 4 (R217, R230). -/
def flashMac (s : State) (r : FlashRec) : Bytes := kmac 16 (slotOf s 4).key r.bytes ""

/-- Records of the counter area and of one of its erase sectors (R217, R226). -/
def counterPlaceCount : Nat := (flashArea 5).2 / 128
def sectorPlaces : Nat := 4096 / 128

/-- Write a record at the next place of the ring; the sector after it is kept erased (R217). -/
def putRecord (r : FlashRec) (sh dh ah : Nat) (s : State) : State :=
  let n := ((flashNow s).map (·.writeNo)).getD 0 + 1
  let p := s.flash.counterNext % counterPlaceCount
  let ahead := (p / sectorPlaces + 1) % (counterPlaceCount / sectorPlaces)
  let r := { r with writeNo := n, seqHigh := sh, depHigh := dh, accordHigh := ah, place := p }
  { s with flash := { s.flash with
    counters := { r with mac := flashMac s r } :: s.flash.counters.filter fun x => x.place != p && x.place / sectorPlaces != ahead
    counterNext := (p + 1) % counterPlaceCount } }

/-- A failed write goes on in the next sector (R218). -/
def skipSector (s : State) : State :=
  let sec := (s.flash.counterNext % counterPlaceCount) / sectorPlaces
  { s with flash := { s.flash with counterNext := ((sec + 1) % (counterPlaceCount / sectorPlaces)) * sectorPlaces } }

/-- The record whose write ends next: one that was begun, or the raise of a mark that is due. -/
def dueRecord (s : State) : Option FlashRec :=
  match s.flash.writing with
  | r :: _ => some r
  | [] => if raiseDue s then some (recordOf 3 s.vm.epochAck 0 0 0) else none

def beginRecord (r : FlashRec) (s : State) : State :=
  { s with flash := { s.flash with writing := s.flash.writing ++ [r] } }

/-- A written record takes effect: the acknowledged checkpoint, with its command, the power-fail note, or the end of a
power failure, after which fetching resumes (R215, R219, R220). -/
def recordEffect (r : FlashRec) (s : State) : State :=
  if r.type = 1 then
    let s' := event 0x0606 0 []
      { s with vm := { s.vm with epochAck := r.epoch, epochDep := r.departure, ackWait := s.vm.ackWait.drop 1 } }
    match s.vm.ackWait with
    | w :: _ => finish w .ok 0 [] s'
    | [] => s'
  else if r.type = 2 then event 0x0608 0 [] s
  else if r.type = 4 && !s.sys.pwrFail then { s with adm := { s.adm with stopFetch := s.sys.stableBusy } }
  else s

/-- What a record takes from the moment of its write: the acknowledged epoch but for a TYPE 1 record, and the last
number issued for a TYPE 2 record (R217, R219). -/
def atWrite (r : FlashRec) (s : State) : FlashRec :=
  { r with epoch := if r.type = 1 then r.epoch else s.vm.epochAck
           sequence := if r.type = 2 then s.adm.nextSeq - 1 else r.sequence }

/-- R218: a good write puts the record and its marks in force; a failed one is repeated in the next sector. -/
def doFlashRecordWritten (good : Bool) (s : State) : State :=
  match dueRecord s with
  | none => s
  | some r =>
    if !good then skipSector s
    else
      let r := atWrite r s
      let s := putRecord r (nextSeqHigh s) (nextDepHigh s) (nextAccordHigh s) s
      recordEffect r { s with flash := { s.flash with writing := s.flash.writing.drop 1 } }

def execFlashRecordWritten (good : Bool) (s : State) : Res := .next (when (alive s) (doFlashRecordWritten good) s)

end Sys2Proof.Machine
end

