-- ==== Sys2Proof/Machine/Custody.lean ====
section
/-! DEFINITION. Key custody, continued: accords freed, interlocking, departure keys, key table import, the salt,
slot checks, quotas and zeroisation (R231, R235, R252-R269). -/

namespace Sys2Proof.Machine

/-! ### Accords and quotas -/

/-- ACCORD_CANCEL (R252). (DEDUCED, log 34) -/
def doAccordCancel (w : Work) (s : State) : State :=
  match accordFor s (w.func s) (rd w.input 0 2) with
  | none => finish w .notFound 0 [] s
  | some a => finish w .ok 0 [] (dropAccord a s)

def execAccordCancel (w : WorkId) (s : State) : Res := .next (withWork w 0x5C doAccordCancel s)

/-- KEYS_OWNER_QUOTA (R269). -/
def doKeysQuotaWrite (v : W32) (s : State) : State :=
  let o := s.keys.ownerSel
  let q := (v.extractLsb' 0 12).toNat
  let others := (s.adm.owners.filter fun e => e.1 != o).foldl (fun n e => n + e.2.quota) 0
  if o = 0 then s
  else if 4032 < others + q then { s with keys := { s.keys with err := 0x1 } }
  else if q < ownerSlots s o then { s with keys := { s.keys with err := 0x2 } }
  else mapOwner o (fun w => { w with quota := q }) s

def execKeysQuotaWrite (v : W32) (s : State) : Res := .next (hostWrite 0x60014 4 (doKeysQuotaWrite v) s)

/-- The once-a-second check of all slots: those whose bytes have changed under their CHECK, as named, and every other
whose CHECK does not verify (R235). -/
def doSlotScrub (bad : List Nat) (s : State) : State :=
  let s := bad.foldl (fun st i => failSlot i st) s
  (s.keys.slots.map (·.1)).foldl (fun st i => checkSlot i st) s

def execSlotScrub (bad : List Nat) (s : State) : Res := .next (when (alive s) (doSlotScrub bad) s)

/-! ### Interlocking (R261, R262) -/

def interlockMode (w : Work) : Bool := (dArg w.desc).getLsbD 0

/-- SEND: the root goes to the peer; LOCK_HELD completes the command. -/
def doInterlockSend (w : Work) (s : State) : State :=
  let o := w.func s
  let b := w.input
  match peerRoute s (rd b 0 8) with
  | some (i, true) =>
    match (ownerOf s o).root with
    | none => finish w .noKey 0 [] s
    | some ri =>
      let s := checkSlot ri s
      if (slotOf s ri).state ≠ 1 ∨ s.keys.locked then finish w .noKey 0 [] s
      else withAccord w o 0x5D (fun a s =>
        let (w, s) := ceremonyOk w a (slotHandle ri (slotOf s ri).gen) s
        let ms := (((peerOf s i).bind (·.cur)).map (·.ms)).getD []
        let (body, s) := lockBody ms (ownerIdBytes s o) (setDigest (ownerOf s o).officials) (rd b 8 8) (rd b 16 8)
          (slotOf s ri) s
        let s := useSlot ri s
        sendMessage i (message 3 1 1 body) { s with keys := { s.keys with sends := s.keys.sends ++ [(i, w)] } }) s
  | _ => finish w .ownerUnreachable 0 [] s

/-- The row of a mode runs only on work of that mode. -/
def inMode (accept : Bool) (body : Work → State → State) (id : WorkId) (s : State) : State :=
  if (s.adm.work.any fun w => w.ring == id.ring && w.idx == id.idx && interlockMode w == accept) then
    withSealedWork id 0x5D body s
  else s

def execInterlockSend (w : WorkId) (s : State) : Res := .next (inMode false doInterlockSend w s)

/-- ACCEPT: the held root becomes the owner's ROOT. -/
def doInterlockAccept (w : Work) (s : State) : State :=
  let o := w.func s
  let b := w.input
  let x := ownerOf s o
  match s.keys.held.filter fun h => h.ownerId == x.id with
  | [] => finish w .notFound 0 [] s
  | hs =>
    match hs.find? fun h => h.device.toNat == rd b 0 8 && kcv h.root == slice b 24 8 && h.setDigest == setDigest x.officials, freeSlot s with
    | some h, some i =>
      if x.enrolled = 0 ∨ !x.noRoot ∨ x.root.isSome ∨ x.quota ≤ ownerSlots s o then finish w .policy 0 [] s
      else withAccord w o 0x5D (fun a s =>
        let attr : W64 := (h.attr &&& ~~~(0xFC00 : W64)) ||| BitVec.ofNat 64 (o * 1024)
        let gen := (slotOf s i).gen + 1
        let (w, s) := ceremonyOk w a (slotHandle i gen) s
        let s := keepRoot o ((w.stamp.map (·.seq)).getD 0) s
        let s := writeSlot i attr h.root s
        let s := mapOwner o (fun q => { q with root := some i, enrolled := 2, lo := h.lo, hi := h.hi }) s
        let s := { s with keys := { s.keys with held := s.keys.held.filter fun y => y.index != h.index } }
        event 0x0709 o [(8, h.device.toNat), (8, leNat (kcv h.root))] (finish w .ok 0 (kcv h.root) (saveOwner o s))) s
    | _, _ => finish w .policy 0 [] s

def execInterlockAccept (w : WorkId) (s : State) : Res := .next (inMode true doInterlockAccept w s)

/-! ### Departure signing keys (R264, R265) -/

def algMldsa65 : Nat := 0x21

/-- The public keys of a pair of seeds. -/
def pairPubs (e m : Bytes) : Bytes × Bytes := (le 97 (Config.public algP384 e), le 1952 (Config.public algMldsa65 m))

/-- KEY_DIGEST: SHA-384 of the P-384 point followed by the ML-DSA-65 key. -/
def pairDigest (e m : Bytes) : Digest := sha ((pairPubs e m).1 ++ (pairPubs e m).2)

/-- Draw a pair of departure seeds into two device slots, with their flash copies. -/
def drawPair (i j : Nat) (s : State) : (Bytes × Bytes) × State :=
  let (e, s) := drawBytes 48 s
  let (m, s) := drawBytes 32 s
  ((e, m), writeSlot j (mkAttr 32 0 verbSign 0) m (writeSlot i (mkAttr 48 0 verbSign 0) e s))

/-- The key certificate of a pair (R264). -/
def keyCert (serial : Nat) (e m : Bytes) (s : State) : Bytes × State :=
  let (pe, pm) := pairPubs e m
  let body := le 4 0x4B435231 ++ le 2 1 ++ zeros 2 ++ le 8 s.otp.deviceId.toNat ++ le 8 serial ++ le 8 s.dep.number
    ++ digestBytes (pairDigest e m) ++ pe ++ pm
  let (r1, s) := drawNat s
  let (r2, s) := drawNat s
  (body ++ le 96 (Config.sign schemeEcdsa (identityKey s) body r1) ++ le 3309 (Config.sign schemeMldsa (identityKey s) (inContext [] body) r2), s)

/-- A certificate is issued for each pair (R264). -/
def issueCert (serial : Nat) (e m : Bytes) (s : State) : Bytes × State :=
  let (cert, s) := keyCert serial e m s
  (cert, { s with dep := { s.dep with certs := cert :: s.dep.certs } })

/-- DEPART_KEY_ROLL: a new pair waits in slots 7-8 (R264). -/
def doDepartKeyRoll (w : Work) (s : State) : State :=
  let s := checkSlot 0 s
  if s.dep.nextSerial.isSome then finish w .policy 0 [] s
  else if (slotOf s 0).state ≠ 1 then finish w .noKey 0 [] s
  else if !canDraw s then finish w .rngUnavailable 0 [] s
  else
    let serial := s.dep.serial + 1
    let ((e, m), s) := drawPair 7 8 s
    let s := { s with
      dep := { s.dep with nextSerial := some serial, nextKeyDigest := pairDigest e m }
      flash := { s.flash with nextSerial := some serial } }
    let (cert, s) := issueCert serial e m s
    finish w .ok 0 cert s

def execDepartKeyRoll (w : WorkId) (s : State) : Res := .next (withWork w 0x5E doDepartKeyRoll s)

/-! ### Key table import (R257) -/

/-- The wrapped records of an image in order; none where one does not fit or its padding is not 0. -/
def splitRecords : Nat → Bytes → Option (List Bytes)
  | 0, b => if b.isEmpty then some [] else none
  | n + 1, b =>
    let plen := rd b 16 2
    let size := wrapSize plen
    if b.length < size || !allZero b 18 14 || !allZero b (48 + plen) (size - (48 + plen)) then none
    else (splitRecords n (b.drop size)).map fun r => b.take size :: r

/-- Opened records, or none where a tag fails. -/
def openRecords (tkey ownerId : Bytes) : List Bytes → Option (List (W64 × Bytes))
  | [] => some []
  | r :: rest =>
    let (a, k, ok) := unwrapKey tkey ownerId r
    if ok then (openRecords tkey ownerId rest).map fun l => (a, k) :: l else none

/-- Place every key of an import, or none where room runs out. -/
def placeAll (o : Nat) (record : Bool) : List (W64 × Bytes) → State → Option (List Nat × State)
  | [], s => some ([], s)
  | (a, k) :: r, s =>
    match newKey o record a k s with
    | none => none
    | some (h, s) => (placeAll o record r s).map fun x => (h :: x.1, x.2)

def doKeyTableImport (s : State) : State :=
  let b := s.bulk.data
  let o := s.bulk.owner
  let count := rd b 20 4
  let record := rd b 24 1 = 1
  let recs := splitRecords count (b.drop 64)
  match recs with
  | none => endBulk .paramInvalid s
  | some recs =>
    if rd b 0 4 ≠ 0x4B544231 || rd b 4 2 ≠ 1 || count = 0 || decide (4096 < count) || decide (1 < rd b 24 1) || !allZero b 25 39 then
      endBulk .paramInvalid s
    else if (ownerOf s o).enrolled = 0 || (ownerOf s o).id.toNat ≠ rd b 8 8 then endBulk .policy s
    else
      match accordCheck (rd b 6 2) o 0xB3 (sha (b.drop 64)) s with
      | .inl (_, s') => endBulk .accordRequired s'
      | .inr a =>
        let s := checkKey o (rd b 16 4) s
        match keyFor s o (rd b 16 4) verbTransport with
        | .inl _ => endBulk .noKey s
        | .inr t =>
          let (all, s) := useTimes t count s
          if !all then endBulk .noKey s
          else match openRecords t.key (ownerIdBytes s o) recs with
          | none => endBulk .authFail s
          | some ks =>
            if ks.any fun k => !importOk o record k.1 k.2.length then endBulk .paramInvalid s
            else
              match placeAll o record ks s with
              | none => endBulk .policy s
              | some (hs, s) =>
                let s := mapOwner o (fun w => { w with lastImport := hs }) s
                let s := sealNow (ceremonyLeaf a (rd b 16 4) 0 0xFFFF s) (replayNone s) (dropAccord a s)
                bulkDone (event 0x0708 o [(4, count)] s)

/-- The import takes a number, so it waits while none may be issued (R218). -/
def execKeyTableImport (s : State) : Res :=
  .next (when (inService s && bulkVerifying s 3 && canNumber s) doKeyTableImport s)

/-! ### Roots and salt (R229-R231) -/

/-- The OTP component: the complete bank, 0 before PRODUCTION. -/
def otpComponent (s : State) : BitVec 256 :=
  if s.life.doneA then s.life.bankA else if s.life.doneB then s.life.bankB else 0

def formIdentity (s : State) : BitVec 256 :=
  BitVec.ofNat 256 (Config.kmac256 (le 32 Config.puf.toNat) (le 32 (otpComponent s).toNat) 256 (ascii "SOLNY IDENTITY"))

def formWrap (salt : BitVec 256) (s : State) : BitVec 256 :=
  BitVec.ofNat 256 (Config.kmac256 (le 32 Config.puf.toNat) (le 32 (otpComponent s).toNat ++ le 32 salt.toNat) 256 (ascii "SOLNY ROOT"))

/-- A device slot derived from a root by clause (R230). -/
def deviceSlot (root : BitVec 256) (verb : Nat) (s : State) : Slot :=
  { payload := padTo 64 (clauseKey (le 32 root.toNat) (clause s.otp.deviceId.toNat verb 0 0))
    attr := mkAttr 32 0 verb 0 ||| 0x80, gen := 1, state := 1 }

/-- Slots 0 and 4 from the identity root. -/
def deriveIdentity (s : State) : State :=
  let r := formIdentity s
  setSlot 4 (deviceSlot r 0x0203 s) (setSlot 0 (deviceSlot r 0x0204 s)
    { s with keys := { s.keys with identityRoot := some r } })

/-- Slots 1, 2 and 3 from the root wrapping key; with the slot-check key there, slots 0 and 4 take their CHECK. -/
def deriveWrap (salt : BitVec 256) (s : State) : State :=
  let r := formWrap salt s
  let s := setSlot 3 (deviceSlot r 0x0202 s) (setSlot 2 (deviceSlot r 0x0201 s) (setSlot 1 (deviceSlot r 0x0200 s)
    { s with keys := { s.keys with wrapRoot := some r } }))
  setSlot 4 (slotOf s 4) (setSlot 0 (slotOf s 0) s)

/-- A new pair of departure seeds in use, under the next SERIAL (R231 step 6). -/
def newDepartSeeds (s : State) : State :=
  let ((e, m), s) := drawPair 5 6 s
  let serial := max s.dep.serial s.flash.serial + 1
  let (_, s) := issueCert serial e m s
  { s with
    dep := { s.dep with serial := serial, keyDigest := pairDigest e m, nextSerial := none, nextKeyDigest := 0 }
    flash := { s.flash with serial := serial, nextSerial := none } }

/-- The salt sector's MAC under the flash key in slot 4 (R231). The manual gives no customisation string: empty.
 (DEDUCED, log 34) -/
def saltMac (s : State) (salt : BitVec 256) : Bytes := kmac 16 (slotOf s 4).key (le 32 salt.toNat) ""

/-- The salt sector holds a salt whose MAC verifies. -/
def saltOk (s : State) : Bool :=
  match s.flash.salt with
  | some x => s.flash.saltMac == saltMac s x
  | none => false

/-- The salt is missing or its MAC fails, and no zeroisation is pending (R231). -/
def saltBad (s : State) : Bool := !saltOk s && !s.keys.zeroisePending

/-- R231, in its order. -/
def doNewSalt (s : State) : State :=
  let (b, s) := drawBytes 32 s
  let salt : BitVec 256 := BitVec.ofNat 256 (leNat b)
  let s := { s with
    flash := { s.flash with salt := some salt, saltMac := saltMac s salt, wrapped := [], owners := [] }
    life := { s.life with codeKeys := [] }
    keys := { s.keys with newSalt := true } }
  let s := putRecord (recordOf 3 0 0 0 0) (seqHigh s) (depHigh s) (accordHigh s) (event 0x070C 0 [] s)
  newDepartSeeds (deriveWrap salt s)

def execNewSalt (s : State) : Res :=
  .next (when (alive s && s.sys.state == .booting && s.rng.ready && s.evt.committed && saltBad s
    && decide (6 ≤ s.sys.bootStep) && decide (s.sys.bootStep < 0x0D)) doNewSalt s)

/-! ### Zeroisation (R266-R268) -/

/-- Power is removed from every card slot and every session ends (R341). -/
def cardsOff (s : State) : State :=
  { s with cards := { s.cards with slots := s.cards.slots.map fun e => (e.1, {}), bus := [], phase := 0, repeated := false, blocks := [], regiven := none, ops := [] } }

/-- Steps 2 to 6 without OTP: everything secret or in flight is cleared, on every coupling. What R266 keeps stays: the
event recorder, the tamper flags, OTP, and the flash counter area. A bulk session ends ABORTED. (DESIGN CHOICE, log 55) -/
def clearSecrets (s : State) : State :=
  let s := abortBulk (emit (.coupling 3 0) (cardsOff (stopPorts s)))
  { s with
    keys := { s.keys with
      identityRoot := none, wrapRoot := none, slots := [], oldRoots := [], held := [], sends := []
      accords := [], cache := [] }
    rng := { s.rng with ready := false, draws := [], pool := 0, drawSeeds := 0, heldReads := 0, revealed := [] }
    lanes := { s.lanes with ops := [], queue := [] }
    pk := { s.pk with ops := [], queue := [], aborts := [], lens := [], curves := [] }
    adm := { s.adm with fetched := [], work := [], items := [], owed := [], ends := [], games := [], owners := [] }
    eng := { s.eng with threads := [], books := [], waiting := none }
    vm := { s.vm with tickets := [], limits := [], terminals := [], keyRecs := [], claims := [], lateClaims := [], inbound := [], sweeps := [], kept := [], store := {} }
    dep := { s.dep with isOpen := false, closing := [], leaves := [] }
    rings := { s.rings with tbl := [] }
    bulk := { s.bulk with data := [] }
    link := { s.link with ideKeys := none } }

/-- The zeroise line is asserted: event 0x070A with the source, steps 2 to 6, and the pending bit of the next pair. -/
def zeroise (src : Nat) (s : State) : State :=
  if s.sys.state == .zeroised || s.sys.state == .off then s
  else
    let s := clearSecrets (event 0x070A 0 [(1, src)] s)
    enterDev .zeroised { s with
      keys := { s.keys with zeroisePending := true, zeroStep := 1 }
      otp := { s.otp with pairsUsed := min 65 (s.otp.pairsUsed + 1) } }

/-- Step 7: the salt sector reads back blank; the done bit is programmed, and event 0x070B. -/
def doSaltEraseDone (s : State) : State :=
  let s := { s with
    flash := { s.flash with salt := none, saltMac := [] }
    otp := { s.otp with pairsDone := min (min 64 s.otp.pairsUsed) (s.otp.pairsDone + 1) }
    keys := { s.keys with zeroStep := 2 } }
  event 0x070B 0 [(1, s.otp.pairsUsed)] s

def execSaltEraseDone (s : State) : Res :=
  .next (when (s.sys.state == .zeroised && s.keys.zeroStep == 1) doSaltEraseDone s)

/-- Step 8. -/
def doWrappedAreaErased (s : State) : State :=
  { s with
    flash := { s.flash with wrapped := [], owners := [] }
    life := { s.life with codeKeys := [] }
    keys := { s.keys with zeroStep := 3 } }

def execWrappedAreaErased (s : State) : Res :=
  .next (when (s.sys.state == .zeroised && s.keys.zeroStep == 2) doWrappedAreaErased s)

/-- R267: the die is held in isolation reset, which clears its cache. -/
def execCouplingAckTimeout (die : Nat) (s : State) : Res :=
  .next (when (s.sys.state == .zeroised && s.keys.zeroStep == 1) (fun s => { s with
    sys := { s.sys with isolated := s.sys.isolated ||| dieBit die }
    keys := { s.keys with cache := s.keys.cache.filter fun e => e.1 != die } }) s)

end Sys2Proof.Machine
end

