-- ==== Sys2Proof/Machine/LifeCycle.lean ====
section
/-! DEFINITION. The life cycle, code signing and debug authorisation (R406-R428). -/

namespace Sys2Proof.Machine

/-! ### The area in OTP (R407-R409) -/

/-- The slot code of a state after BLANK: 1 TEST, 2 PRODUCTION, 3 END_OF_LIFE (R408). -/
def slotCode (st : Nat) : BitVec 16 := if st = 1 then 0x0FF0 else if st = 2 then 0xF00F else 0x3C3C

/-- The state that a copy names; none where the copy is not valid (R408). -/
def copyState (c : BitVec 16 × BitVec 16 × BitVec 16) : Option Nat :=
  let ok := fun (v : BitVec 16) (st : Nat) => v == 0 || v == slotCode st
  if !(ok c.1 1 && ok c.2.1 2 && ok c.2.2 3) then none
  else if c.1 = 0 then (if c.2.1 = 0 ∧ c.2.2 = 0 then some 0 else none)
  else if c.2.1 = 0 then (if c.2.2 = 0 then some 1 else none)
  else if c.2.2 = 0 then some 2
  else some 3

/-- COPY_VALID, one bit for each copy. -/
def copyBits (cs : List (BitVec 16 × BitVec 16 × BitVec 16)) : BitVec 3 :=
  BitVec.ofNat 3 (((List.range 3).filter fun i => ((cs[i]?).bind copyState).isSome).foldl (fun n i => n + 2 ^ i) 0)

/-- The vote of R409: a state that at least two valid copies name. -/
def voteOf (cs : List (BitVec 16 × BitVec 16 × BitVec 16)) : Option Nat :=
  [0, 1, 2, 3].find? fun st => decide (2 ≤ (cs.filter fun c => copyState c == some st).length)

/-- The highest state whose transition intent is present (R407, R415). -/
def intentOf (l : Life) : Option Nat :=
  if l.ie ≠ 0 then some 3 else if l.ip ≠ 0 then some 2 else if l.it ≠ 0 then some 1 else none

/-- Program the slot of a state towards its code where its bits allow that (R415). -/
def programSlot (v code : BitVec 16) : BitVec 16 := if v &&& ~~~code = 0 then code else v

/-- The slot of a state in every copy (R413). -/
def programCopies (st : Nat) (cs : List (BitVec 16 × BitVec 16 × BitVec 16)) : List (BitVec 16 × BitVec 16 × BitVec 16) :=
  cs.map fun c =>
    if st = 1 then (programSlot c.1 (slotCode 1), c.2.1, c.2.2)
    else if st = 2 then (c.1, programSlot c.2.1 (slotCode 2), c.2.2)
    else (c.1, c.2.1, programSlot c.2.2 (slotCode 3))

def programIntent (st : Nat) (l : Life) : Life :=
  if st = 1 then { l with it := slotCode 1 } else if st = 2 then { l with ip := slotCode 2 } else { l with ie := slotCode 3 }

/-! ### Firmware images (R406, R417-R419) -/

def fwSvn (b : Bytes) : Nat := rd b 12 1
def fwGen (b : Bytes) : Nat := rd b 13 1

/-- Format, size and reserved fields (R417, R419 order 1). -/
def fwFormOk (b : Bytes) : Bool :=
  rd b 0 4 == 0x53465731 && rd b 4 2 == 1 && decide (rd b 6 2 ≤ 1) && decide (fwSvn b ≤ 64) && decide (fwGen b < 4)
    && rd b 15 1 == 0 && allZero b 24 104 && b.length == 128 + rd b 16 8 + 96 + 4627 && decide (b.length ≤ 2 ^ 23)

/-- The signatures over D under the keys that the state accepts (R406, R419 order 2). -/
def fwSigOk (s : State) (b : Bytes) : Bool :=
  let n := 128 + rd b 16 8
  let d := digestBytes (imageD b)
  let sigE := slice b n 96
  let sigM := slice b (n + 96) 4627
  if s.life.decided = 0 then true
  else if s.life.decided = 1 then
    !revoked s 0 (fwGen b) && Config.verify schemeEcdsa (Config.romKey 2 0 false) d sigE
      && Config.verify schemeMldsa87 (Config.romKey 2 0 true) (inContext (ascii "SOLNY VENDOR") d) sigM
  else vendorOk s 0 (fwGen b) "SOLNY VENDOR" d sigE sigM

/-- The generations that an image's REVOKE byte names, in the layout of the REVOKE word (R407, R417). -/
def fwRevoke (b : Bytes) : BitVec 16 := BitVec.ofNat 16 (rd b 14 1 % 16 + (rd b 14 1 / 16) * 256)

/-- FIRMWARE_INSTALL (R419): the idle slot takes an accepted image. -/
def doFirmwareInstall (s : State) : State :=
  let b := s.bulk.data
  if !fwFormOk b then endBulk .paramInvalid s
  else if !fwSigOk s b then endBulk .authFail s
  else if fwSvn b < s.life.svnFloor || (fwRevoke b).getLsbD (fwGen b) then endBulk .policy s
  else
    let k := 1 - s.life.fwSlot
    let s := { s with life := { s.life with fwSlots := s.life.fwSlots.put k b } }
    bulkDone (event 0x0107 0 [(1, k), (4, rd b 8 4), (1, fwSvn b)] s)

def execFirmwareInstall (s : State) : Res :=
  .next (when (inService s && bulkVerifying s 2) doFirmwareInstall s)

/-! ### The identity certificate (R422, R423) -/

/-- The 2,088 bytes of unsigned content. ISSUED and KEY_GEN are the signer's: what the device puts there is not
stated, so they are free values. (DEDUCED, log 35; DEDUCED, log 38) -/
def certContent (s : State) : Bytes × State :=
  let (issued, s) := freeNat s
  let (gen, s) := freeNat s
  (le 4 0x49444331 ++ le 2 1 ++ le 1 s.otp.variant ++ le 1 0xA1 ++ le 8 s.otp.deviceId.toNat ++ le 8 issued ++ le 1 gen
    ++ zeros 7 ++ le 97 (Config.public algP384 (identityKey s)) ++ le 1952 (Config.public algMldsa65 (identityKey s))
    ++ zeros 7, s)

def certMode (w : Work) : Nat := rd (dParams w.desc) 0 1

/-- The row of a mode runs only on work of that mode (R410). -/
def inCertMode (m : Nat) (body : Work → State → State) (id : WorkId) (s : State) : State :=
  if s.adm.work.any fun w => w.ring == id.ring && w.idx == id.idx && dOp w.desc == 0x79 && certMode w == m then
    withWork id 0x79 body s
  else s

def doDeviceCertRead (w : Work) (s : State) : State :=
  match s.life.cert with
  | some c => finish w .ok 0 c s
  | none => let (b, s) := certContent s
            finish w .ok 0 b s

def execDeviceCertRead (w : WorkId) (s : State) : Res := .next (inCertMode 0 doDeviceCertRead w s)

/-- The certificate verifies and its keys are the device's own (R422). -/
def ownCert (s : State) (b : Bytes) : Bool :=
  certOk s b && rd b 8 8 == s.otp.deviceId.toNat && slice b 32 97 == le 97 (Config.public algP384 (identityKey s))
    && slice b 129 1952 == le 1952 (Config.public algMldsa65 (identityKey s))

def doDeviceCertInstall (w : Work) (s : State) : State :=
  if w.src.length == certLen && ownCert s w.src then
    finish w .ok 0 [] { s with life := { s.life with cert := some w.src } }
  else finish w .authFail 0 [] s

def execDeviceCertInstall (w : WorkId) (s : State) : Res := .next (inCertMode 1 doDeviceCertInstall w s)

/-! ### Challenges and tokens (R411, R412) -/

def challengeBytes (nonce : Bytes) (purpose target : Nat) (s : State) : Bytes :=
  ascii "SOLNY CHALLENGE" ++ [0] ++ le 8 s.otp.deviceId.toNat ++ nonce ++ le 1 purpose ++ le 1 target
    ++ le 1 (stateCode s) ++ [0] ++ le 4 (s.evt.cycles % 2 ^ 24) ++ le 8 s.clk.run ++ zeros 56

/-- (DEDUCED, log 35) -/
def doAuthChallenge (w : Work) (s : State) : State :=
  let b := w.input
  let purpose := rd b 0 1
  let target := if purpose = 2 then rd b 1 1 else 0
  if purpose = 0 || decide (2 < purpose) then finish w .paramInvalid 0 [] s
  else if !canDraw s then finish w .rngUnavailable 0 [] s
  else
    let (n, s) := drawBytes 32 s
    let c := challengeBytes n purpose target s
    finish w .ok 0 c (event 0x010A 0 [(1, purpose)] { s with life := { s.life with challenge := some c } })

def execAuthChallenge (w : WorkId) (s : State) : Res := .next (withWork w 0x7A doAuthChallenge s)

/-- ISSUED of the outstanding challenge. -/
def challengeIssued (s : State) : Option Nat := s.life.challenge.map fun c => rd c 64 8

/-- R411: the challenge ends 600 s after ISSUED. -/
def execChallengeExpiry (s : State) : Res :=
  .next (when (match challengeIssued s with
    | some i => decide (i + 600 * 10 ^ 9 ≤ s.clk.run)
    | none => false) (fun s => { s with life := { s.life with challenge := none } }) s)

/-- Rows 2 and 3 of R414: 0 where the token answers the outstanding challenge and verifies. (DEDUCED, log 35) -/
def tokenErr (s : State) (purpose : Nat) (k : Bytes) : Nat :=
  match s.life.challenge with
  | none => 1
  | some c =>
    if rd c 56 1 ≠ purpose ∨ slice k 0 16 ≠ ascii "SOLNY AUTH TOKEN" ∨ slice k 16 48 ≠ digestBytes (sha c)
        ∨ rd k 64 8 ≠ s.otp.deviceId.toNat ∨ rd k 72 1 ≠ rd c 56 1 ∨ rd k 73 1 ≠ rd c 57 1 then 1
    else if !vendorOk s 1 (rd k 76 1) "SOLNY ZILZIL" (slice k 0 128) (slice k 128 96) (slice k 224 4627) then 2
    else 0

/-- The token check consumes the challenge; a refused token is counted (R411, R427). -/
def spendChallenge (err : Nat) (s : State) : State :=
  { s with life := { s.life with challenge := none
                                 refused := if err = 0 then s.life.refused else min 255 (s.life.refused + 1) } }

/-! ### Debug (R424-R426) -/

/-- The conditions of R425 after the token, 0 where none holds. (DEDUCED, log 35) -/
def debugPolicy (s : State) : Nat :=
  if s.life.invalid || s.life.deny then 1
  else if s.life.decided = 2 && anyLive s then 2
  else if decide (s.life.decided < 2) && s.life.scope != 0 then 3
  else 0

/-- R426: the owner-key lock, the clearing of every cache, then the scope. -/
def openDebug (w : Work) (scope : BitVec 2) (gen : Nat) (s : State) : State :=
  let s := if s.life.decided = 2 then
      emit (.coupling 2 0) (event 0x070E 0 [] { s with
        keys := { s.keys with locked := true, lockFrom := s.adm.nextSeq, cache := [] }
        vm := { s.vm with locked := true } })
    else s
  finish w .ok 0 [] (event 0x010B 0 [(2, scope.toNat), (1, gen)] { s with life := { s.life with scope := s.life.scope ||| scope } })

def doDebugOpen (w : Work) (s : State) : State :=
  let k := w.src
  let e := tokenErr s 1 k
  let s := spendChallenge e s
  if e ≠ 0 then finish w .transitionRefused e [] (event 0x010C 0 [(2, e)] s)
  else
    let p := debugPolicy s
    if p ≠ 0 then finish w .policy p [] (event 0x010C 0 [(2, p)] (spendChallenge p s))
    else openDebug w (BitVec.ofNat 2 (rd k 74 2)) (rd k 76 1) s

def execDebugOpen (w : WorkId) (s : State) : Res := .next (withWork w 0x7B doDebugOpen s)

/-- R424: boundary scan works in every state; a core or an engine answers only in an open scope of its kind, and what
the access then does is not given. (DESIGN CHOICE, log 50) -/
def execJtagAccess (a : JtagOp) (s : State) : Res :=
  match a with
  | .boundaryScan bits => .next (when (s.sys.state != .off) (emit (.jtag bits)) s)
  | .supervisorCore _ => if alive s && s.life.scope.getLsbD 0 then .refused .jtagDebugAccess else .next s
  | .engine _ => if alive s && s.life.scope.getLsbD 1 then .refused .jtagDebugAccess else .next s

/-! ### Transitions (R413-R415, R506) -/

/-- TARGET follows the decided state; from an invalid state only END_OF_LIFE does. -/
def targetOk (s : State) (t : Nat) : Bool :=
  if s.life.invalid then t == 3 else t == s.life.decided + 1 && decide (t ≤ 3)

/-- Row 5 of R414. -/
def transitionBusy (s : State) : Bool :=
  anyLive s || (s.rings.tbl.any fun e => (e.2.cls == 0 || e.2.cls == 1) && e.2.state == .running) || !s.rng.draws.isEmpty

/-- The enrolled owners in ascending order of function. -/
def enrolledOwners (s : State) : List Nat := (s.adm.owners.filter fun e => e.2.enrolled != 0).map (·.1)

/-- The accord of one owner among the ids given, with opcode 0x7C over the token; otherwise the DETAIL of R253, which
is the last one met. -/
def ownerAccord (ids : List Nat) (o : Nat) (d : Digest) (s : State) : (Nat × State) ⊕ Accord :=
  match ids with
  | [] => .inl (1, s)
  | i :: r =>
    match accordCheck i o 0x7C d s with
    | .inr a => .inr a
    | .inl (e, s') => if r.isEmpty then .inl (e, s') else ownerAccord r o d s

/-- The accords of every owner listed, or the first owner's DETAIL. -/
def allAccords (ids : List Nat) (d : Digest) : List Nat → State → (Nat × State) ⊕ List Accord
  | [], _ => .inr []
  | o :: r, s =>
    match ownerAccord ids o d s with
    | .inl e => .inl e
    | .inr a =>
      match allAccords ids d r s with
      | .inl e => .inl e
      | .inr l => .inr (a :: l)

/-- Write the completions of a ring that are due, before the zeroise clears the ring. -/
def writeDue (r : Nat) : Nat → State → State
  | 0, s => s
  | n + 1, s => writeDue r n (doCompletionWrite r s)

/-- R414: the accords are consumed, the intent is programmed and the completion written. END_OF_LIFE then zeroises;
the source code of its event 0x070A is not stated and is a free value. (DEDUCED, log 35) -/
def settleTransition (w : Work) (target : Nat) (accs : List Accord) (s : State) : State :=
  let s := accs.foldl (fun st a =>
    sealNow (ceremonyLeaf a 0 (dTag w.desc) w.ring st) (replayNone st) (dropAccord a st)) s
  let s := { s with life := { programIntent target s.life with pendingTo := target, settling := true } }
  let s := finish w .ok 0 [] s
  let s := writeDue w.ring (ringOf s w.ring).fin.length s
  let s := event 0x0104 0 [(1, target)] s
  if target = 3 then
    let (k, s) := freeNat s
    zeroise (k % 256) s
  else s

def refuseTransition (w : Work) (st : Status) (d : Nat) (s : State) : State :=
  finish w st d [] (event 0x0106 0 [(2, d)] s)

/-- The ACCORD_IDs of an LC_TRANSITION body. -/
def transitionIds (b : Bytes) : List Nat := (List.range (rd b 0 1)).map fun i => rd b (2 + 2 * i) 2

def doLcTransition (w : Work) (s : State) : State :=
  let b := w.src
  let k := b.drop 128
  let target := rd k 73 1
  let e := tokenErr s 2 k
  let s := spendChallenge e s
  if e ≠ 0 then refuseTransition w .transitionRefused e s
  else if !targetOk s target then refuseTransition w .transitionRefused 3 s
  else if transitionBusy s then refuseTransition w .transitionRefused 4 s
  else if target = 3 then
    match allAccords (transitionIds b) (sha k) (enrolledOwners s) s with
    | .inl (d, s') => refuseTransition w .accordRequired d s'
    | .inr accs =>
      if canNumberN accs.length s then settleTransition w 3 accs s
      else putBack w s
  else if target = 2 && !canDraw s then refuseTransition w .rngUnavailable 0 s
  else settleTransition w target [] s

/-- LC_TRANSITION (R414). -/
def execLcTransition (w : WorkId) (s : State) : Res := .next (withSealedWork w 0x7C doLcTransition s)

/-- R506: the erase of the mirror area leaves event 0x0E03 with FLAGS.CARRY in the first sector that does not hold the
newest valid record. Before the mirror search has ended it goes on from that record. (DEDUCED, log 35) -/
def carryMirror (target : Nat) (s : State) : State :=
  let old := newestMirror s
  let place := if old.map (·.place / 64) = some 0 then 64 else 0
  let keep := fun (e : Ev) (s : State) => { s with
    flash := { s.flash with mirror := [{ place := place, ev := e, mac := mirrorMac e }], mirrorNext := place + 1 } }
  let e := { mkEv 0x0E03 0 0 [(1, target)] s with carry := true, frozen := true }
  if s.evt.staging then
    let f := fun (g : Ev → Nat) => (old.map fun r => g r.ev).getD 0
    keep { e with seq := f (·.seq) + 1, power := f (·.power), opNs := f (·.opNs) } s
  else
    let s := bump 0x0F [0] 0 1 { s with evt := pushEv e s.evt }
    match s.evt.evs with
    | n :: _ => keep n { s with evt := { s.evt with mirrored := n.seq, frozen := n.seq } }
    | [] => s

/-- The erase of user flash by a transition (R413, R422, R506). (DEDUCED, log 35) -/
def eraseUserFlash (target : Nat) (s : State) : State :=
  let s := { s with
    flash := { mirror := s.flash.mirror, mirrorNext := s.flash.mirrorNext }
    life := { s.life with fwSlots := [], cert := none, codeKeys := [] } }
  carryMirror target s

/-- The component of the PRODUCTION transition: into bank A, and into bank B where a resumed transition does not find
bank A complete (R413, R415). -/
def drawComponent (resumed : Bool) (s : State) : State :=
  if s.life.doneA || s.life.doneB then s
  else
    let (b, s) := drawBytes 32 s
    if !resumed then { s with life := { s.life with bankA := BitVec.ofNat 256 (leNat b), doneA := true } }
    else { s with life := { s.life with bankB := BitVec.ofNat 256 (leNat b), doneB := true } }

/-- Vault memory is cleared. -/
def clearVault (s : State) : State :=
  { s with vm := { s.vm with tickets := [], limits := [], terminals := [], keyRecs := [], adopted := [], kept := []
                             sweeps := [], claims := [], lateClaims := [], inbound := [], load := none
                             ckptRunning := none, store := {} } }

/-- R413, R414: the steps of a transition that remain after it is settled, down to the last copy written. (DEDUCED, log 35) -/
def finishTransition (resumed : Bool) (target : Nat) (s : State) : State :=
  let s := if target = 2 then drawComponent resumed s else if target = 3 then clearVault s else s
  let s := eraseUserFlash target s
  event 0x0105 0 [] { s with life := { s.life with copies := programCopies target s.life.copies, settling := false } }

def execTransitionComplete (s : State) : Res :=
  .next (when (alive s && s.life.settling) (fun s => finishTransition false s.life.pendingTo s) s)

/-- R415: an intent whose target the vote does not decide is completed at start-up. -/
def resumeIntent (s : State) : State :=
  match intentOf s.life with
  | some k =>
    if voteOf s.life.copies = some k then s
    else finishTransition true k (event 0x0103 0 [(1, k)] { s with life := { s.life with resumed := true } })
  | none => s

/-! ### Code keys (R421) -/

/-- ML-DSA-87 and ECDSA blocks of an owner or a regulator over a digest. -/
def codeBlockOk (key : Bytes) (ctx : String) (d : Digest) (blk : Bytes) : Bool :=
  Config.verify schemeEcdsa (slice key 0 97) (digestBytes d) (slice blk 0 96)
    && Config.verify schemeMldsa87 (slice key 104 2592) (inContext (ascii ctx) (digestBytes d)) (slice blk 96 4627)

/-- The key fields of a body. -/
def codeKeyOf (b : Bytes) : Bytes := slice b 8 2696

/-- Form of the body. -/
def codeKeyFormOk (b : Bytes) : Bool :=
  decide (rd b 0 1 ≤ 2) && allZero b 2 6 && allZero b 105 7 && (rd b 0 1 != 2 || allZero b 8 2696)
    && (b.length == 2704 || b.length == 7427)

/-- A regulator block is needed and does not verify, or was not appended. -/
def regulatorMissing (s : State) (b : Bytes) : Bool :=
  match (s.life.codeKeys.atD (rd b 1 1) (none, none)).2 with
  | none => false
  | some k => rd b 0 1 != 0 && !(b.length == 7427 && codeBlockOk k "SOLNY REGULATOR" (sha (b.take 2704)) (b.drop 2704))

def doCodeKeySet (w : Work) (s : State) : State :=
  let b := w.src
  let f := rd b 1 1
  if !codeKeyFormOk b then finish w .paramInvalid 0 [] s
  else if f = 0 || decide (63 < f) || (ownerOf s f).enrolled == 0 then finish w .policy 0 [] s
  else if regulatorMissing s b then finish w .authFail 0 [] s
  else withAccord w f 0x7D (fun a s =>
    let (w, s) := ceremonyOk w a 0 s
    let (ok, rk) := s.life.codeKeys.atD f (none, none)
    let new := match rd b 0 1 with
      | 0 => (some (codeKeyOf b), rk)
      | 1 => (ok, some (codeKeyOf b))
      | _ => (ok, none)
    finish w .ok 0 [] { s with life := { s.life with codeKeys := s.life.codeKeys.put f new } }) s

def execCodeKeySet (w : WorkId) (s : State) : Res := .next (withSealedWork w 0x7D doCodeKeySet s)

end Sys2Proof.Machine
end

