-- ==== Sys2Proof/Machine/Faults.lean ====
section
/-! DEFINITION. Single faults and overlaps (R27, R29, R34-R36), engine tests and quarantine (R12, R149, R150), thread
overruns (R118), the loss of a die, the anchor fault, and retraining slots (R112). -/

namespace Sys2Proof.Machine

/-! ### READY and DEGRADED (R29) -/

/-- Every die of the variant is in placement, and every cluster has seven engines in service. -/
def fullService (s : State) : Bool :=
  s.sys.inService == presentDies s
    && (diesOf s.sys.inService).all fun k => (List.range 8).all fun c => clusterEngines s k c == 7

/-- Move between READY and DEGRADED as R29 states. -/
def settleService (s : State) : State :=
  if s.sys.state == .ready && !fullService s then enterDev .degraded s
  else if s.sys.state == .degraded && fullService s then enterDev .ready s
  else s

/-- Recompute capacity after a change: lower budgets where it fell (R97), then READY or DEGRADED. -/
def recompute (old : Nat) (s : State) : State := settleService (lowerBudgets old s)

/-! ### Faults in force (R34, R36) -/

/-- A fault strikes a unit. One that holds no work ends at once. Otherwise admission pauses, and a second fault
overlaps the first. -/
def strike (u : FaultUnit) (holdsWork : Bool) (s : State) : State :=
  if !holdsWork then s
  else { s with
    sys := { s.sys with faults := s.sys.faults ++ [u], overlap := s.sys.overlap || !s.sys.faults.isEmpty }
    adm := { s.adm with pausedAt := some (s.adm.pausedAt.getD s.clk.run) } }

/-- Re-placement is complete for the oldest fault; with none left the overlap and the pause end (R34, R36), and a close
tick that fell into the pause is the first entry after it (R155). -/
def doFaultRecovered (s : State) : State :=
  match s.sys.faults with
  | [] => s
  | _ :: rest =>
    let s := { s with sys := { s.sys with faults := rest } }
    if !rest.isEmpty then s
    else
      let s := { s with sys := { s.sys with overlap := false } }
      match s.adm.pausedAt with
      | none => s
      | some t0 =>
        let len := s.clk.run - t0
        let s := if tickLive s && decide (s.dep.target ≤ s.clk.run) then noteCause 1 s else s
        tryTick (bump 0x08 [0] 0 len (event 0x0306 0 [(8, len)]
          { s with adm := { s.adm with pausedAt := none, pauseLast := sat32 len } }))

def execFaultRecovered (t : Nat) (s : State) : Res :=
  .next (when (alive s) (fun s => doFaultRecovered (advance t s)) s)

/-! ### Work that lost its unit (R20, R35, R36, R88) -/

/-- A work item that no unit can run ends with FAULT and commits nothing (R36). -/
def faultItem (i : Item) : Item :=
  { i with ended := some { status := .fault, reason := 0, staged := none, ruleField := 0, marks := 0 } }

/-- Place the unended items that are without a die in placement again, from their anchor copies; with no die left
they are sealed with FAULT. (DESIGN CHOICE, log 19) -/
def rePlace (s : State) : State :=
  let orphan := fun (i : Item) => i.ended.isNone && !dieIn s.sys.inService i.die
    && !(s.eng.threads.any fun t => t.seq == i.seq)
  (s.adm.items.filter orphan).foldl (fun st i =>
    let k := shortestQueue st
    mapItem i.seq (fun x => if k = 0 then faultItem x else { x with die := k, receiptKey := none }) st) s

/-- The threads of an engine stop, and their items wait to be dispatched again. -/
def stopThreads (p : ThreadId → Bool) (s : State) : State :=
  { s with eng := { s.eng with threads := s.eng.threads.filter fun t => !p t.id } }

/-! ### Engines (R12, R35, R118) -/

/-- An engine as an event argument: die, cluster and engine, one byte each. (DESIGN CHOICE, log 57) -/
def engineName (e : EngineId) : List (Nat × Nat) := [(1, e.die), (1, e.cluster), (1, e.engine)]

/-- Quarantine an engine, with the cause of event 0x0404 (R566). -/
def quarantineEngine (e : EngineId) (cause : Nat) (s : State) : State :=
  let old := issueCap s
  let s := { s with eng := { s.eng with
    quarantined := if s.eng.quarantined.contains e then s.eng.quarantined else e :: s.eng.quarantined
    underTest := s.eng.underTest.filter fun p => p.2 != e } }
  recompute old (event 0x0404 0 (engineName e ++ [(1, cause)]) s)

/-- The cluster's reserve where it can take the work of a failed engine. -/
def reserveFor (s : State) (e : EngineId) : Option EngineId :=
  let r : EngineId := { die := e.die, cluster := e.cluster, engine := reserveOf s e.die e.cluster }
  if r != e && engineServes s r then some r else none

/-- The items that an engine ran are placed again on its cluster's reserve (R35). Without one they keep their die. -/
def toReserve (e : EngineId) (seqs : List Nat) (s : State) : State :=
  seqs.foldl (fun st q => mapItem q (fun i => { i with reserve := reserveFor st e }) st) s

/-- The engine exists on a die in placement. -/
def engineThere (s : State) (e : EngineId) : Bool :=
  dieIn s.sys.inService e.die && decide (e.cluster < 8) && decide (e.engine < 8)

/-- An engine fails during work: its items go back to be placed, on the reserve of the cluster (R35). -/
def failEngine (e : EngineId) (cause : Nat) (s : State) : State :=
  let ran := (s.eng.threads.filter fun t => engineOf t.id == e).map (·.seq)
  toReserve e ran (quarantineEngine e cause (stopThreads (fun t => engineOf t == e) (strike (.engine e) (!ran.isEmpty) s)))

def doEngineFault (e : EngineId) (s : State) : State :=
  if engineThere s e && !s.eng.quarantined.contains e then failEngine e 2 s else s

/-- (DEDUCED, log 47) -/
def execEngineFault (e : EngineId) (s : State) : Res := .next (when (alive s) (doEngineFault e) s)

/-- R118: the engine of a thread that overran is treated as failed. -/
def doThreadOverrun (id : ThreadId) (s : State) : State :=
  match threadOf s id with
  | none => s
  | some _ => event 0x0408 0 [] (failEngine (engineOf id) 3 s)

def execThreadOverrun (th : ThreadId) (s : State) : Res := .next (when (alive s) (doThreadOverrun th) s)

/-! ### Engine tests (R149, R150) -/

/-- The engine of the rotation's next slot. -/
def slotEngine (s : State) (die : Nat) : EngineId :=
  let k := s.eng.rotation.atD die 0
  { die := die, cluster := k / 8, engine := k % 8 }

def clusterBad (s : State) (die c : Nat) : Bool := s.eng.quarantined.any fun e => e.die == die && e.cluster == c

/-- A pass through a cluster begins: its skip of the pass has not been recorded. -/
def startPass (die : Nat) (e : EngineId) (s : State) : State :=
  if e.engine = 0 then { s with eng := { s.eng with
    skipped := s.eng.skipped.filter fun x => x != 8 * die + e.cluster
    resting := s.eng.resting.filter fun x => x != 8 * die + e.cluster } } else s

/-- Every 250 ms: the next engine is drained for test, or its slot is skipped (R149, R150). -/
def doEngineTestSlot (die : Nat) (s : State) : State :=
  let e := slotEngine s die
  let key := 8 * die + e.cluster
  let s := startPass die e s
  let s := { s with eng := { s.eng with rotation := s.eng.rotation.put die ((s.eng.rotation.atD die 0 + 1) % 64) } }
  if s.eng.resting.contains key && !s.eng.quarantined.contains e then s
  else if clusterBad s die e.cluster && !s.eng.quarantined.contains e then
    if s.eng.skipped.contains key then s
    else event 0x0407 0 [] { s with eng := { s.eng with skipped := key :: s.eng.skipped } }
  else { s with eng := { s.eng with underTest := s.eng.underTest.put die e } }

def execEngineTestSlot (die : Nat) (s : State) : Res :=
  .next (when (inService s && dieIn s.sys.inService die && (s.eng.underTest.at? die).isNone) (doEngineTestSlot die) s)

/-- The tested engine becomes its cluster's reserve, or is quarantined (R149, R150). -/
def endEngineTest (e : EngineId) (pass : Bool) (s : State) : State :=
  let s := { s with eng := { s.eng with underTest := s.eng.underTest.filter fun p => p.2 != e } }
  if !pass then quarantineEngine e 1 s
  else
    let back := s.eng.quarantined.contains e
    let s := { s with eng := { s.eng with
      resting := if back then (8 * e.die + e.cluster) :: s.eng.resting else s.eng.resting
      quarantined := s.eng.quarantined.filter fun x => x != e
      reserve := s.eng.reserve.put (8 * e.die + e.cluster) e.engine } }
    if back then settleService (event 0x0405 0 [] s) else s

/-- A drained engine's test ends; its threads have run to their end ops. -/
def doEngineTestDone (die : Nat) (pass : Bool) (s : State) : State :=
  match s.eng.underTest.at? die with
  | none => s
  | some e => if s.eng.threads.any fun t => engineOf t.id == e then s else endEngineTest e pass s

def execEngineTestDone (die : Nat) (pass : Bool) (s : State) : Res := .next (when (alive s) (doEngineTestDone die pass) s)

/-! ### Dies (R25, R27, R275) -/

/-- Buckets that name a die no longer in placement go evenly to the dies that are. -/
def spreadBuckets (s : State) : State :=
  let ds := diesOf s.sys.inService
  let step := fun (acc : List Nat × Nat) (k : Nat) =>
    if dieIn s.sys.inService k then (acc.1 ++ [k], acc.2) else (acc.1 ++ [ds.getD (acc.2 % ds.length) 0], acc.2 + 1)
  { s with eng := { s.eng with buckets := (s.eng.buckets.foldl step ([], 0)).1 } }

/-- All 256 buckets evenly over the dies in placement. -/
def dealBuckets (s : State) : State :=
  let ds := diesOf s.sys.inService
  { s with eng := { s.eng with buckets := (List.range 256).map fun i => ds.getD (i % ds.length) 0 } }

/-- Take a die out of placement: buckets, queued items, capacity, budgets and state (R27, R275). -/
def removeDie (k : Nat) (s : State) : State :=
  let old := issueCap s
  let s := { s with
    sys := { s.sys with inService := s.sys.inService &&& ~~~(dieBit k) }
    eng := { s.eng with underTest := s.eng.underTest.del k } }
  recompute old (rePlace (spreadBuckets s))

/-- A die held out of placement returns: every bucket is dealt again and capacity recomputed, with no budget raised
(R27, R97). -/
def returnDie (k : Nat) (s : State) : State :=
  let s := { s with sys := { s.sys with inService := s.sys.inService ||| dieBit k, heldOut := s.sys.heldOut &&& ~~~(dieBit k) } }
  settleService (dealBuckets s)

/-- R27: a die or its coupling is lost with everything on it. -/
def doDieLost (k : Nat) (s : State) : State :=
  if !dieIn (presentDies s) k || dieIn s.sys.lost k then s
  else
    let busy := s.adm.items.any fun i => i.die == k && i.ended.isNone
    let s := strike (.die k) busy s
    let s := stopThreads (fun t => t.die == k) s
    let s := { s with
      sys := { s.sys with lost := s.sys.lost ||| dieBit k, heldOut := s.sys.heldOut &&& ~~~(dieBit k) }
      keys := { s.keys with cache := s.keys.cache.filter fun e => e.1 != k } }
    event 0x0406 0 [] (removeDie k s)


/-! ### The anchor (R36) -/

/-- An uncorrectable fault in the anchor: sales stop until reset, and the open departure is closed where the
departure unit and a public-key engine still work. The unit then stops. (DEDUCED, log 20; DEDUCED, log 47) -/
def anchorFail (canPublish : Bool) (s : State) : State :=
  if s.sys.anchorFault then s
  else
    let s := { s with sys := { s.sys with anchorFault := true } }
    let s := if canPublish && tickLive s && (tickBlocked s).isNone then insertTick false false s else s
    { s with sys := { s.sys with anchorStopped := true } }

/-- The code of the event that R36 records is not stated: it is a free value. (DEDUCED, log 20) -/
def doAnchorFault (canPublish : Bool) (s : State) : State :=
  if s.sys.anchorFault then s
  else
    let (c, s) := freeNat s
    event (c % 65536) 0 [] (anchorFail canPublish s)

/-- (DEDUCED, log 47) -/
def execAnchorFault (canPublish : Bool) (s : State) : Res := .next (when (inService s) (doAnchorFault canPublish) s)

/-- R112: a retraining slot never pauses admission and changes nothing that the manual names. -/
def execRetrainSlot (_u : RetrainUnit) (s : State) : Res := .next s

end Sys2Proof.Machine
end

