-- ==== Sys2Proof/Machine/Cipher.lean ====
section
/-! DEFINITION. The cipher lanes: the SERVICE cipher commands (R281-R286), parity faults (R275, R287) and lane tests
(R288, R289). -/

namespace Sys2Proof.Machine

/-! ### The fields of a cipher command (R282) -/

def cKey (w : Work) : Nat := rd (dParams w.desc) 0 4
def cAad (w : Work) : Nat := rd (dParams w.desc) 4 2
def cSLen (w : Work) : Nat := rd (dParams w.desc) 6 1
def cMacLen (w : Work) : Nat := rd (dParams w.desc) 7 1
def cIv (w : Work) : Bytes := slice (dParams w.desc) 8 16
def cAlg (w : Work) : Nat := ((dArg w.desc).extractLsb' 0 8).toNat

/-- Two unequal halves of an XTS key (R273). -/
def xtsKeyOk (k : Bytes) : Bool :=
  (k.length == 32 || k.length == 64) && k.take (k.length / 2) != k.drop (k.length / 2)

def aesKeyOk (k : Bytes) : Bool := k.length == 16 || k.length == 24 || k.length == 32

/-- R283 order 5. -/
def cipherParamsOk (w : Work) (key : Bytes) : Bool :=
  let n := w.input.length
  let op := dOp w.desc
  if op = 0x38 then decide (1 ≤ cAlg w) && decide (cAlg w ≤ 6)
  else if op = 0x36 || op = 0x37 then
    (cAlg w == 1 || cAlg w == 2) && decide (16 ≤ key.length) && decide (key.length ≤ 4032)
      && decide (1 ≤ cMacLen w) && decide (cMacLen w ≤ 64) && decide (cSLen w ≤ 16) && (op != 0x37 || decide (cMacLen w ≤ n))
  else if cAlg w ≠ 0 then false
  else if op = 0x34 || op = 0x35 then xtsKeyOk key && decide (16 ≤ n)
  else if op = 0x30 then aesKeyOk key && decide (cAad w ≤ n)
  else if op = 0x31 then aesKeyOk key && decide (cAad w + 16 ≤ n)
  else aesKeyOk key

/-- The verb of a cipher opcode (R281). -/
def cipherVerb (op : Nat) : Nat := if op = 0x36 || op = 0x37 then verbMac else verbCipher

/-- Orders 2 and 3 of R283: the key, none for HASH. -/
def cipherKey (s : State) (o : Nat) (w : Work) : Status ⊕ Option KeyView :=
  if dOp w.desc = 0x38 then .inr none
  else
    match usableKey s o (cKey w) with
    | none => .inl .noKey
    | some k => if aVerb k.attr ≠ cipherVerb (dOp w.desc) || o == 0 then .inl .policy else .inr (some k)

/-! ### Running a command on a lane -/

/-- Vault lanes in service that run no SERVICE command. -/
def freeLanes (s : State) : List LaneId := (vaultLanes s).filter fun l => !(s.lanes.ops.any fun c => c.lane == l)

/-- The lane that placement chose where it is free, otherwise another of the group (R271). (DESIGN CHOICE, log 19) -/
def vaultLane (lane : Nat) (s : State) : Option LaneId × State :=
  let l : LaneId := { group := .vault, lane := lane }
  if (freeLanes s).contains l then (some l, s) else pick (freeLanes s) s

/-- Whether the command takes a class D nonce. -/
def takesNonce (op : Nat) : Bool := op == 0x30 || op == 0x32

/-- Start an operation on a free lane, or leave it in the queue; with no lane in service it ends with FAULT (R36). -/
def laneCipher (c : CipherOp) (s : State) : State :=
  if (vaultLanes s).isEmpty then finish c.work .fault 0 [] s
  else
    match vaultLane c.lane.lane s with
    | (none, s) => { s with lanes := { s.lanes with queue := s.lanes.queue ++ [c] } }
    | (some l, s) =>
      let (n, s) := if takesNonce (dOp c.work.desc) then classD l s else ([], s)
      { s with lanes := { s.lanes with ops := s.lanes.ops ++ [{ c with lane := l, nonce := n }] } }

/-- The queued commands go to the lanes that are free, in admission order (R285). -/
def settleLanes (s : State) : State :=
  s.lanes.queue.foldl (fun st c => laneCipher c st) { s with lanes := { s.lanes with queue := [] } }

/-- Queue an operation for a lane, with the one that placement prefers for it. -/
def startCipher (lane : Nat) (c : CipherOp) (s : State) : State :=
  settleLanes { s with lanes := { s.lanes with
    queue := s.lanes.queue ++ [{ c with lane := { group := .vault, lane := lane } }] } }

/-- R283, R284: the checks, the accord of a DUAL key, one use of the key, and the start on a lane. -/
def doCipher (lane : Nat) (w : Work) (s : State) : State :=
  let o := w.func s
  let s := if dOp w.desc = 0x38 then s else checkKey o (cKey w) s
  if dOp w.desc ≠ 0x38 && keyLineBad s o (cKey w) then finish w .fault 0 [] s
  else match cipherKey s o w with
  | .inl st => finish w st 0 [] s
  | .inr k =>
    let key := (k.map (·.key)).getD []
    let go := fun (w : Work) (s : State) =>
      let s := match k with
        | some v => useKey v s
        | none => s
      startCipher lane { work := w, lane := { group := .vault, lane := 0 }, owner := o, key := key, nonce := [], faulted := false } s
    if (k.map fun v => aDual v.attr) = some true then
      if !canNumber s then putBack w s
      else withCeremony w o (dOp w.desc) (cKey w) (fun w s =>
        if !cipherParamsOk w key then finish w .paramInvalid 0 [] s else go w s) s
    else if !cipherParamsOk w key then finish w .paramInvalid 0 [] s
    else go w s

def execAeadEncrypt (w : WorkId) (lane : Nat) (s : State) : Res := .next (withWork w 0x30 (doCipher lane) s)
def execAeadDecrypt (w : WorkId) (lane : Nat) (s : State) : Res := .next (withWork w 0x31 (doCipher lane) s)
def execCtrEncrypt (w : WorkId) (lane : Nat) (s : State) : Res := .next (withWork w 0x32 (doCipher lane) s)
def execCtrDecrypt (w : WorkId) (lane : Nat) (s : State) : Res := .next (withWork w 0x33 (doCipher lane) s)
def execXtsEncrypt (w : WorkId) (lane : Nat) (s : State) : Res := .next (withWork w 0x34 (doCipher lane) s)
def execXtsDecrypt (w : WorkId) (lane : Nat) (s : State) : Res := .next (withWork w 0x35 (doCipher lane) s)
def execMacGenerate (w : WorkId) (lane : Nat) (s : State) : Res := .next (withWork w 0x36 (doCipher lane) s)
def execMacVerify (w : WorkId) (lane : Nat) (s : State) : Res := .next (withWork w 0x37 (doCipher lane) s)
def execHash (w : WorkId) (lane : Nat) (s : State) : Res := .next (withWork w 0x38 (doCipher lane) s)

/-! ### Results (R281, R285, R286) -/

/-- How a command ends: status, DETAIL, output, UNTRUSTED_OUTPUT. -/
structure CipherEnd where
  status : Status := .ok
  detail : Nat := 0
  out : Bytes := []
  untrusted : Bool := false
  deriving DecidableEq, Repr

/-- The MAC of a message under the command's algorithm and customisation string. -/
def macOf (w : Work) (key msg : Bytes) : Bytes :=
  let f := if cAlg w = 1 then Config.kmac128 else Config.kmac256
  le (cMacLen w) (f key msg (8 * cMacLen w) ((cIv w).take (cSLen w)))

/-- Bytes of a digest by algorithm code. -/
def digestLen (alg : Nat) : Nat := if alg = 1 ∨ alg = 4 then 32 else if alg = 2 ∨ alg = 5 then 48 else 64

def hashOf (alg : Nat) (m : Bytes) : Bytes := if alg = 2 then digestBytes (sha m) else le (digestLen alg) (Config.digest alg m)

/-- A keystream laid over data. -/
def ctrOver (key block data : Bytes) : Bytes := xorBytes data (le data.length (Config.ctrStream key block data.length))

/-- (DEDUCED, log 43) -/
def cipherEnd (c : CipherOp) : CipherEnd :=
  let w := c.work
  let b := w.input
  let head := c.nonce ++ zeros 4
  match dOp w.desc with
  | 0x30 =>
    let (ct, tag) := gcmSeal c.key c.nonce (b.take (cAad w)) (b.drop (cAad w))
    { out := head ++ ct ++ tag }
  | 0x31 =>
    let m := b.drop (cAad w)
    let n := m.length - 16
    let (pt, ok) := gcmOpen c.key ((cIv w).take 12) (b.take (cAad w)) (m.take n) (m.drop n)
    if ok then { out := pt } else { status := .authFail, detail := 1, out := pt, untrusted := true }
  | 0x32 => { out := head ++ ctrOver c.key head b }
  | 0x33 => { out := ctrOver c.key (cIv w) b }
  | 0x34 => { out := le b.length (Config.xts true c.key (cIv w) b) }
  | 0x35 => { out := le b.length (Config.xts false c.key (cIv w) b) }
  | 0x36 => { out := macOf w c.key b }
  | 0x37 =>
    let n := b.length - cMacLen w
    if macOf w c.key (b.take n) = b.drop n then {} else { status := .authFail, detail := 1 }
  | _ => { out := hashOf (cAlg w) b }

def dropCipher (c : CipherOp) (s : State) : State :=
  { s with lanes := { s.lanes with ops := s.lanes.ops.filter fun x => x != c } }

/-- The lane ends: output, then completion. -/
def doCipherOperationDone (id : WorkId) (s : State) : State :=
  match s.lanes.ops.find? fun c => c.work.ring == id.ring && c.work.idx == id.idx with
  | none => s
  | some c =>
    let e := cipherEnd c
    settleLanes (finishWith e.untrusted c.work e.status e.detail e.out (dropCipher c s))

def execCipherOperationDone (w : WorkId) (s : State) : Res := .next (when (alive s) (doCipherOperationDone w) s)

/-! ### Lane faults (R275, R280, R287) -/

/-- Group number: 0 vault, 1-7 engine dies, 8 junction. -/
def groupIdx : LaneGroup → Nat
  | .vault => 0
  | .die k => k
  | .junction => 8

def groupSize : LaneGroup → Nat
  | .junction => 2
  | _ => 4

/-- The group is on this variant. -/
def groupThere (s : State) : LaneGroup → Bool
  | .die k => dieIn (presentDies s) k && !dieIn s.sys.lost k
  | _ => true

def laneThere (s : State) (l : LaneId) : Bool := groupThere s l.group && decide (l.lane < groupSize l.group)

/-- Lanes of a group that are not quarantined. -/
def lanesGood (s : State) (g : LaneGroup) : Nat :=
  groupSize g - (s.lanes.quarantined.filter fun l => l.group == g).length

/-- What follows when a group has too few lanes (R275, R287). -/
def checkGroup (g : LaneGroup) (s : State) : State :=
  match g with
  | .die k =>
    if lanesGood s g < 3 && dieIn s.sys.inService k then
      removeDie k (event 0x0805 0 [] { s with sys := { s.sys with heldOut := s.sys.heldOut ||| dieBit k } })
    else s
  | .vault => if lanesGood s g < 2 && !s.sys.anchorFault then anchorFail true (event 0x0805 0 [] s) else s
  | .junction => s

def quarantineLane (l : LaneId) (s : State) : State :=
  { s with lanes := { s.lanes with
    quarantined := if s.lanes.quarantined.contains l then s.lanes.quarantined else l :: s.lanes.quarantined
    underTest := s.lanes.underTest.filter fun p => p.2 != l } }

/-- Bytes of plaintext that a decrypt writes. -/
def plainLen (w : Work) : Nat :=
  match dOp w.desc with
  | 0x31 => w.input.length - 16 - cAad w
  | 0x33 => w.input.length
  | 0x35 => w.input.length
  | _ => 0

/-- The second fault of one operation: FAULT. After a decrypt whose plaintext was being written the destination is
undefined, a free value (R287). -/
def faultCipher (c : CipherOp) (s : State) : State :=
  let (k, s) := freeNat (event 0x0802 0 [(1, dOp c.work.desc)] s)
  finish c.work .fault 0 (le (plainLen c.work) k) s

/-- The operation that a lane ran is placed again ahead of the queued ones, or ends with FAULT the second time.
 (DESIGN CHOICE, log 19; DEDUCED, log 43) -/
def moveCipher (relane : Nat) (c : CipherOp) (s : State) : State :=
  let s := dropCipher c s
  if c.faulted then settleLanes (faultCipher c s)
  else
    let c := { c with faulted := true, lane := { group := .vault, lane := relane } }
    settleLanes { s with lanes := { s.lanes with queue := c :: s.lanes.queue } }

/-! ### Faults of an engine-die lane (R35, R287) -/

/-- AUTH, DIGEST and RFDIG, the op codes that use a lane (R271). -/
def laneOps : List Nat := [0x1F, 0x20, 0x27]

/-- The op at a thread's pc uses a lane of its die (R271). -/
def onLane (s : State) (th : Thread) : Bool :=
  match (itemOf s th.seq).bind (bookFor s) with
  | some b => (b.ops[th.pc.toNat]?).any fun o => laneOps.contains o.op
  | none => false

/-- What a lane of a die may be running: nothing, a thread's op, or the receipt MAC of an ended item. -/
def laneWork (s : State) (k : Nat) : List (Option (Thread ⊕ Item)) :=
  none :: ((s.eng.threads.filter fun t => t.id.die == k && onLane s t).map fun t => some (.inl t))
    ++ ((s.adm.items.filter fun i => i.die == k && i.ended.isSome).map fun i => some (.inr i))

/-- A wager whose operation faulted twice: its thread ends, and it is sealed with FAULT and commits nothing. -/
def faultThread (th : Thread) (s : State) : State :=
  let s := { s with eng := { s.eng with threads := s.eng.threads.filter fun t => t.id != th.id } }
  let e : EndOp := { status := .fault, reason := 0, staged := none, ruleField := 0, marks := 0 }
  event 0x0802 0 [(8, th.seq)] (mapItem th.seq (fun i => { i with ended := some e }) s)

/-- The first fault of an operation runs it again on another lane of the die; the second ends a thread's item with
FAULT, and moves a receipt MAC to a lane of another die. -/
def doDieLaneFault (k : Nat) (s : State) : State :=
  let (w, s) := pick (laneWork s k) s
  match w with
  | some (some (.inl th)) =>
    if th.laneFault = some th.pc then faultThread th s
    else { s with eng := { s.eng with threads := s.eng.threads.map fun t =>
      if t.id == th.id then { t with laneFault := some t.pc } else t } }
  | some (some (.inr i)) =>
    if i.macFault then event 0x0802 0 [(8, i.seq)] s else mapItem i.seq (fun x => { x with macFault := true }) s
  | _ => s

/-- Another fault is in force while this one strikes (R36). -/
def overlapNow (busy : Bool) (s : State) : State :=
  if busy && !s.sys.faults.isEmpty then { s with sys := { s.sys with overlap := true } } else s

/-- A parity fault: quarantine, then the lane's operation runs again elsewhere within the same step. Which operation a
lane of an engine die ran is not told. (DESIGN CHOICE, log 19) -/
def doLaneParityFault (l : LaneId) (relane : Nat) (s : State) : State :=
  if !laneThere s l || s.lanes.quarantined.contains l then s
  else
    let (d, k) := laneCode l
    let mine := s.lanes.ops.find? fun c => c.lane == l
    let s := overlapNow mine.isSome (event 0x0801 0 [(1, d), (1, k)] (quarantineLane l s))
    let s := match l.group, mine with
      | .die n, _ => doDieLaneFault n s
      | _, some c => moveCipher relane c s
      | _, none => s
    checkGroup l.group s

def execLaneParityFault (l : LaneId) (relane : Nat) (s : State) : Res :=
  .next (when (alive s) (doLaneParityFault l relane) s)

/-! ### Lane tests (R288, R289) -/

def groupBad (s : State) (g : LaneGroup) : Bool := s.lanes.quarantined.any fun l => l.group == g

def doLaneTestSlot (g : LaneGroup) (s : State) : State :=
  let i := groupIdx g
  let k := s.lanes.rotation.atD i 0
  let l : LaneId := { group := g, lane := k }
  let s := { s with lanes := { s.lanes with
    rotation := s.lanes.rotation.put i ((k + 1) % groupSize g)
    skipped := if k = 0 then s.lanes.skipped.filter fun x => x != i else s.lanes.skipped
    resting := if k = 0 then s.lanes.resting.filter fun x => x != i else s.lanes.resting } }
  if s.lanes.resting.contains i && !s.lanes.quarantined.contains l then s
  else if groupBad s g && !s.lanes.quarantined.contains l then
    if s.lanes.skipped.contains i then s
    else event 0x0806 0 [] { s with lanes := { s.lanes with skipped := i :: s.lanes.skipped } }
  else { s with lanes := { s.lanes with underTest := s.lanes.underTest.put i l } }

def execLaneTestSlot (group : LaneGroup) (s : State) : Res :=
  .next (when (alive s && s.sys.firmwareUp && groupThere s group && (s.lanes.underTest.at? (groupIdx group)).isNone)
    (doLaneTestSlot group) s)

/-- The tested lane returns to service or is quarantined; a die held out comes back with three lanes. -/
def endLaneTest (l : LaneId) (pass : Bool) (s : State) : State :=
  let s := { s with lanes := { s.lanes with underTest := s.lanes.underTest.del (groupIdx l.group) } }
  if !pass then checkGroup l.group (event 0x0804 0 [] (quarantineLane l s))
  else if !s.lanes.quarantined.contains l then settleLanes s
  else
    let s := settleLanes (event 0x0803 0 [] { s with lanes := { s.lanes with
      quarantined := s.lanes.quarantined.filter fun x => x != l, resting := groupIdx l.group :: s.lanes.resting } })
    match l.group with
    | .die k => if dieIn s.sys.heldOut k && decide (3 ≤ lanesGood s l.group) then returnDie k s else s
    | _ => s

/-- The test ends once the lane is drained. -/
def doLaneTestDone (g : LaneGroup) (pass : Bool) (s : State) : State :=
  match s.lanes.underTest.at? (groupIdx g) with
  | none => s
  | some l => if s.lanes.ops.any fun c => c.lane == l then s else endLaneTest l pass s

def execLaneTestDone (group : LaneGroup) (pass : Bool) (s : State) : Res :=
  .next (when (alive s) (doLaneTestDone group pass) s)

end Sys2Proof.Machine
end

