-- ==== Sys2Proof/Machine/PublicKey.lean ====
section
/-! DEFINITION. The public-key engines (R291-R312): parameter sets, commands, results, loaded curves, abort, faults and
tests. -/

namespace Sys2Proof.Machine

/-! ### Parameter sets (R292, R294, R295) -/

def beNat (b : Bytes) : Nat := leNat b.reverse

/-- PSET and VAR of OP_ARG (R297). -/
def kPset (w : Work) : Nat := ((dArg w.desc).extractLsb' 0 8).toNat
def kVar (w : Work) : Nat := ((dArg w.desc).extractLsb' 8 8).toNat

/-- The algorithm code of a set: PSET with VAR above it. -/
def kAlg (w : Work) : Nat := kPset w + 256 * kVar w

def isEc (p : Nat) : Bool := decide (1 ≤ p) && decide (p ≤ 4)
def isEd (p : Nat) : Bool := p == 8 || p == 9
def isRsa (p : Nat) : Bool := p == 0x10 || p == 0x11
def isMldsa (p : Nat) : Bool := decide (0x20 ≤ p) && decide (p ≤ 0x22)
def isMlkem (p : Nat) : Bool := p == 0x28 || p == 0x29

/-- M of an RSA set, by VAR. -/
def rsaM (v : Nat) : Nat := if v = 1 then 256 else if v = 2 then 384 else if v = 3 then 512 else if v = 4 then 768 else 1024

/-- The curve an owner loaded at an index (R306). -/
def curveOf (s : State) (o i : Nat) : Option Curve := s.pk.curves.find? fun c => c.owner == o && c.index == i

def Curve.pLen (c : Curve) : Nat := ceilDiv (rd c.params 0 2) 8
def Curve.nLen (c : Curve) : Nat := ceilDiv (rd c.params 2 2) 8
def Curve.tag (c : Curve) : Bytes := (digestBytes (sha c.params)).take 8

/-- Bytes of a coordinate and of a scalar of an EC set. -/
def ecLens (s : State) (o p v : Nat) : Nat × Nat :=
  if p = 1 then (32, 32) else if p = 2 then (48, 48) else if p = 3 then (66, 66)
  else match curveOf s o v with
    | some c => (c.pLen, c.nLen)
    | none => (0, 0)

/-- The set is known, and a curve is loaded (R298 order 5). -/
def setKnown (s : State) (o p v : Nat) : Bool :=
  if p = 4 then (curveOf s o v).isSome
  else if isRsa p then decide (1 ≤ v) && decide (v ≤ 5)
  else (isEc p || isEd p || isMldsa p || isMlkem p) && v == 0

def pubLen (s : State) (o p v : Nat) : Nat :=
  if isEc p then 1 + 2 * (ecLens s o p v).1
  else if p = 8 then 32 else if p = 9 then 57
  else if isRsa p then 8 + rsaM v
  else if p = 0x20 then 1312 else if p = 0x21 then 1952 else if p = 0x22 then 2592
  else if p = 0x28 then 1184 else 1568

def sigLen (s : State) (o p v : Nat) : Nat :=
  if isEc p then 2 * (ecLens s o p v).2
  else if p = 8 then 64 else if p = 9 then 114
  else if isRsa p then rsaM v
  else if p = 0x20 then 2420 else if p = 0x21 then 3309 else 4627

/-- Bytes of key material after the header, the curve digest prefix apart. -/
def matLen (s : State) (o p v : Nat) : Nat :=
  if isEc p then (ecLens s o p v).2
  else if p = 8 then 32 else if p = 9 then 57
  else if isRsa p then 8 + rsaM v + 5 * (rsaM v / 2)
  else if isMldsa p then 32 else 64

/-- Bytes of a payload (R294). -/
def payloadLen (s : State) (o p v : Nat) : Nat := 2 + (if p = 4 then 8 else 0) + matLen s o p v

def cipherTextLen (p : Nat) : Nat := if p = 0x28 then 1088 else 1568

/-- Bytes of a shared secret (R296). -/
def secretLen (s : State) (o p v : Nat) : Nat := if isEc p then (ecLens s o p v).1 else 32

/-! ### The fields of a command (R297) -/

def kKey (w : Work) : Nat := rd (dParams w.desc) 0 4
def kDet (w : Work) : Bool := rd (dParams w.desc) 4 1 % 2 == 1
def kHash (w : Work) : Nat := rd (dParams w.desc) 5 1
def kRecord (w : Work) : Bool := rd (dParams w.desc) 6 1 == 1
def kCtx (w : Work) : Nat := rd (dParams w.desc) 7 1
def kAttr (w : Work) : W64 := BitVec.ofNat 64 (rd (dParams w.desc) 8 8)

/-- The commands that read a private key. -/
def readsKey (op : Nat) : Bool := op == 0x40 || op == 0x43 || op == 0x47
/-- The commands that make a key. -/
def makesKey (op : Nat) : Bool := op == 0x42 || op == 0x43 || op == 0x44

/-- The operation draws from the generator (R304). -/
def needsRandom (w : Work) : Bool :=
  let p := kPset w
  match dOp w.desc with
  | 0x40 => !kDet w && (isEc p || p == 0x10 || isMldsa p)
  | 0x42 => true
  | 0x44 => true
  | _ => false

/-! ### Checks (R298) -/

/-- The verb suits the opcode (R296). -/
def pkVerbOk (op verb : Nat) : Bool :=
  if op = 0x40 then verb == verbSign else if op = 0x43 then verb == verbKem else verb == verbSign || verb == verbKem

/-- Order 3 for a command that reads a key: verb, header, and the curve's digest. -/
def pkKeyFits (s : State) (o : Nat) (w : Work) (k : KeyView) : Bool :=
  pkVerbOk (dOp w.desc) (aVerb k.attr) && rd k.key 0 1 == kPset w && rd k.key 1 1 == kVar w
    && (kPset w != 4 || match curveOf s o (kVar w) with
        | some c => slice k.key 2 8 == c.tag
        | none => true)

/-- An index for a curve: the one already held, otherwise the first that is free (R306). (DEDUCED, log 43) -/
def curveIndex (s : State) (o : Nat) (params : Bytes) : Option Nat :=
  match s.pk.curves.find? fun c => c.owner == o && c.params == params with
  | some c => some c.index
  | none => ((List.range 16).map (· + 1)).find? fun i => !(s.pk.curves.any fun c => c.index == i)

/-- Orders 2 and 3 of R298: the key that is read, if any. -/
def pkKey (s : State) (o : Nat) (w : Work) : Status ⊕ Option KeyView :=
  let op := dOp w.desc
  let key := if readsKey op then (usableKey s o (kKey w)).map some else some none
  match key with
  | none => .inl .noKey
  | some k =>
    if o == 0 && op != 0x41 then .inl .policy
    else if (match k with
      | some v => !pkKeyFits s o w v
      | none => false) then .inl .policy
    else if op = 0x45 && (curveIndex s o w.input).isNone then .inl .policy
    else .inr k

/-- A set's role fits the opcode. -/
def roleOk (op p : Nat) : Bool :=
  match op with
  | 0x40 => isEc p || isEd p || isRsa p || isMldsa p
  | 0x41 => isEc p || isEd p || isRsa p || isMldsa p
  | 0x43 => isEc p || isMlkem p
  | 0x44 => isMlkem p
  | _ => true

/-- HASH and MSG: a digest of the length that HASH names, or a message with HASH 0. -/
def hashOk (w : Work) (msgLen : Nat) : Bool :=
  if isEc (kPset w) || isRsa (kPset w) then
    (kHash w == 1 && msgLen == 32) || (kHash w == 2 && msgLen == 48) || (kHash w == 3 && msgLen == 64)
  else kHash w == 0

/-- Bytes before CTX ‖ MSG. -/
def pkHead (s : State) (o : Nat) (w : Work) : Nat :=
  if dOp w.desc = 0x41 then pubLen s o (kPset w) (kVar w) + sigLen s o (kPset w) (kVar w) else 0

/-- ATTR of a new key (R294, R296). -/
def pkAttrOk (s : State) (o : Nat) (w : Work) : Bool :=
  let p := kPset w
  let v := kVar w
  let a := kAttr w
  if dOp w.desc = 0x42 then
    attrOk o (kRecord w) a (payloadLen s o p v) && (kRecord w || aKlen a == payloadLen s o p v)
      && (if isEc p then aVerb a == verbSign || aVerb a == verbKem else if isMlkem p then aVerb a == verbKem else aVerb a == verbSign)
  else
    attrOk o (kRecord w) a (secretLen s o p v) && aKlen a == secretLen s o p v && (aVerb a == verbCipher || aVerb a == verbMac)

/-- Order 5 of R298. -/
def pkParamsOk (s : State) (o : Nat) (w : Work) : Bool :=
  let p := kPset w
  let v := kVar w
  let n := w.input.length
  let op := dOp w.desc
  if op = 0x45 then true
  else
    setKnown s o p v && roleOk op p && (kCtx w == 0 || isMldsa p || p == 9)
      && (if op = 0x40 || op = 0x41 then decide (pkHead s o w + kCtx w ≤ n) && hashOk w (n - pkHead s o w - kCtx w) else true)
      && (op != 0x43 || n == (if isEc p then pubLen s o p v else cipherTextLen p))
      && (op != 0x44 || n == pubLen s o p v)
      && (!makesKey op || pkAttrOk s o w)

/-! ### Engines (R291, R308) -/

/-- Every engine on the variant, in the order of the test rotation (R311). -/
def pkEngines (s : State) : List Nat := [0, 1] ++ (diesOf (presentDies s)).flatMap fun k => [2 * k, 2 * k + 1]

/-- In service: not quarantined, not under test, its die not lost. -/
def pkServes (s : State) (e : Nat) : Bool :=
  (pkEngines s).contains e && !s.pk.quarantined.contains e && s.pk.underTest != some e && !dieIn s.sys.lost (e / 2)

/-- Engines that may run an opcode: any for VERIFY, the anchor's for the rest (R291, R296). -/
def pkAllowed (s : State) (op : Nat) : List Nat :=
  if op = 0x41 then (pkEngines s).filter (pkServes s) else [0, 1].filter (pkServes s)

/-! ### Operand memory and placement (R292, R293, R308) -/

/-- L, slots for one operation, and operations held, of a parameter set (R292). A curve load is of the loaded
curves' row. (DEDUCED, log 43) -/
def pkShape (w : Work) : Nat × Nat × Nat :=
  let p := kPset w
  let v := kVar w
  if isRsa p then
    (if v = 1 then (256, 24, 4) else if v = 2 ∨ v = 3 then (512, 24, 4) else (1024, 24, 2))
  else if p = 0x20 then (1024, 28, 2)
  else if p = 0x21 then (1024, 40, 1)
  else if p = 0x22 then (1024, 52, 1)
  else if p = 0x28 then (1024, 20, 3)
  else if p = 0x29 then (1024, 26, 2)
  else (128, 24, 4)

def pkHolds (s : State) (e : Nat) : List PkOp := s.pk.ops.filter fun c => c.engine == e

/-- An abort of one of the engine's operations waits (R307). -/
def abortWaits (s : State) (e : Nat) : Bool := s.pk.aborts.any fun a => a.1.engine == e

/-- The engine can hold one more operation: it holds none, and may change L, or its L matches and slots are free. -/
def pkRoom (s : State) (w : Work) (e : Nat) : Bool :=
  let h := pkHolds s e
  let (l, n, most) := pkShape w
  !abortWaits s e && (h.isEmpty || (s.pk.lens.atD e 0 == l && decide (h.length < most)
    && decide (h.foldl (fun k c => k + (pkShape c.work).2.1) n * l ≤ 65536)))

/-- Engines that can take an operation now: those whose L matches, otherwise any with room (R293). -/
def pkPlaces (s : State) (w : Work) : List Nat :=
  let free := (pkAllowed s (dOp w.desc)).filter (pkRoom s w)
  let same := free.filter fun e => s.pk.lens.atD e 0 == (pkShape w).1
  if same.isEmpty then free else same

/-- The operation is held by an engine, whose L becomes that of its set; a change of L clears the memory first (R293). -/
def stagePk (c : PkOp) (e : Nat) (s : State) : State :=
  { s with pk := { s.pk with
    ops := s.pk.ops ++ [{ c with engine := e, running := false }], lens := s.pk.lens.put e (pkShape c.work).1 } }

/-- Place the operations of the anchor queue in their order. One that must wait keeps its engines from the later ones,
since each engine takes work in admission order (R308); with no engine in service it ends with FAULT (R310). -/
def placeList : List PkOp → List Nat → State → State
  | [], _, s => s
  | c :: r, held, s =>
    let l := pkAllowed s (dOp c.work.desc)
    if l.isEmpty then placeList r held (finish c.work .fault 0 [] s)
    else
      let free := (pkPlaces s c.work).filter fun e => !held.contains e
      let (e, s) := if free.contains c.engine then (some c.engine, s) else pick free s
      match e with
      | some e => placeList r held (stagePk c e s)
      | none => placeList r (l ++ held) { s with pk := { s.pk with queue := s.pk.queue ++ [c] } }

/-- Every engine that runs nothing starts the first operation it holds. -/
def startHeld : List PkOp → List Nat → List PkOp
  | [], _ => []
  | c :: r, busy =>
    if c.running || busy.contains c.engine then c :: startHeld r busy
    else { c with running := true } :: startHeld r (c.engine :: busy)

/-- Placement after any change: none while a departure operation waits for an engine (R308). -/
def settlePk (s : State) : State :=
  if signWaits s then s
  else
    let s := placeList s.pk.queue [] { s with pk := { s.pk with queue := [] } }
    let busy := (s.pk.ops.filter (·.running)).map (·.engine) ++ s.pk.aborts.map (·.1.engine)
    { s with pk := { s.pk with ops := startHeld s.pk.ops busy } }

/-- Admit an operation to the anchor queue, with the engine that placement prefers for it. -/
def startPk (engine : Nat) (c : PkOp) (s : State) : State :=
  settlePk { s with pk := { s.pk with queue := s.pk.queue ++ [{ c with engine := engine, running := false }] } }

/-- The attribute word whose DUAL bit decides on an accord: that of the key used, and of the key created. -/
def pkDual (w : Work) (k : Option KeyView) : Bool :=
  (match k with
   | some v => aDual v.attr
   | none => false) || (makesKey (dOp w.desc) && aDual (kAttr w))

/-- R298 and the placement of a public-key command. -/
def doPk (engine : Nat) (w : Work) (s : State) : State :=
  let o := w.func s
  let s := if readsKey (dOp w.desc) then checkKey o (kKey w) s else s
  if readsKey (dOp w.desc) && keyLineBad s o (kKey w) then finish w .fault 0 [] s
  else match pkKey s o w with
  | .inl st => finish w st 0 [] s
  | .inr k =>
    let late := fun (s : State) =>
      if !pkParamsOk s o w then some Status.paramInvalid
      else if needsRandom w && !canDraw s then some .rngUnavailable
      else if dOp w.desc ≠ 0x41 && (pkAllowed s 0x40).isEmpty then some .fault
      else none
    let go := fun (w : Work) (s : State) =>
      let s := match k with
        | some v => useKey v s
        | none => s
      startPk engine { work := w, engine := 0, owner := o, key := (k.map (·.key)).getD [], handle := kKey w, faulted := false } s
    if pkDual w k then
      if !canNumber s then putBack w s
      else withAccord w o (dOp w.desc) (fun a s =>
        match late s with
        | some st => finish w st 0 [] s
        | none => let (w, s) := ceremonyOk w a (kKey w) s
                  go w s) s
    else
      match late s with
      | some st => finish w st 0 [] s
      | none => go w s

def execPkSign (w : WorkId) (engine : Nat) (s : State) : Res := .next (withWork w 0x40 (doPk engine) s)
def execPkVerify (w : WorkId) (engine : Nat) (s : State) : Res := .next (withWork w 0x41 (doPk engine) s)
def execPkKeygen (w : WorkId) (engine : Nat) (s : State) : Res := .next (withWork w 0x42 (doPk engine) s)
def execPkDerive (w : WorkId) (engine : Nat) (s : State) : Res := .next (withWork w 0x43 (doPk engine) s)
def execPkEncaps (w : WorkId) (engine : Nat) (s : State) : Res := .next (withWork w 0x44 (doPk engine) s)
def execPkCurveLoad (w : WorkId) (engine : Nat) (s : State) : Res := .next (withWork w 0x45 (doPk engine) s)
def execPkPublic (w : WorkId) (engine : Nat) (s : State) : Res := .next (withWork w 0x47 (doPk engine) s)

/-! ### Results (R296, R300-R306) -/

/-- The curve's parameters in front of an input of a loaded curve's algorithm. -/
def onCurve (s : State) (c : PkOp) (b : Bytes) : Bytes :=
  if kPset c.work = 4 then ((curveOf s c.owner (kVar c.work)).map (·.params)).getD [] ++ b else b

/-- Private key material of an operation. -/
def pkMaterial (s : State) (c : PkOp) : Bytes := onCurve s c (c.key.drop (if kPset c.work = 4 then 10 else 2))

/-- The scheme code of a signature command: set and HASH. -/
def pkScheme (w : Work) : Nat := 0x100000 + 4 * kAlg w + kHash w

/-- The message that is signed: ML-DSA and Ed448 carry a context. -/
def pkMessage (s : State) (c : PkOp) : Bytes :=
  let b := c.work.input.drop (pkHead s c.owner c.work)
  let m := b.drop (kCtx c.work)
  if isMldsa (kPset c.work) || kPset c.work == 9 then inContext (b.take (kCtx c.work)) m else m

/-- Codes of the validity checks of R300: private keys, public values, signatures. -/
def validPriv (alg : Nat) : Nat := 0x10000 + alg
def validPub (alg : Nat) : Nat := 0x20000 + alg
def validSig (alg : Nat) : Nat := 0x30000 + alg

/-- Header of a key: handle, 4 reserved bytes, KCV. (DEDUCED, log 43) -/
def pkHeader (handle : Nat) (key : Bytes) : Bytes := le 4 handle ++ zeros 4 ++ kcv key

/-- Store a new key and answer with its header and what follows; without room the command ends with POLICY. (DEDUCED, log 34; DEDUCED, log 43) -/
def storeKey (c : PkOp) (key tail : Bytes) (s : State) : State :=
  match newKey c.owner (kRecord c.work) (kAttr c.work) key s with
  | none => finish c.work .policy 0 [] s
  | some (h, s) => finish c.work .ok 0 (pkHeader h key ++ tail) s

def endSign (c : PkOp) (rounds : Nat) (s : State) : State :=
  let w := c.work
  let mat := pkMaterial s c
  if !Config.valid (validPriv (kAlg w)) mat then finish w .paramInvalid 0 [] s
  else if isMldsa (kPset w) && decide (1000 ≤ rounds) then event 0x081A 0 [] (finish w .fault 0 [] s)
  else
    let (r, s) := if needsRandom w then drawNat s else (0, s)
    finish w .ok 0 (le (sigLen s c.owner (kPset w) (kVar w)) (Config.sign (pkScheme w) mat (pkMessage s c) r)) s

def endVerify (c : PkOp) (s : State) : State :=
  let w := c.work
  let n := pubLen s c.owner (kPset w) (kVar w)
  let pub := onCurve s c (w.input.take n)
  let sig := slice w.input n (sigLen s c.owner (kPset w) (kVar w))
  if !Config.valid (validPub (kAlg w)) pub || !Config.valid (validSig (kAlg w)) (onCurve s c sig) then finish w .paramInvalid 0 [] s
  else if Config.verify (pkScheme w) pub (pkMessage s c) sig then finish w .ok 0 [] s
  else finish w .authFail 1 [] s

def endKeygen (c : PkOp) (s : State) : State :=
  let w := c.work
  let (r, s) := drawNat s
  let mat := le (matLen s c.owner (kPset w) (kVar w)) (Config.keygen (kAlg w) r)
  let tag := match curveOf s c.owner (kVar w) with
    | some v => v.tag
    | none => []
  let key := le 1 (kPset w) ++ le 1 (kVar w) ++ (if kPset w = 4 then tag else []) ++ mat
  storeKey c key (le (pubLen s c.owner (kPset w) (kVar w)) (Config.public (kAlg w) (onCurve s c mat))) s

/-- ECDH checks the peer's point; ML-KEM decapsulation answers every ciphertext of the right length. -/
def endDerive (c : PkOp) (s : State) : State :=
  let w := c.work
  let mat := pkMaterial s c
  let n := secretLen s c.owner (kPset w) (kVar w)
  if !Config.valid (validPriv (kAlg w)) mat then finish w .paramInvalid 0 [] s
  else
    match Config.agree (kAlg w) mat w.input with
    | some z => storeKey c (le n z) [] s
    | none =>
      if isEc (kPset w) then finish w .paramInvalid 0 [] s
      else let (z, s) := freeNat s
           storeKey c (le n z) [] s

def endEncaps (c : PkOp) (s : State) : State :=
  let w := c.work
  if !Config.valid (validPub (kAlg w)) w.input then finish w .paramInvalid 0 [] s
  else
    let (r, s) := drawNat s
    let (ct, z) := Config.encaps (kAlg w) w.input r
    storeKey c (le 32 z) (le (cipherTextLen (kPset w)) ct) s

def endPublic (c : PkOp) (s : State) : State :=
  let w := c.work
  let mat := pkMaterial s c
  if !Config.valid (validPriv (kAlg w)) mat then finish w .paramInvalid 0 [] s
  else finish w .ok 0 (le (pubLen s c.owner (kPset w) (kVar w)) (Config.public (kAlg w) mat)) s

/-! ### Loaded curves (R305, R306) -/

def primeCode : Nat := 0x40000
def orderCode : Nat := 0x40001

/-- p^j mod n is 1 for some j from 1 to k. -/
def powerHits (p n : Nat) : Nat → Nat → Bool
  | 0, _ => false
  | k + 1, x => x * p % n == 1 % n || powerHits p n k (x * p % n)

/-- The first check of R305 that a curve fails, 0 where it passes all. -/
def curveErr (b : Bytes) : Nat :=
  let bits := rd b 0 2
  let nbits := rd b 2 2
  let h := rd b 4 1
  let q := ceilDiv bits 8
  let f := fun (k : Nat) => beNat (slice b (8 + k * q) q)
  let p := f 0
  let n := beNat (slice b (8 + 5 * q) (ceilDiv nbits 8))
  let gap : Int := (h * n : Nat) - ((p + 1 : Nat) : Int)
  if !(decide (192 ≤ bits) && decide (bits ≤ 640) && decide (160 ≤ nbits) && decide (nbits ≤ bits + 1)
      && allZero b 5 3 && b.length == 8 + 5 * q + ceilDiv nbits 8) then 1
  else if !(Config.valid primeCode (le q p) && decide (3 < p)) then 2
  else if !(decide (f 1 < p) && decide (f 2 < p) && (4 * f 1 ^ 3 + 27 * f 2 ^ 2) % p != 0) then 3
  else if !(decide (f 3 < p) && decide (f 4 < p) && f 4 ^ 2 % p == (f 3 ^ 3 + f 1 * f 3 + f 2) % p) then 4
  else if !(Config.valid primeCode (le (ceilDiv nbits 8) n) && decide (2 ^ 159 ≤ n)) then 5
  else if !Config.valid orderCode b then 6
  else if !(decide (1 ≤ h) && decide (h ≤ 4) && decide (gap.natAbs ^ 2 ≤ 4 * p)) then 7
  else if n = p then 8
  else if powerHits p n 100 1 then 9
  else 0

def endCurve (c : PkOp) (s : State) : State :=
  let b := c.work.input
  let e := curveErr b
  if e ≠ 0 then event 0x0817 c.owner [(1, c.owner), (2, e)] (finish c.work .paramInvalid e [] s)
  else
    match curveIndex s c.owner b with
    | none => finish c.work .policy 0 [] s
    | some i =>
      let v : Curve := { index := i, owner := c.owner, params := b }
      let s := { s with pk := { s.pk with curves := v :: s.pk.curves.filter fun x => x.index != i } }
      event 0x0816 c.owner [(1, c.owner), (1, i), (8, leNat v.tag)] (finish c.work .ok 0 (le 1 i ++ zeros 7 ++ v.tag) s)

def dropPk (c : PkOp) (s : State) : State := { s with pk := { s.pk with ops := s.pk.ops.filter fun x => x != c } }

/-- An engine ends an operation with its release check (R302, R303); a generator that failed since leaves it
RNG_UNAVAILABLE (R304). -/
def endPk (c : PkOp) (rounds : Nat) (s : State) : State :=
  if needsRandom c.work && !canDraw s then finish c.work .rngUnavailable 0 [] s
  else
    match dOp c.work.desc with
    | 0x40 => endSign c rounds s
    | 0x41 => endVerify c s
    | 0x42 => endKeygen c s
    | 0x43 => endDerive c s
    | 0x44 => endEncaps c s
    | 0x45 => endCurve c s
    | _ => endPublic c s

def engineArg (e : Nat) : List (Nat × Nat) := [(1, e / 2), (1, e % 2)]

/-- The operand memory of an engine is cleared, and what it holds goes back to the head of the anchor queue (R307). -/
def clearEngine (e : Nat) (s : State) : State :=
  { s with pk := { s.pk with
    ops := s.pk.ops.filter fun c => c.engine != e
    queue := (pkHolds s e).map (fun c => { c with running := false }) ++ s.pk.queue
    lens := s.pk.lens.del e } }

/-- An aborted operation of an engine that runs nothing else: the clear, then its completion and that of the PK_ABORT. -/
def endAbort (c : PkOp) (w : Work) (s : State) : State :=
  let s := clearEngine c.engine (dropPk c s)
  finish w .ok 0 [] (finish c.work .aborted 0 [] (event 0x0818 0 (engineArg c.engine) s))

/-- The aborts that waited for the engine's running operation to end. -/
def endAborts (e : Nat) (s : State) : State :=
  let mine := s.pk.aborts.filter fun a => a.1.engine == e
  mine.foldl (fun st a => endAbort a.1 a.2 st) { s with pk := { s.pk with aborts := s.pk.aborts.filter fun a => a.1.engine != e } }

/-- A running operation ends (R292): its engine takes its next. -/
def doPkOperationDone (id : WorkId) (rounds : Nat) (s : State) : State :=
  match s.pk.ops.find? fun c => c.running && c.work.ring == id.ring && c.work.idx == id.idx with
  | none => s
  | some c => settlePk (endAborts c.engine (endPk c rounds (dropPk c s)))

def execPkOperationDone (w : WorkId) (rounds : Nat) (s : State) : Res :=
  .next (when (alive s) (doPkOperationDone w rounds) s)

/-! ### Abort (R307) -/

def isPkOp (op : Nat) : Bool := decide (0x40 ≤ op) && decide (op ≤ 0x47) && op != 0x46

/-- The ring that PARAMS of a PK_ABORT name: a number for PF0, a local index for a VF. -/
def abortRing (s : State) (w : Work) : Option Nat :=
  let r := rd (dParams w.desc) 16 2
  let f := w.func s
  if f = 0 then some r
  else (s.rings.tbl.find? fun (p : Nat × Ring) => p.2.func == f && p.2.localIdx == r && p.2.state != .free).map (·.1)

/-- The named command: ring, descriptor index and TAG, a public-key command on a SERVICE ring of the function. -/
def abortNames (s : State) (w x : Work) : Bool :=
  abortRing s w == some x.ring && x.idx == rd (dParams w.desc) 18 2 && dTag x.desc == rd (dParams w.desc) 20 4
    && isPkOp (dOp x.desc) && (ringOf s x.ring).func == w.func s && (ringOf s x.ring).cls == 2 && x.gen == (ringOf s x.ring).gen

/-- A held target ends after the clear of its engine, which another running operation holds back until it ends; one that
no engine holds is removed. -/
def doPkAbort (w : Work) (s : State) : State :=
  match s.pk.ops.find? fun c => abortNames s w c.work with
  | some c =>
    if c.running || pkIdle s c.engine then settlePk (endAbort c w s)
    else { s with pk := { s.pk with aborts := s.pk.aborts ++ [(c, w)] } }
  | none =>
    match s.pk.queue.find? fun c => abortNames s w c.work with
    | some c => settlePk (finish w .ok 0 [] (finish c.work .aborted 0 []
        { s with pk := { s.pk with queue := s.pk.queue.filter fun x => x != c } }))
    | none =>
      match s.adm.work.find? (abortNames s w) with
      | some x => finish w .ok 0 [] (finish x .aborted 0 [] { s with adm := { s.adm with work := s.adm.work.filter fun y => y != x } })
      | none => finish w .notFound 0 [] s

def execPkAbort (w : WorkId) (s : State) : Res := .next (withWork w 0x46 doPkAbort s)

/-! ### Faults and tests (R310, R311) -/

def quarantinePk (e : Nat) (s : State) : State :=
  let before := (pkAllowed s 0x40).isEmpty
  let s := { s with pk := { s.pk with
    quarantined := if s.pk.quarantined.contains e then s.pk.quarantined else e :: s.pk.quarantined
    lens := s.pk.lens.del e
    underTest := if s.pk.underTest = some e then none else s.pk.underTest } }
  if !before && (pkAllowed s 0x40).isEmpty then event 0x0819 0 [] s else s

/-- The operation that an engine ran has faulted: it is marked, or ends with FAULT the second time (R310). -/
def faultPk (c : PkOp) (s : State) : State :=
  if c.faulted then event 0x0811 0 [(1, dOp c.work.desc)] (finish c.work .fault 0 [] (dropPk c s))
  else { s with pk := { s.pk with ops := s.pk.ops.map fun x => if x == c then { x with faulted := true } else x } }

/-- The operations of an engine that is gone are placed again from their anchor copies; the running one has faulted, and
an abort that waited takes effect. (DESIGN CHOICE, log 19; DEDUCED, log 43) -/
def movePk (e : Nat) (s : State) : State :=
  let s := match (pkHolds s e).find? (·.running) with
    | some c => faultPk c s
    | none => s
  settlePk (clearEngine e (endAborts e s))

def pkFaultCode : PkFault → Nat
  | .parity => 1
  | .releaseCheck => 2
  | .pairwise => 3

def doPkEngineFault (e : Nat) (cause : PkFault) (s : State) : State :=
  if !(pkEngines s).contains e || s.pk.quarantined.contains e || dieIn s.sys.lost (e / 2) then s
  else
    let mine := s.pk.ops.filter fun c => c.engine == e
    let s := overlapNow (!mine.isEmpty) (event 0x0810 0 (engineArg e ++ [(1, pkFaultCode cause)]) s)
    let s := match mine.find? (·.running) with
      | some c => if cause == .releaseCheck && dOp c.work.desc == 0x40 then event 0x0815 0 [(1, kPset c.work)] s else s
      | none => s
    movePk e (quarantinePk e s)

def execPkEngineFault (engine : Nat) (cause : PkFault) (s : State) : Res :=
  .next (when (alive s) (doPkEngineFault engine cause) s)

/-- Every 2 s: the next engine is drained for test, or its slot is skipped; those of a lost die are gone. -/
def doPkTestSlot (s : State) : State :=
  let l := pkEngines s
  let k := s.pk.rotation % l.length
  let e := l.getD k 0
  let s := { s with pk := { s.pk with
    rotation := (k + 1) % l.length, skipped := if k = 0 then false else s.pk.skipped
    resting := if k = 0 then false else s.pk.resting } }
  if dieIn s.sys.lost (e / 2) || (s.pk.resting && !s.pk.quarantined.contains e) then s
  else if !s.pk.quarantined.isEmpty && !s.pk.quarantined.contains e then
    if s.pk.skipped then s else event 0x0814 0 [] { s with pk := { s.pk with skipped := true } }
  else { s with pk := { s.pk with underTest := some e } }

def execPkTestSlot (s : State) : Res :=
  .next (when (alive s && s.sys.firmwareUp && s.pk.underTest.isNone) doPkTestSlot s)

/-- The test ends once the engine has finished what it holds. -/
def doPkTestDone (pass : Bool) (s : State) : State :=
  match s.pk.underTest with
  | none => s
  | some e =>
    if s.pk.ops.any fun c => c.engine == e then s
    else
      let s := { s with pk := { s.pk with underTest := none, lens := s.pk.lens.del e } }
      if !pass then event 0x0813 0 [] (quarantinePk e s)
      else if s.pk.quarantined.contains e then
        settlePk (event 0x0812 0 [] { s with pk := { s.pk with
          quarantined := s.pk.quarantined.filter fun x => x != e, resting := true } })
      else settlePk s

def execPkTestDone (pass : Bool) (s : State) : Res := .next (when (alive s) (doPkTestDone pass) s)

/-! ### The loss of a die (R27, R310) -/

/-- A die is lost with its public-key engines: their operations are placed again. -/
def loseDie (k : Nat) (s : State) : State :=
  let there := dieIn (presentDies s) k && !dieIn s.sys.lost k
  let s := doDieLost k s
  if there then movePk (2 * k + 1) (movePk (2 * k) s) else s

/-- In service, and while a restore runs (R29). (DEDUCED, log 47) -/
def execDieLost (die : Nat) (s : State) : Res :=
  .next (when (inService s || s.sys.state == .restoring) (loseDie die) s)

/-! ### Departure signatures (R175, R309) -/

/-- The signature codes of event 0x0504: the PSET of the algorithm (R294). (DEDUCED, log 17) -/
def sigCode : SigAlg → Nat
  | .ecdsa => 0x02
  | .mldsa => 0x21

/-- A signature failed verification: its engine is quarantined, and the record is signed again on another. -/
def signFault (e : Nat) (a : SigAlg) (s : State) : State :=
  movePk e (quarantinePk e (event 0x0504 0 [(1, sigCode a)] s))

/-- An engine ran a departure operation: what it held staged is returned, and its L is that of ML-DSA-65 (R292, R308). -/
def signedOn (e : Nat) (s : State) : State :=
  let s := clearEngine e s
  { s with pk := { s.pk with lens := s.pk.lens.put e 1024 } }

/-- Sign on an engine of R309's choice, and verify on another where one is free (R175): a failure leaves the record to
be signed again. (DESIGN CHOICE, log 19) -/
def doDepartureSigned (bad : Option SigAlg) (s : State) : State :=
  match readyToSign s with
  | none => s
  | some c =>
    if !canSign s c then s
    else
      let (e, s) := pick (signers s) s
      let e := e.getD 0
      let (v, s) := pick ((signers s).filter fun x => x != e) s
      let s := signedOn (v.getD e) (signedOn e s)
      match bad with
      | some a => signFault e a s
      | none => settlePk (releaseRecord c s)

def execDepartureSigned (t : Nat) (bad : Option SigAlg) (s : State) : Res :=
  .next (when (alive s) (fun s => doDepartureSigned bad (advance t s)) s)

end Sys2Proof.Machine
end

