-- ==== Sys2Proof/Machine/Descriptor.lean ====
section
/-! DEFINITION. The form checks of a submission descriptor (R56-R58): opcode and ring class, reserved bits, FLAGS,
lengths and alignment, with the forms that each opcode's own table gives. -/

namespace Sys2Proof.Machine

/-! ### Opcodes and ring classes (R57, R99, R199, R255, R281, R296, R327, R368, R387, R410) -/

/-- SERVICE opcodes that a VF ring takes. -/
def vfService (op : Nat) : Bool :=
  (0x20 ≤ op && op ≤ 0x22) || (0x30 ≤ op && op ≤ 0x38) || (0x40 ≤ op && op ≤ 0x47) || (0x52 ≤ op && op ≤ 0x5D)
    || (0x60 ≤ op && op ≤ 0x66)

/-- SERVICE opcodes that a PF0 ring takes. The keyed cipher commands and the public-key commands that PF0 may not
issue are refused with POLICY by their own checks (R283, R298). -/
def pfService (op : Nat) : Bool :=
  op == 0x20 || (0x30 ≤ op && op ≤ 0x38) || (0x40 ≤ op && op ≤ 0x47) || op == 0x50 || op == 0x51
    || (0x5A ≤ op && op ≤ 0x5C) || op == 0x5E || op == 0x66 || (0x70 ≤ op && op ≤ 0x7F) || (0x80 ≤ op && op ≤ 0x85)

/-- The opcode is defined and valid on the ring's class. -/
def opOnRing (cls func op : Nat) : Bool :=
  match cls with
  | 0 => op == 0x01
  | 1 => 0x10 ≤ op && op ≤ 0x16
  | 2 => if func = 0 then pfService op else vfService op
  | _ => false

/-! ### INLINE and SRC_LEN -/

/-- Opcodes whose input is INLINE. -/
def inlineOps : List Nat :=
  [0x13, 0x14, 0x20, 0x22, 0x42, 0x46, 0x47, 0x51, 0x53, 0x55, 0x56, 0x57, 0x5C, 0x66, 0x72, 0x7A, 0x7E, 0x7F,
    0x81, 0x83, 0x84, 0x85]

/-- Opcodes whose input may be given either way: its length allows both, or they take none. -/
def eitherOps : List Nat := [0x10, 0x11, 0x38, 0x59, 0x5E, 0x70, 0x71, 0x73, 0x74]

/-- MODE of DEVICE_CERT: INLINE reads, a source buffer installs (R410). -/
def certModeOk (d : BitVec 512) : Bool := rd (dParams d) 0 1 == (if dInline d then 0 else 1)

/-- (DEDUCED, log 14) -/
def inlineOk (d : BitVec 512) : Bool :=
  let op := dOp d
  if op = 0x79 then certModeOk d
  else if inlineOps.contains op then dInline d
  else if eitherOps.contains op then true
  else !dInline d

/-- Opcodes of an owner-tagged 128-byte body (R99, R199). -/
def ownerTaggedOp (op : Nat) : Bool :=
  op == 0x12 || op == 0x15 || op == 0x16 || (0x60 ≤ op && op ≤ 0x65)

/-- The SRC_LEN that a fixed input takes; none where the input's length varies. -/
def fixedLen (op : Nat) : Option Nat :=
  if ownerTaggedOp op then some 128
  else if op = 0x20 || op = 0x42 || op = 0x46 || op = 0x47 || op = 0x66 || op = 0x7E || op = 0x7F || op = 0x59 then some 32
  else if op = 0x21 || op = 0x5D then some 64
  else if op = 0x5B then some 96
  else if op = 0x77 then some 56
  else if op = 0x78 then some 40
  else if op = 0x7B then some 4851
  else if op = 0x7C then some 4979
  else none

/-- The longest input of the others. -/
def limitLen (op : Nat) : Nat :=
  if op = 0x01 then 4096 else if op = 0x10 || op = 0x11 then 64 else 65535

/-- (DEDUCED, log 14) -/
def srcLenOk (d : BitVec 512) : Bool :=
  let n := dSrcLen d
  decide (1 ≤ n) && (!dInline d || decide (n ≤ 32))
    && (match fixedLen (dOp d) with
        | some k => n == k
        | none => decide (n ≤ limitLen (dOp d)))

/-! ### Reserved bits -/

/-- Opcodes with the PARAMS of R282, and with those of R297. -/
def isCipherOp (op : Nat) : Bool := 0x30 ≤ op && op ≤ 0x38
def isPkRow (op : Nat) : Bool := 0x40 ≤ op && op ≤ 0x47

/-- A reserved bit of the descriptor is 1, or TAMPER_ENROL's order 1 of R438 fails. (DEDUCED, log 14) -/
def reservedSet (func : Nat) (d : BitVec 512) : Bool :=
  let op := dOp d
  let p := dParams d
  dFlagsRsv d
    || (op == 0x01 && (!allZero p 0 32 || dArg d != 0))
    || (isCipherOp op && ((dArg d).extractLsb' 8 8 != 0 || (!dInline d && !allZero p 24 8)
          || (op == 0x31 && !allZero p 20 4)))
    || (isPkRow op && (decide (2 ≤ rd p 4 1) || !allZero p (if op = 0x46 then 24 else 16) 16))
    || (op == 0x66 && ((func != 0 && rd p 4 1 != 0) || !allZero p 5 27))
    || (op == 0x7E && (!allZero p 17 15 || (p.take 16).any (fun b => decide (2 < b.toNat)) || decide (0x0F < rd p 16 1)))
    || (op == 0x7F && !allZero p 1 31)

/-! ### Addresses and DST_LEN -/

def aligned (d : BitVec 512) : Bool := (dInline d || dSrcAddr d % 8 == 0) && dDstAddr d % 64 == 0

/-- Output of a cipher command (R281). -/
def cipherOut (d : BitVec 512) : Nat :=
  let n := dSrcLen d
  let aad := rd (dParams d) 4 2
  match dOp d with
  | 0x30 => 32 + n - aad
  | 0x31 => n - aad - 16
  | 0x32 => 16 + n
  | 0x33 => n
  | 0x34 => n
  | 0x35 => n
  | 0x36 => rd (dParams d) 7 1
  | 0x37 => 0
  | _ => digestLen ((dArg d).extractLsb' 0 8).toNat

/-- Output of a public-key command, of a known set (R296). -/
def pkOut (s : State) (o : Nat) (d : BitVec 512) : Nat :=
  let p := ((dArg d).extractLsb' 0 8).toNat
  let v := ((dArg d).extractLsb' 8 8).toNat
  match dOp d with
  | 0x41 => 0
  | 0x43 => 16
  | 0x45 => 16
  | 0x46 => 0
  | 0x40 => if setKnown s o p v then sigLen s o p v else 0
  | 0x42 => if setKnown s o p v then 16 + pubLen s o p v else 0
  | 0x44 => if setKnown s o p v then 16 + cipherTextLen p else 0
  | _ => if setKnown s o p v then pubLen s o p v else 0

/-- Output of a key opcode (R255); of SLOT_EXPORT, the record of the named key. -/
def keyOut (s : State) (o : Nat) (d : BitVec 512) : Nat :=
  match dOp d with
  | 0x50 => 8
  | 0x53 => 16
  | 0x55 => match usableKey s o (rd (dParams d) 0 4) with
    | some k => wrapSize (16 + aKlen k.attr)
    | none => 0
  | 0x57 => if rd (dParams d) 0 4 = 0 then 0 else 16
  | 0x5A => 128
  | 0x5D => 8
  | 0x5E => 5534
  | _ => 0

/-- Output of the PF0 opcodes from 0x70 on (R213, R368, R387, R410, R438, R470). -/
def pfOut (s : State) (d : BitVec 512) : Nat :=
  match dOp d with
  | 0x71 => 64
  | 0x75 => 16
  | 0x76 => 16
  | 0x79 => if dInline d then ((s.life.cert.map (·.length)).getD 2088) else 0
  | 0x7A => 128
  | 0x7E => 64
  | 0x7F => 16
  | 0x83 => 128
  | _ => 0

/-- The least DST_LEN that the opcode's output needs, as far as the descriptor tells. RANDOM, DRAW and DRAW_FETCH
check theirs with their own orders (R323, R329). -/
def dstNeed (s : State) (o : Nat) (d : BitVec 512) : Nat :=
  let op := dOp d
  if 0x10 ≤ op ∧ op ≤ 0x16 then 32
  else if isCipherOp op then cipherOut d
  else if isPkRow op then pkOut s o d
  else if 0x50 ≤ op ∧ op ≤ 0x5E then keyOut s o d
  else if op = 0x66 then 32
  else if 0x70 ≤ op then pfOut s d
  else 0

/-! ### The check of R58 -/

/-- A check of R58 that needs no source fetch fails. (DEDUCED, log 14) -/
def formBad (s : State) (x : Ring) (d : BitVec 512) : Bool :=
  !opOnRing x.cls x.func (dOp d) || reservedSet x.func d || !inlineOk d || !srcLenOk d || !aligned d
    || decide (dDstLen d < dstNeed s x.func d)

/-- The source buffer as fetched, SRC_LEN bytes; PARAMS for an INLINE input. (DEDUCED, log 14) -/
def sourceOf (d : BitVec 512) (src : SourceRead) : Option Bytes :=
  if dInline d then some ((dParams d).take (dSrcLen d))
  else match src with
    | .bytes b => some (padTo (dSrcLen d) b)
    | .failed => none

/-- The output that only the input tells: CLAUSE_EXPORT's COUNT records (R255). (DEDUCED, log 14) -/
def outputFits (d : BitVec 512) (b : Bytes) : Bool :=
  dOp d != 0x58 || decide (rd b 4 2 * wrapSize (16 + 32) ≤ dDstLen d)

/-- The input of a descriptor that passes R58; none where it fails. -/
def checked (s : State) (x : Ring) (d : BitVec 512) (src : SourceRead) : Option Bytes :=
  if formBad s x d then none
  else match sourceOf d src with
    | some b => if outputFits d b then some b else none
    | none => none

end Sys2Proof.Machine
end

