-- ==== Sys2Proof/Machine/Rulebooks.lean ====
section
/-! DEFINITION. Rulebook images (R121-R126), the loader's checks (R128-R132, R137, R142-R144), and loading,
switching and retiring (R145-R148). -/

namespace Sys2Proof.Machine

/-! ### The image (R121, R122, R124, R128) -/

def iHandle (b : Bytes) : Nat := rd b 6 2
def iOwner (b : Bytes) : Nat := rd b 8 8
def iVersion (b : Bytes) : Nat := rd b 16 4
def iLmax (b : Bytes) : Nat := rd b 20 2
def iFields (b : Bytes) : Nat := rd b 22 1
def iHasCancel (b : Bytes) : Bool := (rd b 23 1) % 2 == 1
def iHasRegulator (b : Bytes) : Bool := (rd b 23 1) / 2 % 2 == 1
def iOps (b : Bytes) : Nat := rd b 24 2
def iConsts (b : Bytes) : Nat := rd b 26 2
def iTables (b : Bytes) : Nat := rd b 28 1
def iCancel (b : Bytes) : Nat := rd b 32 2

/-- n 8-byte words. -/
def words64 (n : Nat) (b : Bytes) : List W64 := (List.range n).map fun k => BitVec.ofNat 64 (rd b (8 * k) 8)

/-- Tables with their counts, and the bytes after them; none where a count or a size is bad. -/
def readTables : Nat → Bytes → Option (List (List W64) × Bytes)
  | 0, b => some ([], b)
  | k + 1, b =>
    let n := rd b 0 8
    if n = 0 ∨ 4096 < n ∨ b.length < 8 + 8 * n then none
    else (readTables k (b.drop (8 + 8 * n))).map fun r => (words64 n (b.drop 8) :: r.1, r.2)

def opsAt (b : Bytes) : Nat := 64 + 16 * iFields b
def constsAt (b : Bytes) : Nat := opsAt b + 8 * iOps b
def tablesAt (b : Bytes) : Nat := constsAt b + 8 * iConsts b

/-- A syntax entry, and whether its reserved bits are 0. -/
def readField (b : Bytes) (k : Nat) : SynField × Bool :=
  let v := BitVec.ofNat 128 (rd b (64 + 16 * k) 16)
  ({ hi := (v.extractLsb' 64 64).toNat, lo := (v.extractLsb' 40 24).toNat, off := (v.extractLsb' 28 12).toNat
     len := (v.extractLsb' 16 12).toNat, ty := (v.extractLsb' 12 4).toNat, count := (v.extractLsb' 6 6).toNat },
   v.extractLsb' 0 6 == 0)

/-- An agreement op from its word (R128). -/
def readOp (v : W64) : AgOp :=
  { op := (v.extractLsb' 56 8).toNat
    f := { d := v.extractLsb' 51 5, a := v.extractLsb' 46 5, b := v.extractLsb' 41 5, mode := v.extractLsb' 32 9
           imm := v.extractLsb' 0 32 } }

def imageFields (b : Bytes) : List SynField := (List.range (iFields b)).map fun k => (readField b k).1
def imageOps (b : Bytes) : List AgOp := (words64 (iOps b) (b.drop (opsAt b))).map readOp

/-- D, and what follows the last table: the blocks. None where the parts do not fit (R122). -/
def imageParts (b : Bytes) : Option (List (List W64) × Digest × Bytes) :=
  if b.length < tablesAt b then none
  else (readTables (iTables b) (b.drop (tablesAt b))).map fun r => (r.1, sha (b.take (b.length - r.2.length)), r.2)

/-! ### Order 1 of R144 -/

def blockLen : Nat := 4723

def headerOk (b : Bytes) : Bool :=
  rd b 0 4 == 0x57494C31 && rd b 4 2 == 1 && iHandle b != 0 && rd b 23 1 / 4 == 0 && allZero b 29 3 && allZero b 34 2
    && allZero b 52 12 && decide (iOps b ≤ 4096) && decide (iConsts b ≤ 1024) && decide (iTables b ≤ 16)

/-- The counts of an image that loads or retires. -/
def countsOk (b : Bytes) : Bool :=
  if iOps b = 0 then allZero b 20 3 && !iHasCancel b && iConsts b == 0 && iTables b == 0 && allZero b 32 2 && allZero b 36 16
  else
    decide (1 ≤ iFields b) && decide (iFields b ≤ 64) && decide (48 ≤ iLmax b) && decide (iLmax b ≤ 4096)
      && (match (imageFields b).getLast? with
          | some f => iLmax b == 48 + f.off + f.len
          | none => false)
      && (if iHasCancel b then decide (1 ≤ iCancel b) && decide (iCancel b < iOps b) else iCancel b == 0)

/-- The blocks, with the zero bytes that fill the image up to a multiple of 4. -/
def blocksOk (b rest : Bytes) : Bool :=
  let n := if iHasRegulator b then 2 * blockLen else blockLen
  decide (n ≤ rest.length) && decide (rest.length < n + 4) && allZero rest n 4

def formGood (b : Bytes) : Bool :=
  decide (64 ≤ b.length) && decide (b.length ≤ 262144) && headerOk b && countsOk b
    && match imageParts b with
       | some (_, _, rest) => blocksOk b rest
       | none => false

/-! ### Order 3: the signatures (R122, R421) -/

/-- (DEDUCED, log 28) -/
def signaturesOk (s : State) (owner : Nat) (b : Bytes) : Bool :=
  match imageParts b with
  | none => false
  | some (_, d, rest) =>
    let (ok, rk) := s.life.codeKeys.atD owner (none, none)
    let ownBlock := rest.take blockLen
    (match ok with
     | some k => codeBlockOk k "SOLNY OWNER" d ownBlock
     | none => false)
    && (match rk with
        | some k => iHasRegulator b && codeBlockOk k "SOLNY REGULATOR" (sha (digestBytes d ++ ownBlock)) (slice rest blockLen blockLen)
        | none => true)

/-! ### Costs (R130, R142) -/

/-- ⌈log2 (n + 1)⌉. -/
def log2Up (n : Nat) : Nat := if n = 0 then 0 else Nat.log2 n + 1

/-- What the costs of an image depend on. -/
structure CostEnv where
  lmax : Nat
  fields : List SynField
  tables : List (List W64)
  deriving DecidableEq, Repr

def CostEnv.cap (e : CostEnv) : Nat := (e.fields.filter fun f => f.ty == 4).foldl (fun n f => n + f.len) 0

def lookupCost (e : CostEnv) (o : AgOp) : Nat := 4 * (log2Up ((e.tables.getD o.f.imm.toNat []).length) + 1)

/-- Issue slots of an op that is no end op. -/
def costI (e : CostEnv) (o : AgOp) : Nat :=
  match o.op with
  | 0x0E => 40
  | 0x16 | 0x17 | 0x18 | 0x1A | 0x1B | 0x1D | 0x1E | 0x26 => 2
  | 0x19 => lookupCost e o
  | 0x1C => 64 + 48 * e.fields.length + 4 * e.lmax + 8 * e.cap
  | 0x1F => 256 + 4 * e.lmax
  | 0x20 | 0x27 => 64
  | 0x21 | 0x24 => 128
  | 0x22 => 160
  | 0x23 => 320
  | 0x25 => 192
  | _ => 1

/-- Cycles of an op that is no end op. -/
def costL (e : CostEnv) (o : AgOp) : Nat :=
  match o.op with
  | 0x1F => costI e o + 24 + ceilDiv e.lmax 16
  | 0x20 => 88 + ceilDiv (((e.fields[o.f.imm.toNat]?).map (·.len)).getD 0) 16
  | 0x27 => 88 + ceilDiv e.lmax 16
  | 0x21 | 0x22 | 0x23 | 0x24 | 0x25 => costI e o + 120
  | _ => costI e o

def AgOp.isEnd (o : AgOp) : Bool := o.op == 0x06 || o.op == 0x07
def AgOp.isBranch (o : AgOp) : Bool := decide (1 ≤ o.op) && decide (o.op ≤ 5)
def AgOp.skip (o : AgOp) : Nat := (o.f.imm.extractLsb' 0 16).toNat

/-- The successors of an op, as distances from the op after it. An end op has none. -/
def AgOp.next (o : AgOp) : List Nat :=
  if o.isEnd then [] else (if o.op = 0x01 then [] else [0]) ++ (if o.isBranch then [o.skip] else [])

/-- Raise the k-th number of a list to at least v. -/
def raiseAt : Nat → Nat → List Nat → List Nat
  | _, _, [] => []
  | 0, v, x :: r => max x v :: r
  | k + 1, v, x :: r => x :: raiseAt k v r

/-- The forward pass: for each op the largest count of weighted ops on a path that reaches it, from a base. -/
def forward (wt : AgOp → Nat) : List AgOp → List Nat → List Nat
  | o :: ops, n :: rest => n :: forward wt ops (o.next.foldl (fun l k => raiseAt k (n + wt o) l) rest)
  | _, _ => []

def reach (wt : AgOp → Nat) (base : Nat) (ops : List AgOp) : List Nat := forward wt ops (ops.map fun _ => base)

def stages (o : AgOp) : Nat := if o.op = 0x22 ∨ o.op = 0x23 ∨ o.op = 0x25 then 1 else 0

/-- The backward pass over ops with their S: the cost from each op to the end. -/
def backward (ends : AgOp → Nat → Nat) (cost : AgOp → Nat) : List (AgOp × Nat) → List Nat
  | [] => []
  | (o, n) :: r =>
    let after := backward ends cost r
    (if o.isEnd then ends o n else cost o + (o.next.map fun k => after.getD k 0).foldl max 0) :: after

def endI (o : AgOp) (n : Nat) : Nat := if o.op = 0x06 then 64 + 64 * n else 128
def endL (o : AgOp) (n : Nat) : Nat := if o.op = 0x06 then endI o n + 120 else 248

/-- W and C of an entry (R142). -/
def entryCosts (e : CostEnv) (ops : List AgOp) : Nat × Nat :=
  let l := ops.zip (reach stages 1 ops)
  (256 + e.lmax + 200 + (backward endL (costL e) l).headD 0 + 64, 256 + e.lmax + (backward endI (costI e) l).headD 0 + 64)

/-! ### Order 5: syntax, ops and entries (R126, R129-R132, R137, R143) -/

/-- R126: the fields tile the body from `start`; the index of the first field that breaks a rule. -/
def syntaxErr (all : List SynField) (b : Bytes) : Nat → Nat → List SynField → Option Nat
  | _, _, [] => none
  | k, start, f :: r =>
    let countOk := match all[f.count]? with
      | some g => decide (f.count < k) && g.ty == 1 && decide (g.hi ≤ f.len)
      | none => false
    let good := f.off == start && (readField b k).2 && decide (1 ≤ f.ty) && decide (f.ty ≤ 5)
      && (f.ty != 5 || r.isEmpty) && ((f.ty != 1 && f.ty != 4) || decide (f.lo ≤ f.hi)) && (f.ty != 4 || countOk)
    if good then syntaxErr all b (k + 1) (start + f.len) r else some k

/-- The MODE bits that an op uses (R129). -/
def modeUsed (o : AgOp) : BitVec 9 :=
  if decide (0x0A ≤ o.op) && decide (o.op ≤ 0x15) then 1
  else if decide (0x02 ≤ o.op) && decide (o.op ≤ 0x05) then (if o.f.mode.getLsbD 0 then 0x1FF else 1)
  else if o.op = 0x16 ∨ o.op = 0x17 then 3
  else if o.op = 0x22 then 2
  else 0

def reasonOk (o : AgOp) : Bool := decide (1 ≤ o.skip) && decide (o.skip ≤ 0xFEFF)

/-- Where R131 lets an op stand: in the WAGER or the CANCEL entry, at its place in the entry. -/
def placeOk (wager : Bool) (k : Nat) (o : AgOp) : Bool :=
  if o.op = 0x1F then k == 0
  else if o.op = 0x1C then wager && k == 1
  else if o.op = 0x1D ∨ o.op = 0x1E ∨ o.op = 0x20 ∨ o.op = 0x27 ∨ o.op = 0x26 ∨ o.op = 0x23 then wager && decide (2 ≤ k)
  else if o.op = 0x24 ∨ o.op = 0x25 then !wager
  else true

/-- Operands in range (R129, R130, R132, R136, R144 order 5). -/
def operandsOk (b : Bytes) (o : AgOp) : Bool :=
  let imm := o.f.imm.toNat
  (o.f.mode &&& ~~~(modeUsed o)) == 0
    && (if o.isBranch then imm / 65536 == 0
        else if o.op = 0x18 then decide (imm < iConsts b)
        else if o.op = 0x19 then decide (imm < iTables b)
        else if o.op = 0x1A then decide (imm ≤ 16)
        else if o.op = 0x1D ∨ o.op = 0x1E ∨ o.op = 0x20 then decide (imm < iFields b)
        else if o.op = 0x22 then decide (imm / 65536 < iConsts b)
        else if o.op = 0x07 ∨ o.op = 0x1C then reasonOk o
        else true)

/-- The first op of an entry that breaks a rule, by its place in the entry. (DEDUCED, log 18) -/
def opsErr (b : Bytes) (wager : Bool) : Nat → List AgOp → Option Nat
  | _, [] => none
  | k, o :: r =>
    let inside := !o.isBranch || decide (o.skip < r.length)
    if decide (o.op ≤ 0x27) && placeOk wager k o && operandsOk b o && inside then opsErr b wager (k + 1) r else some k

/-- An entry ends in an end op and keeps the path limits and the bound on W (R137, R143). -/
def entryOk (e : CostEnv) (ops : List AgOp) : Bool :=
  (match ops.getLast? with
   | some o => o.isEnd
   | none => false)
    && ((ops.zip (reach (fun o => if o.op = 0x22 then 1 else 0) 0 ops)).all fun p => decide (p.2 + (if p.1.op = 0x22 then 1 else 0) ≤ 8))
    && ((ops.zip (reach (fun o => if o.op = 0x23 ∨ o.op = 0x25 then 1 else 0) 0 ops)).all fun p =>
        decide (p.2 + (if p.1.op = 0x23 ∨ p.1.op = 0x25 then 1 else 0) ≤ 1))
    && decide ((entryCosts e ops).1 ≤ 1000000)

def ascending64 : List W64 → Bool
  | x :: y :: r => x.ult y && ascending64 (y :: r)
  | _ => true

def firstIdx {α : Type} (p : α → Bool) : Nat → List α → Option Nat
  | _, [] => none
  | k, x :: r => if p x then some k else firstIdx p (k + 1) r

/-- The entries: WAGER, and CANCEL where there is one, with the op index at which each begins. -/
def entriesOf (b : Bytes) : List (Bool × Nat × List AgOp) :=
  let ops := imageOps b
  if iHasCancel b then [(true, 0, ops.take (iCancel b)), (false, iCancel b, ops.drop (iCancel b))] else [(true, 0, ops)]

def costEnv (b : Bytes) (tables : List (List W64)) : CostEnv := { lmax := iLmax b, fields := imageFields b, tables := tables }

/-- The declared W and C of an entry (R121). -/
def declared (b : Bytes) (wager : Bool) : Nat × Nat := if wager then (rd b 36 4, rd b 40 4) else (rd b 44 4, rd b 48 4)

/-- The op or field index of the first structural fault (R144 order 5). (DEDUCED, log 28) -/
def structErr (b : Bytes) (tables : List (List W64)) : Option Nat :=
  let e := costEnv b tables
  let es := entriesOf b
  match syntaxErr (imageFields b) b 0 0 (imageFields b) with
  | some k => some k
  | none =>
    match es.findSome? fun x => (opsErr b x.1 0 x.2.2).map (x.2.1 + ·) with
    | some k => some k
    | none =>
      match firstIdx (fun t => !ascending64 t) 0 tables with
      | some k => some k
      | none =>
        match es.find? fun x => !entryOk e x.2.2 || entryCosts e x.2.2 != declared b x.1 with
        | some x => some x.2.1
        | none => if iHasCancel b || declared b false == (0, 0) then none else some 0

/-! ### Orders 1 to 5 (R144, R148) -/

/-- The version floor of a handle under an owner id (R147). -/
def floorOf (s : State) (id handle : Nat) : Option Nat :=
  (s.flash.floors.find? fun f => f.1.toNat == id && f.2.1 == handle).map (·.2.2)

/-- VERSION passes order 4; the recheck at start-up refuses only a version below the floor (R148). -/
def versionOk (s : State) (recheck : Bool) (b : Bytes) : Bool :=
  match floorOf s (iOwner b) (iHandle b) with
  | none => true
  | some f => if recheck then decide (f ≤ iVersion b) else decide (f < iVersion b)

/-- The order of R144, 1 to 5, that refuses an image of an owner, and the index of order 5. The vendor's test life
cycle state BLANK loads without signatures. (DEDUCED, log 28) -/
def imageErr (recheck : Bool) (owner : Nat) (b : Bytes) (s : State) : Option (Nat × Nat) :=
  let w := ownerOf s owner
  if !formGood b then some (1, 0)
  else if w.enrolled == 0 || w.id.toNat != iOwner b || (iHasRegulator b && (s.life.codeKeys.atD owner (none, none)).2.isNone) then
    some (2, 0)
  else if s.life.decided != 0 && !signaturesOk s owner b then some (3, 0)
  else if !versionOk s recheck b then some (4, 0)
  else if iOps b = 0 then none
  else match imageParts b with
    | some (tables, _, _) => (structErr b tables).map fun k => (5, k)
    | none => none

/-- The loaded form of an image that passes. -/
def bookOfImage (owner : Nat) (b : Bytes) : Book :=
  let (tables, d, _) := (imageParts b).getD ([], 0, [])
  let e := costEnv b tables
  let cost := fun (wager : Bool) => (((entriesOf b).find? fun x => x.1 == wager).map fun x => entryCosts e x.2.2).getD (0, 0)
  { owner := owner, ownerId := BitVec.ofNat 64 (iOwner b), handle := iHandle b, version := iVersion b, digest := d
    lmax := iLmax b, fields := imageFields b, ops := imageOps b, consts := words64 (iConsts b) (b.drop (constsAt b))
    tables := tables, cancel := if iHasCancel b then some (iCancel b) else none
    wWager := (cost true).1, cWager := (cost true).2, wCancel := (cost false).1, cCancel := (cost false).2
    bytes := b.length, draining := false }

/-! ### Loading (R123, R144-R147) -/

/-- The RESULT of an order (R144). -/
def orderResult (k : Nat) : Status :=
  match k with
  | 1 => .paramInvalid
  | 3 => .authFail
  | 5 => .paramInvalid
  | _ => .policy

/-- Event 0x0402. -/
def refusedBook (owner handle order idx : Nat) (s : State) : State :=
  event 0x0402 owner ([(2, handle), (1, order)] ++ (if order = 5 then [(2, idx)] else [])) s

def refuseImage (order idx : Nat) (s : State) : State :=
  endBulk (orderResult order) (refusedBook s.bulk.owner (iHandle s.bulk.data) order idx s)

/-- (DEDUCED, log 28) -/
def runsVersion (b : Book) (i : Item) : Bool := i.owner == b.owner && i.handle == b.handle && i.version == b.version

/-- A version still has work: wagers in flight run it. -/
def bookBusy (s : State) (b : Book) : Bool := s.adm.items.any (runsVersion b)

/-- R123: one more loaded image fits. The version that it replaces counts while it has work. -/
def roomForBook (s : State) (b : Book) : Bool :=
  let kept := s.eng.books.filter fun x => !(x.owner == b.owner && x.handle == b.handle && !x.draining && !bookBusy s x)
  decide (kept.length < 512) && decide (kept.foldl (fun n x => n + x.bytes) 0 + b.bytes ≤ 2 ^ 23)

/-- Order 7: the budgets with the new figures, which count where the handle is bound to a game (R93). (DEDUCED, log 28) -/
def bookFits (s : State) (b : Book) : Bool :=
  let s' := { s with eng := { s.eng with books := b :: s.eng.books.filter fun x => !(x.owner == b.owner && x.handle == b.handle) } }
  budgetErr s' (budgetsOf s') == 0

/-- The floor and the image of an accepted version in user flash (R145, R147). -/
def storeImage (b : Book) (image : Bytes) (s : State) : State :=
  { s with flash := { s.flash with
    books := (s.flash.books.filter fun x => !(x.1 == b.owner && x.2.1 == b.handle)) ++ [(b.owner, b.handle, image)]
    floors := (b.ownerId, b.handle, b.version) :: s.flash.floors.filter fun x => !(x.1 == b.ownerId && x.2.1 == b.handle) } }

def loadedEvent (b : Book) (s : State) : State :=
  event 0x0401 b.owner [(1, b.owner), (2, b.handle), (4, b.version), (8, b.digest.toNat % 2 ^ 64)] s

/-- A handle that was not loaded: its leaf, event and end of the session (R145). -/
def loadNew (b : Book) (s : State) : State :=
  let s := sealNow (rulebookLeaf b.owner b.handle b.version b.digest 1) (replayNone s) s
  let s := storeImage b s.bulk.data { s with eng := { s.eng with books := s.eng.books ++ [b] } }
  bulkDone (loadedEvent b s)

/-- Retirement of a loaded handle that no game names (R147). -/
def retireBook (owner : Nat) (image : Bytes) (s : State) : State :=
  let h := iHandle image
  let b := bookOfImage owner image
  if (bookOf s owner h).isNone || (s.adm.games.any fun g => g.owner == owner && g.rulebook == h) then refuseImage 8 0 s
  else
    let s := sealNow (rulebookLeaf owner h b.version b.digest 3) (replayNone s) s
    let s := storeImage b image s
    let s := { s with
      flash := { s.flash with books := s.flash.books.filter fun x => !(x.1 == owner && x.2.1 == h) }
      eng := { s.eng with books := (s.eng.books.map fun x =>
        if x.owner == owner && x.handle == h then { x with draining := true } else x).filter fun x =>
          !(x.owner == owner && x.handle == h) || bookBusy s x } }
    bulkDone (event 0x0409 owner [] s)

/-- Verification of a rulebook session ends (R144). A new version of a loaded handle goes on to wait for its
switch. -/
def doRulebookLoad (s : State) : State :=
  let owner := s.bulk.owner
  let image := s.bulk.data
  match imageErr false owner image s with
  | some (k, i) => refuseImage k i s
  | none =>
    if iOps image = 0 then retireBook owner image s
    else
      let b := bookOfImage owner image
      if !roomForBook s b then refuseImage 6 0 s
      else if !bookFits s b then refuseImage 7 0 s
      else if (bookOf s owner b.handle).isSome then { s with eng := { s.eng with waiting := some b } }
      else loadNew b s

def execRulebookLoad (s : State) : Res :=
  .next (when (inService s && bulkVerifying s 1 && s.eng.waiting.isNone && canNumber s) doRulebookLoad s)

/-- The switch of a loaded handle to a new version at one admission step (R146). -/
def switchBook (old b : Book) (s : State) : State :=
  let (st, s) := issue b.owner s
  let s := sealLeaf st (rulebookLeaf b.owner b.handle b.version b.digest 2) (replayNone s) s
  let keepOld := if bookBusy s old then [{ old with draining := true }] else []
  let s := { s with eng := { s.eng with
    waiting := none
    books := (s.eng.books.filter fun x => !(x.owner == b.owner && x.handle == b.handle)) ++ keepOld ++ [b] } }
  let s := loadedEvent b (storeImage b s.bulk.data s)
  bulkDone (event 0x0403 b.owner [(2, b.handle), (4, old.version), (4, b.version), (8, st.seq)] s)

/-- Owner and handle name the version that waits; it waits on while an older version drains (R146). An image whose
owner was retired meanwhile is refused as by order 2. -/
def doRulebookSwitch (owner handle : Nat) (s : State) : State :=
  match s.eng.waiting with
  | none => s
  | some b =>
    if b.owner != owner || b.handle != handle then s
    else if s.eng.books.any fun x => x.owner == owner && x.handle == handle && x.draining then s
    else match bookOf s owner handle with
      | none => refuseImage 2 0 { s with eng := { s.eng with waiting := none } }
      | some old => switchBook old b s

def execRulebookSwitch (owner handle : Nat) (s : State) : Res :=
  .next (when (inService s && bulkVerifying s 1 && canNumber s) (doRulebookSwitch owner handle) s)

/-- The last wager of a draining version has completed (R146). -/
def doRulebookDrainEnd (owner handle : Nat) (s : State) : State :=
  { s with eng := { s.eng with books := s.eng.books.filter fun x =>
    !(x.owner == owner && x.handle == handle && x.draining && !bookBusy s x) } }

def execRulebookDrainEnd (owner handle : Nat) (s : State) : Res :=
  .next (when (alive s) (doRulebookDrainEnd owner handle) s)

/-! ### Reload at start-up (R148, R165) -/

/-- Reload one image of user flash, or record why not. -/
def reloadOne (x : Nat × Nat × Bytes) (s : State) : State :=
  match imageErr true x.1 x.2.2 s with
  | some (k, i) => refusedBook x.1 x.2.1 k i s
  | none => { s with eng := { s.eng with books := s.eng.books ++ [bookOfImage x.1 x.2.2] } }

def reloadBooks (s : State) : State := s.flash.books.foldl (fun st x => reloadOne x st) s

/-- The presence leaves of the first departure (R165). -/
def presenceLeaves (s : State) : State :=
  s.eng.books.foldl (fun st b => sealNow (rulebookLeaf b.owner b.handle b.version b.digest 4) (replayNone st) st) s

end Sys2Proof.Machine
end

