-- ==== Sys2Proof/Machine/VaultMemory.lean ====
section
/-! DEFINITION. Error correction and the patrol scrub (R188-R192), owner partitions (R194), checkpoints (R212-R216),
the power-fail record (R219, R220), settlement loads (R209), and restore (R221-R225, R469). -/

namespace Sys2Proof.Machine

/-! ### Error correction (R188, R190-R192) -/

/-- The integrity stop, until reset (R188). -/
def stopVault (s : State) : State := event 0x0603 0 [] { s with vm := { s.vm with stopped := true } }

/-- The 40 symbols of the codeword of a line: data symbols 0-31 are bytes 2s and 2s + 1, then 8 parity symbols (R189). -/
def codeword (line : Bytes) : List Nat :=
  let b := padTo 64 line ++ le 16 (Config.rsParity line).toNat
  (List.range 40).map fun s => rd b (2 * s) 2

/-- Symbol and bit of a beat on a DQ line: symbol 4d + j holds beats 4j to 4j + 3 of the four lines of device d,
beat-major (R189). -/
def symbolBit (beat dq : Nat) : Nat × Nat := (4 * (dq / 4) + beat / 4, 4 * (beat % 4) + dq % 4)

/-- The symbols as DRAM returns them. -/
def received (flips : List (Nat × Nat)) (word : List Nat) : List Nat :=
  flips.foldl (fun w f => let (s, k) := symbolBit f.1 f.2; w.set s (Nat.xor (w.getD s 0) (2 ^ k))) word

/-- The symbols in error. -/
def errorSymbols (word got : List Nat) : List Nat :=
  (List.range 40).filter fun s => word.getD s 0 != got.getD s 0

/-- The patterns that are corrected, and no others (R190): up to 4 symbols, or any of the marked device and up to 2
further ones. A failed device is 4 symbols of one device, and a burst of 49 bits touches at most 4 symbols.
 (DEDUCED, log 47) -/
def correctable (marked : Option Nat) (errs : List Nat) : Bool :=
  decide (errs.length ≤ 4)
    || (match marked with
        | some d => decide ((errs.filter fun s => s / 4 != d).length ≤ 2)
        | none => false)

/-- The device marked as erased in a sub-channel and rank (R191). -/
def markedDevice (s : State) (channel subch rank : Nat) : Option Nat :=
  match s.vm.erased.at? (2 * channel + subch) with
  | some (r, d) => if r = rank then some d else none
  | none => none

/-- The devices whose symbols are in error, ascending. -/
def errorDevices (errs : List Nat) : List Nat := (List.range 10).filter fun d => errs.any fun s => s / 4 == d

/-- Corrections of the last second, and the mark of a device that has 4 of them (R191). A sub-channel shows one mark; a
device is marked only where its sub-channel has none. (DEDUCED, log 47) -/
def noteDevice (channel subch rank dev : Nat) (s : State) : State :=
  let now := opNow s
  let kept : List (Nat × Nat × Nat × Nat × Nat) := (channel, subch, rank, dev, now) :: s.vm.corrections.filter fun c => decide (now ≤ c.2.2.2.2 + 10 ^ 9)
  let s := { s with vm := { s.vm with corrections := kept } }
  let same := kept.filter fun c => c.1 == channel && c.2.1 == subch && c.2.2.1 == rank && c.2.2.2.1 == dev
  let key := 2 * channel + subch
  if decide (4 ≤ same.length) && (s.vm.erased.at? key).isNone then
    event 0x0602 0 [] { s with vm := { s.vm with erased := s.vm.erased.put key (rank, dev) } }
  else s

/-- A corrected codeword is counted once, and for every device it involves (R190, R191). (DEDUCED, log 47) -/
def correctedWord (channel subch rank : Nat) (devs : List Nat) (s : State) : State :=
  let s := bump 0x0A [channel] 0 1 { s with vm := { s.vm with eccCorr := sat32 (s.vm.eccCorr + 1) } }
  devs.foldl (fun st d => noteDevice channel subch rank d st) (event 0x0601 0 [(1, channel), (1, devs.headD 0)] s)

/-- 64-byte lines of raw capacity. -/
def vaultLines (s : State) : Nat := s.vm.rawMib * 16384

/-- The line as DRAM holds it, but for wrong bits: what stands in its place, and the counter line above it (R187). -/
def heldLine (r : LineRead) (a : Nat) (st : LineStore) : LineStore :=
  let st := match r.cipher with
    | some c => { st with lines := st.lines.put a { cipher := c, mac := ((st.lines.at? a).map (·.mac)).getD (zeros 8) } }
    | none => st
  match r.ctrMac with
  | some m => st.putCtr 1 (a / 64) { st.ctr 1 (a / 64) with mac := m }
  | none => st

/-- The MAC of a line and every counter line above it verify (R187, R188). -/
def lineOk (st : LineStore) (a : Nat) : Bool :=
  match st.lines.at? a with
  | some l => l.mac == st.lineMac a l.cipher && LineStore.pathOk st treeTop 0 a
  | none => true

/-- A line is found bad: it is poisoned or has an integrity failure (R188). -/
def badLine (a : Nat) (s : State) : State :=
  stopVault { s with vm := { s.vm with store := { s.vm.store with
    bad := if s.vm.store.bad.contains a then s.vm.store.bad else a :: s.vm.store.bad } } }

/-- R192: the scrub reads the next line, and writes it back where it was corrected. -/
def doPatrolScrub (r : LineRead) (s : State) : State :=
  let a := s.vm.patrol
  let s := { s with vm := { s.vm with patrol := (a + 1) % max 1 (vaultLines s), store := heldLine r a s.vm.store } }
  let word := codeword (((s.vm.store.lines.at? a).map (·.cipher)).getD [])
  let errs := errorSymbols word (received r.flips word)
  if !correctable (markedDevice s r.channel r.subch r.rank) errs then
    badLine a { s with vm := { s.vm with eccUncorr := sat32 (s.vm.eccUncorr + 1) } }
  else
    let s := if errs.isEmpty then s else correctedWord r.channel r.subch r.rank (errorDevices errs) s
    if lineOk s.vm.store a then s else badLine a s

def execPatrolScrub (r : LineRead) (s : State) : Res := .next (when (portsRun s) (doPatrolScrub r) s)

/-! ### Partitions (R185, R194, R195) -/

/-- Units that can be assigned to owners. -/
def assignable (s : State) : Nat := (s.vm.usableMib - 256) / 64

/-- The units of VMEM_PART, in its order KEYS, COUNTERS, SETTLE, TREE. -/
def partFields (v : W64) : List Nat := [0, 1, 2, 3].map fun k => (v.extractLsb' (16 * k) 16).toNat

def unitsOf (o : Owner) : Nat := o.parts.foldl (· + ·) 0

def assignedUnits (s : State) : Nat := s.adm.owners.foldl (fun n p => n + unitsOf p.2) 0

/-- The places of an owner's counters and terminals, and of its tickets, in areas of other sizes (R194, R195). -/
def relaidCounters (s : State) (o units : Nat) : Option Places :=
  Places.insertAll (candidates (ownerOf s o).hashKeys units) (areaCap units) ((counterPlaces s o).map (·.1)) []
def relaidTickets (s : State) (o units : Nat) : Option Places :=
  Places.insertAll (candidates (ownerOf s o).hashKeys units) (areaCap units) ((settlePlaces s o).map (·.1)) []

/-- The owner's content fits areas of these sizes (R194, R196); a KEYS record keeps its index. (DEDUCED, log 29) -/
def contentFits (s : State) (o keys counters settle : Nat) : Bool :=
  (s.vm.keyRecs.all fun r => r.owner != o || r.state == 0 || decide (r.index < keys * 16384))
    && (relaidCounters s o counters).isSome && (relaidTickets s o settle).isSome

/-- The ERR of the first condition of R194 that does not hold; 0 where all hold. (DEDUCED, log 29) -/
def partErr (s : State) (o : Nat) (p : List Nat) : Nat :=
  let k := p.getD 0 0
  let c := p.getD 1 0
  let t := p.getD 2 0
  let tree := p.getD 3 0
  if assignable s < assignedUnits s - unitsOf (ownerOf s o) + (k + c + t + tree) then 1
  else if tree < ceilDiv (k + c + t) 32 ∨ (0 < k + c + t ∧ tree = 0) then 2
  else if ownerLive s o || (ringIs s 0 o .running).isSome || (ringIs s 1 o .running).isSome then 3
  else if !contentFits s o k c t then 4
  else if p.any fun n => decide (4096 < n) then 5
  else 0

/-- An accepted write re-lays the owner's areas in the background; the hash keys are drawn at the owner's first
partition (R195). No owner is selected by 0. -/
def doVmemPartWrite (v : W64) (s : State) : State :=
  let o := s.vm.partSel
  let p := partFields v
  if o = 0 then s
  else
    let e := partErr s o p
    if e ≠ 0 then { s with vm := { s.vm with err := e } }
    else
      let (keys, s) := if (ownerOf s o).hashKeys.isEmpty then drawBytes 32 s else ((ownerOf s o).hashKeys, s)
      let c := (relaidCounters s o (p.getD 1 0)).getD []
      let t := (relaidTickets s o (p.getD 2 0)).getD []
      relayStore (movedTickets o t (movedCounters o c
        (mapOwner o (fun w => { w with parts := p, relaying := true, hashKeys := keys }) s)))

def execVmemPartWrite (v : W64) (s : State) : Res := .next (hostWrite 0x50018 8 (doVmemPartWrite v) s)

def doPartitionRelayEnd (o : Nat) (s : State) : State :=
  if (ownerOf s o).relaying then event 0x0604 o [(1, o)] (mapOwner o (fun w => { w with relaying := false }) s) else s

def execPartitionRelayEnd (owner : Nat) (s : State) : Res := .next (when (alive s) (doPartitionRelayEnd owner) s)

/-! ### Checkpoints (R212-R216) -/

/-- Chunks of a snapshot: the metadata, then each owner's KEYS, COUNTERS and SETTLE areas (R212). -/
def ownerChunks (o : Owner) : Nat := 16384 * (o.parts.getD 0 0 + o.parts.getD 1 0 + o.parts.getD 2 0)
/-- (DESIGN CHOICE, log 44) -/
def snapshotChunks (s : State) : Nat := s.adm.owners.foldl (fun n p => n + ownerChunks p.2) Config.metaChunks

/-- SNAP_REGIONS (R212). -/
def doSnapRegions (w : Work) (s : State) : State :=
  let b := w.input
  let need := 4096 + 4160 * snapshotChunks s
  if rd b 16 8 < need ∨ rd b 24 8 < need then finish w .paramInvalid 0 [] s
  else finish w .ok 0 [] { s with vm := { s.vm with
    regions := some ((rd b 0 8, rd b 16 8), (rd b 8 8, rd b 24 8)), store := { s.vm.store with full := 2 } } }

def execSnapRegions (w : WorkId) (s : State) : Res := .next (withWork w 0x70 doSnapRegions s)

/-- CHECKPOINT_WAIT waits for the next checkpoint that is written (R213). -/
def doCheckpointWait (w : Work) (s : State) : State := { s with vm := { s.vm with waiters := s.vm.waiters ++ [w] } }

def execCheckpointWait (w : WorkId) (s : State) : Res := .next (withWork w 0x71 doCheckpointWait s)

/-- CHECKPOINT_ACK of the newest epoch written begins its flash record, and completes when that is written (R215). -/
def doCheckpointAck (w : Work) (s : State) : State :=
  match s.vm.ckptDone with
  | some c =>
    if rd w.input 0 8 ≠ c.epoch then finish w .paramInvalid 0 [] s
    else beginRecord (recordOf 1 c.epoch c.dep c.lastSeq (c.head.getD 0))
      { s with vm := { s.vm with ackWait := s.vm.ackWait ++ [w] } }
  | none => finish w .paramInvalid 0 [] s

def execCheckpointAck (w : WorkId) (s : State) : Res := .next (withWork w 0x72 doCheckpointAck s)

/-- CHECKPOINT_NOW (R213). -/
def doCheckpointNow (w : Work) (s : State) : State := finish w .ok 0 [] { s with vm := { s.vm with ckptNow := true } }

def execCheckpointNow (w : WorkId) (s : State) : Res := .next (withWork w 0x73 doCheckpointNow s)

/-- A checkpoint is due: asked for, or the period has passed since the last one fell due. -/
def ckptDue (s : State) : Bool :=
  s.vm.ckptNow || decide (s.vm.ckptLast + s.vm.ckptPeriod * 10 ^ 9 ≤ s.clk.run)

/-- The regions given still hold a snapshot (R212). (DESIGN CHOICE, log 44) -/
def regionsFit (s : State) : Bool :=
  match s.vm.regions with
  | some (r0, r1) => decide (4096 + 4160 * snapshotChunks s ≤ min r0.2 r1.2)
  | none => false

/-- R213, R216: the checkpoint starts for the departure that closes next, or is postponed. (DEDUCED, log 17) -/
def doCheckpointStart (s : State) : State :=
  if !s.dep.isOpen || !ckptDue s || s.vm.ckptRunning.isSome then s
  else
    let s := { s with vm := { s.vm with ckptNow := false, ckptLast := s.clk.run } }
    if !regionsFit s || s.vm.epochAck < s.vm.epochWritten then event 0x0607 0 [] s
    else
      let fresh : Nat × Owner → Nat × Owner := fun p => (p.1, { p.2 with pos := p.2.blockNo + 1, posPrev := p.2.blockPrev })
      let s := { s with adm := { s.adm with owners := s.adm.owners.map fresh } }
      let c : Ckpt := { epoch := s.vm.epochWritten + 1, dep := s.dep.number, lastSeq := 0, head := none }
      { s with vm := { s.vm with ckptRunning := some c } }

def execCheckpointStart (t : Nat) (s : State) : Res :=
  .next (when (inService s) (fun s => doCheckpointStart (advance t s)) s)

def snapshotKey (s : State) : Bytes := (slotOf s 3).key

/-! The metadata of the image (R212, R389): its tables as bytes. (DESIGN CHOICE, log 44) -/

/-- What a checkpoint keeps of an owner: the fields that user flash does not. -/
def ownerImage (o : Owner) : Bytes :=
  le 8 o.id.toNat ++ le 8 o.maxUnc ++ le 8 o.cmdCtr ++ le 8 o.origin ++ le 2 o.wlenH ++ padTo 32 o.hashKeys
    ++ o.parts.flatMap (le 2 ·) ++ le 8 o.pos ++ digestBytes o.posPrev

/-- A peer-table entry with its identity public keys. -/
def peerImage (e : Nat × Peer) : Bytes :=
  le 2 e.1 ++ le 2 e.2.ecdsaPub.length ++ le 2 e.2.mldsaPub.length ++ peerBytes e.2 ++ e.2.ecdsaPub ++ e.2.mldsaPub

/-- The game table, the owner states, the adoption table, the peer table and the newest head held from each peer. -/
def metaTables (s : State) : List Bytes :=
  [s.adm.games.flatMap gameBytes,
   (List.range 63).flatMap fun k => ownerImage (ownerOf s (k + 1)),
   s.vm.adopted.flatMap fun a => le 1 a.1 ++ le 1 a.2.1 ++ le 8 a.2.2.toNat,
   s.jct.peers.flatMap peerImage,
   s.dep.newest.flatMap fun h => le 2 h.1 ++ le 8 h.2.1 ++ digestBytes h.2.2]

/-- Owner, area and first line of the chunk k of the areas (R212). -/
def chunkHome (s : State) (k : Nat) : Option (Nat × Nat × Nat) :=
  let base := fun (e : Nat × Nat) => Config.metaChunks + unitsBefore s false e.1 e.2 * 2 ^ 14
  (((List.range 64).flatMap fun o => [(o, 0), (o, 1), (o, 2)]).find? fun e =>
    decide (base e ≤ k) && decide (k < base e + partOf s e.1 e.2 * 2 ^ 14)).map fun e => (e.1, e.2, 64 * (k - base e))

/-- The 4,096 bytes of chunk k of the image. -/
def chunkPlain (s : State) (k : Nat) : Bytes :=
  if k < Config.metaChunks then padTo 4096 (Config.metaLayout (metaTables s) k)
  else match chunkHome s k with
    | some (o, area, b) => (List.range 64).flatMap fun i => areaLine s o area (b + i)
    | none => zeros 4096

/-- A leaf of the state root, held in TREE (R193, R214). -/
def chunkDigest (s : State) (k : Nat) : Digest := sha ((0 : Byte) :: (le 8 k ++ chunkPlain s k))

/-- ROOT (R214). -/
def stateRoot (s : State) : Digest := mth ((List.range (snapshotChunks s)).map (chunkDigest s))

/-- Commit number that a chunk record carries; the metadata is copied with every set applied so far (R213). -/
def chunkNo (s : State) (k : Nat) : Nat := if k < Config.metaChunks then s.vm.commitNo else s.vm.store.commitOf k

/-- The chunks changed since epoch N - 2 was copied, or all of them for a region that holds no such epoch (R212, R216). -/
def changedChunks (s : State) : List Nat :=
  let st := s.vm.store
  (List.range (snapshotChunks s)).filter fun k =>
    decide (0 < st.full)
      || (if k < Config.metaChunks then chunkPlain s k != st.metaOld.getD k []
          else st.dirty.contains k || st.dirtyOld.contains k)

/-- A chunk record is written to its place in a region (R212, R214). -/
def writeChunk (epoch base k commit : Nat) (plain : Bytes) (s : State) : State :=
  let clear := fun (n : Bytes) => le 8 k ++ le 8 epoch ++ le 8 commit ++ n ++ zeros 12
  let ((n, ct, tag), s) := vaultSeal (snapshotKey s) clear plain s
  emit (.dma 0 (base + 4096 + 4160 * k) (ct ++ clear n ++ tag)) s

/-- The copy of epoch N is done: the dirty sets and the metadata move on (R216). -/
def copied (s : State) : State :=
  let st := s.vm.store
  { s with vm := { s.vm with store := { st with
    dirty := [], dirtyOld := st.dirty, metaNew := (List.range Config.metaChunks).map (chunkPlain s), metaOld := st.metaNew
    full := st.full - 1 } } }

/-- Additional data of the manifest: its clear fields (R214). -/
def manifestAad (m : Bytes) : Bytes := m.take 1200 ++ slice m 1328 2752

/-- HASH_KEYS holds 128 bytes: the keys of the first owners that have any; the owner states of the image hold all of
them. (DESIGN CHOICE, log 44) -/
def packedKeys (s : State) : Bytes := padTo 128 ((List.range 63).flatMap fun k => (ownerOf s (k + 1)).hashKeys)

/-- The manifest of a checkpoint (R214). (DESIGN CHOICE, log 44) -/
def manifest (c : Ckpt) (s : State) : Bytes × State :=
  let per := fun (f : Owner → Bytes) => (List.range 63).flatMap fun k => f (ownerOf s (k + 1))
  let head := le 4 0x4D4E4631 ++ le 2 1 ++ zeros 2 ++ le 8 s.otp.deviceId.toNat ++ le 8 c.epoch ++ le 8 c.dep ++ le 8 c.lastSeq
    ++ le 8 (snapshotChunks s) ++ digestBytes s.vm.manifestPrev ++ digestBytes (stateRoot s) ++ digestBytes (c.head.getD 0)
    ++ per (fun o => o.parts.flatMap (le 2 ·)) ++ per (fun o => le 8 o.pos)
  let ((n, ct, tag), s) := vaultSeal (snapshotKey s) (fun n => head ++ zeros 2740 ++ n) (packedKeys s) s
  (head ++ ct ++ zeros 2740 ++ n ++ tag, s)

/-- The oldest CHECKPOINT_WAIT completes with the summary of the checkpoint (R213). -/
def completeWaiter (c : Ckpt) (chunks : Nat) (s : State) : State :=
  match s.vm.waiters with
  | w :: rest =>
    finish w .ok 0 (le 8 c.epoch ++ le 8 c.dep ++ le 8 (c.epoch % 2) ++ le 8 chunks ++ zeros 32)
      { s with vm := { s.vm with waiters := rest } }
  | [] => s

/-- The changed chunks and then the manifest of epoch N are written into region N mod 2, once every commit of D has
applied, and the oldest CHECKPOINT_WAIT completes (R212, R213). (DESIGN CHOICE, log 44) -/
def doCheckpointWritten (s : State) : State :=
  match s.vm.ckptRunning, s.vm.regions with
  | some c, some (r0, r1) =>
    if c.head.isNone then s
    else
      let base := if c.epoch % 2 = 0 then r0.1 else r1.1
      let ks := changedChunks s
      let s := ks.foldl (fun st k => writeChunk c.epoch base k (chunkNo s k) (chunkPlain s k) st) s
      let (m, s) := manifest c s
      let s := copied (emit (.dma 0 base m) s)
      let s := { s with vm := { s.vm with
        ckptRunning := none, ckptDone := some c, epochWritten := c.epoch, manifestPrev := sha m } }
      completeWaiter c ks.length (event 0x0605 0 [(8, c.epoch), (8, c.dep), (8, ks.length)] s)
  | _, _ => s

/-- t is the clock when the last write is done. -/
def execCheckpointWritten (t : Nat) (s : State) : Res :=
  .next (when (inService s) (fun s => doCheckpointWritten (advance t s)) s)

/-! ### Power fail (R158, R219, R220, R501) -/

/-- PWR_FAIL_N asserts: fetching stops, the open departure closes early, and the TYPE 2 record is begun. With no
departure open there is nothing to record. (DEDUCED, log 17) -/
def doPwrFailNAssert (s : State) : State :=
  let s := freezeNewest { s with sys := { s.sys with pwrFail := true }, adm := { s.adm with stopFetch := true } }
  if !tickLive s then s
  else
    let r := recordOf 2 s.vm.epochAck s.dep.number (s.adm.nextSeq - 1) 0
    match tickBlocked s with
    | some c => beginRecord r (noteCause c s)
    | none => beginRecord r (insertTick true false s)

def execPwrFailNAssert (t : Nat) (s : State) : Res :=
  .next (when (s.sys.state != .off && !s.sys.pwrFail) (fun s => doPwrFailNAssert (advance t s)) s)

/-- PWR_FAIL_N deasserts while power stays: a TYPE 4 record is written, and then fetching resumes (R220). With no TYPE 2
record to supersede it resumes at once. -/
def doPwrFailNDeassert (s : State) : State :=
  let s := { s with sys := { s.sys with pwrFail := false } }
  let had := s.flash.writing.any (fun r => r.type == 2) || lastIssued s
  if had && s.dep.isOpen then beginRecord (recordOf 4 s.vm.epochAck 0 0 0) s
  else { s with adm := { s.adm with stopFetch := s.sys.stableBusy } }

def execPwrFailNDeassert (s : State) : Res := .next (when (s.sys.state != .off && s.sys.pwrFail) doPwrFailNDeassert s)

/-! ### Settlement loads (R197, R209) -/

def loadCount (b : Bytes) : Nat := rd b 24 8
def loadEnd (b : Bytes) : Nat := 64 + 32 * loadCount b

/-- Magic, format, reserved fields and length, with the zero bytes that fill the image up to a multiple of 4. (DEDUCED, log 26) -/
def loadFormOk (b : Bytes) : Bool :=
  let n := loadEnd b + (if rd b 6 2 = 1 then 2 * blockLen else blockLen)
  rd b 0 4 == 0x53544C31 && rd b 4 2 == 1 && decide (rd b 6 2 ≤ 1) && allZero b 32 32 && decide (n ≤ b.length)
    && decide (b.length < n + 4) && allZero b n 4

def loadDigest (b : Bytes) : Digest := sha (b.take (loadEnd b))

def loadSigned (s : State) (owner : Nat) (b : Bytes) : Bool :=
  let (ok, rk) := s.life.codeKeys.atD owner (none, none)
  let own := slice b (loadEnd b) blockLen
  (match ok with
   | some k => codeBlockOk k "SOLNY OWNER" (loadDigest b) own
   | none => false)
  && (match rk with
      | some k => rd b 6 2 == 1
          && codeBlockOk k "SOLNY REGULATOR" (sha (digestBytes (loadDigest b) ++ own)) (slice b (loadEnd b + blockLen) blockLen)
      | none => true)

/-- One entry of R197. -/
def ticketAt (owner : Nat) (b : Bytes) (off : Nat) : Ticket :=
  let si := rd b (off + 30) 1
  { issuer := si / 8 % 16, seq := rd b off 8, amount := BitVec.ofNat 64 (rd b (off + 8) 8), data := BitVec.ofNat 64 (rd b (off + 16) 8)
    game := rd b (off + 24) 4, payer := rd b (off + 28) 2, pending := decide (128 ≤ si), state := si % 8, owner := owner }

def loadEntries (owner : Nat) (b : Bytes) : List Ticket :=
  (List.range (loadCount b)).map fun k => ticketAt owner b (64 + 32 * k)

def ascendingSeqs : List Ticket → Bool
  | x :: y :: r => decide (x.seq < y.seq) && ascendingSeqs (y :: r)
  | _ => true

/-- The adopted index of the load's ISSUER_ID. -/
def loadIssuer (s : State) (owner : Nat) (b : Bytes) : Option Nat :=
  (s.vm.adopted.find? fun a => a.1 == owner && a.2.2.toNat == rd b 16 8).map (·.2.1)

def doSettlementLoad (s : State) : State :=
  let o := s.bulk.owner
  let b := s.bulk.data
  let es := loadEntries o b
  if !loadFormOk b then endBulk .paramInvalid s
  else if s.life.decided != 0 && !loadSigned s o b then endBulk .authFail s
  else match loadIssuer s o b with
    | none => endBulk .policy s
    | some x =>
      if (ownerOf s o).enrolled == 0 || (ownerOf s o).id.toNat != rd b 8 8
          || (s.vm.tickets.any fun t => t.owner == o && t.issuer == x) then endBulk .policy s
      else if !ascendingSeqs es || es.any fun t => decide (4 < t.state) || t.issuer != 0 || t.pending then endBulk .paramInvalid s
      else if (settleInsert s o (es.map fun t => ticketKey x t.seq)).isNone then endBulk .sealedReject (noteFull o 2 s)
      else
        let epoch := (match s.vm.ckptRunning with
          | some c => c.epoch
          | none => s.vm.epochWritten) + 1
        syncVault s (es.foldl (fun st t => putTicket { t with issuer := x, pending := true } st)
          { s with vm := { s.vm with load := some (o, x, loadDigest b, epoch), ckptNow := true } })

def execSettlementLoad (s : State) : Res :=
  .next (when (inService s && bulkVerifying s 4 && s.vm.load.isNone) doSettlementLoad s)

/-- The load goes live at one admission step once the checkpoint that holds it is acknowledged. -/
def doSettlementLoadLive (s : State) : State :=
  match s.vm.load with
  | none => s
  | some (o, x, d, epoch) =>
    if s.vm.epochAck < epoch then s
    else
      let id := ((s.vm.adopted.find? fun a => a.1 == o && a.2.1 == x).map (·.2.2.toNat)).getD 0
      let s := commitSet s { s with vm := { s.vm with
        load := none, tickets := s.vm.tickets.map fun t => if t.owner == o && t.issuer == x then { t with pending := false } else t } }
      let s := sealNow { subject := 0x7F, arg := d.toNat % 2 ^ 64, kind := 0x07, owner := o }
        (replayBytes { misc := some (4, le 1 x) } s) s
      bulkDone (event 0x060E o [(8, id)] s)

def execSettlementLoadLive (s : State) : Res :=
  .next (when (inService s && bulkVerifying s 4 && canNumber s) doSettlementLoadLive s)

/-! ### Entering service (R29, R92, R148, R154, R165, R174, R218) -/

/-- The first numbers of a start-up (R92, R174); a gap records event 0x0309 with the value it lies above and the new
one. (DEDUCED, log 46) -/
def startNumbers (seq dep base : Nat) (prev : Digest) (gap : Bool) (s : State) : State :=
  let s := { s with
    adm := { s.adm with nextSeq := seq, firstSeq := seq, durSeq := none }
    dep := { s.dep with number := dep, prevHead := prev, head := prev, seqGap := gap } }
  if gap then event 0x0309 0 [(8, base), (8, seq)] s else s

/-- The next multiple of m strictly above n. -/
def multipleAbove (m n : Nat) : Nat := (n / m + 1) * m

/-- The numbers after a gap (R92, R174), above the marks in flash and what was verified. (DEDUCED, log 46) -/
def gapNumbers (lastSeq lastDep : Nat) (prev : Digest) (s : State) : State :=
  let base := max (seqHigh s) lastSeq
  startNumbers (multipleAbove (2 ^ 32) base) (multipleAbove (2 ^ 16) (max (depHigh s) lastDep)) base prev true s

/-- The TYPE 3 record that R218 writes before admission opens. (DEDUCED, log 46) -/
def firstMarks (s : State) : State :=
  putRecord (recordOf 3 s.vm.epochAck 0 0 0) (s.adm.nextSeq + 2 ^ 31) (s.dep.number + 2 ^ 16) (s.keys.nextAccord + 2 ^ 16) s

/-- R148: every restored game whose rulebook is not loaded is closed, with one GAME leaf. -/
def closeOrphans (s : State) : State :=
  (s.adm.games.filter fun g => (bookOf s g.owner g.rulebook).isNone).foldl (fun st g =>
    let g' := { g with live := false, reason := 0x04 }
    let st := setGame g' st
    sealNow { subject := g.id, arg2 := g.closeT, arg3 := 0x61, kind := 0x04, owner := g.owner }
      (replayBytes { misc := some (1, gameBytes g') } st) st) s

/-- R419: the first READY or DEGRADED on an image with RAISE_SVN raises the floor and programs its REVOKE bits. -/
def raiseSvn (s : State) : State :=
  match s.life.fw with
  | none => s
  | some b =>
    let floor := max s.life.svnFloor (fwSvn b)
    let rev := s.life.revoke ||| fwRevoke b
    if rd b 6 2 % 2 = 0 ∨ (floor = s.life.svnFloor ∧ rev = s.life.revoke) then s
    else event 0x0109 0 [] { s with life := { s.life with svnFloor := floor, revoke := rev } }

/-- 1 s above the TAI of the newest mirror record that carries one; 0 where none does (R157). -/
def mirrorTai (s : State) : Nat :=
  match ((sortBy (fun m => m.ev.seq) s.flash.mirror).reverse.find? fun m => m.ev.tai != 0) with
  | some m => m.ev.tai + 10 ^ 9
  | none => 0

/-- Enter READY, or DEGRADED where a die is missing: the first departure opens, and its presence leaves are sealed. (DEDUCED, log 46) -/
def enterService (s : State) : State :=
  let s := { s with adm := { s.adm with lastT := max s.adm.lastT s.clk.floorT } }
  let s := openFirst (enterDev (if fullService s then .ready else .degraded) (firstMarks s))
  raiseSvn (presenceLeaves (closeOrphans s))

/-! ### The restore stream (R221-R224) -/

def sChunks (b : Bytes) : Nat := rd b 8 8
def sRecords (b : Bytes) : Nat := rd b 16 8
def sBlocks (b : Bytes) : Nat := rd b 24 8
def sManifest (b : Bytes) : Bytes := slice b 64 4096
def sChunk (b : Bytes) (k : Nat) : Bytes := slice b (4160 + 4160 * k) 4160
def sTail (b : Bytes) : Nat := 4160 + 4160 * sChunks b
def recordsOf (b : Bytes) : List Bytes := (List.range (sRecords b)).map fun k => slice b (sTail b + 4096 * k) 4096
def blocksOf (b : Bytes) : List Bytes :=
  (List.range (sBlocks b)).map fun k => slice b (sTail b + 4096 * (sRecords b + k)) 4096

/-- (DEDUCED, log 45) -/
def streamFormOk (b : Bytes) : Bool :=
  rd b 0 4 == 0x52535431 && rd b 4 2 == 1 && allZero b 6 2 && allZero b 32 32
    && b.length == 64 + 4096 + 4160 * sChunks b + 4096 * (sRecords b + sBlocks b)

/-- Row 1 of R222. -/
def manifestOk (s : State) (m : Bytes) : Bool :=
  (gcmOpen (snapshotKey s) (slice m 4068 12) (manifestAad m) (slice m 1200 128) (slice m 4080 16)).2
    && rd m 8 8 == s.otp.deviceId.toNat

/-- A chunk's plaintext, and whether its TAG verifies. -/
def chunkOpen (s : State) (c : Bytes) : Bytes × Bool :=
  gcmOpen (snapshotKey s) (slice c 4120 12) (slice c 4096 48) (c.take 4096) (slice c 4144 16)

/-- Row 3 of R222: TAGs, INDEX order and ROOT. -/
def chunksOk (s : State) (b : Bytes) : Bool :=
  let cs := (List.range (sChunks b)).map (sChunk b)
  let leaves := cs.map fun c => sha ((0 : Byte) :: (slice c 4096 8 ++ (chunkOpen s c).1))
  cs.all (fun c => (chunkOpen s c).2) && cs.map (fun c => rd c 4096 8) == List.range (sChunks b)
    && sChunks b == rd (sManifest b) 40 8 && digestBytes (mth leaves) == slice (sManifest b) 96 48

def recHead (r : Bytes) : Digest := sha (r.take 688)
def recDep (r : Bytes) : Nat := rd r 16 8

/-- The signatures of a record verify under the departure pair held, or the rolled pair that waits. (DEDUCED, log 45) -/
def recSigned (s : State) (r : Bytes) : Bool :=
  let m := r.take 688
  let by2 := fun (i j : Nat) =>
    let p := pairPubs (slotOf s i).key (slotOf s j).key
    Config.verify schemeEcdsa p.1 m (slice r 688 96) && Config.verify schemeMldsa p.2 (inContext [] m) (slice r 784 3309)
  by2 5 6 || by2 7 8

/-- Row 5 of R222: the records from D on that verify and chain; `prior` are those accepted, newest first. (DEDUCED, log 45) -/
def chainFrom (s : State) : List Bytes → List Bytes → List Bytes
  | _, [] => []
  | prior, r :: rest =>
    let prev := slice r 104 48
    let next := match prior.head? with
      | some p => prev == digestBytes (recHead p)
      | none => true
    let again := (rd r 6 2) / 16 % 2 == 1 && prior.any fun p => prev == digestBytes (recHead p)
    if recSigned s r && (next || again) then r :: chainFrom s (r :: prior) rest else []

/-- A block as written: without its padding. -/
def blockBody (b : Bytes) : Bytes := b.take (64 * (2 + rd b 24 2 + rd b 26 2))

/-- The leaves and replay records of a block; none where its TAG fails. -/
def blockOpen (s : State) (b : Bytes) : Option (Bytes × Bytes) :=
  let o := rd b 4 1
  let lu := 64 * rd b 24 2
  let leaves := slice b 128 lu
  let v := rootAt s o (rd leaves 0 8)
  match v.key with
  | none => none
  | some root =>
    let key := clauseKey root (clause v.id.toNat 0x0007 s.otp.deviceId.toNat 0)
    let (pt, ok) := gcmOpen key (slice b 80 12) (b.take 112 ++ leaves) (slice b (128 + lu) (64 * rd b 26 2)) (slice b 112 16)
    if ok && rd b 0 4 == 0x4A524E31 then some (leaves, pt) else none

/-- The accepted blocks of one owner, each chained to the one before (row 6 of R222). The block at JOURNAL_POS chains to
the one that the image names, and none before it is missing. (DEDUCED, log 45) -/
def acceptBlocks (s : State) (pos : Nat) (posPrev : Digest) : Option (Nat × Digest) → List Bytes → List Bytes
  | _, [] => []
  | prev, b :: rest =>
    let chained := match prev with
      | none => decide (rd b 8 8 ≤ pos)
      | some (n, d) => rd b 8 8 == n + 1 && slice b 32 48 == digestBytes d
    let anchored := rd b 8 8 != pos || slice b 32 48 == digestBytes posPrev
    if (blockOpen s b).isSome && chained && anchored then
      b :: acceptBlocks s pos posPrev (some (rd b 8 8, sha (blockBody b))) rest
    else []

/-- Leaf records in clear, cut by their LEN. -/
def cutLeaves : Nat → Bytes → List Bytes
  | 0, _ => []
  | n + 1, b => if b.length < 64 then [] else let k := 64 * (if rd b 61 1 = 2 then 2 else 1); b.take k :: cutLeaves n (b.drop k)

/-- Replay records, cut by their headers. -/
def replayLen (b : Bytes) : Nat :=
  16 + 16 * (if rd b 3 1 = 1 then 1 else 0) + (if rd b 1 1 = 0 then 0 else 24) + 16 * rd b 0 1 + (if rd b 2 1 = 0 then 0 else 32)

def cutReplays : Nat → Bytes → List Bytes
  | 0, _ => []
  | n + 1, b => b.take (replayLen b) :: cutReplays n (b.drop (replayLen b))

/-- Leaf and replay record of every entry of a block. -/
def entriesOfBlock (s : State) (b : Bytes) : List (Bytes × Bytes) :=
  match blockOpen s b with
  | some (l, r) => (cutLeaves (rd b 6 2) l).zip (cutReplays (rd b 6 2) r)
  | none => []

/-- ROOT of a record rebuilt from the leaves that its sequence numbers name (R168, R222). -/
def rebuilds (es : List (Bytes × Bytes)) (r : Bytes) : Bool :=
  let mine := es.filter fun e => decide (rd r 80 8 ≤ rd e.1 0 8) && decide (rd e.1 0 8 ≤ rd r 88 8)
  let hs := mine.map fun e => ({ seq := rd e.1 0 8, dep := 0, subtree := rd e.1 62 1, hash := leafHash e.1 } : LeafHash)
  digestBytes (depRoot 0 hs) == slice r 152 48

/-- The record of v: the last of those accepted whose ROOT rebuilds, otherwise D, whose content HEAD proves.
 (DEDUCED, log 45) -/
def restoredTo (es : List (Bytes × Bytes)) (d : Bytes) (chain : List Bytes) : Bytes :=
  ((chain.filter (rebuilds es)).getLast?).getD d

/-! ### Replay (R211, R212, R223) -/

/-- The owner state that the metadata of an image holds. (DESIGN CHOICE, log 44) -/
opaque Config.imageOwner : Bytes → Nat → Owner
/-- Its games. (DESIGN CHOICE, log 44) -/
opaque Config.imageGames : Bytes → List Game
/-- Its adopted devices. (DESIGN CHOICE, log 44) -/
opaque Config.imageAdopted : Bytes → List (Nat × Nat × W64)
/-- Its peer table. (DESIGN CHOICE, log 44) -/
opaque Config.imagePeers : Bytes → List (Nat × Peer)
/-- Its newest heads of peers. (DESIGN CHOICE, log 44) -/
opaque Config.imageNewest : Bytes → List (Nat × Nat × Digest)

/-- The records of one area of an image, 32 bytes each, with their buckets; a place that holds nothing is all 0. -/
def areaRecords (img : Bytes) (off units : Nat) : List (Nat × Bytes) :=
  ((List.range (units * 2 ^ 21)).map fun k => (k / 2, slice img (off + 32 * k) 32)).filter fun r => !allZero r.2 0 32

/-- (DEDUCED, log 45) -/
def limitAt (owner : Nat) (e : Nat × Bytes) : LimitCtr :=
  let r := e.2
  { owner := owner, id := rd r 0 8, value := rd r 8 8, limit := rd r 16 8, window := rd r 24 4, wlenH := rd r 28 2, bucket := e.1 }

def terminalAt (owner : Nat) (r : Bytes) : Terminal := { owner := owner, id := rd r 0 8, tense := rd r 8 4, ctr := rd r 12 4 }

def keyRecAt (owner k : Nat) (r : Bytes) : KeyRec :=
  { owner := owner, index := k, attr := BitVec.ofNat 64 (rd r 0 8), gen := rd r 8 2, state := rd r 10 1
    payload := slice r 64 (rd r 12 2), check := slice r 56 8 }

/-- Load one owner's areas from the image at an offset; the offset after them. -/
def loadOwner (img : Bytes) (o : Nat) (acc : Nat × State) : Nat × State :=
  let (off, s) := acc
  let w := ownerOf s o
  let k := w.parts.getD 0 0
  let c := w.parts.getD 1 0
  let t := w.parts.getD 2 0
  let recs := (List.range (16384 * k)).map fun i => keyRecAt o i (slice img (off + 4096 * i) 4096)
  let ctrs := areaRecords img (off + k * 2 ^ 26) c
  let tks := areaRecords img (off + (k + c) * 2 ^ 26) t
  (off + (k + c + t) * 2 ^ 26,
   { s with vm := { s.vm with
      keyRecs := s.vm.keyRecs ++ recs.filter fun r => r.state != 0 || r.gen != 0
      limits := s.vm.limits ++ ((ctrs.filter fun e => rd e.2 30 1 == 1).map (limitAt o))
      terminals := s.vm.terminals ++ ((ctrs.filter fun e => rd e.2 30 1 == 2).map fun e => { terminalAt o e.2 with bucket := e.1 })
      tickets := s.vm.tickets ++ tks.map fun e => { ticketAt o e.2 0 with bucket := e.1 } } })

/-- The owner's state in the image joins what user flash and start-up gave (R212). -/
def mergeOwner (img : Bytes) (m : Bytes) (o : Nat) (s : State) : State :=
  let w := Config.imageOwner img o
  mapOwner o (fun x => { x with
    maxUnc := w.maxUnc, cmdCtr := w.cmdCtr, origin := w.origin, wlenH := w.wlenH, hashKeys := w.hashKeys
    parts := [0, 1, 2, 3].map fun k => rd m (192 + 8 * (o - 1) + 2 * k) 2
    pos := rd m (696 + 8 * (o - 1)) 8, posPrev := w.posPrev
    blockNo := rd m (696 + 8 * (o - 1)) 8 - 1, blockPrev := w.posPrev }) s

/-- The peer table comes back with every session lost, and a handshake begins with its entries (R389, R391).
 (DEDUCED, log 45) -/
def loadPeers (img : Bytes) (s : State) : State :=
  let back := fun (p : Peer) =>
    ({ id := p.id, ecdsaPub := p.ecdsaPub, mldsaPub := p.mldsaPub, flags := p.flags, path0 := p.path0, path1 := p.path1 } : Peer)
  { s with
    jct := { s.jct with peers := (Config.imagePeers img).foldl (fun t e => t.put e.1 (back e.2)) [] }
    dep := { s.dep with newest := Config.imageNewest img } }

/-- The saved image: the plaintext of the chunks. -/
def streamImage (s : State) (b : Bytes) : Bytes := (List.range (sChunks b)).flatMap fun k => (chunkOpen s (sChunk b k)).1

def loadImage (s : State) (b : Bytes) : State :=
  let img := streamImage s b
  let m := sManifest b
  let owners := (List.range 63).map (· + 1)
  let s := owners.foldl (fun st o => mergeOwner img m o st) { s with
    vm := { s.vm with tickets := [], limits := [], terminals := [], keyRecs := [], adopted := Config.imageAdopted img }
    adm := { s.adm with games := Config.imageGames img } }
  loadPeers img (owners.foldl (fun acc o => loadOwner img o acc) (Config.metaChunks * 4096, s)).2

/-- The commit number of chunk k's record (R214, R223). -/
def chunkCommit (b : Bytes) (k : Nat) : Nat := rd (sChunk b k) 4112 8

/-- The commit number of the chunk that a ticket, counter or terminal lies in, or would be inserted in (R223). -/
def ticketCommit (b : Bytes) (s : State) (o key : Nat) : Nat :=
  chunkCommit b (chunkAt s o 2 (Places.bucket ((settleInsert s o [key]).getD (settlePlaces s o)) key 0))
def counterCommit (b : Bytes) (s : State) (o key : Nat) : Nat :=
  chunkCommit b (chunkAt s o 1 (Places.bucket ((counterInsert s o [key]).getD (counterPlaces s o)) key 0))

/-- The counter part: each delta moves the counter of t's window (R205). A counter that the record creates takes the
default limit of its rulebook, which no copy carries: a free value. (DEDUCED, log 45) -/
def replayCounter (b : Bytes) (o t commit : Nat) (c : Bytes) (s : State) : State :=
  let id := rd c 0 8
  let d := (BitVec.ofNat 64 (rd c 8 8)).toInt
  let (fresh, s) := freeNat s
  if commit ≤ counterCommit b s o (limitKey id) ∨ windowPast s o id t then s
  else
    let x := match limitOf s o id with
      | some x => { x with value := windowValue s o id t, window := windowIndex (ownerOf s o).origin x.wlenH t }
      | none => { counterAt s o id t 0 with limit := fresh % 2 ^ 64 }
    putLimit { x with value := ((x.value : Int) + d).toNat % 2 ^ 64 } s

def replayNonce (b : Bytes) (o commit : Nat) (p : Bytes) (s : State) : State :=
  if nonceAdvances s o (rd p 0 8) (rd p 8 4) (rd p 12 4) && decide (counterCommit b s o (terminalKey (rd p 0 8)) < commit) then
    putTerminal (terminalAt o p) s
  else s

/-- The ticket part: the ticket is the leaf's own number for an insert, and the one the leaf names otherwise. -/
def replayTicketPart (b : Bytes) (o commit : Nat) (leaf p : Bytes) (tk : Nat) (s : State) : State :=
  let q := if tk = 1 then rd leaf 0 8 else rd leaf 24 8
  let t : Ticket := { issuer := rd p 21 1, seq := q, amount := BitVec.ofNat 64 (rd p 0 8), data := BitVec.ofNat 64 (rd p 8 8)
                      game := rd p 16 4, payer := rd p 22 2, pending := false, state := rd p 20 1, owner := o }
  if commit ≤ ticketCommit b s o (ticketKey t.issuer q) then s
  else if tk = 3 then
    { s with vm := { s.vm with tickets := s.vm.tickets.filter fun x => !(x.owner == o && x.issuer == t.issuer && x.seq == q) } }
  else putTicket t s

/-- A game entry image (R98). -/
def gameAt (p : Bytes) : Nat × Game :=
  let v := BitVec.ofNat 256 (leNat p)
  ((v.extractLsb' 38 2).toNat,
   { owner := (v.extractLsb' 0 6).toNat, id := (v.extractLsb' 6 32).toNat, live := v.extractLsb' 38 2 == 1
     reason := (v.extractLsb' 40 8).toNat, rulebook := (v.extractLsb' 48 16).toNat, openT := (v.extractLsb' 64 64).toNat
     closeT := (v.extractLsb' 128 64).toNat, guard := (v.extractLsb' 192 32).toNat })

/-- The misc part (R211): game entry, sweep, limit set, load made live. What it changes in a chunk is applied where its
set is newer than the chunk's copy (R223); the metadata is copied with every set applied before. -/
def replayMisc (b : Bytes) (o t commit : Nat) (p : Bytes) (kind : Nat) (s : State) : State :=
  let newMeta := decide (chunkCommit b 0 < commit)
  let newTicket := fun (x : Ticket) => decide (chunkCommit b (chunkAt s o 2 x.bucket) < commit)
  match kind with
  | 1 =>
    let (st, g) := gameAt p
    if !newMeta then s else if st = 0 then delGame g.owner g.id s else setGame g s
  | 2 =>
    let g := rd p 0 4
    { s with vm := { s.vm with tickets := s.vm.tickets.filterMap fun x =>
      if x.owner == o && x.game == g && !x.pending && newTicket x then sweepTicket (BitVec.ofNat 3 (rd p 4 4)) x else some x } }
  | 3 =>
    let id := rd p 0 8
    if id = 0 then
      let s := if newMeta then mapOwner o (fun x => { x with origin := rd p 8 8, wlenH := rd p 16 2 }) s else s
      { s with vm := { s.vm with limits := s.vm.limits.map fun c =>
        if c.owner == o && decide (chunkCommit b (chunkAt s o 1 c.bucket) < commit) then
          { c with value := 0, window := windowIndex (rd p 8 8) c.wlenH t }
        else c } }
    else if commit ≤ counterCommit b s o (limitKey id) then s
    else
      let wlen := rd p 16 2
      match limitOf s o id with
      | some c =>
        if c.wlenH = wlen then putLimit { c with limit := rd p 8 8 } s
        else putLimit { c with limit := rd p 8 8, wlenH := wlen, value := 0, window := windowIndex (ownerOf s o).origin wlen t } s
      | none => putLimit { owner := o, id := id, value := 0, limit := rd p 8 8
                           window := windowIndex (ownerOf s o).origin wlen t, wlenH := wlen } s
  | 4 => { s with vm := { s.vm with tickets := s.vm.tickets.map fun x =>
      if x.owner == o && x.issuer == rd p 0 1 && newTicket x then { x with pending := false } else x } }
  | _ => s

/-- Apply one leaf's replay record (R211, R223). -/
def replayOne (b : Bytes) (e : Bytes × Bytes) (s : State) : State :=
  let (leaf, r) := e
  let o := rd leaf 60 1
  let t := rd leaf 8 8
  let commit := rd r 8 8
  let nonceLen := if rd r 3 1 = 1 then 16 else 0
  let tkLen := if rd r 1 1 = 0 then 0 else 24
  let s := if nonceLen = 16 then replayNonce b o commit (slice r 16 16) s else s
  let s := if tkLen = 24 then replayTicketPart b o commit leaf (slice r (16 + nonceLen) 24) (rd r 1 1) s else s
  let base := 16 + nonceLen + tkLen
  let s := (List.range (rd r 0 1)).foldl (fun st k => replayCounter b o t commit (slice r (base + 16 * k) 16) st) s
  let s := if rd r 2 1 = 0 then s else replayMisc b o t commit (slice r (base + 16 * rd r 0 1) 32) (rd r 2 1) s
  { s with vm := { s.vm with commitNo := max s.vm.commitNo commit } }

/-- The largest commit number of the chunk records (R223). -/
def largestCommit (b : Bytes) : Nat := (List.range (sChunks b)).foldl (fun n k => max n (chunkCommit b k)) 0

/-- The next block of each owner chains to its last accepted block (R224). -/
def chainBlocks (bs : List Bytes) (s : State) : State :=
  bs.foldl (fun st b => mapOwner (rd b 4 1) (fun w => { w with blockNo := rd b 8 8, blockPrev := sha (blockBody b) }) st) s

/-- The numbers that follow a restore (R92, R174, R224): clean, or with the gaps. -/
def restoredNumbers (v : Bytes) (clean : Bool) (s : State) : State :=
  if clean then
    let q := ((flashNow s).map (·.sequence)).getD 0
    startNumbers (q + 1) (recDep v + 1) q (recHead v) false s
  else gapNumbers (rd v 88 8) (recDep v) (recHead v) s

/-- The coupled peers are asked for the newest head of this device (R225): a handshake begins with every entry, and the
query goes to a coupled peer as its session comes UP. -/
def queryHeads (s : State) : State := s.jct.peers.foldl (fun st e => startHandshake e.1 st) s

/-- The last admission time verified (R107, R157): that of the leaves up to LAST_SEQ of v, or where no leaf of them is in
the stream the close of v. (DEDUCED, log 45) -/
def lastAdmission (es : List (Bytes × Bytes)) (v : Bytes) : Nat :=
  let mine := es.filter fun e => decide (rd e.1 0 8 ≤ rd v 88 8)
  if mine.isEmpty then rd v 40 8 else mine.foldl (fun n e => max n (rd e.1 8 8)) 0

/-- Replay up to v and everything that follows from it, down to the head query (R222 row 7, R223-R225). `d` is the record
of D, and `chain` are the records that verify and chain. -/
def applyRestore (b d : Bytes) (chain blocks : List Bytes) (s : State) : State :=
  let m := sManifest b
  let es := sortBy (fun e => rd e.1 0 8) (blocks.flatMap (entriesOfBlock s))
  let v := restoredTo es d chain
  let lo := rd m 32 8
  let hi := rd v 88 8
  let used := es.filter fun e => decide (lo < rd e.1 0 8) && decide (rd e.1 0 8 ≤ hi)
  let s := used.foldl (fun st e => replayOne b e st) (loadImage s b)
  let s := { s with vm := { s.vm with
    tickets := s.vm.tickets.filter fun t => !t.pending, commitNo := max s.vm.commitNo (largestCommit b) } }
  let s := relayStore s
  let clean : Bool := match flashNow s with
    | some f => f.type == 2 && f.departure == recDep v
    | none => false
  let s := restoredNumbers v clean (chainBlocks blocks s)
  let t := lastAdmission es v
  let s := { s with
    vm := { s.vm with
      restore := 4, verified := some (recDep v), epochWritten := rd m 16 8, manifestPrev := sha m, ckptNow := true
      ckptDone := some { epoch := rd m 16 8, dep := rd m 24 8, lastSeq := lo, head := some (recHead d) } }
    clk := { s.clk with floorT := t, run := max s.clk.run t } }
  queryHeads (bulkDone (event 0x060A 0 [(8, recDep v), (4, used.length), (1, if clean then 1 else 2)] s))

/-- A refused stream (R222, R31): the device waits for another. (DEDUCED, log 45) -/
def refuseStream (order : Nat) (st : Status) (s : State) : State :=
  event 0x0609 0 [(1, order)] (endBulk st { s with vm := { s.vm with restore := 5 } })

/-- (DEDUCED, log 45) -/
def doRestoreStream (s : State) : State :=
  let b := s.bulk.data
  let m := sManifest b
  let records := recordsOf b
  if !streamFormOk b then refuseStream 0 .paramInvalid s
  else if !manifestOk s m then refuseStream 1 .authFail s
  else if rd m 16 8 ≠ ((flashNow s).map (·.epoch)).getD 0 then refuseStream 2 .policy s
  else if !chunksOk s b then refuseStream 3 .authFail s
  else
    let d := records.headD []
    if records.isEmpty || recDep d != rd m 24 8 || digestBytes (recHead d) != slice m 144 48 then refuseStream 4 .paramInvalid s
    else
      let chain := if recSigned s d then d :: chainFrom s [d] (records.drop 1) else []
      let img := streamImage s b
      let blocks := ((List.range 63).map (· + 1)).flatMap fun o =>
        acceptBlocks s (rd m (696 + 8 * (o - 1)) 8) (Config.imageOwner img o).posPrev none ((blocksOf b).filter fun x => rd x 4 1 == o)
      applyRestore b d chain blocks s

def execRestoreStream (s : State) : Res :=
  .next (when (s.sys.state == .restoring && bulkVerifying s 5 && s.vm.restore != 4 && !s.sys.abandoned) doRestoreStream s)

/-- R225, R29: the peers have answered or 1 s has passed; the device leaves RESTORING. -/
def execHeadQueryTimeout (s : State) : Res :=
  .next (when (s.sys.state == .restoring && s.vm.restore == 4 && !s.sys.abandoned) enterService s)

/-! ### Abandoning a restore (R469) -/

def abandonKey : Nat := 0x41424E44

/-- Owner keys and KEYS records are destroyed as by OWNER_RETIRE, and the flash forgets the epoch. -/
def abandonRestore (s : State) : State :=
  let owners := (s.adm.owners.filter fun p => p.2.enrolled != 0).map (·.1)
  let s := owners.foldl (fun st o => mapOwner o (fun w => { w with id := 0 }) (clearOwner o st.adm.nextSeq st)) s
  let s := putRecord (recordOf 3 0 0 0 0) (seqHigh s) (depHigh s) (accordHigh s) { s with vm := { s.vm with keyRecs := [] } }
  event 0x0119 0 [] { s with
    sys := { s.sys with abandoned := true, abandonAt := none }
    clk := { s.clk with run := max s.clk.run (mirrorTai s) } }

def doRestoreAbandon (key : W32) (s : State) : State :=
  if s.sys.state != .restoring || s.sys.abandoned || bulkBusy s || key.toNat != abandonKey then s
  else
    match s.sys.abandonAt with
    | some t0 => if s.clk.run ≤ t0 + 10 ^ 9 then abandonRestore s else { s with sys := { s.sys with abandonAt := some s.clk.run } }
    | none => { s with sys := { s.sys with abandonAt := some s.clk.run } }

def execRestoreAbandon (t : Nat) (key : W32) (s : State) : Res :=
  .next (when (alive s) (fun s => hostWrite 0x24 4 (doRestoreAbandon key) (advance t s)) s)

end Sys2Proof.Machine
end

