-- ==== Sys2Proof/Machine/Tamper.lean ====
section
/-! DEFINITION. Tamper sources, responses and policy (R429-R454). -/

namespace Sys2Proof.Machine

/-! ### Sources (R429, R430) -/

/-- A voltage, temperature or clock source, with an operating and an absolute band. -/
def isBanded (src : Nat) : Bool := decide (20 ≤ src) && decide (src ≤ 43)
/-- A source with two detectors of one quantity (R435). -/
def isEnvironmental (src : Nat) : Bool := decide (20 ≤ src) && decide (src ≤ 47)
def isTemperature (src : Nat) : Bool := decide (36 ≤ src) && decide (src ≤ 39)

/-- MODE, CLASS and DELAY of an enrolled loop; MODE 0 where none is. -/
def loopOf (s : State) (n : Nat) : Nat × Nat × Nat :=
  match s.tamper.enr with
  | some r => r.loops.getD n (0, 0, 0)
  | none => (0, 0, 0)

/-- The source's input exists and is in use (R430). -/
def sourceUsed (s : State) (src : Nat) : Bool :=
  if src ≤ 15 then (loopOf s src).1 != 0
  else if src ≤ 19 then match s.tamper.enr with
    | some r => r.caseMask.getLsbD (src - 16)
    | none => false
  else if 21 ≤ src ∧ src ≤ 27 then dieIn (presentDies s) (src - 20)
  else if src = 37 then [1, 2, 3].any (dieIn (presentDies s))
  else if src = 38 then [4, 5, 6, 7].any (dieIn (presentDies s))
  else if src = 43 then s.tamper.refUsed
  else decide (src ≤ 52)

/-! ### Policy (R445, R446, R449, R453) -/

/-- MAIN and OPER at reset. -/
def mainReset (src : Nat) : Nat :=
  if src = 49 then 2 else if src = 51 ∨ src = 52 then 1 else if src ≤ 50 then 3 else 0
def operReset (src : Nat) : Nat := if isBanded src then 1 else 0

def policyField (s : State) (src : Nat) : Nat := s.tamper.policy.atD src (4 * mainReset src + operReset src)

/-- The class in force for a band (R446). -/
def classOf (s : State) (src : Nat) (oper : Bool) : Nat :=
  if oper && isBanded src then policyField s src % 4 else policyField s src / 4

/-! ### Firing (R445, R450) -/

/-- One firing: source, class, detector code of R566, reading. -/
structure Firing where
  src : Nat
  cls : Nat
  det : Nat
  reading : Nat
  deriving DecidableEq, Repr

def bit64 (n : Nat) : W64 := (1 : W64) <<< n

/-- The order of a cycle: ZEROISE, CLOSE, RECORD, and ascending source within a class. -/
def firingOrder (l : List Firing) : List Firing := sortBy (fun f => (3 - f.cls) * 64 + f.src) l

/-- The record of one firing with its sub-order. (DEDUCED, log 40) -/
def recordFiring (f : Firing) (sub : Nat) (s : State) : State :=
  let s := { s with tamper := { s.tamper with
    flags := s.tamper.flags ||| bit64 f.src
    severe := if 2 ≤ f.cls then s.tamper.severe ||| bit64 f.src else s.tamper.severe
    last := f.src, fired := sat32 (s.tamper.fired + 1) } }
  uart (.tamper f.src f.cls)
    (eventSub 0x0C01 0 sub [(1, f.src), (1, f.cls), (1, f.det), (2, f.reading % 65536), (1, sub)] s)

/-- The firings of one cycle: records, then the union of their responses; CLOSE adds nothing in ZEROISED (R450). -/
def fireAll (l : List Firing) (s : State) : State :=
  let l := firingOrder l
  let s := (l.zipIdx).foldl (fun st p => recordFiring p.1 p.2 st) s
  let s := match l.find? fun f => f.cls == 3 with
    | some f => zeroise f.src s
    | none => s
  if (l.any fun f => f.cls == 2) && s.sys.state != .zeroised then { s with sys := { s.sys with close := true } } else s

/-- A source without detectors fires with its MAIN class. -/
def raise (src reading : Nat) (s : State) : State :=
  fireAll [{ src := src, cls := classOf s src false, det := 3, reading := reading }] s

/-- Start-up failures fire source 52 with its reset class (R460). (DEDUCED, log 39) -/
def raiseAtReset (src : Nat) (s : State) : State :=
  fireAll [{ src := src, cls := mainReset src, det := 3, reading := 0 }] s

/-! ### The tamper cycle (R429, R434, R435, R443) -/

def bandCode : Band → Nat
  | .inside => 0
  | .outsideOper => 1
  | .outsideAbs => 2

/-- The band of a sample by the more severe detector; of a mesh loop only the PRBS of dynamic mode counts here. -/
def sampleBand (s : State) (x : SourceSample) : Nat :=
  if x.src ≤ 15 then (if (loopOf s x.src).1 = 2 ∧ x.bandB ≠ .inside then 2 else 0)
  else max (bandCode x.bandA) (bandCode x.bandB)

/-- The detector that reports the band: A, B or both (R566); a level sense is detector A, a mesh PRBS B. -/
def sampleDetector (x : SourceSample) : Nat :=
  if x.src ≤ 15 then 1
  else if ¬ isEnvironmental x.src then (if x.src = 48 ∨ x.src ≤ 19 then 0 else 3)
  else if x.bandA = x.bandB then 2
  else if bandCode x.bandA < bandCode x.bandB then 1 else 0

def setBit64 (w : W64) (n : Nat) (b : Bool) : W64 := if b then w ||| bit64 n else w &&& ~~~(bit64 n)

/-- Note a sample: readings, TAMPER_ACTIVE, TAMPER_SPLIT, and the events of a return and of a split's end. (DEDUCED, log 40) -/
def noteSample (x : SourceSample) (s : State) : State :=
  let b := sampleBand s x
  let old := s.tamper.bands.atD x.src 0
  let split := isEnvironmental x.src && x.bandA != x.bandB
  let was := s.tamper.split.getLsbD x.src
  let s := { s with tamper := { s.tamper with
    bands := if b = 0 then s.tamper.bands.del x.src else s.tamper.bands.put x.src b
    active := setBit64 s.tamper.active x.src (b != 0), split := setBit64 s.tamper.split x.src split
    values := s.tamper.values.put x.src (x.readA % 65536, x.readB % 65536)
    bitErr := if (loopOf s x.src).1 = 2 ∧ x.src ≤ 15 ∧ x.bandB ≠ .inside then
        s.tamper.bitErr.put x.src (min 0xFFFF (s.tamper.bitErr.atD x.src 0 + x.readB))
      else s.tamper.bitErr
    caseOpen := if 16 ≤ x.src ∧ x.src ≤ 19 then
        (if b = 0 then s.tamper.caseOpen &&& ~~~((1 : BitVec 4) <<< (x.src - 16)) else s.tamper.caseOpen ||| ((1 : BitVec 4) <<< (x.src - 16)))
      else s.tamper.caseOpen } }
  let s := if isEnvironmental x.src && old != 0 && b == 0 then event 0x0C02 0 [] s else s
  if was && !split then event 0x0C03 0 [(1, x.src)] s else s

/-- The firing of a sample, where its band has become more severe. (DEDUCED, log 40) -/
def sampleFires (s : State) (x : SourceSample) : Option Firing :=
  let b := sampleBand s x
  if s.tamper.bands.atD x.src 0 < b then
    let det := sampleDetector x
    some { src := x.src, cls := classOf s x.src (b == 1), det := det, reading := if det = 1 then x.readB else x.readA }
  else none

/-- R536: TIME_REF is lost for the power cycle and the clock counts on REFCLK_SYS. -/
def refLost (l : List Firing) (s : State) : State :=
  if l.any fun f => f.src == 43 then { s with clk := { s.clk with refPresent := false } } else s

def doTamperCycle (xs : List SourceSample) (s : State) : State :=
  let xs := xs.filter fun x => decide (x.src ≤ 48) && sourceUsed s x.src
  let l := xs.filterMap (sampleFires s)
  let s := xs.foldl (fun st x => noteSample x st) s
  refLost l (if l.isEmpty then s else fireAll l s)

/-- The tamper logic runs in every powered state. -/
def execTamperCycle (t : Nat) (xs : List SourceSample) (s : State) : Res :=
  .next (when (alive s) (fun s => doTamperCycle xs (advance t s)) s)

/-- R436: the second measurement in a row that differs from the enrolled class fires the loop. (DEDUCED, log 40) -/
def doMeshMeasure (loop cls : Nat) (s : State) : State :=
  let s := { s with tamper := { s.tamper with meas := s.tamper.meas.put loop cls } }
  let (mode, want, _) := loopOf s loop
  if mode = 0 then s
  else if cls = want then { s with tamper := { s.tamper with
      misses := s.tamper.misses.del loop, active := if s.tamper.bands.atD loop 0 = 0 then setBit64 s.tamper.active loop false else s.tamper.active } }
  else
    let n := s.tamper.misses.atD loop 0 + 1
    let s := { s with tamper := { s.tamper with
      misses := s.tamper.misses.put loop n, active := if 2 ≤ n then setBit64 s.tamper.active loop true else s.tamper.active } }
    if n = 2 then fireAll [{ src := loop, cls := classOf s loop false, det := 0, reading := cls }] s else s

def execMeshMeasure (loop cls : Nat) (s : State) : Res :=
  .next (when (alive s && decide (loop < 16) && decide (cls < 8)) (doMeshMeasure loop cls) s)

/-- R435: a split that has lasted fires source 49, with the split source as its reading. -/
def execDetectorSplit (src : Nat) (s : State) : Res :=
  .next (when (alive s && isEnvironmental src && s.tamper.split.getLsbD src) (raise 49 src) s)

/-! ### Enrolment (R438, R439) -/

def enrolMode (b : Bytes) (n : Nat) : Nat := rd b n 1
def enrolMask (b : Bytes) : Nat := rd b 16 1

def measOf (meas : List LoopMeasure) (n : Nat) : LoopMeasure :=
  meas.getD n { cls := 0, nearBoundary := false, delay := 0, bitErrors := 0 }

/-- DETAIL of the first order of R438, 3 to 5, that fails; 0 where none does. -/
def enrolErr (b : Bytes) (meas : List LoopMeasure) (caseOpen : BitVec 4) : Nat :=
  let loops := List.range 16
  let used := fun (n : Nat) => enrolMode b n != 0
  match loops.find? fun n => used n && ((measOf meas n).cls == 0 || (measOf meas n).cls == 7 || (measOf meas n).nearBoundary) with
  | some n => 0x0100 + n
  | none =>
    match loops.find? fun n => enrolMode b n == 2 && (measOf meas n).bitErrors != 0 with
    | some n => 0x0200 + n
    | none =>
      match [0, 1, 2, 3].find? fun n => (BitVec.ofNat 4 (enrolMask b)).getLsbD n && caseOpen.getLsbD n with
      | some n => 0x0300 + n
      | none => 0

def enrolOutput (b : Bytes) (meas : List LoopMeasure) : Bytes :=
  ((List.range 16).flatMap fun n => le 1 (measOf meas n).cls) ++ ((List.range 16).flatMap fun n => le 2 (measOf meas n).delay)
    ++ le 1 (enrolMask b) ++ zeros 15

/-- (DEDUCED, log 40) -/
def doTamperEnrol (meas : List LoopMeasure) (caseOpen : BitVec 4) (w : Work) (s : State) : State :=
  let b := w.input
  if ((List.range 16).any fun n => decide (2 < enrolMode b n)) || decide (0x0F < enrolMask b) then finish w .badDescriptor 0 [] s
  else if s.adm.owners.any fun p => p.2.enrolled != 0 then finish w .policy 0 [] s
  else if enrolErr b meas caseOpen ≠ 0 then finish w .paramInvalid (enrolErr b meas caseOpen) [] s
  else
    let n := ((s.flash.mesh.map (·.count)).getD 0) + 1
    let r : MeshRec := { caseMask := BitVec.ofNat 4 (enrolMask b), count := n
                         loops := (List.range 16).map fun k => (enrolMode b k, (measOf meas k).cls, (measOf meas k).delay) }
    let r := { r with mac := meshMac s r }
    let s := { s with
      flash := { s.flash with mesh := some r }
      otp := { s.otp with meshEnr := s.otp.meshEnr || s.life.decided == 2 }
      tamper := { s.tamper with enr := some r, misses := []
                                meas := (List.range 16).map fun k => (k, (measOf meas k).cls)
                                delays := (List.range 16).map fun k => (k, (measOf meas k).delay) } }
    finish w .ok 0 (enrolOutput b meas) (event 0x0C05 0 [(8, n)] s)

def execTamperEnrol (w : WorkId) (meas : List LoopMeasure) (caseOpen : BitVec 4) (s : State) : Res :=
  .next (withWork w 0x7E (doTamperEnrol meas caseOpen) s)


/-! ### Policy writes (R449) -/

def fieldOfWrite (v : W32) (i : Nat) : Nat := (v.extractLsb' (4 * i) 4).toNat

def mainUsed (src : Nat) : Bool := decide (src ≤ 52)

/-- The field holds codes 1 to 3 where used, and 0 where not. -/
def fieldShape (src f : Nat) : Bool :=
  (if mainUsed src then decide (1 ≤ f / 4) else f / 4 == 0) && (if isBanded src then decide (1 ≤ f % 4) else f % 4 == 0)

/-- The floor of a MAIN class. -/
def mainFloor (s : State) (src : Nat) : Nat :=
  if s.life.decided < 2 then 1
  else if src ≤ 19 ∨ src = 48 then 3
  else if 20 ≤ src ∧ src ≤ 47 then 2
  else 1

def policyErr (s : State) (reg : Nat) (v : W32) : Nat :=
  let fs := (List.range 8).map fun i => (8 * reg + i, fieldOfWrite v i)
  let lower := fun (p : Nat × Nat) => decide (p.2 / 4 < policyField s p.1 / 4) || decide (p.2 % 4 < policyField s p.1 % 4)
  if s.tamper.locked then 1
  else if !fs.all fun p => fieldShape p.1 p.2 then 2
  else if anyLive s && fs.any lower then 3
  else if fs.any fun p => mainUsed p.1 && decide (p.2 / 4 < mainFloor s p.1) then 4
  else if fs.any fun p => p.1 == 50 && p.2 / 4 != 3 then 5
  else 0

/-- One changed source: its field, and event 0x0C06 with the old and the new field. (DEDUCED, log 40) -/
def changePolicy (src f : Nat) (s : State) : State :=
  let old := policyField s src
  if old = f then s
  else event 0x0C06 0 [(1, src), (1, old), (1, f)] { s with tamper := { s.tamper with policy := s.tamper.policy.put src f } }

def doTamperPolicyWrite (reg : Nat) (v : W32) (s : State) : State :=
  let e := policyErr s reg v
  if e ≠ 0 then event 0x0C07 0 [(1, e)] { s with tamper := { s.tamper with err := e } }
  else (List.range 8).foldl (fun st i => changePolicy (8 * reg + i) (fieldOfWrite v i) st) s

def execTamperPolicyWrite (reg : Nat) (v : W32) (s : State) : Res :=
  .next (when (decide (reg < 8)) (hostWrite (0xB0028 + 4 * reg) 4 (doTamperPolicyWrite reg v)) s)

/-- The write that sets TAMPER_CTL.LOCK, with its ALERT_RECORD. -/
def doTamperPolicyLock (alertRecord : Bool) (s : State) : State :=
  if s.tamper.locked then s
  else event 0x0C08 0 [] { s with tamper := { s.tamper with locked := true, alertRecord := alertRecord } }

def execTamperPolicyLock (alertRecord : Bool) (s : State) : Res :=
  .next (hostWrite 0xB0004 4 (doTamperPolicyLock alertRecord) s)

/-! ### Sticky flags and ALERT_N (R451, R452) -/

def clearFlag (n : Nat) (s : State) : State :=
  if s.tamper.flags.getLsbD n && !s.tamper.active.getLsbD n then
    event 0x0C09 0 [(1, n)] { s with tamper := { s.tamper with
      flags := setBit64 s.tamper.flags n false, severe := setBit64 s.tamper.severe n false } }
  else s

def doTamperFlagsClear (v : W64) (s : State) : State :=
  (List.range 64).foldl (fun st n => if v.getLsbD n then clearFlag n st else st) s

/-- TAMPER_FLAGS takes its W1C writes in HELD and STABLED too (R464, R476). -/
def execTamperFlagsClear (v : W64) (s : State) : Res :=
  .next (hostWriteIn true true 0xB0008 8 (doTamperFlagsClear v) s)

/-- ALERT_N is driven low (R452). -/
def alertLow (s : State) : Bool :=
  s.tamper.severe != 0 || (s.tamper.alertRecord && s.tamper.flags != 0) || s.sys.state == .zeroised

end Sys2Proof.Machine
end

