-- ==== Sys2Proof/Machine/Held.lean ====
section
/-! DEFINITION. What a reset and the loss of power leave (R455), the HELD state (R460-R463), and the DIAG UART
(R465, R466). -/

namespace Sys2Proof.Machine

/-! ### Resets (R455) -/

/-- OTP, firmware and code keys are kept; everything else of the life cycle is lost. -/
def keptLife (l : Life) : Life :=
  { it := l.it, ip := l.ip, ie := l.ie, copies := l.copies, bankA := l.bankA, doneA := l.doneA, bankB := l.bankB, doneB := l.doneB
    svnFloor := l.svnFloor, revoke := l.revoke, fwSlots := l.fwSlots, cert := l.cert, codeKeys := l.codeKeys }

/-- Every volatile state is lost: OTP, user flash, the sticky flags, the pins and the cards' seats stay. (DESIGN CHOICE, log 3) -/
def coldState (s : State) : State :=
  { ({} : State) with
    sys := { state := .booting, rails := s.sys.rails, porst := s.sys.porst, warmPin := s.sys.warmPin, pwrFail := s.sys.pwrFail }
    link := { perst := s.link.perst }
    flash := { s.flash with writing := [] }
    otp := s.otp
    life := keptLife s.life
    cards := { slots := s.cards.slots.map fun e => (e.1, {}) }
    tamper := { flags := s.tamper.flags, severe := s.tamper.severe }
    pkg := { straps := s.pkg.straps }
    out := s.out, free := s.free, pending := s.pending }

/-- Power is gone: the sticky flags too. (DESIGN CHOICE, log 3) -/
def offState (s : State) : State :=
  let c := coldState s
  { c with sys := { c.sys with state := .off, rails := false }, tamper := {} }

/-- The power-cycle count of a start-up (R497). -/
def cyclesNow (s : State) : Nat :=
  match newestMirror s with
  | some m => (m.ev.power + 1) % 2 ^ 24
  | none => 1

/-- The newest valid flash record shows a prior checkpoint epoch (R29, R217). -/
def priorEpoch (s : State) : Bool :=
  match flashNow s with
  | some r => r.epoch != 0
  | none => false

/-- The reference of the start-up sequence: step 0x01 begins (R457, R530), held there while PWR_FAIL_N is low (R534).
The running count of R157 starts from the mirror; a restore sets it. (DESIGN CHOICE, log 3; DEDUCED, log 46) -/
def beginStart (cause : Nat) (warm timeRef card33 : Bool) (s : State) : State :=
  let c := coldState s
  let c := { c with
    sys := { c.sys with inReset := false, warm := warm, cause := cause, pwrFailHold := c.sys.pwrFail }
    clk := { c.clk with refPresent := timeRef, run := if priorEpoch s then 0 else mirrorTai s }
    tamper := { c.tamper with refUsed := timeRef }
    cards := { c.cards with v33 := card33 } }
  event 0x0110 0 [(1, cause), (4, cyclesNow s)] (uart (.boot c.otp.variant c.otp.deviceId cause (cyclesNow s)) c)

/-! ### HELD (R460-R463) -/

def heldUart (s : State) : State :=
  uart (.heldLine s.sys.heldStep s.sys.heldUnit s.sys.heldDetail (stateCode s) s.tamper.flags) s

/-- A start-up failure: event 0x0111 and its UART line. -/
def stepFailed (step unit detail : Nat) (s : State) : State :=
  uart (.stepFail step unit detail) (event 0x0111 0 [(1, step), (1, unit), (2, detail)] s)

/-- Entry to HELD (R462): roots and slots cleared, engine dies in isolation reset. -/
def holdDevice (step unit detail : Nat) (s : State) : State :=
  if s.sys.state == .zeroised then s
  else
    let s := cardsOff (stopPorts s)
    let s := { s with
      sys := { s.sys with heldStep := step, heldUnit := unit, heldDetail := detail, isolated := presentDies s, inService := 0 }
      keys := { s.keys with identityRoot := none, wrapRoot := none, slots := [] }
      dep := { s.dep with isOpen := false } }
    heldUart (enterDev .held (event 0x0112 0 [] s))

/-- A failed step that leads to HELD; a self-test failure fires source 52 with its reset class (R460). -/
def failStart (selfTest : Bool) (step unit detail : Nat) (s : State) : State :=
  let s := stepFailed step unit detail s
  holdDevice step unit detail (if selfTest then raiseAtReset 52 s else s)

/-! ### The DIAG UART (R465, R466) -/

def execDiagStatus (s : State) : Res :=
  .next (when (alive s) (fun s => uart (.statusLine s.sys.state s.sys.bootStep s.sys.heldStep s.sys.heldUnit s.sys.heldDetail
    (stateCode s) s.tamper.flags) s) s)

/-- The last 8 records, oldest first. -/
def execDiagEvents (s : State) : Res :=
  .next (when (alive s) (fun s => (s.evt.evs.take 8).reverse.foldl (fun st e => uart (.eventRecord (evSlot e)) st) s) s)

def execDiagTamper (s : State) : Res :=
  .next (when (alive s) (fun s => uart (.tamperRegs s.tamper.flags s.tamper.severe s.tamper.active) s) s)

def execDiagHelp (s : State) : Res := .next (when (alive s) (uart .help) s)

def execDiagHeldLine (s : State) : Res := .next (when (alive s && s.sys.state == .held) heldUart s)

end Sys2Proof.Machine
end

