-- ==== Sys2Proof/Machine/Random.lean ====
section
/-! DEFINITION. The generator: sources, seeds and instances (R313-R326), and certified draws (R327-R336). -/

namespace Sys2Proof.Machine

/-- The generator runs: every powered state but ZEROISED (R313). -/
def rngRuns (s : State) : Bool := alive s && s.sys.state != .zeroised

/-! ### Device-originated ends (R165, R218, R334) -/

/-- Seal one waiting end and complete its descriptor. -/
def endOne (e : Ending) (s : State) : State :=
  let (st, s) := issue e.leaf.owner s
  let s := sealLeaf st e.leaf (e.replay.getD (replayNone s)) s
  match e.work with
  | none => s
  | some w => finish { w with stamp := if e.ownStamp then some st else w.stamp } e.status e.detail e.out s

/-- Seal the ends that wait, in order, while numbers may be issued. -/
def drainList : List Ending → State → State
  | [], s => s
  | e :: rest, s =>
    if canNumber s then drainList rest { endOne e s with adm := { (endOne e s).adm with ends := rest } } else s

def drainEnds (s : State) : State := drainList s.adm.ends s

def pushEnd (e : Ending) (s : State) : State := drainEnds { s with adm := { s.adm with ends := s.adm.ends ++ [e] } }

/-! ### Reads of G (R322) -/

/-- A PF0 read of RNG_DATA that ends with Completer Abort: all ones. -/
def abortRead (s : State) : State :=
  event 0x090A 0 [] (emit (.regData 0x70008 allOnes64) { s with rng := { s.rng with readFail := sat32 (s.rng.readFail + 1) } })

/-- Serve one read of RNG_DATA. (DEDUCED, log 42) -/
def serveRead (s : State) : State :=
  let (b, s) := drawBytes 8 s
  emit (.regData 0x70008 (leNat b)) s

def repeatN : Nat → (State → State) → State → State
  | 0, _, s => s
  | n + 1, f, s => repeatN n f (f s)

/-- Every held read is served, or aborted. (DEDUCED, log 42) -/
def endHeld (f : State → State) (s : State) : State :=
  repeatN s.rng.heldReads f { s with rng := { s.rng with heldReads := 0 } }

/-! ### Health-test failure (R315, R316, R325) -/

def drawId (d : DrawRec) : Nat := rd d.spec 0 8

/-- A DRAW_VOID leaf and the end of its DRAW (R332, R334). -/
def voidEnd (d : DrawRec) (cause : Nat) (st : Status) : Ending :=
  { leaf := { subject := drawId d, arg := (d.commit.map (·.seq)).getD allOnes64, arg2 := d.stamp.seq, arg3 := cause
              status := st, kind := 0x0A, owner := d.owner }
    work := some d.work, status := st, detail := 0, out := [], ownStamp := false }

def voidDraw (cause : Nat) (st : Status) (d : DrawRec) (s : State) : State :=
  let s := { s with rng := { s.rng with draws := s.rng.draws.filter fun x => x.stamp.seq != d.stamp.seq } }
  pushEnd (voidEnd d cause st) (event 0x0909 d.owner [(8, drawId d), (1, cause)] s)

/-- R176: signing goes on with the deterministic variants until reset; the change records event 0x0505. -/
def signDeterministic (s : State) : State :=
  if s.dep.deterministic then s else event 0x0505 0 [] { s with dep := { s.dep with deterministic := true } }

/-- RNG_FAIL: output stops, source 51 fires, held reads end, and every draw that is not revealed is void. -/
def rngFail (src cause : Nat) (s : State) : State :=
  if s.rng.failed then s
  else
    let startup := !s.rng.ready
    let s := { s with rng := { s.rng with
      failed := true, failSource := src, failCause := cause, failStartup := startup, drawSeeds := 0 } }
    let s := signDeterministic (endHeld abortRead (event 0x0906 0 [(1, src), (1, cause)] s))
    let s := s.rng.draws.foldl (fun st d => voidDraw 1 .rngUnavailable d st) s
    let s := raise 51 0 s
    if startup && s.sys.state == .booting then failStart true 6 0 9 s else s

/-- A first alarm of a source within the last 2^24 samples. -/
def recentAlarm (s : State) (src : Nat) : Bool :=
  match s.rng.firstAlarm.at? src with
  | some t0 => decide (s.clk.upNs < t0 + 2 ^ 24 * 1000)
  | none => false

def testCode : HealthTest → Nat
  | .repetition => 1
  | .proportion => 2

def doRngAlarm (src : Nat) (test : HealthTest) (s : State) : State :=
  if !s.rng.ready || recentAlarm s src then rngFail src (testCode test) s
  else event 0x0902 0 [(1, src), (1, testCode test)]
    { s with rng := { s.rng with alarms := sat32 (s.rng.alarms + 1), firstAlarm := s.rng.firstAlarm.put src s.clk.upNs } }

def execRngAlarm (src : Nat) (test : HealthTest) (s : State) : Res :=
  .next (when (rngRuns s && decide (src < 4) && !s.rng.failed) (doRngAlarm src test) s)

/-- R316: a failed known-answer test. -/
def execRngKat (pass : Bool) (s : State) : Res :=
  .next (when (rngRuns s && !pass) (rngFail 0xF 3) s)

/-! ### Seeds and the instance G (R317-R321, R324) -/

/-- R324 step 5: G is instantiated from the first seed. -/
def doGeneratorReady (s : State) : State :=
  endHeld serveRead (event 0x0901 0 [(8, s.clk.upNs)] { s with rng := { s.rng with ready := true, requests := 0 } })

def execGeneratorReady (t : Nat) (s : State) : Res :=
  .next (when (rngRuns s && !s.rng.ready && !s.rng.failed) (fun s => doGeneratorReady (advance t s)) s)

/-- Requests that G has served beyond 2^16 (R320). -/
def beyond (s : State) : Nat := s.rng.requests - 2 ^ 16

/-- G reseeds: a stretch ends, and a halt. -/
def reseedG (s : State) : State :=
  let n := beyond s
  let was := s.rng.stretching
  let halted := s.rng.halted
  let s := { s with rng := { s.rng with
    requests := 0, reseeds := s.rng.reseeds + 1, stretching := false, halted := false
    longest := if was then max s.rng.longest (min n (2 ^ 32 - 1)) else s.rng.longest } }
  let s := if was then event 0x0904 0 [(4, n)] s else s
  if halted then endHeld serveRead s else s

/-- A draw is admitted whose outcome is not computed: the draw instance waits for a seed. -/
def drawWaits (s : State) : Bool := s.rng.draws.any fun d => d.commit.isNone

/-- A seed is complete (R317, R318): it goes to the instance that waits, or to the pool. -/
def doSeedReady (s : State) : State :=
  let s := bump 0x0D [0] 0 1 s
  if s.rng.halted then reseedG s
  else if drawWaits s && s.rng.pool = 0 then { s with rng := { s.rng with drawSeeds := s.rng.drawSeeds + 1 } }
  else if s.rng.stretching then reseedG s
  else { s with rng := { s.rng with pool := min 8 (s.rng.pool + 1) } }

def execSeedReady (s : State) : Res := .next (when (rngRuns s && s.rng.ready && !s.rng.failed) doSeedReady s)

/-- R320: G's reseed falls due. -/
def doGReseedDue (s : State) : State :=
  if s.rng.requests < 2 ^ 16 ∨ s.rng.stretching then s
  else if 0 < s.rng.pool then reseedG { s with rng := { s.rng with pool := s.rng.pool - 1 } }
  else event 0x0903 0 [] { s with rng := { s.rng with stretching := true, stretches := sat32 (s.rng.stretches + 1) } }

def execGReseedDue (s : State) : Res := .next (when (rngRuns s && s.rng.ready && !s.rng.failed) doGReseedDue s)

/-- R321. -/
def doGHalt (s : State) : State :=
  if s.rng.requests < 2 ^ 24 ∨ s.rng.halted then s
  else event 0x0905 0 [] { s with rng := { s.rng with halted := true } }

def execGHalt (s : State) : Res := .next (when (rngRuns s && s.rng.ready && !s.rng.failed) doGHalt s)

/-- A read of RNG_DATA: served, held, or after RNG_FAIL ended at once (R322, R325). -/
def doRngDataRead (s : State) : State :=
  if canDraw s then serveRead s
  else if s.rng.failed then abortRead s
  else { s with rng := { s.rng with heldReads := s.rng.heldReads + 1 } }

/-- The port is behind the checks of a host read (R464, R489). -/
def execRngDataRead (s : State) : Res :=
  .next (if hostOpen s && grants (ruleOf s 7) 3 .read && !heldGate s then doRngDataRead s
         else hostRead 0x70008 8 (fun s => (0, s)) s)

def execRngReadTimeout (s : State) : Res :=
  .next (when (alive s && decide (0 < s.rng.heldReads)) (fun s =>
    abortRead { s with rng := { s.rng with heldReads := s.rng.heldReads - 1 } }) s)

/-- RANDOM (R323). -/
def doRandom (w : Work) (s : State) : State :=
  let n := dDstLen w.desc
  if n = 0 ∨ 65536 < n then finish w .paramInvalid 0 [] s
  else if !canDraw s then finish w .rngUnavailable 0 [] s
  else
    let (b, s) := drawBytes n s
    finish w .ok 0 b s

def execRandom (w : WorkId) (s : State) : Res := .next (withWork w 0x20 doRandom s)

/-! ### Draw specifications (R328) -/

def spMode (b : Bytes) : Nat := rd b 8 1
def spSort (b : Bytes) : Bool := rd b 9 1 == 1
def spN (b : Bytes) : Nat := rd b 16 8
def spK (b : Bytes) : Nat := rd b 24 8
def spLow (b : Bytes) : Nat := rd b 32 8
def spHigh (b : Bytes) : Nat := rd b 40 8
def spGame (b : Bytes) : Nat := rd b 48 4

def spCount (b : Bytes) : Nat := if spMode b = 2 then spN b else spK b

def specOk (b : Bytes) : Bool :=
  rd b 0 8 != 0 && allZero b 10 6 && allZero b 52 12 && decide (rd b 9 1 ≤ 1) && (!spSort b || spMode b == 1)
    && (match spMode b with
        | 1 => decide (1 ≤ spN b) && decide (spN b ≤ 2 ^ 32) && decide (1 ≤ spK b) && decide (spK b ≤ min (spN b) 65536)
            && spHigh b == 0 && decide (spLow b + spN b ≤ 2 ^ 64)
        | 2 => decide (1 ≤ spN b) && decide (spN b ≤ 65536) && spK b == 0 && spHigh b == 0 && decide (spLow b + spN b ≤ 2 ^ 64)
        | 3 => spN b == 0 && decide (1 ≤ spK b) && decide (spK b ≤ 65536) && decide (spLow b ≤ spHigh b)
        | _ => false)

/-! ### DRAW (R329) -/

/-- Order 4. -/
def drawRefused (s : State) (owner : Nat) (b : Bytes) : Bool :=
  (spGame b != 0 && match findGame s owner (spGame b) with
    | some g => g.live
    | none => false)
  || decide (16 ≤ s.rng.draws.length) || closeWork s || s.sys.selftest

def doDraw (w : Work) (s : State) : State :=
  let b := w.input
  let o := w.func s
  if 1 ≤ spMode b ∧ spMode b ≤ 3 ∧ dDstLen w.desc < 64 + 8 * spCount b then finish w .badDescriptor 0 [] s
  else if !specOk b then finish w .paramInvalid 0 [] s
  else if spGame b != 0 && (findGame s o (spGame b)).isNone then finish w .notFound 0 [] s
  else if drawRefused s o b then finish w .policy 0 [] s
  else if s.rng.failed then finish w .rngUnavailable 0 [] s
  else withAccord w o 0x21 (fun a s =>
    let (w, s) := ceremony w a 0 s
    match w.stamp with
    | some st => { s with rng := { s.rng with draws := s.rng.draws ++ [{ owner := o, stamp := st, spec := b, work := w, commit := none }] } }
    | none => s) s

def execDraw (w : WorkId) (s : State) : Res := .next (withSealedWork w 0x21 doDraw s)

/-! ### The outcome (R330, R331) -/

def wordLimit : Nat := 2 ^ 20

/-- Word k of the draw instance: a free value. -/
def drawWord (base k : Nat) : Nat := Config.random (base + k) 8 % 2 ^ 64

/-- Bits of a number. -/
def bitLength (n : Nat) : Nat := if n = 0 then 0 else Nat.log2 n + 1

/-- Candidates until one lies below m; the fuel is the words that are left. The value, and the next word. -/
def candidate (base m : Nat) : Nat → Nat → Option (Nat × Nat)
  | 0, _ => none
  | fuel + 1, k =>
    let x := drawWord base k % 2 ^ bitLength (m - 1)
    if x < m then some (x, k + 1) else candidate base m fuel (k + 1)

/-- Uniform in 0..m-1 (R330); m = 2^64 takes a whole word. -/
def below (base m k : Nat) : Option (Nat × Nat) := if m = 1 then some (0, k) else candidate base m (wordLimit - k) k

/-- Mode 3: n uniform integers. -/
def drawUniform (base low m : Nat) : Nat → Nat → Option (List Nat × Nat)
  | 0, k => some ([], k)
  | n + 1, k =>
    match below base m k with
    | none => none
    | some (x, k) => (drawUniform base low m n k).map fun r => ((low + x) :: r.1, r.2)

/-- Modes 1 and 2: the sparse shuffle, from index i, with n values left to draw of `total`. -/
def drawShuffle (base low total : Nat) : Nat → Nat → Tbl Nat → Nat → Option (List Nat × Nat)
  | 0, _, _, k => some ([], k)
  | n + 1, i, swap, k =>
    match below base (total - i) k with
    | none => none
    | some (x, k) =>
      let j := i + x
      let vi := swap.atD i i
      let vj := swap.atD j j
      (drawShuffle base low total n (i + 1) (swap.put j vi) k).map fun r => ((low + vj) :: r.1, r.2)

/-- Outcome, salt and words used; none past the word limit. (DEDUCED, log 42) -/
def drawOutcome (base : Nat) (b : Bytes) : Option (List Nat × Bytes × Nat) :=
  let raw := if spMode b = 3 then drawUniform base (spLow b) (spHigh b - spLow b + 1) (spK b) 0
    else drawShuffle base (spLow b) (spN b) (spCount b) 0 [] 0
  match raw with
  | none => none
  | some (l, k) =>
    if wordLimit < k + 4 then none
    else some (if spMode b = 1 && spSort b then sortBy id l else l,
               ([0, 1, 2, 3].flatMap fun i => le 8 (drawWord base (k + i))), k + 4)

def outcomeBytes (l : List Nat) : Bytes := l.flatMap (le 8 ·)

/-- Seeds for the words of a draw: one for each request of 64 KiB (R319). (DEDUCED, log 42) -/
def seedsFor (words : Nat) : Nat := ceilDiv words 8192

/-- Take the seeds of a draw: those it was given, then the pool, then later ones. (DEDUCED, log 42) -/
def takeSeeds (n : Nat) (s : State) : State :=
  let a := min n s.rng.drawSeeds
  { s with rng := { s.rng with drawSeeds := 0, pool := s.rng.pool - (n - a) } }

/-- The commitment of the oldest draw without one (R330-R332). (DEDUCED, log 42) -/
def commitDraw (d : DrawRec) (s : State) : State :=
  let base := s.free
  match drawOutcome base d.spec with
  | none => voidDraw 2 .fault d (takeSeeds 128 { s with free := base + wordLimit })
  | some (l, salt, used) =>
    let seeds := seedsFor used
    let s := takeSeeds seeds { s with free := base + used }
    let (st, s) := issue d.owner s
    let leaf : Leaf :=
      { subject := drawId d, arg := digest8 d.spec, arg2 := d.stamp.seq
        arg3 := spMode d.spec + 256 * rd d.spec 9 1 + 65536 * seeds, kind := 0x08, owner := d.owner
        ext := some (digestBytes (sha (outcomeBytes l ++ salt)) ++ le 8 l.length ++ zeros 8) }
    let s := sealLeaf st leaf (replayNone s) s
    let done : DrawRec := { d with commit := some { seq := st.seq, dep := st.dep, outcome := l, salt := salt } }
    event 0x0907 d.owner [(8, drawId d), (8, st.dep)]
      { s with rng := { s.rng with draws := s.rng.draws.map fun x => if x.stamp.seq = d.stamp.seq then done else x } }

def doDrawCommit (s : State) : State :=
  match s.rng.draws.find? fun d => d.commit.isNone with
  | some d => commitDraw d s
  | none => s

/-- A draw needs a seed, and its leaf a number. -/
def execDrawCommit (s : State) : Res :=
  .next (when (inService s && s.rng.ready && !s.rng.failed && decide (0 < s.rng.pool + s.rng.drawSeeds) && canNumber s) doDrawCommit s)

/-! ### Reveal and DRAW_FETCH (R333, R336) -/

/-- Departure n of a commitment is durable. -/
def revealReady (s : State) (c : DrawCommit) : Bool :=
  match s.dep.durable with
  | some n => decide (c.dep ≤ n)
  | none => false

def revealDraw (d : DrawRec) (c : DrawCommit) (s : State) : State :=
  let b := le 8 (drawId d) ++ le 8 c.seq ++ le 8 c.dep ++ le 8 c.outcome.length ++ c.salt ++ outcomeBytes c.outcome
  let s := { s with rng := { s.rng with
    draws := s.rng.draws.filter (fun x => x.stamp.seq != d.stamp.seq)
    revealed := ((d.owner, d.stamp.seq, b) :: s.rng.revealed).take 64 } }
  let s := finish { d.work with stamp := some { d.stamp with dep := c.dep } } .ok 0 b s
  let leaf : Leaf := { subject := drawId d, arg := c.seq, arg2 := d.stamp.seq, kind := 0x09, owner := d.owner
                       ext := some (c.salt ++ le 8 c.dep ++ zeros 24) }
  pushEnd { leaf := leaf, work := none, status := .ok, detail := 0, out := [], ownStamp := false }
    (event 0x0908 d.owner [(8, drawId d)] s)

def doDrawReveal (s : State) : State :=
  match s.rng.draws.findSome? fun d => (d.commit.filter (revealReady s)).map fun c => (d, c) with
  | some (d, c) => revealDraw d c s
  | none => s

def execDrawReveal (s : State) : Res := .next (when (inService s) doDrawReveal s)

/-- DRAW_FETCH; an output longer than DST_LEN is not written (R58). -/
def doDrawFetch (w : Work) (s : State) : State :=
  match s.rng.revealed.find? fun r => r.1 == w.func s && r.2.1 == rd w.input 0 8 with
  | some (_, _, b) => if dDstLen w.desc < b.length then finish w .badDescriptor 0 [] s else finish w .ok 0 b s
  | none => finish w .notFound 0 [] s

def execDrawFetch (w : WorkId) (s : State) : Res := .next (withWork w 0x22 doDrawFetch s)

end Sys2Proof.Machine
end

