-- ==== Sys2Proof/Machine/Admission.lean ====
section
/-! DEFINITION. The admission step (R83-R91, R103) and the descriptors of a stopping ring (R74). -/

namespace Sys2Proof.Machine

/-! ### Refusals before a number (R85 steps 1-3, R89) -/

/-- End a fetched descriptor without a number. -/
def endUnsealed (f : Fetched) (st : Status) (detail : Nat) (s : State) : State :=
  deliver f.ring f.gen { idx := f.idx, tag := dTag f.desc, status := st, detail := detail, stamp := none, receipt := none
                         untrusted := false, irq := dIrq f.desc } s

/-- REFUSED_BUSY with its cause, counted. -/
def refuseBusy (f : Fetched) (cause : Nat) (s : State) : State :=
  let o := (ringOf s f.ring).func
  let s := { s with adm := { s.adm with refused := sat32 (s.adm.refused + 1) } }
  endUnsealed f .refusedBusy cause (bump 0x03 [0, cause] o 1 s)

/-- The next number would run more than 2^31 ahead (R91). -/
def spanReached (s : State) : Bool := decide (2 ^ 31 < span s)

/-- The DETAIL of R85 step 2 for a WAGER or QUERY record of an owner, 0 where no cause holds. -/
def busyCause (s : State) (o : Nat) : Nat :=
  if s.adm.ledgerFull then 2
  else if (ownerOf s o).backlogFull then 3
  else if spanReached s || !canNumber s then 4
  else if s.sys.overlap then 5
  else 0

/-- R91: event 0x0305 on the first refusal of the span limit. -/
def noteSpan (s : State) : State :=
  if spanReached s && !s.adm.spanSeen then event 0x0305 0 [] { s with adm := { s.adm with spanSeen := true } } else s

def refuse (f : Fetched) (cause : Nat) (s : State) : State :=
  refuseBusy f cause (if cause = 4 then noteSpan s else s)

/-! ### The close rule (R103) -/

/-- The first matching row for a wager of an owner's game admitted at t; none passes. -/
def closeReason (s : State) (o game t : Nat) : Option Nat :=
  if !clkValid s then some 7
  else if s.vm.stopped || s.sys.anchorFault then some 8
  else if s.sys.close then some 6
  else
    match findGame s o game with
    | none => some 5
    | some g =>
      let u := (uncertainty s).getD 0
      if !g.live && g.reason == 4 then some 4
      else if !g.live || uncTooBig s o then some 3
      else if t < g.openT + u then some 1
      else if g.closeT ≤ t + u + g.guard then some 2
      else none

/-- R85 step 5: the anchor seals a closed wager, with its receipt where the key can be derived (R141). -/
def sealClosed (f : Fetched) (o : Nat) (r : Bytes) (st : Stamp) (reason : Nat) (s : State) : State :=
  let s := sealLeaf st (wagerLeaf f.ring o f.desc r .refusedClosed reason 0 0 0 0) (replayNone s) s
  let aff := affinityDie s o (hTerminal r)
  let (key, s) := deriveReceipt (receiptDie s aff) o st.seq r s
  deliver f.ring f.gen { idx := f.idx, tag := dTag f.desc, status := .refusedClosed, detail := reason, stamp := some st
                         receipt := key.map fun k => receiptBytes k s.otp.deviceId st (hCtr r) .refusedClosed reason 0
                         untrusted := false, irq := dIrq f.desc } s

/-- R85 step 6: the wager is placed on a die with the version of its game's rulebook (R25, R146). (DEDUCED, log 15) -/
def placeWager (f : Fetched) (o : Nat) (r : Bytes) (st : Stamp) (g : Game) (s : State) : State :=
  let version := ((bookOf s o g.rulebook).map (·.version)).getD 0
  let i : Item := { seq := st.seq, t := st.t, dep := st.dep, unc := (uncertainty s).getD 0xFFFFFFFF, owner := o
                    ring := f.ring, gen := f.gen, idx := f.idx, desc := f.desc, record := r, game := g.id
                    openT := g.openT, closeT := g.closeT, guard := g.guard, handle := g.rulebook, version := version
                    isCancel := false, targetDev := 0, targetSeq := 0, die := placeDie s o (hTerminal r), ended := none }
  { s with adm := { s.adm with items := s.adm.items ++ [i] } }

/-! ### Admission -/

/-- A wager that holds a token takes its number, and then meets the close rule. -/
def admitWager (f : Fetched) (o : Nat) (r : Bytes) (s : State) : State :=
  let s := bump 0x01 [0] o 1 (mapRing f.ring (fun x => { x with tokens := x.tokens - 1 }) s)
  let (st, s) := issue o s
  match closeReason s o (hGame r) st.t with
  | some c => sealClosed f o r st c s
  | none =>
    match findGame s o (hGame r) with
    | some g => placeWager f o r st g s
    | none => s

/-- A QUERY or SERVICE record waits for the command of its opcode. CLAIM and CANCEL take their number here; the
other sealed opcodes take it as their own command decides them (R102). -/
def admitWork (f : Fetched) (x : Ring) (b : Bytes) (s : State) : State :=
  let w : Work := { ring := f.ring, gen := f.gen, idx := f.idx, desc := f.desc, src := b, stamp := none }
  let s := bump 0x01 [x.cls] x.func 1 s
  let (w, s) := if dOp f.desc = 0x10 ∨ dOp f.desc = 0x11 then stampWork w x.func s else (w, s)
  { s with adm := { s.adm with work := s.adm.work ++ [w] } }

/-- The steps of R85 for a record of a RUNNING ring. -/
def decideRunning (f : Fetched) (x : Ring) (s : State) : State :=
  match checked s x f.desc f.src with
  | none => endUnsealed f .badDescriptor 0 s
  | some b =>
    let cause := if x.cls = 2 then 0 else busyCause s x.func
    if cause ≠ 0 then refuse f cause s
    else if x.cls = 0 then
      (if x.tokens = 0 then refuse f 1 s else admitWager f x.func b s)
    else admitWork f x b s

/-! ### Stopping rings (R74) -/

/-- The opcode always seals a leaf. -/
def alwaysSeals (op : Nat) : Bool :=
  op == 0x01 || (0x10 ≤ op && op ≤ 0x16 && op != 0x13 && op != 0x14) || (0x60 ≤ op && op ≤ 0x65) || op == 0x21
    || (0x50 ≤ op && op ≤ 0x56) || op == 0x58 || op == 0x59 || op == 0x5D

/-- A RING_STOPPED completion of this descriptor is sealed. -/
def sealsStopped (x : Ring) (d : BitVec 512) : Bool := x.func != 0 && alwaysSeals (dOp d)

/-- A backlog limit, the span limit or the SEQ_HIGH mark holds the remaining descriptors of a STOPPING ring. (DEDUCED, log 15) -/
def stopWaits (s : State) (x : Ring) (d : BitVec 512) : Bool :=
  (x.cls != 2 && (s.adm.ledgerFull || (ownerOf s x.func).backlogFull || spanReached s))
    || ((x.cls != 2 || sealsStopped x d) && !canNumber s)

/-- The leaf of a sealed RING_STOPPED descriptor, from the class of its ring (R164). -/
def stoppedLeaf (ring : Nat) (x : Ring) (d : BitVec 512) : Leaf :=
  { subject := if x.cls = 2 then dOp d else 0, tag := dTag d, arg3 := if x.cls = 1 then dOp d else 0, ring := ring
    status := .ringStopped, kind := if x.cls = 0 then 0x01 else if x.cls = 1 then 0x02 else 0x07, owner := x.func }

def endStopped (f : Fetched) (x : Ring) (s : State) : State :=
  if formBad s x f.desc then endUnsealed f .badDescriptor 0 s
  else if sealsStopped x f.desc then
    (let (st, s) := issue x.func s
     let s := sealLeaf st (stoppedLeaf f.ring x f.desc) (replayNone s) s
     deliver f.ring f.gen { idx := f.idx, tag := dTag f.desc, status := .ringStopped, detail := 0, stamp := some st
                            receipt := none, untrusted := false, irq := dIrq f.desc } s)
  else endUnsealed f .ringStopped 0 s

/-! ### One step (R83, R84) -/

/-- During an admission pause only two overlapping faults let a record be decided: WAGER and QUERY records are refused,
and the records of a STOPPING ring are not held back (R36, R74). (DEDUCED, log 15) -/
def pauseLets (s : State) (x : Ring) : Bool :=
  s.adm.pausedAt.isNone || (s.sys.overlap && (decide (x.cls ≤ 1) || x.state == .stopping))

/-- A record that this step can decide: any but one that waits on a STOPPING ring or for the end of a pause. (DESIGN CHOICE, log 13) -/
def decidable (s : State) (f : Fetched) : Bool :=
  let x := ringOf s f.ring
  pauseLets s x && !(x.state == .stopping && !formBad s x f.desc && stopWaits s x f.desc)

/-- The record to decide next (R83): of the earliest admission step, and of these on the lowest ring; the first in the
order of arrival among equals. -/
def nextRecord (s : State) : Option Fetched :=
  (s.adm.fetched.filter (decidable s)).foldl (fun (a : Option Fetched) f =>
    match a with
    | none => some f
    | some b => if f.step < b.step || (f.step == b.step && decide (f.ring < b.ring)) then some f else a) none

def takeRecord (f : Fetched) (s : State) : State :=
  let x := ringOf s f.ring
  let s := { s with adm := { s.adm with fetched := s.adm.fetched.erase f } }
  if x.gen != f.gen then s
  else if x.state == .stopping then endStopped f x s
  else if x.state == .running then decideRunning f x s
  else s

/-- Nothing is admitted outside service, in an admission pause (R34), or after the record of a power failure (R219).
While two faults overlap, records are refused (R36). -/
def mayAdmit (s : State) : Bool := inService s && (s.adm.pausedAt.isNone || s.sys.overlap) && !lastIssued s

/-- The next decidable record; when there is none, an inbound claim entry (R400), which a pause holds back. -/
def decideOne (s : State) : State :=
  match nextRecord s with
  | some f => takeRecord f s
  | none => if s.adm.pausedAt.isNone then decideInbound s else s

/-- Device-originated leaves that wait take their numbers first (R165), and a due close tick is inserted
(R155). (DESIGN CHOICE, log 13) -/
def doAdmissionStep (s : State) : State :=
  let s := tryTick (drainEnds s)
  if mayAdmit s then decideOne s else s

def execAdmissionStep (t : Nat) (s : State) : Res :=
  .next (when (alive s && s.sys.state != .stabled) (fun s => doAdmissionStep (advance t s)) s)

end Sys2Proof.Machine
end

