-- ==== Sys2Proof/Machine/Cards.lean ====
section
/-! DEFINITION. Custody cards: the bus, identification, requests and sessions, writes and removal, ACCORD_ADD and
the share ceremonies (R339-R374). -/

namespace Sys2Proof.Machine

/-! ### The bus (R341-R347) -/

/-- The bus runs (R341). -/
def busOn (s : State) : Bool :=
  alive s && ((s.sys.state == .booting && s.sys.firmwareUp) || s.sys.state == .restoring || inService s)

def cardOf (s : State) (n : Nat) : Card := s.cards.slots.atD n {}
def setCard (n : Nat) (c : Card) (s : State) : State := { s with cards := { s.cards with slots := s.cards.slots.put n c } }
def mapCard (n : Nat) (f : Card → Card) (s : State) : State := setCard n (f (cardOf s n)) s

/-- RCA of a slot (R349). -/
def rcaOf (n : Nat) : Nat := n + 1

/-- The slot that holds an identified card of an identity. -/
def slotWith (s : State) (id : Bytes) : Option Nat :=
  (s.cards.slots.find? fun (e : Nat × Card) => e.2.identified && e.2.id == id).map (·.1)

/-- The bus is at 50 MHz (R342). -/
def busFast (s : State) : Bool :=
  s.cards.hsEn && (s.cards.slots.any fun e => e.2.identified) && (s.cards.slots.all fun e => !e.2.identified || e.2.hs)
    && !(s.cards.bus.any fun p => !(cardOf s p.1).identified)

/-- An identification is running (R373). -/
def identRunning (s : State) : Bool :=
  match s.cards.bus with
  | [] => false
  | p :: _ => !(cardOf s p.1).identified

/-- Expired (R357): against the running count, which is the station-clock time while that is valid. -/
def cardExpired (s : State) (c : Card) : Bool := decide (c.validUntil * 10 ^ 9 ≤ s.clk.run)

/-- INDEX and ARGUMENT of a step's command (R352). -/
def stepCommand (s : State) (n : Nat) : CardStep → Nat × Nat
  | .goIdle => (0, 0)
  | .sendVdd => (1, if s.cards.v33 then 2 else 1)
  | .allSendId => (2, 0)
  | .setAddr => (3, rcaOf n * 2 ^ 16)
  | .sendLife => (10, rcaOf n * 2 ^ 16)
  | .select => (7, rcaOf n * 2 ^ 16)
  | .deselect => (7, 0)
  | .switchMode speed width => (6, speed * 256 + width)
  | .readMode _ _ => (8, 0)
  | .sendStatus => (13, rcaOf n * 2 ^ 16)
  | .request _ => (24, 0)
  | .fetch => (25, 0)
  | .cancelRequest => (26, 0)
  | .sessionOpen req => (20, req.length / 512)
  | .sessionAccept => (21, 0)
  | .shareWrite txn slot _ => (28, txn * 2 ^ 16 + slot)
  | .shareErase txn slot => (30, txn * 2 ^ 16 + slot)
  | .shareInfo bank => (29, bank)
  | .readCommit _ => (16, 0)

/-- States of R352: a step that needs TRAN, and one that needs STBY. -/
def needsTran : CardStep → Bool
  | .switchMode _ _ | .readMode _ _ | .request _ | .fetch | .cancelRequest | .sessionOpen _ | .sessionAccept
  | .shareWrite _ _ _ | .shareErase _ _ | .shareInfo _ | .readCommit _ => true
  | .goIdle | .sendVdd | .allSendId | .setAddr | .sendLife | .select | .deselect | .sendStatus => false

def needsStby : CardStep → Bool
  | .sendLife => true
  | _ => false

/-- Blocks of 512 bytes. -/
def blocksFuel : Nat → Bytes → List Bytes
  | 0, _ => []
  | k + 1, b => if b.isEmpty then [] else padTo 512 (b.take 512) :: blocksFuel k (b.drop 512)

/-- Data blocks that a step writes (R352). -/
def stepBlocks : CardStep → List Bytes
  | .request b => [padTo 512 b]
  | .sessionOpen req => blocksFuel 16 req
  | .shareWrite _ _ b => [padTo 512 b]
  | _ => []

/-- A step that reads a data block. -/
def stepReads : CardStep → Bool
  | .fetch | .sessionAccept | .shareInfo _ => true
  | _ => false

/-- A step that ends with busy (R343, R352). -/
def stepBusy : CardStep → Bool
  | .switchMode _ _ | .sessionOpen _ | .shareWrite _ _ _ | .shareErase _ _ => true
  | _ => false

/-- A step whose response is L-type, and one without a response. -/
def stepLong : CardStep → Bool
  | .allSendId | .sendLife | .readCommit _ => true
  | _ => false

/-- Put a step at the front and send its command. -/
def sendStep (n : Nat) (st : CardStep) (rest : List (Nat × CardStep)) (s : State) : State :=
  let (i, a) := stepCommand s n st
  emit (.cardCmd n i a) { s with cards := { s.cards with bus := (n, st) :: rest, phase := 0, blocks := stepBlocks st } }

/-- Start the step at the front of the bus: its card is selected or deselected first where R352 needs it, and
SEND_VDD follows GO_IDLE, which has no response. PWR_FAIL_N starts no card write (R366). (DEDUCED, log 36) -/
def issueHead (s : State) : State :=
  let writes := fun (p : Nat × CardStep) => match p.2 with
    | .shareWrite _ _ _ | .shareErase _ _ => true
    | _ => false
  let s := if s.sys.pwrFail then { s with cards := { s.cards with bus := s.cards.bus.filter fun p => !writes p } } else s
  match s.cards.bus with
  | [] => s
  | (n, st) :: rest =>
    let c := cardOf s n
    if needsTran st && c.state != 4 then sendStep n .select s.cards.bus s
    else if needsStby st && c.state == 4 then sendStep n .deselect s.cards.bus s
    else match st with
      | .goIdle =>
        let s := mapCard n (fun c => { c with state := 0, session := none, opening := none }) (sendStep n .goIdle rest s)
        sendStep n .sendVdd rest s
      | _ => sendStep n st rest s

/-- The step in progress has ended: what follows it goes first. -/
def finishStep (next : List (Nat × CardStep)) (s : State) : State :=
  issueHead { s with cards := { s.cards with bus := next ++ s.cards.bus.drop 1, phase := 0, repeated := false, blocks := [] } }

/-- Queue a step; an idle bus starts it. -/
def queueStep (n : Nat) (st : CardStep) (s : State) : State :=
  let idle := s.cards.bus.isEmpty
  let s := { s with cards := { s.cards with bus := s.cards.bus ++ [(n, st)] } }
  if idle then issueHead s else s

/-- Drop every step of a slot; the next step starts where the slot's was in progress. -/
def dropSteps (n : Nat) (s : State) : State :=
  let mine : Bool := match s.cards.bus with
    | [] => false
    | p :: _ => p.1 == n
  let s := { s with cards := { s.cards with bus := s.cards.bus.filter fun p => p.1 != n } }
  if mine then issueHead { s with cards := { s.cards with phase := 0, repeated := false, blocks := [], regiven := none } } else s

/-- A slot loses its power; the card stays seated. -/
def powerOffSlot (n : Nat) (s : State) : State := dropSteps n (setCard n {} s)

/-! ### Identification (R349-R355) -/

/-- Steps of the queue that begin an identification stand in slot order, after the step in progress. (DEDUCED, log 36) -/
def insertIdent (n : Nat) : List (Nat × CardStep) → List (Nat × CardStep)
  | [] => [(n, .goIdle)]
  | p :: r => if p.2 == .goIdle && decide (n < p.1) then (n, .goIdle) :: p :: r else p :: insertIdent n r

/-- Power a seated slot and identify its card. (DEDUCED, log 36) -/
def identify (n : Nat) (s : State) : State :=
  if !s.cards.slotEn.getLsbD n then s
  else
    let s := setCard n { powered := true } s
    match s.cards.bus with
    | [] => issueHead { s with cards := { s.cards with bus := [(n, .goIdle)] } }
    | p :: r => { s with cards := { s.cards with bus := p :: insertIdent n r } }

/-- Identify every seated card (R341). -/
def identifyAll (s : State) : State := s.cards.slots.foldl (fun st e => identify e.1 st) s

def execCardDetected (slot : Nat) (s : State) : Res :=
  .next (when (decide (slot < 8) && (s.cards.slots.at? slot).isNone) (fun s =>
    let s := setCard slot {} s
    if busOn s then identify slot s else s) s)

/-- CRC7 of 120 bits, most significant first (R343). -/
def crc7Bit (c : BitVec 7) (b : Bool) : BitVec 7 :=
  let c' := c <<< 1
  if (c.getLsbD 6) != b then c' ^^^ 0x09 else c'

def crc7 (p : BitVec 120) : BitVec 7 := (List.range 120).reverse.foldl (fun c i => crc7Bit c (p.getLsbD i)) 0

/-- CARD_ID: the payload of ALL_SEND_ID, its CRC7 and the end bit, in transmission order (R351). -/
def cardIdOf (p : BitVec 120) : Bytes := (le 16 (p ++ crc7 p ++ (1 : BitVec 1)).toNat).reverse

/-- SWITCH_MODE of an identification (R354). -/
def modeSteps (s : State) (n : Nat) : List (Nat × CardStep) :=
  if (cardOf s n).slow then [(n, .switchMode 0 0)] else [(n, .switchMode (if s.cards.hsEn then 1 else 0) 2)]

/-- The identity that ALL_SEND_ID read (R350). -/
def identityRead (n : Nat) (p : BitVec 120) (s : State) : State :=
  let id := cardIdOf p
  match slotWith s id with
  | some m =>
    if s.cards.regiven == some m then event 0x0A0B 0 [] (powerOffSlot n s)
    else
      let s := mapCard m (fun c => { c with state := 2, session := none, opening := none, hs := false, width := 0 }) s
      finishStep [(m, .setAddr), (n, .allSendId)] { s with cards := { s.cards with regiven := some m } }
  | none => finishStep [(n, .setAddr)] (mapCard n (fun c => { c with id := id, state := 2 }) s)

/-- SET_ADDR has been answered: STBY. A card that was given back its RCA is switched again later. -/
def addressed (n : Nat) (s : State) : State :=
  let s := mapCard n (fun c => { c with state := 3 }) s
  if s.cards.regiven == some n then queueStep n .sendLife (finishStep [] s) else finishStep [(n, .sendLife)] s

/-- The identified card's registers, and what follows: an unconfirmed record of the card is settled (R366). -/
def identified (n : Nat) (s : State) : State :=
  let c := cardOf s n
  let s := setCard n { c with identified := true, state := 3 } s
  let s := event 0x0A01 0 [(1, n), (1, rcaOf n), (16, leNat c.id)] { s with cards := { s.cards with regiven := none } }
  let s := if 180000 ≤ c.commits then event 0x0A07 0 [] s else s
  if s.cards.records.any fun r => r.unconfirmed && r.card == c.id then finishStep [(n, .readCommit true)] s else finishStep [] s

/-- The life register (R355, R356). -/
def lifeRead (p : BitVec 120) (c : Card) : Card :=
  let commits := (p.extractLsb' 48 32).toNat
  let tries := (p.extractLsb' 28 4).toNat
  { c with
    validUntil := (p.extractLsb' 80 40).toNat, commits := commits, slotsUsed := p.extractLsb' 32 16, pinTries := tries
    readOnly := decide (200000 ≤ commits), pinBlocked := tries == 0 }

/-- READ_MODE has been answered (R354). (DEDUCED, log 36) -/
def modeRead (n speed width : Nat) (p : W32) (s : State) : State :=
  let c := cardOf s n
  let same := (p.extractLsb' 8 2).toNat == speed && (p.extractLsb' 0 2).toNat == width
  let fallback := speed == 0 && width == 0
  if same then
    let s := setCard n { c with hs := speed == 1, width := width, failures := 0 } s
    let s := if fallback then event 0x0A04 0 [(1, n)] s else s
    finishStep (if c.identified then [] else [(n, .deselect)]) s
  else if fallback then event 0x0A02 0 [(1, n), (1, 2)] (powerOffSlot n s)
  else finishStep [(n, .switchMode 0 0)] (setCard n { c with slow := true } s)

/-! ### Operations and their parts -/

def mapPart (n : Nat) (f : CardPart → CardPart) (s : State) : State :=
  let g := fun (p : CardPart) => if p.slot = n ∧ 1 ≤ p.stage ∧ p.stage ≤ 4 then f p else p
  { s with cards := { s.cards with ops := s.cards.ops.map fun o => { o with parts := o.parts.map g } } }

/-- The operation whose part on a slot is under way, with that part. -/
def partOn (s : State) (n : Nat) : Option (CardOp × CardPart) :=
  s.cards.ops.findSome? fun o =>
    (o.parts.find? fun p => p.slot == n && decide (1 ≤ p.stage) && decide (p.stage ≤ 4)).map fun p => (o, p)

/-- Steps that belong to an operation. -/
def opStep : CardStep → Bool
  | .request _ | .fetch | .cancelRequest | .sessionOpen _ | .sessionAccept | .shareWrite _ _ _ | .shareErase _ _
  | .shareInfo _ | .sendStatus => true
  | _ => false

/-- The device's end of an operation (R363, R370). -/
def endCardOp (o : CardOp) (st : Status) (detail : Nat) (out : Bytes) (s : State) : State :=
  let mine := fun (n : Nat) => o.parts.any fun p => p.slot == n && decide (1 ≤ p.stage) && decide (p.stage ≤ 4)
  let queue := s.cards.bus.drop 1
  let fresh := fun (e : Nat × Card) => if mine e.1 then (e.1, { e.2 with failures := 0 }) else e
  let s := { s with cards := { s.cards with
    slots := s.cards.slots.map fresh
    ops := s.cards.ops.filter fun x => x.work != o.work
    bus := s.cards.bus.take 1 ++ queue.filter fun p => !(mine p.1 && opStep p.2) } }
  match o.task with
  | .sign _ => finish o.work st detail out s
  | .shareOut | .shareIn | .reshare | .shareErase =>
    pushEnd { leaf := serviceLeaf o.work o.owner st detail, work := some o.work, status := st, detail := detail, out := out
              ownStamp := true } s

/-- Statuses of an end that the manual gives no status for. (DESIGN CHOICE, log 37) -/
def failStatuses : List Status :=
  [.authFail, .keyLimit, .noKey, .aborted, .fault, .rngUnavailable, .paramInvalid, .accordRequired, .ownerUnreachable
  , .notFound, .policy, .cardUncertain]

/-- An operation ends for a reason whose status the manual does not give: the status and DETAIL are free values. (DESIGN CHOICE, log 37) -/
def endUnstated (o : CardOp) (s : State) : State :=
  let (st, s) := pick failStatuses s
  let (d, s) := freeNat s
  endCardOp o (st.getD .fault) (d % 65536) [] s

/-- As endUnstated, for the operation under way on a slot. -/
def endOn (n : Nat) (f : CardOp → State → State) (s : State) : State :=
  match partOn s n with
  | some (o, _) => f o s
  | none => s

/-! ### Blocks and keys (R359-R362, R367) -/

def algP256 : Nat := 0x01

/-- A REQUEST block (R359). -/
def requestBlock (s : State) (type : Nat) (fields : Bytes) : Bytes :=
  padTo 512 (le 1 type ++ zeros 7 ++ le 8 s.otp.deviceId.toNat ++ fields)

/-- The request of SESSION_OPEN, with the ephemeral private key (R361). -/
def sessionRequest (card : Bytes) (s : State) : (Bytes × Bytes) × State :=
  let (e, s) := drawBytes 32 s
  let (r, s) := drawNat s
  let cert := s.life.cert.getD []
  let body := ascii "KYOTHA SESSION" ++ zeros 2 ++ le 8 s.otp.deviceId.toNat ++ zeros 8 ++ le 65 (Config.public algP256 e)
    ++ zeros 3 ++ cert
  let sig := le 96 (Config.sign schemeP384 (identityKey s) (body ++ card) r)
  let req := body ++ sig
  ((padTo (512 * ceilDiv req.length 512) req, e), s)

/-- A share header (R367). -/
def shareHeader (owner : W64) (origin setNo : Nat) (kcv : Bytes) (t n x : Nat) : Bytes :=
  le 8 owner.toNat ++ le 8 origin ++ le 8 setNo ++ padTo 8 kcv ++ le 1 t ++ le 1 n ++ le 1 x ++ le 1 1 ++ zeros 28

/-- A share transfer block from the device (R362). -/
def transferBlock (key header share : Bytes) (s : State) : Bytes × State :=
  let ((n, ct, tag), s) := vaultSeal key (fun _ => header) share s
  (padTo 512 (header ++ n ++ zeros 4 ++ ct ++ tag), s)

/-- Open a share transfer block of a card: header, share, and whether the tag verifies. -/
def openTransfer (key b : Bytes) : Bytes × Bytes × Bool :=
  let h := slice b 0 64
  let (pt, good) := gcmOpen key (slice b 64 12) h (slice b 80 32) (slice b 112 16)
  (h, pt, good)

/-- The place of a share among the eight headers of a SHARE_INFO block. -/
def findShare (origin setNo : Nat) (b : Bytes) : Option (Nat × Bytes) :=
  ((List.range 8).map fun k => (k, slice b (64 * k) 64)).find? fun e =>
    rd e.2 8 8 == origin && rd e.2 16 8 == setNo && rd e.2 35 1 == 1

/-- ORIGIN and SET_NO that a ceremony's body names (R368). -/
def bodySet (o : CardOp) : Nat × Nat := (rd o.work.input 8 8, rd o.work.input 16 8)

/-- The public key of a card in an owner's official set. -/
def officialKey (s : State) (owner : Nat) (card : Bytes) : Option Bytes :=
  ((ownerOf s owner).officials.find? fun f => f.card == card).map (·.pub)

/-! ### Starting parts (R371) -/

/-- The part that an operation may start next: sessions in body order, the RESHARE target after the source's
share is fetched. -/
def nextPart (o : CardOp) : Option CardPart :=
  match o.parts.find? fun p => p.stage == 0 with
  | none => none
  | some p =>
    let before := o.parts.takeWhile fun q => q.stage != 0
    let ready : Bool := match o.task with
      | .reshare => before.all fun q => q.stage == 4 && !q.share.isEmpty
      | .sign _ | .shareOut | .shareIn | .shareErase => before.all fun q => decide (2 ≤ q.stage)
    if ready then some p else none

def startStage (o : CardOp) (p : CardPart) (stage : Nat) (s : State) : State :=
  let g := fun (q : CardPart) => if q.slot = p.slot then { q with stage := stage } else q
  { s with cards := { s.cards with ops := s.cards.ops.map fun x =>
    if x.work = o.work then { x with parts := x.parts.map g } else x } }

/-- Start one part: SIGN sends its request, a ceremony opens a session (R361, R363). -/
def startPart (o : CardOp) (p : CardPart) (s : State) : State :=
  if !(cardOf s p.slot).identified || (cardOf s p.slot).id != p.card then endCardOp o .notFound 0 [] s
  else match o.task with
    | .sign no =>
      match s.keys.accords.find? fun a => a.no == no with
      | none => endCardOp o .notFound 0 [] s
      | some a => queueStep p.slot (.request (requestBlock s 1 (accordBlock s.otp.deviceId a))) (startStage o p 2 s)
    | .shareOut | .shareIn | .reshare | .shareErase =>
      if !canDraw s then endCardOp o .rngUnavailable 0 [] s
      else
        let ((req, e), s) := sessionRequest p.card s
        let s := mapCard p.slot (fun c => { c with session := none, opening := some (e, req) }) s
        queueStep p.slot (.sessionOpen req) (startStage o p 1 s)

/-- A confirmed write or erase whose step is not queued: it waited for PWR_FAIL_N. -/
def startWrite (o : CardOp) (p : CardPart) (s : State) : State :=
  match s.cards.records.find? fun r => r.card == p.card && !r.unconfirmed with
  | none => s
  | some r =>
    match r.header with
    | none => queueStep p.slot (.shareErase r.txn r.slot) s
    | some _ =>
      match (cardOf s p.slot).session with
      | none => endUnstated o s
      | some (dc, _) =>
        let (b, s) := transferBlock dc p.header p.share s
        queueStep p.slot (.shareWrite r.txn r.slot b) s

/-- Start what can start: a card serves one operation at a time. -/
def kickOne (o : CardOp) (s : State) : State :=
  let stalled := o.parts.find? fun p => p.stage == 4 && !(s.cards.bus.any fun b => b.1 == p.slot)
    && (s.cards.records.any fun r => r.card == p.card && !r.unconfirmed)
  match stalled with
  | some p => if s.sys.pwrFail then s else startWrite o p s
  | none =>
    match nextPart o with
    | none => s
    | some p =>
      if (partOn s p.slot).isSome || s.cards.bus.any fun b => b.1 == p.slot then s else startPart o p s

def kick (s : State) : State := s.cards.ops.foldl (fun st o => if st.cards.ops.contains o then kickOne o st else st) s

/-! ### Sessions, requests and writes (R359-R366, R371) -/

/-- A transaction record before every write, and the write of it (R364). -/
def beginWrite (p : CardPart) (place : Nat) (header : Option Bytes) (s : State) : State :=
  let r : TxnRec := { card := p.card, txn := s.cards.txn, slot := place, commits := (cardOf s p.slot).commits, header := header, unconfirmed := false }
  { s with cards := { s.cards with records := s.cards.records ++ [r], txn := (s.cards.txn + 1) % 65536 } }

/-- The lowest free share slot of a card (R371). -/
def freePlace (c : Card) : Option Nat := (List.range 16).find? fun i => !c.slotsUsed.getLsbD i

/-- The step in progress ends; a STORE that its holder confirmed is written. -/
def storeConfirmed (o : CardOp) (p : CardPart) (s : State) : State :=
  let s := mapPart p.slot (fun q => { q with stage := 4 }) s
  match freePlace (cardOf s p.slot), (cardOf s p.slot).session with
  | some i, some (dc, _) =>
    let s := beginWrite p i (some p.header) s
    let txn := ((s.cards.records.getLast?).map (·.txn)).getD 0
    let (b, s) := transferBlock dc p.header p.share s
    finishStep [(p.slot, .shareWrite txn i b)] s
  | _, _ => finishStep [] (endUnstated o s)

def eraseNow (p : CardPart) (s : State) : State :=
  let s := beginWrite p p.place none (mapPart p.slot (fun q => { q with stage := 4 }) s)
  let txn := ((s.cards.records.getLast?).map (·.txn)).getD 0
  finishStep [(p.slot, .shareErase txn p.place)] s

/-- The holder has confirmed (R360). -/
def confirmed (o : CardOp) (p : CardPart) (s : State) : State :=
  match o.task with
  | .sign _ | .shareIn => finishStep [(p.slot, .fetch)] (mapPart p.slot (fun q => { q with stage := 4 }) s)
  | .shareOut => storeConfirmed o p s
  | .reshare => if p.share.isEmpty then finishStep [(p.slot, .fetch)] (mapPart p.slot (fun q => { q with stage := 4 }) s) else storeConfirmed o p s
  | .shareErase => eraseNow p s

/-- The holder declined, or the card is blocked (R358, R363, R370). (DESIGN CHOICE, log 37) -/
def declined (o : CardOp) (s : State) : State := finishStep [] (endCardOp o .authFail 3 [] (event 0x0A08 0 [] s))

/-- SEND_STATUS has been answered while a request waits (R360). -/
def polled (n : Nat) (p : W32) (s : State) : State :=
  match partOn s n with
  | some (o, q) =>
    if q.stage ≠ 3 then finishStep [] s
    else if (p.extractLsb' 24 2).toNat = 3 || p.getLsbD 27 then declined o s
    else if (p.extractLsb' 24 2).toNat = 2 then confirmed o q s
    else finishStep [] s
  | none => finishStep [] s

/-- A session is open: what is asked of the card (R371). (DEDUCED, log 36) -/
def askShare (o : CardOp) (p : CardPart) (s : State) : State :=
  let s := mapPart p.slot (fun q => { q with stage := 2 }) s
  match o.task with
  | .shareOut => finishStep [(p.slot, .request (requestBlock s 3 p.header))] s
  | .reshare => if p.share.isEmpty then finishStep [(p.slot, .shareInfo 0)] s else finishStep [(p.slot, .request (requestBlock s 3 p.header))] s
  | .shareIn | .shareErase => finishStep [(p.slot, .shareInfo 0)] s
  | .sign _ => finishStep [] s

/-- SESSION_ACCEPT's block (R361 steps 3 and 4). (DESIGN CHOICE, log 37) -/
def acceptSession (n : Nat) (b : Bytes) (s : State) : State :=
  match partOn s n, (cardOf s n).opening with
  | some (o, p), some (e, req) =>
    let pub := slice b 0 68
    let z := Config.agree algP256 e (slice b 0 65)
    match officialKey s o.owner p.card, z with
    | some k, some z =>
      if !Config.verify schemeP256 k (req ++ pub) (slice b 68 64) then finishStep [] (endUnstated o (event 0x0A0A 0 [(1, 1)] s))
      else
        let h := digestBytes (sha (req ++ pub))
        let zb := le 32 z
        let keys := (kmac 32 zb h "SOLNY CARD DC", kmac 32 zb h "SOLNY CARD CD")
        askShare o p (mapCard n (fun c => { c with session := some keys, opening := none }) s)
    | _, _ => finishStep [] (endUnstated o (event 0x0A0A 0 [(1, 1)] s))
  | _, _ => finishStep [] s

/-- SHARE_INFO's block: the share of the set that the body names (R371). -/
def shareFound (n bank : Nat) (b : Bytes) (s : State) : State :=
  match partOn s n with
  | some (o, p) =>
    match findShare (bodySet o).1 (bodySet o).2 b with
    | some (k, h) =>
      let place := 8 * bank + k
      let s := mapPart n (fun q => { q with place := place, header := h }) s
      let block : Bytes := match o.task with
        | .shareErase => requestBlock s 4 (le 1 place)
        | .reshare => requestBlock s 2 (le 1 place ++ le 1 1)
        | .sign _ | .shareOut | .shareIn => requestBlock s 2 (le 1 place ++ le 1 0)
      if p.stage = 2 then finishStep [(n, .request block)] s else finishStep [] s
    | none => if bank = 0 then finishStep [(n, .shareInfo 1)] s else finishStep [] (endUnstated o s)
  | none => finishStep [] s

/-- Headers of one set (R371): they agree in every field but X, and no X is used twice. (DEDUCED, log 38) -/
def headersAgree (l : List CardPart) : Bool :=
  match l with
  | [] => false
  | p :: _ => (l.all fun q => q.header.take 34 == p.header.take 34 && q.share.length == 32)
      && ((l.map fun q => rd q.header 34 1).eraseDups.length == l.length)

/-- SHARE_IN has every share: interpolation, KCV and the new slot (R371, R237). (DEDUCED, log 38) -/
def rebuildKey (o : CardOp) (s : State) : State :=
  let shares := o.parts.map fun q => (rd q.header 34 1, q.share)
  let key := le 32 (Config.combine shares 32)
  let kc := (o.parts.head?.map fun q => slice q.header 24 8).getD []
  if !headersAgree o.parts then endCardOp o .authFail 1 [] s
  else if kcv key != kc then endCardOp o .authFail 2 [] s
  else
    match newKey o.owner false (BitVec.ofNat 64 (rd o.work.input 24 8)) key s with
    | none => endCardOp o .policy 0 [] s
    | some (h, s) => endCardOp o .ok 0 (le 4 h ++ zeros 4 ++ kc) s

/-- FETCH's block: a signature, or a share (R359, R363, R371). -/
def fetched (n : Nat) (b : Bytes) (s : State) : State :=
  match partOn s n with
  | none => finishStep [] s
  | some (o, p) =>
    match o.task with
    | .sign no =>
      match s.keys.accords.find? fun a => a.no == no with
      | none => finishStep [] (endCardOp o .notFound 0 [] s)
      | some a =>
        if cardExpired s (cardOf s n) then finishStep [] (endCardOp o .policy 1 [] s)
        else
          let ((st, d), s) := addSignature a p.card (slice b 0 64) s
          finishStep [] (endCardOp o st d [] s)
    | .shareIn | .reshare | .shareOut | .shareErase =>
      match (cardOf s n).session with
      | none => finishStep [] (endUnstated o s)
      | some (_, cd) =>
        let (h, sh, good) := openTransfer cd b
        let fits := rd h 0 8 == (ownerOf s o.owner).id.toNat && rd h 8 8 == (bodySet o).1 && rd h 16 8 == (bodySet o).2
        if !good || !fits then finishStep [] (endCardOp o .authFail 1 [] s)
        else if o.task = .reshare then
          let g := fun (q : CardPart) => { q with header := h, share := sh }
          finishStep [] { s with cards := { s.cards with ops := s.cards.ops.map fun x =>
            if x.work = o.work then { x with parts := x.parts.map g } else x } }
        else
          let s := mapPart n (fun q => { q with header := h, share := sh, stage := 5 }) s
          match s.cards.ops.find? fun x => x.work == o.work with
          | some o' => if o'.parts.all fun q => q.stage == 5 then finishStep [] (rebuildKey o' s) else finishStep [] s
          | none => finishStep [] s

/-- The output of SHARE_OUT (R368). -/
def opOutput (o : CardOp) : Nat × Bytes :=
  match o.task with
  | .shareOut => (o.parts.length, le 8 o.setNo ++ o.kcv)
  | .sign _ | .shareIn | .reshare | .shareErase => (0, [])

/-- A write or erase of an operation is committed: its part is done, and the next step of the ceremony (R371). -/
def partWritten (n : Nat) (s : State) : State :=
  match partOn s n with
  | none => finishStep [(n, .sendLife)] s
  | some (o, _) =>
    let s := mapPart n (fun q => { q with stage := 5 }) s
    match s.cards.ops.find? fun x => x.work == o.work with
    | none => finishStep [(n, .sendLife)] s
    | some o' =>
      if o'.parts.all fun q => q.stage == 5 then
        let (d, out) := opOutput o'
        finishStep [(n, .sendLife)] (endCardOp o' .ok d out s)
      else if o'.task = .reshare then
        match o'.parts.find? fun q => q.stage == 4 with
        | none => finishStep [(n, .sendLife)] s
        | some q =>
          let s := beginWrite q q.place none s
          let txn := ((s.cards.records.getLast?).map (·.txn)).getD 0
          finishStep [(n, .sendLife), (q.slot, .shareErase txn q.place)] s
      else finishStep [(n, .sendLife)] s

/-- The write of a slot is committed; its record is freed (R364). -/
def committed (n txn place : Nat) (s : State) : State :=
  let id := (cardOf s n).id
  let s := { s with cards := { s.cards with records := s.cards.records.filter fun r => !(r.card == id && r.txn == txn) } }
  partWritten n (mapCard n (fun c => { c with lastTxn := txn, lastSlot := place }) s)

/-- The record of a write that was not committed is freed. (DEDUCED, log 38) -/
def dropRecord (id : Bytes) (txn : Nat) (s : State) : State :=
  { s with cards := { s.cards with records := s.cards.records.filter fun r => !(r.card == id && r.txn == txn) } }

/-- (DEDUCED, log 38) -/
def markRecord (id : Bytes) (txn : Nat) (s : State) : State :=
  { s with cards := { s.cards with records := s.cards.records.map fun r =>
    if r.card = id ∧ r.txn = txn then { r with unconfirmed := true } else r } }

/-! ### Failures (R347) -/

/-- A failure at 50 MHz after `before` others in a row: the second returns the card to default speed (R347, R354). An
operation that the card does not fail ends the row. -/
def countFailure (n before : Nat) (s : State) : State :=
  let c := cardOf s n
  if !c.identified || !busFast s then s
  else if before = 0 then setCard n { c with failures := 1 } s
  else queueStep n (.switchMode 0 0) (setCard n { c with failures := 0, slow := true } s)

/-- What a write that failed for good leaves of its record: known not committed before busy, unknown after. (DEDUCED, log 38) -/
def failedWrite (n phase : Nat) (st : CardStep) (s : State) : State :=
  let id := (cardOf s n).id
  match st with
  | .shareWrite txn _ _ => if phase < 2 then dropRecord id txn s else markRecord id txn s
  | .shareErase txn _ => markRecord id txn s
  | _ => s

/-- The operation that needed the step ends as a card failure: event 0x0A09. (DESIGN CHOICE, log 37) -/
def cardFailure (n : Nat) (st : CardStep) (s : State) : State :=
  let before := (cardOf s n).failures
  let s := failedWrite n s.cards.phase st (event 0x0A09 0 [] s)
  countFailure n before <|
  if !(cardOf s n).identified then dropSteps n s
  else if opStep st then finishStep [] (endOn n endUnstated s)
  else match st, s.cards.bus with
    | .readCommit false, _ :: (_, w) :: rest =>
      let s := failedWrite n 2 w { s with cards := { s.cards with bus := (n, st) :: rest } }
      finishStep [] (endOn n endUnstated s)
    | _, _ => finishStep [] s

/-- A step has failed once: it is repeated, a write only after READ_COMMIT; twice: a card failure (R347). SEND_VDD is
repeated until READY (R349), and ALL_SEND_ID with nobody left means that the identity given back was this card's
(R350). (DEDUCED, log 36; DESIGN CHOICE, log 37) -/
def stepFails (n : Nat) (st : CardStep) (s : State) : State :=
  let again := fun (s : State) => sendStep n st (s.cards.bus.drop 1) { s with cards := { s.cards with repeated := true } }
  match st with
  | .sendVdd => sendStep n st (s.cards.bus.drop 1) s
  | .allSendId =>
    if !s.cards.repeated then again s
    else if s.cards.regiven.isSome then event 0x0A0B 0 [] (powerOffSlot n s)
    else cardFailure n st s
  | .shareWrite _ _ _ | .shareErase _ _ =>
    if s.cards.repeated then cardFailure n st s
    else sendStep n (.readCommit false) s.cards.bus s
  | _ => if s.cards.repeated then cardFailure n st s else again s

/-- READ_COMMIT before the repeat of a write (R347): committed, or sent again. -/
def recheckWrite (n commits txn : Nat) (s : State) : State :=
  match s.cards.bus with
  | _ :: (_, st) :: rest =>
    let wrote := fun (t place : Nat) => match s.cards.records.find? fun r => r.card == (cardOf s n).id && r.txn == t with
      | some r => if commits = r.commits + 1 ∧ txn = t then
            some (committed n t place { s with cards := { s.cards with bus := (n, st) :: rest, repeated := false } })
          else none
      | none => none
    let resend := sendStep n st rest { s with cards := { s.cards with repeated := true } }
    match st with
    | .shareWrite t place _ => (wrote t place).getD resend
    | .shareErase t place => (wrote t place).getD resend
    | _ => resend
  | _ => finishStep [] s

/-! ### Settlement of unconfirmed records (R366) -/

/-- Event 0x0A06 with the result, and the record is freed; 1 stands for
committed and 2 for not committed, the rows of R366 that say so. (DEDUCED, log 20) -/
def settle (r : TxnRec) (wrote : Bool) (s : State) : State :=
  event 0x0A06 0 [(1, if wrote then 1 else 2)] (dropRecord r.card r.txn s)

/-- The oldest unconfirmed record of a card. -/
def unsettled (s : State) (n : Nat) : Option TxnRec := s.cards.records.find? fun r => r.unconfirmed && r.card == (cardOf s n).id

/-- Go on with the next unconfirmed record of the card. -/
def settleNext (n : Nat) (s : State) : State :=
  if (unsettled s n).isSome then finishStep [(n, .readCommit true)] s else finishStep [] s

def settleRead (n commits txn : Nat) (s : State) : State :=
  match unsettled s n with
  | none => finishStep [] s
  | some r =>
    if commits = r.commits + 1 ∧ txn = r.txn then settleNext n (settle r true s)
    else if commits = r.commits then settleNext n (settle r false s)
    else finishStep [(n, .shareInfo (r.slot / 8))] s

/-- SHARE_INFO of a settlement: the slot holds the header written, or is empty after an erase. -/
def settleInfo (n : Nat) (b : Bytes) (s : State) : State :=
  match unsettled s n with
  | none => finishStep [] s
  | some r =>
    let h := slice b (64 * (r.slot % 8)) 64
    let wrote : Bool := match r.header with
      | some x => h == x
      | none => rd h 35 1 == 0
    settleNext n (settle r wrote s)

/-! ### Tokens (R343-R347) -/

/-- The status word of an S-type response (R353). -/
def statusRead (st : CardStep) (p : W32) (c : Card) : Card :=
  match st with
  | .sendVdd | .readMode _ _ => c
  | _ => { c with readOnly := p.getLsbD 28, pinBlocked := p.getLsbD 27, lastTxn := (p.extractLsb' 0 16).toNat }

/-- A refused command: ERROR_CMD or ERROR_ARG (R352, R353). (DEDUCED, log 36) -/
def refused (n : Nat) (st : CardStep) (s : State) : State :=
  if !(cardOf s n).identified then dropSteps n s
  else
    let s := match st with
      | .sessionOpen _ | .sessionAccept => event 0x0A0A 0 [(1, 2)] s
      | .shareWrite txn _ _ => dropRecord (cardOf s n).id txn s
      | .shareErase txn _ => dropRecord (cardOf s n).id txn s
      | _ => s
    if opStep st then finishStep [] (endOn n endUnstated s) else finishStep [] s

/-- A step without data and busy has been answered by an S-type token. -/
def answered (n : Nat) (st : CardStep) (p : W32) (s : State) : State :=
  match st with
  | .sendVdd => if p.getLsbD 31 then finishStep [(n, .allSendId)] (mapCard n (fun c => { c with state := 1 }) s)
      else sendStep n st (s.cards.bus.drop 1) s
  | .setAddr => addressed n s
  | .select =>
    let slots := s.cards.slots.map fun e => (e.1, if e.2.state = 4 then { e.2 with state := 3 } else e.2)
    finishStep [] (mapCard n (fun c => { c with state := 4 }) { s with cards := { s.cards with slots := slots } })
  | .deselect => if (cardOf s n).identified then finishStep [] (mapCard n (fun c => { c with state := 3 }) s) else identified n s
  | .readMode speed width => modeRead n speed width p s
  | .sendStatus => polled n p s
  | _ => finishStep [] s

def inPhase (k : Nat) (s : State) : State := { s with cards := { s.cards with phase := k } }

/-- The response of the step in progress (R352, R353). -/
def shortToken (n : Nat) (st : CardStep) (p : W32) (s : State) : State :=
  let s := mapCard n (statusRead st p) s
  let word : Bool := match st with
    | .sendVdd | .readMode _ _ => false
    | _ => true
  if word && p.getLsbD 29 then stepFails n st { s with cards := { s.cards with crcErr := sat32 (s.cards.crcErr + 1) } }
  else if word && (p.getLsbD 31 || p.getLsbD 30) then refused n st s
  else if stepReads st then inPhase 1 (mapCard n (fun c => { c with state := 7 }) s)
  else
    match s.cards.blocks with
    | b :: rest =>
      let s := mapCard n (fun c => { c with state := 5 }) s
      emit (.cardData n b) { s with cards := { s.cards with phase := 1, blocks := rest } }
    | [] =>
      if stepBusy st then inPhase 2 (mapCard n (fun c => { c with state := 6 }) s)
      else answered n st p s

def longToken (n : Nat) (st : CardStep) (p : BitVec 120) (s : State) : State :=
  match st with
  | .allSendId => identityRead n p s
  | .sendLife =>
    let s := mapCard n (lifeRead p) s
    if (cardOf s n).identified && s.cards.regiven != some n then finishStep [] s
    else finishStep ((n, .select) :: modeSteps s n) { s with cards := { s.cards with regiven := if s.cards.regiven == some n then none else s.cards.regiven } }
  | .readCommit forRecord =>
    let commits := (p.extractLsb' 88 32).toNat
    let txn := (p.extractLsb' 72 16).toNat
    let s := mapCard n (fun c => { c with commits := commits, lastTxn := txn, lastSlot := (p.extractLsb' 68 4).toNat }) s
    if forRecord then settleRead n commits txn s else recheckWrite n commits txn s
  | _ => s

/-- Data blocks accepted: the next one, busy, or the end of the step. -/
def blockAccepted (n : Nat) (st : CardStep) (s : State) : State :=
  match s.cards.blocks with
  | b :: rest => emit (.cardData n b) { s with cards := { s.cards with blocks := rest } }
  | [] =>
    if stepBusy st then inPhase 2 (mapCard n (fun c => { c with state := 6 }) s)
    else
      let s := mapCard n (fun c => { c with state := 4 }) s
      match st with
      | .request _ => finishStep [] (mapPart n (fun q => { q with stage := if q.stage = 2 then 3 else q.stage }) s)
      | _ => finishStep [] s

/-- (DEDUCED, log 36) -/
def noteCrc (s : State) : State := { s with cards := { s.cards with crcErr := sat32 (s.cards.crcErr + 1) } }

/-- A token that fits the step in progress; a failed CRC is counted, and a token that does not fit is a failed
response. -/
def doCardResponse (n : Nat) (t : CardToken) (s : State) : State :=
  match s.cards.bus with
  | (m, st) :: _ =>
    if m ≠ n then s
    else match t with
      | .short i p good =>
        if s.cards.phase ≠ 0 || stepLong st then s
        else if !good then stepFails n st (noteCrc s)
        else if i ≠ (stepCommand s n st).1 then stepFails n st s
        else shortToken n st p s
      | .long p good =>
        if s.cards.phase ≠ 0 || !stepLong st then s
        else if !good then stepFails n st (noteCrc s)
        else longToken n st p s
      | .crcStatus good =>
        if s.cards.phase ≠ 1 || stepReads st then s
        else if !good then stepFails n st (noteCrc s)
        else blockAccepted n st s
  | [] => s

/-- Run a bus event, then start what it lets start. (DEDUCED, log 36) -/
def onBus (f : State → State) (s : State) : Res := .next (when (busOn s) (fun s => kick (f s)) s)

def execCardResponse (slot : Nat) (r : CardToken) (s : State) : Res := onBus (doCardResponse slot r) s

def doCardDataBlock (n : Nat) (data : Bytes) (good : Bool) (s : State) : State :=
  match s.cards.bus with
  | (m, st) :: _ =>
    if m ≠ n || s.cards.phase ≠ 1 || !stepReads st then s
    else
      let s := mapCard n (fun c => { c with state := 4 }) s
      if !good then stepFails n st (noteCrc s)
      else match st with
        | .sessionAccept => acceptSession n data s
        | .shareInfo bank => if (partOn s n).isNone && (unsettled s n).isSome then settleInfo n data s else shareFound n bank data s
        | .fetch => fetched n data s
        | _ => s
  | [] => s

def execCardDataBlock (slot : Nat) (data : Bytes) (crcOk : Bool) (s : State) : Res := onBus (doCardDataBlock slot data crcOk) s

def noteTimeout (s : State) : State := { s with cards := { s.cards with timeouts := sat32 (s.cards.timeouts + 1) } }

def doCardResponseTimeout (n : Nat) (s : State) : State :=
  match s.cards.bus with
  | (m, st) :: _ => if m ≠ n || s.cards.phase ≠ 0 then s else stepFails n st (noteTimeout s)
  | [] => s

def execCardResponseTimeout (slot : Nat) (s : State) : Res := onBus (doCardResponseTimeout slot) s

/-- Busy has ended (R345): the mode is read back, the session accepted, the write committed. -/
def doCardBusyEnd (n : Nat) (s : State) : State :=
  match s.cards.bus with
  | (m, st) :: _ =>
    if m ≠ n || s.cards.phase ≠ 2 then s
    else
      let s := mapCard n (fun c => { c with state := 4 }) s
      match st with
      | .switchMode speed width => finishStep [(n, .readMode speed width)] s
      | .sessionOpen _ => if (partOn s n).isSome then finishStep [(n, .sessionAccept)] s else finishStep [] s
      | .shareWrite txn place _ => committed n txn place s
      | .shareErase txn place => committed n txn place s
      | _ => finishStep [] s
  | [] => s

def execCardBusyEnd (slot : Nat) (s : State) : Res := onBus (doCardBusyEnd slot) s

def doCardBusyTimeout (n : Nat) (s : State) : State :=
  match s.cards.bus with
  | (m, st) :: _ => if m ≠ n || s.cards.phase ≠ 2 then s else stepFails n st (noteTimeout s)
  | [] => s

def execCardBusyTimeout (slot : Nat) (s : State) : Res := onBus (doCardBusyTimeout slot) s

/-- R349 step 2: 1 s has passed without READY. -/
def doCardReadyTimeout (n : Nat) (s : State) : State :=
  match s.cards.bus with
  | (m, .sendVdd) :: _ => if m = n then event 0x0A02 0 [(1, n), (1, 1)] (powerOffSlot n s) else s
  | _ => s

def execCardReadyTimeout (slot : Nat) (s : State) : Res := onBus (doCardReadyTimeout slot) s

/-- R360: 50 ms have passed. A card that is gone ends the operation that needs it (R365). -/
def doCardPoll (n : Nat) (s : State) : State :=
  match partOn s n with
  | some (o, p) =>
    if !(cardOf s n).identified || (cardOf s n).id != p.card then endCardOp o .notFound 0 [] s
    else if p.stage ≠ 3 || (s.cards.bus.any fun b => b.1 == n) then s
    else queueStep n .sendStatus s
  | none => s

def execCardPoll (slot : Nat) (s : State) : Res := onBus (doCardPoll slot) s

/-- Time has run out for an operation: CANCEL_REQUEST to every card that waits (R360, R363, R370). (DESIGN CHOICE, log 37) -/
def timeOut (o : CardOp) (s : State) : State :=
  let waiting := (o.parts.filter fun p => p.stage == 3 && (cardOf s p.slot).identified).map (·.slot)
  let s := endCardOp o .accordRequired 6 [] (advance o.deadline s)
  waiting.foldl (fun st n => queueStep n .cancelRequest st) s

def doCardRequestDeadline (n : Nat) (s : State) : State :=
  match partOn s n with
  | some (o, p) => if p.stage = 3 then timeOut o s else s
  | none => s

def execCardRequestDeadline (slot : Nat) (s : State) : Res := onBus (doCardRequestDeadline slot) s

/-- The share ceremony whose deadline is the earliest. -/
def firstCeremony (s : State) : Option CardOp :=
  (sortBy (·.deadline) (s.cards.ops.filter fun o => match o.task with
    | .sign _ => false
    | .shareOut | .shareIn | .reshare | .shareErase => true)).head?

def doCeremonyTimeout (s : State) : State :=
  match firstCeremony s with
  | some o => timeOut o s
  | none => s

def execCeremonyTimeout (s : State) : Res := onBus doCeremonyTimeout s

/-! ### Removal (R365) -/

/-- The row of R365 for the slot's step in progress; none where no step of the card is in progress. -/
def removalRow (s : State) (n : Nat) : Option (Nat × Nat × Nat) :=
  if !(cardOf s n).identified && (cardOf s n).powered && s.cards.bus.any fun p => p.1 == n then some (1, 0, 0)
  else match s.cards.bus with
    | (m, st) :: _ =>
      if m ≠ n then none
      else match st with
        | .shareWrite txn place _ => some (if s.cards.phase = 0 then 3 else 4, txn, place)
        | .shareErase txn place => some (4, txn, place)
        | _ => some (2, 0, 0)
    | [] => none

/-- A card that is not selected only loses its session and its RCA; what needs it ends at its next step. -/
def removeCard (n : Nat) (s : State) : State :=
  let id := (cardOf s n).id
  let gone := fun (s : State) => dropSteps n { s with cards := { s.cards with slots := s.cards.slots.del n } }
  match removalRow s n with
  | none => gone s
  | some (4, txn, place) =>
    let s := event 0x0A05 0 [(16, leNat id), (2, txn), (1, place)] (markRecord id txn s)
    gone (endOn n (fun o s => endCardOp o .cardUncertain 0 [] s) s)
  | some (row, txn, _) =>
    let s := event 0x0A03 0 [(1, n), (1, row)] (if row = 3 then dropRecord id txn s else s)
    gone (endOn n (fun o s => endCardOp o .notFound 0 [] s) s)

def execCardRemoved (slot : Nat) (s : State) : Res :=
  .next (when (s.cards.slots.at? slot).isSome (fun s =>
    if busOn s then kick (removeCard slot s)
    else { s with cards := { s.cards with slots := s.cards.slots.del slot } }) s)

/-! ### CARD_CONFIG (R373) -/

/-- Slots that SLOT_EN stops serving lose power; seated slots that it adds are identified. -/
def setSlotEn (v : BitVec 8) (s : State) : State :=
  let old := s.cards.slotEn
  let s := { s with cards := { s.cards with slotEn := v } }
  if !busOn s then s
  else
    let s := s.cards.slots.foldl (fun st e => if old.getLsbD e.1 && !v.getLsbD e.1 then powerOffSlot e.1 st else st) s
    kick (s.cards.slots.foldl (fun st e => if !old.getLsbD e.1 && v.getLsbD e.1 then identify e.1 st else st) s)

/-! ### ACCORD_ADD (R252, R363) -/

def askCard (w : Work) (a : Accord) (card : Bytes) (s : State) : State :=
  match slotWith s card with
  | none => finish w .notFound 0 [] s
  | some n =>
    if cardExpired s (cardOf s n) then finish w .policy 1 [] s
    else if (cardOf s n).pinBlocked then finish w .authFail 3 [] (event 0x0A08 0 [] s)
    else
      let p : CardPart := { slot := n, card := card, stage := 0, header := [], share := [], place := 0 }
      let o : CardOp := { task := .sign a.no, work := w, owner := a.owner, deadline := a.openT + a.windowS * 10 ^ 9, parts := [p]
                          kcv := [], setNo := 0 }
      kick { s with cards := { s.cards with ops := s.cards.ops ++ [o] } }

/-- (DEDUCED, log 34) -/
def doAccordAdd (w : Work) (s : State) : State :=
  let b := w.input
  let card := slice b 16 16
  match accordFor s (w.func s) (rd b 0 2) with
  | none => finish w .notFound 0 [] s
  | some a =>
    if !allZero b 2 14 then finish w .paramInvalid 0 [] s
    else if (cardKeyFor s a card).isNone then finish w .policy 1 [] s
    else if allZero b 32 64 then askCard w a card s
    else
      let old : Bool := match slotWith s card with
        | some n => cardExpired s (cardOf s n)
        | none => false
      if old then finish w .policy 1 [] s
      else
        let ((st, d), s) := addSignature a card (slice b 32 64) s
        finish w st d [] s

def execAccordAdd (w : WorkId) (s : State) : Res := .next (withWork w 0x5B doAccordAdd s)

/-! ### Share ceremonies (R368-R371) -/

/-- Orders 5 and 6 of R369 for the named cards: (card, it is written, it must not be expired). -/
def cardsErr (s : State) (owner : Nat) (l : List (Bytes × Bool × Bool × Bool)) : Option Status :=
  if l.any fun e => (slotWith s e.1).isNone then some .notFound
  else if l.any fun e =>
    let c := cardOf s ((slotWith s e.1).getD 0)
    (officialKey s owner e.1).isNone || (e.2.2.2 && cardExpired s c) || (e.2.1 && c.readOnly) || (e.2.2.1 && (freePlace c).isNone)
  then some .policy
  else if (l.any fun e => e.2.1) && decide (16 ≤ s.cards.records.length) then some .policy
  else if !canDraw s then some .rngUnavailable
  else none

/-- A ceremony passes: its accord is consumed, and it runs to its end within the owner's window (R370). -/
def beginCeremony (w : Work) (task : CardTask) (owner opcode handle : Nat) (cards : List Bytes)
    (prep : Accord → State → (Bytes × List (Bytes × Bytes)) × State) (s : State) : State :=
  withAccord w owner opcode (fun a s =>
    let (w, s) := ceremonyOk w a handle s
    let ((kc, hs), s) := prep a s
    let part := fun (e : Nat × Bytes) =>
      ({ slot := (slotWith s e.2).getD 0, card := e.2, stage := 0, header := ((hs[e.1]?).getD ([], [])).1
         share := ((hs[e.1]?).getD ([], [])).2, place := 0 } : CardPart)
    let o : CardOp := { task := task, work := w, owner := owner, deadline := s.clk.run + (ownerOf s owner).windowS * 10 ^ 9
                        parts := ((List.range cards.length).zip cards).map part, kcv := kc, setNo := a.no }
    kick { s with cards := { s.cards with ops := s.cards.ops ++ [o] } }) s

/-- (DEDUCED, log 38) -/
def bodyCards (b : Bytes) (off n : Nat) : List Bytes := (List.range n).map fun k => slice b (off + 16 * k) 16

def distinct (l : List Bytes) : Bool := l.eraseDups.length == l.length

def ownerNo (b : Bytes) : Bool := decide (1 ≤ rd b 0 1) && decide (rd b 0 1 ≤ 63)

def noPrep (_a : Accord) (s : State) : (Bytes × List (Bytes × Bytes)) × State := (([], []), s)

/-- SHARE_OUT: headers and shares are computed at its admission step (R367, R371). -/
def doShareOut (w : Work) (s : State) : State :=
  let b := w.input
  let o := rd b 0 1
  let t := rd b 1 1
  let n := rd b 2 1
  let h := rd b 4 4
  let cards := bodyCards b 8 n
  if !ownerNo b || t < 2 || n < t || 8 < n || rd b 3 1 ≠ 0 || b.length ≠ 8 + 16 * n || !distinct cards then finish w .paramInvalid 0 [] s
  else
    let s := checkKey o h s
    match usableKey s o h with
    | none => finish w .noKey 0 [] s
    | some k =>
      if aVerb k.attr ≠ verbTransport || !aExport k.attr then finish w .policy 0 [] s
      else match cardsErr s o (cards.map fun c => (c, true, true, true)) with
        | some st => finish w st 0 [] s
        | none =>
          beginCeremony w .shareOut o 0x75 h cards (fun a s =>
            let (r, s) := drawNat (useKey k s)
            let head := fun (x : Nat) => shareHeader (ownerOf s o).id s.otp.deviceId.toNat a.no (kcv k.key) t n x
            ((kcv k.key, (List.range n).map fun i => (head (i + 1), le 32 (Config.share k.key (i + 1) t r))), s)) s

def execShareOut (w : WorkId) (s : State) : Res := .next (withSealedWork w 0x75 doShareOut s)

def doShareIn (w : Work) (s : State) : State :=
  let b := w.input
  let o := rd b 0 1
  let t := rd b 1 1
  let attr : W64 := BitVec.ofNat 64 (rd b 24 8)
  let cards := bodyCards b 32 t
  if !ownerNo b || t < 2 || 8 < t || !allZero b 2 6 || b.length ≠ 32 + 16 * t || !distinct cards then finish w .paramInvalid 0 [] s
  else if aVerb attr ≠ verbTransport || aKlen attr ≠ 32 || aOwner attr ≠ o || (ownerOf s o).quota ≤ ownerSlots s o then
    finish w .policy 0 [] s
  else match cardsErr s o (cards.map fun c => (c, false, false, true)) with
    | some st => finish w st 0 [] s
    | none => beginCeremony w .shareIn o 0x76 0 cards noPrep s

def execShareIn (w : WorkId) (s : State) : Res := .next (withSealedWork w 0x76 doShareIn s)

def doReshare (w : Work) (s : State) : State :=
  let b := w.input
  let o := rd b 0 1
  let src := slice b 24 16
  let dst := slice b 40 16
  if !ownerNo b || !allZero b 1 7 || b.length ≠ 56 || src == dst then finish w .paramInvalid 0 [] s
  else match cardsErr s o [(src, true, false, false), (dst, true, true, true)] with
    | some st => finish w st 0 [] s
    | none => beginCeremony w .reshare o 0x77 0 [src, dst] noPrep s

def execReshare (w : WorkId) (s : State) : Res := .next (withSealedWork w 0x77 doReshare s)

def doShareErase (w : Work) (s : State) : State :=
  let b := w.input
  let o := rd b 0 1
  let card := slice b 24 16
  if !ownerNo b || !allZero b 1 7 || b.length ≠ 40 then finish w .paramInvalid 0 [] s
  else match cardsErr s o [(card, true, false, true)] with
    | some st => finish w st 0 [] s
    | none => beginCeremony w .shareErase o 0x78 0 [card] noPrep s

def execShareErase (w : WorkId) (s : State) : Res := .next (withSealedWork w 0x78 doShareErase s)

end Sys2Proof.Machine
end

