-- ==== Sys2Proof/Machine/Startup.lean ====
section
/-! DEFINITION. Power, resets and the start-up sequence (R29, R448, R455-R461, R530-R536), SELF_TEST (R470-R472) and
STABLED (R473-R478). -/

namespace Sys2Proof.Machine

/-! ### Power and resets (R29, R455, R530, R534) -/

/-- Every rail is within its operating limits: the straps are sampled, and the start-up reference is reached where
the resets are already released. Whether TIME_REF shows an edge and the level of VDDIO_CARD are then free values. (DEDUCED, log 39) -/
def doPowerGood (straps : BitVec 2) (s : State) : State :=
  let s := { s with sys := { s.sys with rails := true }, pkg := { s.pkg with straps := straps } }
  if s.sys.porst || s.sys.warmPin then s
  else
    let (a, s) := freeNat s
    let (b, s) := freeNat s
    beginStart 1 false (a % 2 == 1) (b % 2 == 1) s

def execPowerGood (straps : BitVec 2) (s : State) : Res := .next (when (!s.sys.rails) (doPowerGood straps) s)

/-- (DEDUCED, log 39) -/
def execPowerLoss (s : State) : Res := .next (offState s)

/-- R455: the reset input goes low; everything volatile is lost. -/
def doResetAssert (warm : Bool) (s : State) : State :=
  let s := if s.sys.rails then coldState s else s
  if warm then { s with sys := { s.sys with warmPin := true } } else { s with sys := { s.sys with porst := true } }

def execResetAssert (warm : Bool) (s : State) : Res := .next (doResetAssert warm s)

/-- The reset inputs are released: with good rails this is the reference (R457, R530). -/
def doResetRelease (timeRef card33 : Bool) (s : State) : State :=
  let warm := s.sys.warmPin && !s.sys.porst
  let s := { s with sys := { s.sys with porst := false, warmPin := false } }
  if s.sys.rails && s.sys.inReset && s.tamper.frozen.isNone then beginStart (if warm then 2 else 1) warm timeRef card33 s else s

def execResetRelease (timeRef card33 : Bool) (s : State) : Res :=
  .next (when (s.sys.porst || s.sys.warmPin) (doResetRelease timeRef card33) s)

/-- R534. -/
def execPwrFailHoldEnd (s : State) : Res :=
  .next (when (alive s && s.sys.state == .booting && s.sys.pwrFailHold && !s.sys.pwrFail)
    (fun s => { s with sys := { s.sys with pwrFailHold := false } }) s)

/-! ### Undervoltage (R448) -/

def isRail (src : Nat) : Bool := decide (20 ≤ src) && decide (src ≤ 35)

/-- One rail is taken as power loss (R448). The sticky flags are lost with the tamper supply alone, VDDIO_1V8 and the
VREG_TAMPER it feeds, and then each flag may be kept or not: a free value (R451, R562). -/
def railOff (src warned : Nat) (s : State) : State :=
  let s := event 0x0C0A 0 [(1, src), (1, warned)] s
  let (m, s) := freeNat s
  let keep : W64 := if src = 34 ∨ src = 35 then BitVec.ofNat 64 m else BitVec.allOnes 64
  { offState s with tamper := { flags := s.tamper.flags &&& keep, severe := s.tamper.severe &&& keep } }

/-- A rail falls below its absolute low limit: power loss after a warning, otherwise the device freezes. -/
def doRailUndervoltage (src : Nat) (pwrFailLong : Bool) (s : State) : State :=
  if s.sys.pwrFail && pwrFailLong then railOff src 1 s
  else
    let s := clearSecrets s
    { s with sys := { s.sys with inReset := true }, tamper := { s.tamper with frozen := some src } }

def execRailUndervoltage (src : Nat) (pwrFailLong : Bool) (s : State) : Res :=
  .next (when (alive s && isRail src && sourceUsed s src) (doRailUndervoltage src pwrFailLong) s)

/-- A glitch: the source fires with its MAIN class. ZEROISE goes on with R266 step 7; otherwise the device restarts as
from WARM_RESET_N, where TIME_REF may or may not show an edge. (DEDUCED, log 39) -/
def doRailGlitchReturn (src : Nat) (s : State) : State :=
  let f : Firing := { src := src, cls := classOf s src false, det := 2, reading := (s.tamper.values.atD src (0, 0)).1 }
  if f.cls = 3 then
    fireAll [f] { s with sys := { s.sys with inReset := false }, tamper := { s.tamper with frozen := none } }
  else
    let (a, s) := freeNat s
    let s := beginStart 3 true (a % 2 == 1) s.cards.v33 s
    recordFiring f 0 s

def execRailGlitchReturn (src : Nat) (s : State) : Res :=
  .next (when (s.sys.state != .off && s.tamper.frozen == some src) (doRailGlitchReturn src) s)

/-- R448: the frozen rail stayed low, which is power loss without warning. -/
def execRailLowTimeout (src : Nat) (s : State) : Res :=
  .next (when (s.sys.state != .off && s.tamper.frozen == some src)
    (railOff src 0) s)

/-! ### The start-up sequence (R457-R461) -/

/-- A step ends well and the next one begins (R465, R479). -/
def stepDone (ms next : Nat) (s : State) : State :=
  uart (.stepOk s.sys.bootStep ms) { s with sys := { s.sys with bootStep := next } }

/-- A DETAIL or unit that the manual does not give: a free value. (DEDUCED, log 20; DEDUCED, log 39) -/
def freeDetail (s : State) : Nat × State :=
  let (d, s) := freeNat s
  (d % 65536, s)

/-- Unit and DETAIL of a failed test. -/
def failAs (selfTest : Bool) (step : Nat) (f : Nat × Nat) (s : State) : State := failStart selfTest step f.1 f.2 s

/-- Step 0x02: a pending pair leads to ZEROISED (R268), where an interrupted transition is still completed (R415). -/
def stepPairs (ms : Nat) (s : State) : State :=
  if s.otp.pairsDone < s.otp.pairsUsed then
    let s := resumeIntent s
    let (d, s) := freeDetail s
    let s := stepFailed 2 0 d { s with keys := { s.keys with zeroisePending := true, zeroStep := 1 } }
    enterDev .zeroised s
  else stepDone ms 3 s

/-- Step 0x03: the intents, the vote, and a resumed transition (R409, R415). In BLANK and TEST debug is open from here,
in all scopes (R406). -/
def stepVote (r : StepReport) (s : State) : State :=
  match r.failed with
  | some _ =>
    let (d, s) := freeDetail s
    failStart false 3 0 d (event 0x010D 0 [] s)
  | none =>
    let s := resumeIntent s
    let cs := s.life.copies
    let v := voteOf cs
    let s := { s with life := { s.life with decided := v.getD 2, invalid := v.isNone, copyValid := copyBits cs
                                            scope := if v = some 0 ∨ v = some 1 then 3 else 0 } }
    stepDone r.ms 4 (match v with
      | some k => event 0x0101 0 [(1, k), (1, (copyBits cs).toNat)] s
      | none => event 0x0102 0 [] s)


/-- Step 0x04: the PUF, the identity root, and the mirror key. -/
def stepPuf (r : StepReport) (s : State) : State :=
  match r.failed with
  | some _ => failStart true 4 0 11 s
  | none => stepDone r.ms 5 (deriveIdentity { s with keys := { s.keys with mirrorKey := some mirrorKeyNow } })

/-- Step 0x05: the root wrapping key, where the salt is valid. -/
def stepSalt (ms : Nat) (s : State) : State :=
  stepDone ms 6 (match s.flash.salt with
    | some x => if saltOk s then deriveWrap x s else s
    | none => s)

/-- R566: the result of one loop in the power-up mesh check. -/
def loopResult (r : MeshRec) (mesh : List (Nat × Nat × Bool)) (n : Nat) : Nat :=
  let (mode, cls, delay) := r.loops.getD n (0, 0, 0)
  let (mc, md, prbs) := mesh.getD n (0, 0, false)
  if mode = 0 then 0
  else if mc ≠ cls then 2
  else if mode = 2 && (decide (md + 6 < delay) || decide (delay + 6 < md)) then 3
  else if mode = 2 && !prbs then 4
  else 1

/-- Step 0x07: the row of R441, from the salt as read at step 0x05, and the loops' results. (DEDUCED, log 40) -/
def meshRow (mesh : List (Nat × Nat × Bool)) (s : State) : Nat × List Nat :=
  let none16 := List.replicate 16 0
  if s.keys.newSalt || !saltOk s then (1, none16)
  else match meshValid s with
    | none => (if s.otp.meshEnr then 3 else 2, none16)
    | some r =>
      let l := (List.range 16).map (loopResult r mesh)
      (if l.all fun x => x ≤ 1 then 4 else 5, l)

/-- A PRBS seed that is not 0, for each loop (R437). -/
def drawSeeds : Nat → State → List Nat × State
  | 0, s => ([], s)
  | n + 1, s =>
    let (v, s) := drawNat s
    let (l, s) := drawSeeds n s
    ((v % (2 ^ 31 - 1) + 1) :: l, s)

/-- Step 0x07: the PRBS seeds, and the power-up check with what it measured (R437, R441). -/
def stepMesh (r : StepReport) (s : State) : State :=
  let (seeds, s) := drawSeeds 16 s
  let s := { s with tamper := { s.tamper with seeds := seeds } }
  let (row, l) := meshRow r.mesh s
  let s := if row < 4 then s else { s with tamper := { s.tamper with
    meas := (List.range 16).map fun k => (k, (r.mesh.getD k (0, 0, false)).1)
    delays := (List.range 16).map fun k => (k, (r.mesh.getD k (0, 0, false)).2.1) } }
  let s := event 0x0C04 0 (l.map (fun x => (1, x)) ++ [(1, row)]) s
  if row = 3 ∨ row = 5 then
    let (d, s) := freeDetail s
    raise 50 0 (stepFailed 7 0 d s)
  else
    let s := if row = 4 then { s with tamper := { s.tamper with enr := meshValid s } } else s
    stepDone r.ms 8 s

/-- Step 0x09: the dies that fail are lost and held in isolation reset (R461); source 52 fires for each (R460). -/
def stepDies (r : StepReport) (s : State) : State :=
  let fails := r.dieFail &&& presentDies s
  if fails = 0 then stepDone r.ms 0xA s
  else
    let s := { s with sys := { s.sys with
      bistFail := fails, isolated := s.sys.isolated ||| fails, lost := s.sys.lost ||| fails } }
    let s := (diesOf fails).foldl (fun st k =>
      let (d, st) := freeDetail st
      raiseAtReset 52 (event 0x0113 0 [(1, k)] (stepFailed 9 k d st))) s
    if fails = presentDies s then
      let (u, s) := freeNat s
      let (d, s) := freeDetail s
      holdDevice 9 (u % 256) d s
    else stepDone r.ms 0xA s

/-- The class D check (R279, R499). -/
def nonceCheckFails (s : State) : Bool :=
  s.evt.cycles == 0xFFFFFF || (s.evt.emptyAtStart && saltOk s && !s.keys.newSalt)

/-- A firmware slot that verifies (R406, R418). -/
def fwValid (s : State) (k : Nat) : Option Bytes :=
  match s.life.fwSlots.at? k with
  | some b => if fwFormOk b && fwSigOk s b && decide (s.life.svnFloor ≤ fwSvn b) then some b else none
  | none => none

/-- Step 0x0B: the image that boots; the custody bus starts (R341). A flash device without the mode of R553 fails. -/
def stepFirmware (ms : Nat) (flashBad : Bool) (s : State) : State :=
  let fwValid := fun (s : State) (k : Nat) => if flashBad then none else fwValid s k
  let s := [0, 1].foldl (fun st k => if (fwValid st k).isNone then event 0x0108 0 [] st else st) s
  let boot := fun (k : Nat) (b : Bytes) (s : State) =>
    identifyAll (stepDone ms 0xC { s with
      life := { s.life with fw := some b, fwSlot := k }
      sys := { s.sys with firmwareUp := true }
      link := { s.link with rom := false } })
  match fwValid s 0, fwValid s 1 with
  | some a, some b => if rd a 8 4 < rd b 8 4 then boot 1 b s else boot 0 a s
  | some a, none => boot 0 a s
  | none, some b => boot 1 b s
  | none, none =>
    let (d, s) := freeDetail s
    failStart false 0xB 0 d s

/-- Step 0x0C: four trained channels; the size of the DIMMs is the board's, a free value (R184, R185). A bad salt holds
step 0x0D (R231). (DEDUCED, log 39) -/
def stepTrain (ms : Nat) (s : State) : State :=
  let (k, s) := freeNat s
  let raw := 64 * 1024 * 2 ^ (k % 3)
  stepDone ms 0xD { s with vm := { s.vm with rawMib := raw, usableMib := raw / 8 * 7, trained := 15 } }

/-- An owner as the flash copies give it: its enrolment, with everything else at its reset value. (DEDUCED, log 39) -/
def reloadOwner (o : Owner) : Owner :=
  { enrolled := o.enrolled, id := o.id, n := o.n, m := o.m, windowS := o.windowS, officials := o.officials, root := o.root
    lo := o.lo, hi := o.hi }

/-- The newest checkpoint record of flash (R217). -/
def newestCheckpoint (s : State) : Option FlashRec :=
  ((sortBy (·.writeNo) (s.flash.counters.filter fun r => r.type == 1)).reverse).head?

/-- A counter record is valid (R217). -/
def recordValid (s : State) (r : FlashRec) : Bool := r.mac == flashMac s r

/-- Step 0x0D: slots, owners, the counter area, rulebooks, the dies in placement, and the keys of vault memory (R186). -/
def stepUnwrap (ms : Nat) (s : State) : State :=
  let s := s.flash.wrapped.foldl (fun st e =>
    checkSlot e.1 { st with keys := { st.keys with slots := st.keys.slots.put e.1 e.2 } }) s
  let s := { s with flash := { s.flash with counters := s.flash.counters.filter (recordValid s) } }
  let (xk, s) := drawBytes 64 s
  let (mk, s) := drawBytes 32 s
  let s := { s with
    keys := { s.keys with nextAccord := accordHigh s + 1 }
    vm := { s.vm with store := { xtsKey := xk, macKey := mk } }
    adm := { s.adm with owners := s.flash.owners.map fun e => (e.1, reloadOwner e.2) } }
  let pairOf := fun (i j : Nat) => pairDigest (slotOf s i).key (slotOf s j).key
  let (h, s) := drawNat s
  let epoch := ((flashNow s).map (·.epoch)).getD 0
  let s := { s with
    dep := { s.dep with
      serial := s.flash.serial, keyDigest := pairOf 5 6, nextSerial := s.flash.nextSerial
      nextKeyDigest := if s.flash.nextSerial.isSome then pairOf 7 8 else 0 }
    vm := { s.vm with
      epochAck := epoch, epochWritten := epoch
      epochDep := if epoch = 0 then 0 else ((newestCheckpoint s).map (·.departure)).getD 0 }
    eng := { s.eng with hashKey := h }
    sys := { s.sys with inService := presentDies s &&& ~~~s.sys.lost } }
  stepDone ms 0xE (reloadBooks (dealBuckets s))

/-- The firmware locks the slots of R482 at step 0x0E (R485); which of the four cores does is a free value.
 (DEDUCED, log 39) -/
def lockSlots (s : State) : State :=
  let (c, s) := freeNat s
  lockedAtStart.foldl (fun st k => lockSlot (c % 4) k st) s

/-- Step 0x0E: READY, DEGRADED or RESTORING (R29). (DEDUCED, log 39) -/
def stepEnd (ms : Nat) (s : State) : State :=
  let s := uart (.stepOk 0xE ms) (lockSlots { s with sys := { s.sys with bootUs := s.clk.upNs / 1000 } })
  let ended := fun (d : DevState) (s : State) => event 0x0114 0 [(1, d.code), (4, s.sys.bootUs)] s
  if priorEpoch s then
    ended .restoring (enterDev .restoring { s with vm := { s.vm with restore := 1 } })
  else
    let s := gapNumbers 0 0 0 s
    enterService (ended (if fullService s then .ready else .degraded) s)

/-- A timed step of the sequence can end: the device starts up, no PWR_FAIL_N holds it, and from step 0x0A on the
mirror search of step 0x04 has ended (R498, R534). (DEDUCED, log 39) -/
def stepCanEnd (s : State) : Bool :=
  alive s && s.sys.state == .booting && !s.sys.pwrFailHold && (!s.evt.staging || decide (s.sys.bootStep < 0xA))

/-- A timed step of the sequence ends (R457). The last one waits for the commit of record 0x0110, before which no class D
nonce may be issued (R279). (DEDUCED, log 39) -/
def doStartupStepEnd (r : StepReport) (s : State) : State :=
  match s.sys.bootStep with
  | 0x01 => stepDone r.ms 2 s
  | 0x02 => stepPairs r.ms s
  | 0x03 => stepVote r s
  | 0x04 => stepPuf r s
  | 0x05 => stepSalt r.ms s
  | 0x06 => if r.failed.isSome then failStart true 6 0 9 s else if s.rng.ready then stepDone r.ms 7 s else s
  | 0x07 => stepMesh r s
  | 0x08 => match r.failed with
    | some f => failAs true 8 f s
    | none => stepDone r.ms 9 s
  | 0x09 => stepDies r s
  | 0x0A => match r.failed with
    | some f => failAs true 0xA f s
    | none => if nonceCheckFails s then failStart true 0xA 0 10 s else stepDone r.ms 0xB s
  | 0x0B => stepFirmware r.ms r.failed.isSome s
  | 0x0C => match r.failed with
    | some f => failAs true 0xC f s
    | none => if saltBad s then s else stepTrain r.ms s
  | 0x0D => stepUnwrap r.ms s
  | 0x0E => if s.evt.committed then stepEnd r.ms s else s
  | _ => s

def execStartupStepEnd (t : Nat) (r : StepReport) (s : State) : Res :=
  .next (when (stepCanEnd s) (fun s => doStartupStepEnd r (advance t s)) s)

/-! ### SELF_TEST (R470-R472) -/

def testMode (w : Work) : Nat := rd (dParams w.desc) 0 1

/-- Orders 2 to 4 of R471. -/
def testErr (s : State) (w : Work) : Option Status :=
  let m := testMode w
  if m = 0 || 4 < m || !allZero (dParams w.desc) 1 31 then some .paramInvalid
  else if (m = 1 && !s.eng.quarantined.isEmpty) || (m = 2 && !s.lanes.quarantined.isEmpty) || (m = 3 && !s.pk.quarantined.isEmpty) then
    some .policy
  else if m = 4 && (anyLive s || !s.rng.draws.isEmpty || s.sys.selftest || s.sys.stableBusy || bulkBusy s) then some .policy
  else none

/-- The row of a mode runs on work of that mode; work that orders 2 to 4 refuse is completed by any of the rows. A test
that runs makes the next one wait. (DEDUCED, log 41) -/
def selfTestRow (m : Nat) (start : State → State) (id : WorkId) (s : State) : State :=
  if s.adm.work.any fun w => w.ring == id.ring && w.idx == id.idx && dOp w.desc == 0x7F && (testMode w == m || (testErr s w).isSome) then
    withWork id 0x7F (fun w s =>
      match testErr s w with
      | some st => finish w st 0 [] s
      | none =>
        if s.sys.selftestWork.isSome then putBack w s
        else start { s with sys := { s.sys with selftestWork := some (w, m) } }) s
  else s

/-- MODE 1: the next engine of every die in placement. -/
def testEngines (s : State) : State :=
  (diesOf s.sys.inService).foldl (fun st k => if (st.eng.underTest.at? k).isNone then doEngineTestSlot k st else st) s

def execSelfTestEngine (w : WorkId) (s : State) : Res := .next (selfTestRow 1 testEngines w s)

/-- The lane groups of R271 that the variant has in service. -/
def laneGroups (s : State) : List LaneGroup := [.vault, .junction] ++ (diesOf s.sys.inService).map .die

/-- MODE 2: the next lane of every group. -/
def testLanes (s : State) : State :=
  (laneGroups s).foldl (fun st g =>
    if groupThere st g && (st.lanes.underTest.at? (groupIdx g)).isNone then doLaneTestSlot g st else st) s

def execSelfTestLane (w : WorkId) (s : State) : Res := .next (selfTestRow 2 testLanes w s)

def execSelfTestPk (w : WorkId) (s : State) : Res :=
  .next (selfTestRow 3 (fun s => if s.pk.underTest.isNone then doPkTestSlot s else s) w s)

def execSelfTestFull (w : WorkId) (s : State) : Res :=
  .next (selfTestRow 4 (fun s => { s with sys := { s.sys with selftest := true } }) w s)

/-- A unit under test by a request: die, class and index as the output names it (R470). (DEDUCED, log 41) -/
def unitOf (k : Nat) (c i : Nat) : LaneId :=
  if k = 0 then (if i < 4 then { group := .vault, lane := i } else { group := .junction, lane := i - 4 })
  else { group := .die k, lane := if c = 2 then i else 0 }

/-- The first failed unit is quarantined as in its periodic test (R472). (DEDUCED, log 41) -/
def failUnit (f : Nat × Nat × Nat) (s : State) : State :=
  let (k, c, i) := f
  match c with
  | 1 =>
    let e : EngineId := { die := k, cluster := i / 8, engine := i % 8 }
    if engineThere s e && !s.eng.quarantined.contains e then endEngineTest e false s else s
  | 2 => if laneThere s (unitOf k c i) && !s.lanes.quarantined.contains (unitOf k c i) then endLaneTest (unitOf k c i) false s else s
  | 3 =>
    let e := 2 * k + i
    if (pkEngines s).contains e && !s.pk.quarantined.contains e then event 0x0813 0 [] (quarantinePk e { s with pk := { s.pk with underTest := none } }) else s
  | _ => s

/-- Units that a request put under test and whose own result did not come have passed. (DEDUCED, log 41) -/
def passRest (m : Nat) (s : State) : State :=
  match m with
  | 1 => s.eng.underTest.foldl (fun st p => endEngineTest p.2 true st) s
  | 2 => s.lanes.underTest.foldl (fun st p => endLaneTest p.2 true st) s
  | 3 => { s with pk := { s.pk with underTest := none } }
  | _ => s

/-- A die that fails in FULL is lost, and source 52 fires with its class in force (R472). -/
def failDie (k : Nat) (s : State) : State := raise 52 0 (loseDie k s)

/-- The output and the completion (R470); with nothing failed the failed unit is a free value. (DEDUCED, log 41) -/
def doSelfTestDone (r : SelfTestReport) (s : State) : State :=
  match s.sys.selftestWork with
  | none => s
  | some (w, m) =>
    let s := match r.first with
      | some f => failUnit f s
      | none => s
    let s := passRest m s
    let s := if m = 4 then (diesOf (r.dieFail &&& s.sys.inService)).foldl (fun st k => failDie k st) s else s
    let (x, s) := freeNat s
    let (k, c, i) := r.first.getD (x % 256, x / 256 % 256, x / 65536 % 256)
    let failed := r.failed % 65536
    let s := { s with sys := { s.sys with selftest := false, selftestWork := none } }
    let s := event 0x0115 0 [(1, m), (2, r.tested), (2, failed)] s
    finish w (if failed = 0 then .ok else .fault) (if failed = 0 then 0 else failed)
      (le 2 r.tested ++ le 2 failed ++ zeros 4 ++ le 1 k ++ le 1 c ++ le 1 i ++ zeros 5) s

def execSelfTestDone (r : SelfTestReport) (s : State) : Res := .next (when (inService s) (doSelfTestDone r) s)

/-! ### STABLED (R473-R478) -/

/-- DETAIL of R473, 0 where nothing refuses. -/
def stableErr (s : State) : Nat :=
  if !inService s then 1
  else if anyLive s then 2
  else if !s.rng.draws.isEmpty then 3
  else if bulkBusy s || s.sys.selftest || !s.vm.sweeps.isEmpty || s.adm.owners.any (fun p => p.2.relaying) then 4
  else 0

/-- A refused or abandoned request. -/
def stableRefused (d : Nat) (s : State) : State :=
  event 0x0117 0 [(2, d)] { s with sys := { s.sys with
    stableBusy := false, stableValid := true, stableResult := Status.policy.code, stableDetail := d, stableDep := none } }

/-- GLOBAL_CONTROL.STABLE; a second request during an entry changes nothing. (DEDUCED, log 41) -/
def doStable (s : State) : State :=
  if s.sys.stableBusy then s
  else
    let d := stableErr s
    if d ≠ 0 then stableRefused d s
    else { s with
      sys := { s.sys with stableBusy := true, stableValid := false, stableResult := 0, stableDetail := 0, stableDep := some s.dep.number }
      adm := { s.adm with stopFetch := true } }

def execStable (t : Nat) (s : State) : Res := .next (hostWrite 0x8 4 (fun s => doStable (advance t s)) s)

/-- Every admitted record has completed (R474 step 2). -/
def nothingAdmitted (s : State) : Bool :=
  s.adm.fetched.isEmpty && s.adm.work.isEmpty && s.adm.items.isEmpty && s.adm.owed.isEmpty && s.adm.ends.isEmpty
    && s.lanes.ops.isEmpty && s.lanes.queue.isEmpty && s.pk.ops.isEmpty && s.pk.queue.isEmpty && s.pk.aborts.isEmpty && s.cards.ops.isEmpty && s.vm.claims.isEmpty && s.vm.waiters.isEmpty
    && s.vm.ackWait.isEmpty && s.keys.sends.isEmpty && s.sys.selftestWork.isNone
    && s.rings.tbl.all fun e => e.2.fin.isEmpty

/-- Steps 3 to 5: a departure of the attempt has closed, the newest closed one is durable, and every journal block is
posted and its slot returned. -/
def allDurable (s : State) : Bool :=
  (match s.sys.stableDep, s.dep.durable with
   | some n0, some d => decide (n0 ≤ d) && d + 1 == s.dep.number
   | _, _ => false)
    && s.dep.closing.isEmpty && s.dep.signed.isEmpty && s.dep.posted.isEmpty
    && (s.adm.owners.all fun p => p.2.closed.isEmpty && p.2.blockOpen.isEmpty && p.2.waiting.isEmpty)
    && s.rings.tbl.all fun e => e.2.cls != 4 || e.2.state != .running || e.2.fetch == e.2.tail

/-- R474 step 6, R475: dies gated with everything on them lost, ports down, cards unpowered. -/
def doStabledEnter (s : State) : State :=
  let n := s.dep.number - 1
  let s := cardsOff (stopPorts s)
  let s := { s with
    eng := { s.eng with threads := [] }
    keys := { s.keys with cache := [] }
    sys := { s.sys with
      prior := s.sys.state, gated := s.sys.inService, stableBusy := false, stableValid := true, stableResult := 0, stableDetail := 0
      stableDep := none } }
  event 0x0116 0 [(8, n)] (enterDev .stabled s)

def execStabledEnter (s : State) : Res :=
  .next (when (inService s && s.sys.stableBusy && nothingAdmitted s && allDurable s) doStabledEnter s)

/-- R474: 2 s have passed; fetching resumes. -/
def doStabledEntryTimeout (s : State) : State :=
  stableRefused 5 { s with adm := { s.adm with stopFetch := s.sys.pwrFail } }

def execStabledEntryTimeout (s : State) : Res :=
  .next (when (alive s && s.sys.stableBusy) doStabledEntryTimeout s)

/-- GLOBAL_CONTROL.WAKE. -/
def execWake (s : State) : Res :=
  .next (hostWriteIn false true 0x8 4 (fun s =>
    when (s.sys.state == .stabled) (fun s => { s with sys := { s.sys with waking := true } }) s) s)

/-- R477 steps 2 to 7: dies that fail are lost, the prior state comes back, fetching resumes, and the cards are
identified again. The close of the departure left open will be late because of STABLED (R478, R566). (DEDUCED, log 41) -/
def doWakeComplete (failed : BitVec 7) (s : State) : State :=
  let back := s.sys.gated &&& ~~~failed
  let s := enterDev s.sys.prior { restartCounters s.sys.gated s with
    sys := { s.sys with gated := 0, waking := false }, adm := { s.adm with stopFetch := s.sys.pwrFail } }
  let s := (diesOf (failed &&& s.sys.inService)).foldl (fun st k => loseDie k st) s
  identifyAll (event 0x0118 0 [(1, back.toNat)] (noteCause 8 s))

def execWakeComplete (t : Nat) (failedDies : BitVec 7) (s : State) : Res :=
  .next (when (alive s && s.sys.state == .stabled && s.sys.waking) (fun s => doWakeComplete failedDies (advance t s)) s)

end Sys2Proof.Machine
end

