-- ==== Sys2Proof/Machine/Package.lean ====
section
/-! DEFINITION. The package: DIMM temperatures (R544) and the SMBus target (R538, R539, R559). -/

namespace Sys2Proof.Machine

/-! ### DIMM temperatures (R544) -/

/-- The reading of a channel's DIMM in degrees Celsius: refresh at the doubled rate above 85, and above 95 event 0x0E08
once a minute while the condition lasts. (DEDUCED, log 41) -/
def doDimmTempPoll (ch : Nat) (temp : Int) (s : State) : State :=
  let bit : BitVec 4 := (1 : BitVec 4) <<< ch
  let s := { s with pkg := { s.pkg with fast := if 85 < temp then s.pkg.fast ||| bit else s.pkg.fast &&& ~~~bit } }
  if temp ≤ 95 then { s with pkg := { s.pkg with hotAt := s.pkg.hotAt.del ch } }
  else
    let due : Bool := match s.pkg.hotAt.at? ch with
      | none => true
      | some t => decide (t + 60 * 10 ^ 9 ≤ s.clk.upNs)
    if due then
      event 0x0E08 0 [(1, ch), (2, (BitVec.ofInt 16 temp).toNat)] { s with pkg := { s.pkg with hotAt := s.pkg.hotAt.put ch s.clk.upNs } }
    else s

/-- Every 1 s, once the channels are trained. -/
def execDimmTempPoll (channel : Nat) (temp : Int) (s : State) : Res :=
  .next (when (alive s && decide (channel < 4) && s.vm.trained != 0) (doDimmTempPoll channel temp) s)

/-! ### SMBus (R538, R539) -/

/-- The target answers from internal power-good onward in every powered state. -/
def smbAnswer (a : SmbAnswer) (s : State) : Res := .next (when s.sys.rails (emit (.smb a)) s)

def execSmbVariant (s : State) : Res := smbAnswer (.data (le 1 s.otp.variant)) s
def execSmbStepping (s : State) : Res := smbAnswer (.data (le 1 0xA1)) s
def execSmbDeviceId (s : State) : Res := smbAnswer (.data (le 8 s.otp.deviceId.toNat)) s

/-- GLOBAL_STATUS.STATE; 0 before the reference. -/
def execSmbState (s : State) : Res := smbAnswer (.data (le 1 (if s.sys.inReset then 0 else s.sys.state.code))) s

/-- The decided life-cycle state, or before the vote of step 0x03 the one that OTP holds. (DEDUCED, log 41) -/
def lifeCodeNow (s : State) : Nat :=
  if !s.sys.inReset && decide (3 < s.sys.bootStep) then stateCode s else (voteOf s.life.copies).getD 0xFF

def execSmbLifecycle (s : State) : Res := smbAnswer (.data (le 1 (lifeCodeNow s))) s

/-- The reading of a source's detector A, as it was last sampled. (DESIGN CHOICE, log 33) -/
def readingA (s : State) (src : Nat) : Nat := (s.tamper.values.atD src (0, 0)).1

/-- A reading in 0.125 °C as a signed number. (DESIGN CHOICE, log 33) -/
def signedReading (v : Nat) : Int := (BitVec.ofNat 16 v).toInt

/-- The hottest of the die sources in use. (DESIGN CHOICE, log 33) -/
def hottest (s : State) : Nat :=
  [37, 38].foldl (fun m src =>
    if sourceUsed s src && decide (signedReading m < signedReading (readingA s src)) then readingA s src else m) (readingA s 36)

/-- (DESIGN CHOICE, log 33) -/
def execSmbTempHottest (s : State) : Res := smbAnswer (.data (le 2 (hottest s))) s
def execSmbTempAnchor (s : State) : Res := smbAnswer (.data (le 2 (readingA s 36))) s

/-- An engine die's own reading: 0x8000 where the die is absent. The manual names one source for several dies, so a
present die's reading is a free value. (DESIGN CHOICE, log 33) -/
def execSmbTempEngineDie (k : Nat) (s : State) : Res :=
  if dieIn (presentDies s) k then
    let (v, s') := freeNat s
    if s.sys.rails then smbAnswer (.data (le 2 v)) s' else .next s
  else smbAnswer (.data (le 2 0x8000)) s

/-- (DESIGN CHOICE, log 33) -/
def execSmbTempSubstrate (s : State) : Res := smbAnswer (.data (le 2 (readingA s 39))) s

/-- Thermal flags of command 0x1A. -/
def thermalFlags (s : State) : Nat :=
  (if 95 * 8 < signedReading (hottest s) then 1 else 0)
    + (if [36, 37, 38, 39].any fun src => s.tamper.bands.atD src 0 != 0 then 2 else 0)
    + (if alertLow s then 4 else 0)

def execSmbThermalFlags (s : State) : Res := smbAnswer (.data (le 1 (thermalFlags s))) s

/-- A write of any command is answered with NACK. -/
def execSmbWrite (_cmd : Byte) (_data : Bytes) (s : State) : Res := smbAnswer .nack s

/-- R559: the target releases SMB_DAT and abandons the transaction. -/
def execSmbClkTimeout (s : State) : Res := smbAnswer .released s

end Sys2Proof.Machine
end

