-- ==== Sys2Proof/Machine/RegMap.lean ====
section
/-! DEFINITION. The register map of PF0 (R9): the value that a read of each register returns, block by block, and
the read-only windows of PF0 BAR2 and of the VFs (R40-R42, R515). An offset that no table names reads 0. -/

namespace Sys2Proof.Machine

/-- A register word from its fields: (lowest bit, width, value). -/
def word (fs : List (Nat × Nat × Nat)) : Nat := fs.foldl (fun n f => n + (f.2.2 % 2 ^ f.2.1) * 2 ^ f.1) 0

def bit (b : Bool) : Nat := if b then 1 else 0

/-- A mask over numbers below 64. -/
def maskOf (l : List Nat) : Nat := l.foldl (fun n k => n ||| 2 ^ k) 0

/-- The 8 bytes of a byte string at an offset, as a register word. -/
def word64 (b : Bytes) (off : Nat) : Nat := rd b off 8

/-- The ring status word (R42). -/
def statusWord (x : Ring) : Nat := word [(16, 16, x.fetch), (8, 8, x.lastErr), (0, 3, x.state.code)]

/-! ### The blocks -/

/-- GLOBAL (R77, R479). -/
def globalReg (s : State) : Nat → Nat
  | 0x00 => word [(24, 8, s.sys.bootStep), (9, 1, bit s.sys.warm), (8, 1, bit s.sys.selftest), (0, 3, s.sys.state.code)]
  | 0x0C => word [(25, 1, bit s.sys.stableValid), (24, 1, bit s.sys.stableBusy), (8, 16, s.sys.stableDetail),
      (0, 8, s.sys.stableResult)]
  | 0x10 => word [(24, 8, s.sys.heldStep), (16, 8, s.sys.heldUnit), (0, 16, s.sys.heldDetail)]
  | 0x18 => word [(0, 32, s.sys.bootUs)]
  | 0x1C => word [(16, 7, s.sys.bistFail.toNat), (8, 7, (presentDies s).toNat), (0, 7, s.sys.inService.toNat)]
  | 0x20 => word [(8, 8, 0xA1), (0, 8, s.otp.variant)]
  | 0x400 => word [(16, 8, s.bulk.ctlOwner), (0, 3, s.bulk.ctlTarget)]
  | 0x408 => s.bulk.len
  | 0x410 => s.bulk.addr
  | 0x418 => s.bulk.consumed
  | 0x420 => word [(17, 1, bit s.bulk.overrun), (16, 1, bit s.bulk.seqErr), (8, 8, s.bulk.result),
      (0, 3, match s.bulk.state with
        | .idle => 0 | .opened => 1 | .verifying => 2 | .done => 3 | .failed => 4)]
  | _ => 0

/-- RINGCTL (R69). -/
def ringctlReg (s : State) (off : Nat) : Nat :=
  let x := ringOf s s.rings.sel
  match off with
  | 0x00 => s.rings.sel
  | 0x04 => word [(24, 5, x.vector), (16, 6, x.func), (8, 5, x.log2), (0, 3, x.cls)]
  | 0x08 => x.localIdx
  | 0x0C => x.epoch
  | 0x10 => x.qbase
  | 0x18 => x.cqbase
  | 0x20 => x.rbase
  | 0x2C => statusWord x
  | 0x30 => s.rings.dbReject
  | 0x34 => x.lost
  | 0x40 => s.link.modSel
  | 0x44 => word [(16, 16, (modOf s s.link.modSel).1), (0, 8, (modOf s s.link.modSel).2)]
  | 0x48 => word [(16, 16, (s.adm.owners.foldl (fun n p => max n (jBacklog p.2)) 0) / 1024),
      (0, 5, min 16 s.dep.signed.length)]
  | _ => 0

/-- ADMIT (R114). -/
def admitReg (s : State) (off : Nat) : Nat :=
  let o := ownerOf s s.adm.ownerSel
  let c := ownerCost s s.adm.ownerSel
  let x := ringOf s s.adm.ringSel
  match off with
  | 0x00 => word [(32, 32, threadCap s), (0, 32, issueCap s)]
  | 0x08 => 100000
  | 0x10 => s.adm.ownerSel
  | 0x14 => word [(0, 20, o.share)]
  | 0x18 => word [(32, 32, c.1), (0, 32, c.2)]
  | 0x20 => word [(0, 32, o.maxUnc)]
  | 0x30 => s.adm.ringSel
  | 0x38 => word [(32, 13, x.burst), (0, 17, x.rate)]
  | 0x40 => word [(8, 1, bit s.adm.lowered), (0, 8, s.adm.err)]
  | 0x48 => s.adm.nextSeq
  | 0x50 => span s
  | 0x58 => word [(0, 32, s.adm.pauseLast)]
  | 0x60 => s.adm.refused
  | _ => 0

/-- PPS_IN edges were accepted in the last 2 s (R115). -/
def ppsOk (s : State) : Bool :=
  match s.clk.ppsOkAt with
  | some t => decide (s.clk.run ≤ t + 2 * 10 ^ 9)
  | none => false

/-- TIME (R115). -/
def timeReg (s : State) : Nat → Nat
  | 0x08 => s.clk.uncLatch.toNat
  | 0x0C => word [(17, 1, bit (ppsOk s)), (16, 1, bit s.clk.refPresent), (8, 4, s.clk.source), (4, 1, bit (clkValid s)),
      (0, 3, s.clk.state.code)]
  | 0x10 => word [(31, 1, bit s.clk.srcLock), (0, 4, s.clk.srcEn.toNat)]
  | 0x14 => word [(0, 32, s.clk.ppsAllow)]
  | 0x18 => word [(0, 32, s.clk.ptpAllow)]
  | 0x1C => word [(0, 32, s.clk.holdFreq)]
  | 0x20 => word [(0, 32, s.clk.holdAging)]
  | 0x24 => s.clk.ppsDelay.toNat
  | 0x28 => s.clk.offsetLast.toNat
  | 0x30 => s.clk.holdSince
  | 0x38 => bit s.clk.ppsOutEn
  | _ => 0

/-- DEPART (R182); the numbers of the open departure read 0 while none is open. (DEDUCED, log 17) -/
def departReg (s : State) (off : Nat) : Nat :=
  let d := s.dep
  match off with
  | 0x00 => word [(0, 20, d.periodUs)]
  | 0x04 => word [(16, 16, min 4096 d.signed.length), (8, 4, d.err), (2, 1, bit d.stopped), (1, 1, bit d.deterministic),
      (0, 1, bit d.catchUp)]
  | 0x08 => if d.isOpen then d.number else 0
  | 0x10 => d.durable.getD allOnes64
  | 0x18 => if d.isOpen then d.target else 0
  | 0x20 => if d.isOpen then d.lateness else 0
  | 0x28 => word [(31, 1, bit d.witLock), (16, 8, d.witLag), (0, 11, d.witWaitUs)]
  | 0x30 => d.lastPub
  | 0x38 => d.pubLate
  | 0x40 => word64 (digestBytes d.head) 0
  | 0x48 => word64 (digestBytes d.head) 8
  | 0x50 => word64 (digestBytes d.head) 16
  | 0x58 => word64 (digestBytes d.head) 24
  | 0x60 => word64 (digestBytes d.head) 32
  | 0x68 => word64 (digestBytes d.head) 40
  | _ => 0

/-- VMEM_ERASE of a channel (R188, R227). -/
def eraseWord (s : State) (ch : Nat) : Nat :=
  let half := fun (k : Nat) => match s.vm.erased.at? (2 * ch + k) with
    | some (rank, dev) => word [(7, 1, 1), (6, 1, rank), (0, 4, dev)]
    | none => 0
  half 0 + 256 * half 1

/-- VMEM (R227). -/
def vmemReg (s : State) (off : Nat) : Nat :=
  let o := s.vm.partSel
  let part := fun (k : Nat) => (ownerOf s o).parts.getD k 0
  match off with
  | 0x00 => word [(31, 1, bit s.vm.locked), (30, 1, bit s.vm.stopped), (29, 1, bit (s.adm.owners.any fun p => p.2.relaying)),
      (28, 1, bit s.vm.behind), (24, 4, s.vm.err), (8, 4, s.vm.trained), (0, 3, s.vm.restore)]
  | 0x08 => word [(32, 32, s.vm.rawMib), (0, 32, s.vm.usableMib)]
  | 0x10 => word [(0, 16, assignable s - assignedUnits s)]
  | 0x14 => o
  | 0x18 => word [(48, 16, part 3), (32, 16, part 2), (16, 16, part 1), (0, 16, part 0)]
  | 0x20 => settleUsed s o
  | 0x28 => settleCap s o
  | 0x30 => counterUsed s o
  | 0x38 => counterCap s o
  | 0x40 => word [(0, 16, s.vm.ckptPeriod)]
  | 0x44 => word [(0, 16, s.vm.claimWait)]
  | 0x48 => s.vm.epochAck
  | 0x50 => s.vm.epochDep
  | 0x58 => s.vm.verified.getD allOnes64
  | 0x60 => s.vm.eccCorr
  | 0x64 => s.vm.eccUncorr
  | 0x80 => eraseWord s 0
  | 0x84 => eraseWord s 1
  | 0x88 => eraseWord s 2
  | 0x8C => eraseWord s 3
  | 0x90 => s.vm.adoptSel
  | 0x98 => ((s.vm.adopted.find? fun a => a.2.1 == s.vm.adoptSel).map (·.2.2.toNat)).getD 0
  | _ => 0

/-- Owner slots in STATE FREE (R269); 0 until step 0x0D has unwrapped the slot table. (DEDUCED, log 34) -/
def slotsFree (s : State) : Nat :=
  if s.sys.bootStep ≤ 0xD then 0 else 4032 - (s.keys.slots.filter fun e => decide (64 ≤ e.1) && decide (e.1 < 4096) && e.2.state != 0).length

/-- KEYS (R269). -/
def keysReg (s : State) (off : Nat) : Nat :=
  let o := s.keys.ownerSel
  let w := ownerOf s o
  match off with
  | 0x00 => word [(31, 1, bit s.keys.locked), (30, 1, bit s.keys.zeroisePending), (29, 1, bit s.keys.newSalt),
      (20, 4, s.keys.err), (13, 7, s.keys.accords.length), (0, 13, slotsFree s)]
  | 0x08 => s.otp.deviceId.toNat
  | 0x10 => o
  | 0x14 => word [(16, 12, ownerSlots s o), (0, 12, w.quota)]
  | 0x18 => word [(16, 16, w.windowS), (8, 5, w.n), (3, 5, w.m), (0, 3, w.enrolled)]
  | 0x20 => w.id.toNat
  | 0x28 => match w.root with
    | some i => slotHandle i (slotOf s i).gen
    | none => 0
  | 0x30 => w.lo
  | 0x38 => w.hi
  | 0x40 => s.keys.checkFail
  | 0x44 => word [(0, 7, min 64 s.otp.pairsUsed)]
  | 0x48 => s.dep.serial
  | _ => 0

/-- Repetition count and adaptive proportion cutoffs of a source (R313, R314). -/
def rngCutoff (k : Nat) : Nat × Nat := if k < 2 then (81, 824) else (51, 699)

def cutoffWord (k : Nat) : Nat := word [(16, 16, (rngCutoff k).2), (0, 16, (rngCutoff k).1)]

/-- RNG (R337); RNG_RAW is read by `rawSamples`. -/
def rngReg (s : State) : Nat → Nat
  | 0x00 => word [(31, 1, bit s.rng.failed), (30, 1, bit s.rng.ready), (29, 1, bit s.rng.stretching),
      (28, 1, bit s.rng.halted), (24, 4, maskOf ([0, 1, 2, 3].filter (recentAlarm s))), (16, 4, s.rng.pool),
      (8, 5, s.rng.draws.length)]
  | 0x04 => word [(12, 1, bit s.rng.failStartup), (8, 4, s.rng.failSource), (0, 8, s.rng.failCause)]
  | 0x10 => cutoffWord 0
  | 0x14 => cutoffWord 1
  | 0x18 => cutoffWord 2
  | 0x1C => cutoffWord 3
  | 0x20 => s.rng.alarms
  | 0x24 => s.rng.readFail
  | 0x28 => s.rng.reseeds
  | 0x30 => word [(32, 32, s.rng.stretches), (0, 32, s.rng.longest)]
  | 0x38 => s.rng.rawSel
  | _ => 0

/-- CARD (R373): the slot registers read 0 where no identified card sits. -/
def cardReg (s : State) (off : Nat) : Nat :=
  let n := s.cards.sel
  let c := cardOf s n
  let seated := fun (v : Nat) => if c.identified then v else 0
  match off with
  | 0x00 => word [(16, 8, maskOf ((s.cards.slots.filter fun e => e.2.powered).map (·.1))),
      (8, 8, maskOf (s.cards.slots.map (·.1))), (3, 5, (s.cards.records.filter fun r => r.unconfirmed).length),
      (2, 1, bit (identRunning s)), (1, 1, bit (busFast s))]
  | 0x04 => word [(31, 1, bit s.cards.lock), (8, 1, bit s.cards.hsEn), (0, 8, s.cards.slotEn.toNat)]
  | 0x08 => n
  | 0x0C => seated (word [(16, 4, c.state), (14, 2, c.width), (13, 1, bit c.hs), (12, 1, bit (cardExpired s c)),
      (11, 1, bit c.readOnly), (10, 1, bit (decide (180000 ≤ c.commits))), (9, 1, bit c.pinBlocked),
      (8, 1, bit c.session.isSome), (0, 4, rcaOf n)])
  | 0x10 => seated (word64 c.id 0)
  | 0x18 => seated (word64 c.id 8)
  | 0x20 => seated (word [(32, 32, c.commits), (16, 4, c.lastSlot), (0, 16, c.lastTxn)])
  | 0x28 => seated (word [(0, 40, c.validUntil)])
  | 0x30 => seated c.slotsUsed.toNat
  | 0x38 => s.cards.crcErr
  | 0x3C => s.cards.timeouts
  | _ => 0

def ipLow (x : Port) : Nat := x.ip.toNat % 2 ^ 64
def ipHigh (x : Port) : Nat := x.ip.toNat / 2 ^ 64

/-- JCT_PEER_STATE (R404). -/
def peerWord (s : State) : Nat :=
  match peerOf s s.jct.peerSel with
  | none => word [(8, 8, 0xFF)]
  | some p => word [(16, 16, (p.cur.map (·.retx)).getD 0), (8, 8, p.port.getD 0xFF), (3, 5, p.flags.toNat), (0, 3, p.state)]

/-- JCT (R404). -/
def jctReg (s : State) (off : Nat) : Nat :=
  let p0 := s.jct.port0
  let p1 := s.jct.port1
  match off with
  | 0x00 => word [(9, 1, bit p1.gm.isSome), (8, 1, bit p0.gm.isSome), (1, 1, bit p1.up), (0, 1, bit p0.up)]
  | 0x08 => (s.jct.peers.filter fun e => e.2.state == 3).length
  | 0x10 => p0.cfg.toNat
  | 0x14 => p1.cfg.toNat
  | 0x20 => s.otp.mac0.toNat
  | 0x28 => s.otp.mac1.toNat
  | 0x30 => ipLow p0
  | 0x38 => ipHigh p0
  | 0x40 => ipLow p1
  | 0x48 => ipHigh p1
  | 0x50 => s.jct.udp
  | 0x54 => word [(8, 7, p1.domain), (0, 7, p0.domain)]
  | 0x58 => p0.ingress.toNat
  | 0x5C => p1.ingress.toNat
  | 0x60 => p0.egress.toNat
  | 0x64 => p1.egress.toNat
  | 0x70 => s.jct.rtoMin
  | 0x80 => s.jct.peerSel
  | 0x84 => peerWord s
  | 0x88 => word [(0, 32, (((peerOf s s.jct.peerSel).bind (·.cur)).map (·.srtt)).getD 0)]
  | 0x90 => ((peerOf s s.jct.peerSel).map (·.id.toNat)).getD 0
  | 0xA0 => p0.fecCorr
  | 0xA4 => p1.fecCorr
  | 0xA8 => p0.fecUncorr
  | 0xAC => p1.fecUncorr
  | 0xB0 => s.jct.rxDrop
  | 0xB4 => s.jct.retx
  | 0xB8 => s.jct.claimDrop
  | _ => 0

/-- LIFECYCLE (R427). -/
def lifeReg (s : State) (off : Nat) : Nat :=
  let fw := s.life.fw.getD []
  match off with
  | 0x00 => word [(8, 3, s.life.copyValid.toNat), (5, 1, bit s.life.resumed), (4, 1, bit s.life.invalid),
      (2, 2, s.life.pendingTo), (0, 2, if s.life.invalid then 2 else s.life.decided)]
  | 0x08 => word [(32, 32, rd fw 8 4), (16, 8, fwSvn fw), (8, 8, s.life.svnFloor), (0, 1, s.life.fwSlot)]
  | 0x10 => if s.life.fw.isSome then word64 (digestBytes (imageD fw)) 0 else 0
  | 0x18 => word [(8, 4, (s.life.revoke.extractLsb' 8 4).toNat), (0, 4, (s.life.revoke.extractLsb' 0 4).toNat)]
  | 0x20 => word [(31, 1, bit s.life.deny), (16, 2, s.life.scope.toNat), (8, 1, bit s.life.challenge.isSome),
      (0, 8, s.life.refused)]
  | _ => 0

/-- TAMPER_POLICY of a register (R446). -/
def policyWord (s : State) (m : Nat) : Nat := word ((List.range 8).map fun i => (4 * i, 4, policyField s (8 * m + i)))

def limitWord (p : Nat × Nat) : Nat := word [(16, 16, p.2), (0, 16, p.1)]

/-- TAMPER_MESH of the selected loop (R453). -/
def meshWord (s : State) (n : Nat) : Nat :=
  let l := loopOf s n
  word [(48, 16, s.tamper.delays.atD n 0), (32, 16, l.2.2), (16, 16, s.tamper.bitErr.atD n 0), (6, 2, l.1), (3, 3, l.2.1),
    (0, 3, s.tamper.meas.atD n 0)]

/-- TAMPER (R453). -/
def tamperReg (s : State) (off : Nat) : Nat :=
  let n := s.tamper.sel
  match off with
  | 0x00 => word [(31, 1, bit s.tamper.locked), (30, 1, bit s.sys.close), (29, 1, bit (alertLow s)),
      (28, 1, bit s.tamper.enr.isSome), (27, 1, bit s.otp.meshEnr), (26, 1, bit s.sys.pwrFail), (8, 4, s.tamper.err),
      (0, 6, s.tamper.last)]
  | 0x04 => word [(31, 1, bit s.tamper.locked), (0, 1, bit s.tamper.alertRecord)]
  | 0x08 => s.tamper.flags.toNat
  | 0x10 => s.tamper.severe.toNat
  | 0x18 => s.tamper.active.toNat
  | 0x20 => s.tamper.split.toNat
  | 0x28 => policyWord s 0
  | 0x2C => policyWord s 1
  | 0x30 => policyWord s 2
  | 0x34 => policyWord s 3
  | 0x38 => policyWord s 4
  | 0x3C => policyWord s 5
  | 0x40 => policyWord s 6
  | 0x44 => policyWord s 7
  | 0x48 => n
  | 0x4C => if isEnvironmental n then limitWord (s.tamper.values.atD n (0, 0)) else 0
  | 0x50 => if isBanded n then limitWord (Config.tamperLimit n false) else 0
  | 0x54 => if isEnvironmental n then limitWord (Config.tamperLimit n true) else 0
  | 0x58 => if n ≤ 15 then meshWord s n else 0
  | 0x60 => word [(4, 4, ((s.tamper.enr.map (·.caseMask.toNat)).getD 0)), (0, 4, s.tamper.caseOpen.toNat)]
  | 0x64 => s.tamper.fired
  | _ => 0

/-- The 32 bytes of a violation-log entry (R490). -/
def violationBytes (v : Violation) : Bytes :=
  le 8 v.time ++ le 8 v.addr ++ le 4 v.seq ++ le 2 v.len ++ le 1 v.slot ++ le 1 v.initiator ++ le 1 v.pl ++ le 1 v.kind.toNat
    ++ le 2 v.rep ++ le 4 v.gen

/-- SIGBOX_VLOG (R491): the entry with SEQ s sits at index (s - 1) mod 64. -/
def vlogWord (s : State) (off : Nat) : Nat :=
  match s.box.vlog.find? fun v => (v.seq - 1) % 64 == off / 32 with
  | some v => word64 (violationBytes v) (off % 32)
  | none => 0

/-- SIGBOX (R492). -/
def sigboxReg (s : State) (off : Nat) : Nat :=
  let k := s.box.sel
  match off with
  | 0x00 => k
  | 0x04 => if (rowOf k).isNone then 0 else word [(31, 1, bit (s.box.lock.getLsbD k)), (0, 12, (ruleOf s k).toNat)]
  | 0x08 => (ceilOf k).toNat
  | 0x10 => ((rowOf k).map (·.base)).getD 0
  | 0x18 => ((rowOf k).map (·.size)).getD 0
  | 0x20 => s.box.lock.toNat % 2 ^ 32
  | 0x24 => s.box.lock.toNat / 2 ^ 32
  | 0x28 => s.box.gen
  | 0x34 => word [(0, 4, s.box.err)]
  | 0x38 => word [(0, 32, s.box.vlogSeq)]
  | _ => if 0x1000 ≤ off ∧ off < 0x1800 then vlogWord s (off - 0x1000) else 0

/-- EVENTS_WINDOW (R505, R516): the record with EVENT_SEQ q sits at ring index q mod 4,096. -/
def windowWord (s : State) (off : Nat) : Nat :=
  match s.evt.evs.find? fun e => e.seq % 4096 == 512 * s.evt.page + off / 64 with
  | some e => word64 (evSlot e) (off % 64)
  | none => 0

/-- EVENTS (R516). -/
def eventsReg (s : State) (off : Nat) : Nat :=
  match off with
  | 0x00 => s.evt.head
  | 0x08 => s.evt.frozen
  | 0x10 => s.evt.mirrored
  | 0x18 => s.evt.page
  | 0x1C => word [(1, 1, bit s.evt.mirrorErr), (0, 1, bit s.evt.staging)]
  | 0x20 => word [(0, 24, s.evt.cycles)]
  | 0x28 => opTimeWord (opNow s)
  | 0x30 => s.evt.lost
  | _ => if 0x8000 ≤ off then windowWord s (off - 0x8000) else 0

/-- COUNTERS (R517). -/
def countersReg (s : State) (off : Nat) : Nat :=
  let c := s.cnt.sel
  let held := fun (v : Nat) => if c < counterCount s then v else 0
  match off with
  | 0x00 => c
  | 0x04 => held (s.cnt.cfg.atD c 0).toNat
  | 0x08 => held (s.cnt.live.atD c 0)
  | 0x10 => held (s.cnt.shadow.atD c 0)
  | 0x18 => s.cnt.snapNo
  | 0x20 => s.cnt.snapDep
  | 0x28 => word [(16, 16, s.cnt.every), (8, 5, s.cnt.window), (1, 1, bit s.cnt.dumpEn)]
  | 0x30 => s.cnt.dumpAddr
  | 0x38 => word [(16, 16, counterCount s), (1, 1, bit s.cnt.dumpErr),
      (0, 1, bit (s.cnt.cfg.any fun p => p.2.getLsbD 29))]
  | _ => 0

/-- The value of a register of PF0 BAR0 (R9). (DEDUCED, log 29) -/
def regValue (s : State) (off : Nat) : Nat :=
  let o := off % 0x10000
  match off / 0x10000 with
  | 0x0 => globalReg s o
  | 0x1 => ringctlReg s o
  | 0x2 => admitReg s o
  | 0x3 => timeReg s o
  | 0x4 => departReg s o
  | 0x5 => vmemReg s o
  | 0x6 => keysReg s o
  | 0x7 => rngReg s o
  | 0x8 => cardReg s o
  | 0x9 => jctReg s o
  | 0xA => lifeReg s o
  | 0xB => tamperReg s o
  | 0xC => sigboxReg s o
  | 0xD => eventsReg s o
  | 0xE => countersReg s o
  | _ => 0

/-! ### PF0 BAR2 and the VFs -/

/-- The pending bits of a function's 32 vectors (R67). -/
def pbaWord (s : State) (f : Nat) : Nat := maskOf ((List.range 32).filter fun v => s.link.pba.contains (gvec f v))

/-- The 16 bytes of a function's MSI-X table at an offset, as the PCIe base specification lays out an entry: message
address, message data, vector control. (PRESUMED, log 4) -/
def msixWord (s : State) (f off : Nat) : Nat :=
  let g := gvec f (off / 16)
  let e := s.link.msix.atD g (0, 0)
  let all := e.1.toNat + 2 ^ 64 * (e.2.toNat + 2 ^ 32 * bit (!s.link.unmasked.contains g))
  (all / 2 ^ (8 * (off % 16))) % 2 ^ 64

/-- Offset in PF0 BAR2 (R40, R42): the status word of a doorbell slot, PF0's MSI-X table, and its pending bits. -/
def bar2Value (s : State) (off : Nat) : Nat :=
  if off < 0x10000 then (if off % 8 = 4 then statusWord (ringOf s (off / 8)) else 0)
  else if off < 0x10200 then msixWord s 0 (off - 0x10000)
  else if off = 0x18000 then pbaWord s 0
  else 0

/-- The ring at a VF's local index. -/
def localRing (s : State) (f ix : Nat) : Ring :=
  ((s.rings.tbl.find? fun (p : Nat × Ring) => p.2.func == f && p.2.localIdx == ix && p.2.state != .free).map (·.2)).getD {}

/-- Offset in a VF's BAR0 (R41, R42, R515). -/
def vfValue (s : State) (f off : Nat) : Nat :=
  if off < 0x4000 then vfCounterRead s f off
  else if off < 0x8000 then (if off % 8 = 4 then statusWord (localRing s f ((off - 0x4000) / 8)) else 0)
  else if off < 0xC000 then
    (let x := localRing s f ((off - 0x8000) / 8)
     x.epoch * 2 ^ 32 + statusWord x)
  else if off < 0xC200 then msixWord s f (off - 0xC000)
  else if off = 0xE000 then pbaWord s f
  else if off = 0xF000 then f
  else 0

end Sys2Proof.Machine
end

