-- ==== Sys2Proof/Machine/Registers.lean ====
section
/-! DEFINITION. Register reads and the writes of registers that have no row of their own (R6, R7, R9, R563): access
codes, locks, and fields cleared on reading. -/

namespace Sys2Proof.Machine

/-! ### Reads -/

/-- Registers whose read is a row of its own: TIME_NOW, RNG_DATA and SIGBOX_FENCE. -/
def ownRead (off : Nat) : Bool := off == 0x30000 || off == 0x70008 || off == 0xC0030

/-- RC fields of the RINGCTL, ADMIT, DEPART and VMEM blocks. -/
def clearLow (off : Nat) (s : State) : State :=
  match off with
  | 0x10030 => { s with rings := { s.rings with dbReject := 0 } }
  | 0x10034 => mapRing s.rings.sel (fun x => { x with lost := 0 }) s
  | 0x20040 => { s with adm := { s.adm with err := 0 } }
  | 0x20060 => { s with adm := { s.adm with refused := 0 } }
  | 0x40004 => { s with dep := { s.dep with err := 0 } }
  | 0x40038 => { s with dep := { s.dep with pubLate := 0 } }
  | 0x50000 => { s with vm := { s.vm with err := 0 } }
  | 0x50060 => { s with vm := { s.vm with eccCorr := 0 } }
  | 0x50064 => { s with vm := { s.vm with eccUncorr := 0 } }
  | _ => s

/-- RC fields of the KEYS, RNG, CARD and JCT blocks. -/
def clearMid (off : Nat) (s : State) : State :=
  match off with
  | 0x60000 => { s with keys := { s.keys with err := 0 } }
  | 0x60040 => { s with keys := { s.keys with checkFail := 0 } }
  | 0x70020 => { s with rng := { s.rng with alarms := 0 } }
  | 0x70024 => { s with rng := { s.rng with readFail := 0 } }
  | 0x80038 => { s with cards := { s.cards with crcErr := 0 } }
  | 0x8003C => { s with cards := { s.cards with timeouts := 0 } }
  | 0x900A0 => mapPort 0 (fun x => { x with fecCorr := 0 }) s
  | 0x900A4 => mapPort 1 (fun x => { x with fecCorr := 0 }) s
  | 0x900A8 => mapPort 0 (fun x => { x with fecUncorr := 0 }) s
  | 0x900AC => mapPort 1 (fun x => { x with fecUncorr := 0 }) s
  | 0x900B0 => { s with jct := { s.jct with rxDrop := 0 } }
  | 0x900B4 => { s with jct := { s.jct with retx := 0 } }
  | 0x900B8 => { s with jct := { s.jct with claimDrop := 0 } }
  | _ => s

/-- RC fields of the LIFECYCLE, TAMPER, SIGBOX and EVENTS blocks. -/
def clearHigh (off : Nat) (s : State) : State :=
  match off with
  | 0xA0020 => { s with life := { s.life with refused := 0 } }
  | 0xB0000 => { s with tamper := { s.tamper with err := 0 } }
  | 0xB0058 => { s with tamper := { s.tamper with bitErr := s.tamper.bitErr.del s.tamper.sel } }
  | 0xB0064 => { s with tamper := { s.tamper with fired := 0 } }
  | 0xC0034 => { s with box := { s.box with err := 0 } }
  | 0xD0030 => { s with evt := { s.evt with lost := 0 } }
  | _ => s

/-- A read clears the RC fields of its register (R7). -/
def clearOnRead (off : Nat) (s : State) : State :=
  if off < 0x60000 then clearLow off s else if off < 0xA0000 then clearMid off s else clearHigh off s

/-- RNG_RAW (R337): 64 raw samples in BLANK and TEST, 0 afterwards. (DEDUCED, log 30) -/
def rawSamples (s : State) : Nat × State :=
  if !s.life.invalid && decide (s.life.decided < 2) then
    (let (v, s) := freeNat s
     (v % 2 ^ 64, s))
  else (0, s)

/-- GLOBAL_BULK_CONSUMED (R77): bytes leave staging by themselves, so a read of an open session finds any number of
them gone. (DESIGN CHOICE, log 55) -/
def consumedNow (s : State) : Nat × State :=
  if s.bulk.state == .opened then
    (let (k, s) := freeNat s
     let c := s.bulk.consumed + k % (s.bulk.addr - s.bulk.consumed + 1)
     (c, { s with bulk := { s.bulk with consumed := c } }))
  else (s.bulk.consumed, s)

/-- The RS-FEC counts of the ports (R404): a port that is up corrects codewords by itself, so a read finds any number
more. (DESIGN CHOICE, log 55) -/
def countFec (off : Nat) (s : State) : State :=
  let p := off / 4 % 2
  if (off == 0x900A0 || off == 0x900A4 || off == 0x900A8 || off == 0x900AC) && portUp s p then
    (let (k, s) := freeNat s
     mapPort p (fun x => if off < 0x900A8 then { x with fecCorr := sat32 (x.fecCorr + k) }
       else { x with fecUncorr := sat32 (x.fecUncorr + k) }) s)
  else s

def readReg (off : Nat) (s : State) : Nat × State :=
  let s := countFec off (if off = 0xE0008 then countTime s else s)
  if off = 0x70040 then rawSamples s
  else if off = 0x418 then consumedNow s
  else (regValue s off, clearOnRead off s)

/-- A read through PF0 BAR2 or a VF's BAR0, which hold no register block: zeros where the device state forbids
it (R464). -/
def readWindow (off v : Nat) (s : State) : State := emit (.regData off (if heldGate s then 0 else v)) s


/-- (DEDUCED, log 29) -/
def doRead (a : ReadAddr) (s : State) : State :=
  match a with
  | .bar0 off => if ownRead off then s else hostRead off 8 (readReg off) s
  | .bar2 off => if hostOpen s then readWindow off (bar2Value s off) s else s
  | .vfBar0 f off => if hostOpen s && funcOn s f && f != 0 then readWindow off (vfValue s f off) s else s

def execReadClear (a : ReadAddr) (s : State) : Res := .next (doRead a s)

/-! ### Writes -/

def fieldOf (v : W64) (lo n : Nat) : Nat := (v.extractLsb' lo n).toNat

/-- GLOBAL_BULK_CTL (R77, R78): OPEN while a session runs changes no field. Any other write sets OWNER and TARGET; OPEN,
CLOSE and CANCEL then act as their own commands do, the lowest set bit of the three alone. (DESIGN CHOICE, log 55) -/
def writeBulkCtl (v : W64) (s : State) : State :=
  if v.getLsbD 8 then doBulkOpen (v.setWidth 32) s
  else
    let s := { s with bulk := { s.bulk with ctlOwner := fieldOf v 16 8, ctlTarget := fieldOf v 0 3 } }
    if v.getLsbD 9 then doBulkClose s else if v.getLsbD 10 then abortBulk s else s

/-- GLOBAL: the bulk port. -/
def writeGlobal (off : Nat) (v : W64) (s : State) : State :=
  match off with
  | 0x400 => writeBulkCtl v s
  | 0x408 => { s with bulk := { s.bulk with len := v.toNat } }
  | 0x420 => { s with bulk := { s.bulk with
      overrun := s.bulk.overrun && !v.getLsbD 17, seqErr := s.bulk.seqErr && !v.getLsbD 16 } }
  | _ => s

/-- RINGCTL: the selectors and the interrupt moderation (R67). -/
def writeRingctl (off : Nat) (v : W64) (s : State) : State :=
  match off with
  | 0x00 => { s with rings := { s.rings with sel := fieldOf v 0 13 } }
  | 0x40 => { s with link := { s.link with modSel := fieldOf v 0 11 } }
  | 0x44 => { s with link := { s.link with mods := s.link.mods.put s.link.modSel (fieldOf v 16 16, fieldOf v 0 8) } }
  | _ => s

def writeAdmit (off : Nat) (v : W64) (s : State) : State :=
  match off with
  | 0x10 => { s with adm := { s.adm with ownerSel := fieldOf v 0 6 } }
  | 0x30 => { s with adm := { s.adm with ringSel := fieldOf v 0 13 } }
  | 0x40 => { s with adm := { s.adm with lowered := s.adm.lowered && !v.getLsbD 8 } }
  | _ => s

/-- TIME: the source enables with their lock, and PPS_OUT (R115, R563). -/
def writeTime (off : Nat) (v : W64) (s : State) : State :=
  match off with
  | 0x10 => if s.clk.srcLock then s
      else { s with clk := { s.clk with srcEn := v.extractLsb' 0 4, srcLock := v.getLsbD 31 } }
  | 0x38 => { s with clk := { s.clk with ppsOutEn := v.getLsbD 0, ppsOut := s.clk.ppsOut && v.getLsbD 0 } }
  | _ => s

/-- VMEM: a value out of range is refused (R227). -/
def writeVmem (off : Nat) (v : W64) (s : State) : State :=
  let n := fieldOf v 0 16
  match off with
  | 0x14 => { s with vm := { s.vm with partSel := fieldOf v 0 6 } }
  | 0x40 => if 10 ≤ n ∧ n ≤ 3600 then { s with vm := { s.vm with ckptPeriod := n } } else s
  | 0x44 => if 1 ≤ n ∧ n ≤ 1000 then { s with vm := { s.vm with claimWait := n } } else s
  | 0x90 => { s with vm := { s.vm with adoptSel := fieldOf v 0 4 } }
  | _ => s

/-- CARD_CONFIG (R341, R342, R373): locked, it keeps its fields. -/
def writeCardConfig (v : W64) (s : State) : State :=
  if s.cards.lock then s
  else setSlotEn (v.extractLsb' 0 8) { s with cards := { s.cards with hsEn := v.getLsbD 8, lock := v.getLsbD 31 } }

/-- KEYS, RNG and CARD. -/
def writeSelect (off : Nat) (v : W64) (s : State) : State :=
  match off with
  | 0x60010 => { s with keys := { s.keys with ownerSel := fieldOf v 0 6 } }
  | 0x70038 => { s with rng := { s.rng with rawSel := fieldOf v 0 2 } }
  | 0x80004 => writeCardConfig v s
  | 0x80008 => { s with cards := { s.cards with sel := fieldOf v 0 3 } }
  | _ => s

/-- A port's IPv6 address, locked with its JCT_PORT_CFG (R563). -/
def writeIp (p : Nat) (high : Bool) (v : W64) (s : State) : State :=
  mapPort p (fun x =>
    if x.cfg.getLsbD 31 then x
    else if high then { x with ip := v ++ x.ip.extractLsb' 0 64 }
    else { x with ip := x.ip.extractLsb' 64 64 ++ v }) s

def writeJct (off : Nat) (v : W64) (s : State) : State :=
  let n := fieldOf v 0 32
  match off with
  | 0x30 => writeIp 0 false v s
  | 0x38 => writeIp 0 true v s
  | 0x40 => writeIp 1 false v s
  | 0x48 => writeIp 1 true v s
  | 0x50 => if fieldOf v 0 16 = 0 then s else { s with jct := { s.jct with udp := fieldOf v 0 16 } }
  | 0x70 => if 200 ≤ n ∧ n ≤ 100000 then { s with jct := { s.jct with rtoMin := n } } else s
  | 0x80 => { s with jct := { s.jct with peerSel := fieldOf v 0 11 } }
  | _ => s

/-- LIFECYCLE_DEBUG.DENY is its own lock (R563); TAMPER_CTL without LOCK, and TAMPER_SEL. -/
def writeGuard (off : Nat) (v : W64) (s : State) : State :=
  match off with
  | 0xA0020 => { s with life := { s.life with deny := s.life.deny || v.getLsbD 31 } }
  | 0xB0004 => if s.tamper.locked || v.getLsbD 31 then s
      else { s with tamper := { s.tamper with alertRecord := v.getLsbD 0 } }
  | 0xB0048 => { s with tamper := { s.tamper with sel := fieldOf v 0 6 } }
  | 0xC0000 => { s with box := { s.box with sel := fieldOf v 0 6 } }
  | 0xD0018 => { s with evt := { s.evt with page := fieldOf v 0 3 } }
  | 0xD001C => { s with evt := { s.evt with mirrorErr := s.evt.mirrorErr && !v.getLsbD 1 } }
  | _ => s

/-- COUNTERS_CTL (R517): BW_WINDOW outside 10-30 keeps its old value. -/
def writeCountersCtl (v : W64) (s : State) : State :=
  let k := fieldOf v 8 5
  let s := { s with cnt := { s.cnt with
    every := fieldOf v 16 16, window := if 10 ≤ k ∧ k ≤ 30 then k else s.cnt.window
    dumpEn := v.getLsbD 1, dumpStop := false } }
  if v.getLsbD 0 then doSnapReq s else s

def writeCounters (off : Nat) (v : W64) (s : State) : State :=
  match off with
  | 0x00 => { s with cnt := { s.cnt with sel := fieldOf v 0 13 } }
  | 0x28 => writeCountersCtl v s
  | 0x30 => { s with cnt := { s.cnt with dumpAddr := fieldOf v 12 52 * 4096 } }
  | 0x38 => { s with cnt := { s.cnt with dumpErr := s.cnt.dumpErr && !v.getLsbD 1 } }
  | _ => s

/-- A write to a register without a row of its own; writes to read-only and reserved offsets are dropped (R7,
R9). (DEDUCED, log 29) -/
def writeReg (off : Nat) (v : W64) (s : State) : State :=
  match off / 0x10000 with
  | 0x0 => writeGlobal off v s
  | 0x1 => writeRingctl (off % 0x10000) v s
  | 0x2 => writeAdmit (off % 0x10000) v s
  | 0x3 => writeTime (off % 0x10000) v s
  | 0x5 => writeVmem (off % 0x10000) v s
  | 0x6 => writeSelect off v s
  | 0x7 => writeSelect off v s
  | 0x8 => writeSelect off v s
  | 0x9 => writeJct (off % 0x10000) v s
  | 0xE => writeCounters (off % 0x10000) v s
  | _ => writeGuard off v s

/-- The mask bit of a vector is set: its messages pend (R67). -/
def maskVector (f vec : Nat) (s : State) : State :=
  { s with link := { s.link with unmasked := s.link.unmasked.filter fun g => g != gvec f vec } }

/-- A half of a table entry is written: the address, or the data and the mask bit of vector control (R40, R41). (PRESUMED, log 4) -/
def writeMsix (f vec : Nat) (upper : Bool) (v : W64) (s : State) : State :=
  let g := gvec f vec
  let e := s.link.msix.atD g (0, 0)
  if upper then
    (let s := { s with link := { s.link with msix := s.link.msix.put g (e.1, v.setWidth 32) } }
     if v.getLsbD 32 then maskVector f vec s else doVectorUnmask f vec s)
  else { s with link := { s.link with msix := s.link.msix.put g (v, e.2) } }

def execRegisterWrite (a : RegAddr) (v : W64) (s : State) : Res :=
  .next (match a with
    | .bar0 off => hostWrite off 8 (writeReg off v) s
    | .msixMask f vec =>
      when (hostOpen s && funcOn s f && decide (vec < 32) && v.getLsbD 0) (maskVector f vec) s
    | .msixEntry f vec upper => when (hostOpen s && funcOn s f && decide (vec < 32)) (writeMsix f vec upper v) s)

end Sys2Proof.Machine
end

