-- ==== Sys2Proof/Machine/Dispatch.lean ====
section
/-! DEFINITION. One arm for each command of the table. -/

namespace Sys2Proof.Machine

/-- The effect of a command on everything but the queue. -/
def exec (i : Instr) (s : State) : Host.Outcome State Fault Refusal :=
  match i with
  | .powerGood straps => Sys2Proof.Machine.execPowerGood straps s
  | .powerLoss => Sys2Proof.Machine.execPowerLoss s
  | .resetAssert warm => Sys2Proof.Machine.execResetAssert warm s
  | .resetRelease timeRef card33 => Sys2Proof.Machine.execResetRelease timeRef card33 s
  | .startupStepEnd t r => Sys2Proof.Machine.execStartupStepEnd t r s
  | .pwrFailHoldEnd => Sys2Proof.Machine.execPwrFailHoldEnd s
  | .romConfigTakeover => Sys2Proof.Machine.execRomConfigTakeover s
  | .perstNAssert => Sys2Proof.Machine.execPerstNAssert s
  | .perstNRelease => Sys2Proof.Machine.execPerstNRelease s
  | .linkTrainingStart => Sys2Proof.Machine.execLinkTrainingStart s
  | .configRequest q => Sys2Proof.Machine.execConfigRequest q s
  | .flrVf func => Sys2Proof.Machine.execFlrVf func s
  | .vfDisable numVFs => Sys2Proof.Machine.execVfDisable numVFs s
  | .flrPf0 => Sys2Proof.Machine.execFlrPf0 s
  | .busMasterDisable func => Sys2Proof.Machine.execBusMasterDisable func s
  | .doorbell bar slot v single => Sys2Proof.Machine.execDoorbell bar slot v single s
  | .recordFetched ring desc src => Sys2Proof.Machine.execRecordFetched ring desc src s
  | .descriptorFetchError ring => Sys2Proof.Machine.execDescriptorFetchError ring s
  | .admissionStep t => Sys2Proof.Machine.execAdmissionStep t s
  | .tokenRefill ring => Sys2Proof.Machine.execTokenRefill ring s
  | .closeTick t => Sys2Proof.Machine.execCloseTick t s
  | .witnessTimeout t => Sys2Proof.Machine.execWitnessTimeout t s
  | .departureSigned t bad => Sys2Proof.Machine.execDepartureSigned t bad s
  | .ledgerPost => Sys2Proof.Machine.execLedgerPost s
  | .journalPost owner => Sys2Proof.Machine.execJournalPost owner s
  | .eventPost => Sys2Proof.Machine.execEventPost s
  | .completionWrite ring => Sys2Proof.Machine.execCompletionWrite ring s
  | .vectorHoldoff func vec => Sys2Proof.Machine.execVectorHoldoff func vec s
  | .vectorUnmask func vec => Sys2Proof.Machine.execVectorUnmask func vec s
  | .start => Sys2Proof.Machine.execStart s
  | .stop => Sys2Proof.Machine.execStop s
  | .delete => Sys2Proof.Machine.execDelete s
  | .ringConfigWrite r v => Sys2Proof.Machine.execRingConfigWrite r v s
  | .bulkOpen v => Sys2Proof.Machine.execBulkOpen v s
  | .bulkWindowWrite off data drained => Sys2Proof.Machine.execBulkWindowWrite off data drained s
  | .bulkClose => Sys2Proof.Machine.execBulkClose s
  | .bulkCancel => Sys2Proof.Machine.execBulkCancel s
  | .rulebookLoad => Sys2Proof.Machine.execRulebookLoad s
  | .rulebookSwitch owner handle => Sys2Proof.Machine.execRulebookSwitch owner handle s
  | .rulebookDrainEnd owner handle => Sys2Proof.Machine.execRulebookDrainEnd owner handle s
  | .firmwareInstall => Sys2Proof.Machine.execFirmwareInstall s
  | .keyTableImport => Sys2Proof.Machine.execKeyTableImport s
  | .settlementLoad => Sys2Proof.Machine.execSettlementLoad s
  | .settlementLoadLive => Sys2Proof.Machine.execSettlementLoadLive s
  | .restoreStream => Sys2Proof.Machine.execRestoreStream s
  | .headQueryTimeout => Sys2Proof.Machine.execHeadQueryTimeout s
  | .restoreAbandon t key => Sys2Proof.Machine.execRestoreAbandon t key s
  | .ringBudgetWrite v => Sys2Proof.Machine.execRingBudgetWrite v s
  | .ownerShareWrite v => Sys2Proof.Machine.execOwnerShareWrite v s
  | .timeNowRead => Sys2Proof.Machine.execTimeNowRead s
  | .timeAllowanceWrite r v => Sys2Proof.Machine.execTimeAllowanceWrite r v s
  | .departPeriodWrite v => Sys2Proof.Machine.execDepartPeriodWrite v s
  | .departWitnessWrite v => Sys2Proof.Machine.execDepartWitnessWrite v s
  | .vmemPartWrite v => Sys2Proof.Machine.execVmemPartWrite v s
  | .partitionRelayEnd owner => Sys2Proof.Machine.execPartitionRelayEnd owner s
  | .keysQuotaWrite v => Sys2Proof.Machine.execKeysQuotaWrite v s
  | .readClear a => Sys2Proof.Machine.execReadClear a s
  | .registerWrite a v => Sys2Proof.Machine.execRegisterWrite a v s
  | .gameDefine w => Sys2Proof.Machine.execGameDefine w s
  | .gameClose w => Sys2Proof.Machine.execGameClose w s
  | .gameReschedule w => Sys2Proof.Machine.execGameReschedule w s
  | .gameReopen w => Sys2Proof.Machine.execGameReopen w s
  | .gameSetMaxunc w => Sys2Proof.Machine.execGameSetMaxunc w s
  | .gameDelete w => Sys2Proof.Machine.execGameDelete w s
  | .gameStatus w => Sys2Proof.Machine.execGameStatus w s
  | .timeLostClosure t => Sys2Proof.Machine.execTimeLostClosure t s
  | .ppsInEdge t deviation => Sys2Proof.Machine.execPpsInEdge t deviation s
  | .sync t port twoStep offset => Sys2Proof.Machine.execSync t port twoStep offset s
  | .announce port gm rank ptpTimescale => Sys2Proof.Machine.execAnnounce port gm rank ptpTimescale s
  | .announceReceiptTimeout port => Sys2Proof.Machine.execAnnounceReceiptTimeout port s
  | .delayReq port => Sys2Proof.Machine.execDelayReq port s
  | .delayResp port delay => Sys2Proof.Machine.execDelayResp port delay s
  | .sourceAgreement t a b => Sys2Proof.Machine.execSourceAgreement t a b s
  | .sourceLossTimeout t => Sys2Proof.Machine.execSourceLossTimeout t s
  | .uncertaintyLimit t => Sys2Proof.Machine.execUncertaintyLimit t s
  | .clockMonitorFail t => Sys2Proof.Machine.execClockMonitorFail t s
  | .workDispatch seq th => Sys2Proof.Machine.execWorkDispatch seq th s
  | .threadOverrun th => Sys2Proof.Machine.execThreadOverrun th s
  | .nop th o => Sys2Proof.Machine.execNop th o s
  | .jmp th o => Sys2Proof.Machine.execJmp th o s
  | .beq th o => Sys2Proof.Machine.execBeq th o s
  | .bne th o => Sys2Proof.Machine.execBne th o s
  | .bltu th o => Sys2Proof.Machine.execBltu th o s
  | .bgeu th o => Sys2Proof.Machine.execBgeu th o s
  | .accept th o => Sys2Proof.Machine.execAccept th o s
  | .reject th o => Sys2Proof.Machine.execReject th o s
  | .movi th o => Sys2Proof.Machine.execMovi th o s
  | .movhi th o => Sys2Proof.Machine.execMovhi th o s
  | .add th o => Sys2Proof.Machine.execAdd th o s
  | .sub th o => Sys2Proof.Machine.execSub th o s
  | .addsat th o => Sys2Proof.Machine.execAddsat th o s
  | .mulu th o => Sys2Proof.Machine.execMulu th o s
  | .divu th o => Sys2Proof.Machine.execDivu th o s
  | .and th o => Sys2Proof.Machine.execAnd th o s
  | .or th o => Sys2Proof.Machine.execOr th o s
  | .xor th o => Sys2Proof.Machine.execXor th o s
  | .shl th o => Sys2Proof.Machine.execShl th o s
  | .shr th o => Sys2Proof.Machine.execShr th o s
  | .minu th o => Sys2Proof.Machine.execMinu th o s
  | .maxu th o => Sys2Proof.Machine.execMaxu th o s
  | .ld th o => Sys2Proof.Machine.execLd th o s
  | .st th o => Sys2Proof.Machine.execSt th o s
  | .const th o => Sys2Proof.Machine.execConst th o s
  | .lookup th o => Sys2Proof.Machine.execLookup th o s
  | .ctx th o => Sys2Proof.Machine.execCtx th o s
  | .cnt th o => Sys2Proof.Machine.execCnt th o s
  | .parse th o => Sys2Proof.Machine.execParse th o s
  | .fld th o => Sys2Proof.Machine.execFld th o s
  | .flen th o => Sys2Proof.Machine.execFlen th o s
  | .auth th o => Sys2Proof.Machine.execAuth th o s
  | .digest th o => Sys2Proof.Machine.execDigest th o s
  | .limget th o => Sys2Proof.Machine.execLimget th o s
  | .limadd th o => Sys2Proof.Machine.execLimadd th o s
  | .tkins th o => Sys2Proof.Machine.execTkins th o s
  | .tkget th o => Sys2Proof.Machine.execTkget th o s
  | .tkset th o => Sys2Proof.Machine.execTkset th o s
  | .rfield th o => Sys2Proof.Machine.execRfield th o s
  | .rfdig th o => Sys2Proof.Machine.execRfdig th o s
  | .commit seq => Sys2Proof.Machine.execCommit seq s
  | .engineTestSlot die => Sys2Proof.Machine.execEngineTestSlot die s
  | .engineTestDone die pass => Sys2Proof.Machine.execEngineTestDone die pass s
  | .engineFault e => Sys2Proof.Machine.execEngineFault e s
  | .dieLost die => Sys2Proof.Machine.execDieLost die s
  | .anchorFault canPublish => Sys2Proof.Machine.execAnchorFault canPublish s
  | .faultRecovered t => Sys2Proof.Machine.execFaultRecovered t s
  | .retrainSlot u => Sys2Proof.Machine.execRetrainSlot u s
  | .patrolScrub r => Sys2Proof.Machine.execPatrolScrub r s
  | .claim w => Sys2Proof.Machine.execClaim w s
  | .cancel w => Sys2Proof.Machine.execCancel w s
  | .result w => Sys2Proof.Machine.execResult w s
  | .ticketStatus w => Sys2Proof.Machine.execTicketStatus w s
  | .limitStatus w => Sys2Proof.Machine.execLimitStatus w s
  | .limitSet w => Sys2Proof.Machine.execLimitSet w s
  | .sweep w => Sys2Proof.Machine.execSweep w s
  | .sweepEnd owner game => Sys2Proof.Machine.execSweepEnd owner game s
  | .claimBatchSend peer => Sys2Proof.Machine.execClaimBatchSend peer s
  | .claimWaitTimeout claimSeq => Sys2Proof.Machine.execClaimWaitTimeout claimSeq s
  | .adopt w => Sys2Proof.Machine.execAdopt w s
  | .snapRegions w => Sys2Proof.Machine.execSnapRegions w s
  | .checkpointWait w => Sys2Proof.Machine.execCheckpointWait w s
  | .checkpointAck w => Sys2Proof.Machine.execCheckpointAck w s
  | .checkpointNow w => Sys2Proof.Machine.execCheckpointNow w s
  | .checkpointStart t => Sys2Proof.Machine.execCheckpointStart t s
  | .checkpointWritten t => Sys2Proof.Machine.execCheckpointWritten t s
  | .flashRecordWritten good => Sys2Proof.Machine.execFlashRecordWritten good s
  | .pwrFailNAssert t => Sys2Proof.Machine.execPwrFailNAssert t s
  | .pwrFailNDeassert => Sys2Proof.Machine.execPwrFailNDeassert s
  | .newSalt => Sys2Proof.Machine.execNewSalt s
  | .slotScrub bad => Sys2Proof.Machine.execSlotScrub bad s
  | .cacheInvalidation owner => Sys2Proof.Machine.execCacheInvalidation owner s
  | .ownerEnrol w => Sys2Proof.Machine.execOwnerEnrol w s
  | .ownerRetire w => Sys2Proof.Machine.execOwnerRetire w s
  | .officialSet w => Sys2Proof.Machine.execOfficialSet w s
  | .slotGenerate w => Sys2Proof.Machine.execSlotGenerate w s
  | .slotWrite w => Sys2Proof.Machine.execSlotWrite w s
  | .slotExport w lane => Sys2Proof.Machine.execSlotExport w lane s
  | .slotDestroy w => Sys2Proof.Machine.execSlotDestroy w s
  | .slotInfo w => Sys2Proof.Machine.execSlotInfo w s
  | .clauseExport w lane => Sys2Proof.Machine.execClauseExport w lane s
  | .terminalSet w => Sys2Proof.Machine.execTerminalSet w s
  | .accordOpen w => Sys2Proof.Machine.execAccordOpen w s
  | .accordAdd w => Sys2Proof.Machine.execAccordAdd w s
  | .accordCancel w => Sys2Proof.Machine.execAccordCancel w s
  | .interlockSend w => Sys2Proof.Machine.execInterlockSend w s
  | .interlockAccept w => Sys2Proof.Machine.execInterlockAccept w s
  | .departKeyRoll w => Sys2Proof.Machine.execDepartKeyRoll w s
  | .couplingAckTimeout die => Sys2Proof.Machine.execCouplingAckTimeout die s
  | .saltEraseDone => Sys2Proof.Machine.execSaltEraseDone s
  | .wrappedAreaErased => Sys2Proof.Machine.execWrappedAreaErased s
  | .aeadEncrypt w lane => Sys2Proof.Machine.execAeadEncrypt w lane s
  | .aeadDecrypt w lane => Sys2Proof.Machine.execAeadDecrypt w lane s
  | .ctrEncrypt w lane => Sys2Proof.Machine.execCtrEncrypt w lane s
  | .ctrDecrypt w lane => Sys2Proof.Machine.execCtrDecrypt w lane s
  | .xtsEncrypt w lane => Sys2Proof.Machine.execXtsEncrypt w lane s
  | .xtsDecrypt w lane => Sys2Proof.Machine.execXtsDecrypt w lane s
  | .macGenerate w lane => Sys2Proof.Machine.execMacGenerate w lane s
  | .macVerify w lane => Sys2Proof.Machine.execMacVerify w lane s
  | .hash w lane => Sys2Proof.Machine.execHash w lane s
  | .cipherOperationDone w => Sys2Proof.Machine.execCipherOperationDone w s
  | .laneParityFault l relane => Sys2Proof.Machine.execLaneParityFault l relane s
  | .laneTestSlot group => Sys2Proof.Machine.execLaneTestSlot group s
  | .laneTestDone group pass => Sys2Proof.Machine.execLaneTestDone group pass s
  | .pkSign w engine => Sys2Proof.Machine.execPkSign w engine s
  | .pkVerify w engine => Sys2Proof.Machine.execPkVerify w engine s
  | .pkKeygen w engine => Sys2Proof.Machine.execPkKeygen w engine s
  | .pkDerive w engine => Sys2Proof.Machine.execPkDerive w engine s
  | .pkEncaps w engine => Sys2Proof.Machine.execPkEncaps w engine s
  | .pkCurveLoad w engine => Sys2Proof.Machine.execPkCurveLoad w engine s
  | .pkAbort w => Sys2Proof.Machine.execPkAbort w s
  | .pkPublic w engine => Sys2Proof.Machine.execPkPublic w engine s
  | .pkOperationDone w rounds => Sys2Proof.Machine.execPkOperationDone w rounds s
  | .pkEngineFault engine cause => Sys2Proof.Machine.execPkEngineFault engine cause s
  | .pkTestSlot => Sys2Proof.Machine.execPkTestSlot s
  | .pkTestDone pass => Sys2Proof.Machine.execPkTestDone pass s
  | .generatorReady t => Sys2Proof.Machine.execGeneratorReady t s
  | .seedReady => Sys2Proof.Machine.execSeedReady s
  | .rngAlarm src test => Sys2Proof.Machine.execRngAlarm src test s
  | .rngKat pass => Sys2Proof.Machine.execRngKat pass s
  | .gReseedDue => Sys2Proof.Machine.execGReseedDue s
  | .gHalt => Sys2Proof.Machine.execGHalt s
  | .rngDataRead => Sys2Proof.Machine.execRngDataRead s
  | .rngReadTimeout => Sys2Proof.Machine.execRngReadTimeout s
  | .random w => Sys2Proof.Machine.execRandom w s
  | .draw w => Sys2Proof.Machine.execDraw w s
  | .drawFetch w => Sys2Proof.Machine.execDrawFetch w s
  | .drawCommit => Sys2Proof.Machine.execDrawCommit s
  | .drawReveal => Sys2Proof.Machine.execDrawReveal s
  | .cardDetected slot => Sys2Proof.Machine.execCardDetected slot s
  | .cardRemoved slot => Sys2Proof.Machine.execCardRemoved slot s
  | .cardResponse slot r => Sys2Proof.Machine.execCardResponse slot r s
  | .cardDataBlock slot data crcOk => Sys2Proof.Machine.execCardDataBlock slot data crcOk s
  | .cardResponseTimeout slot => Sys2Proof.Machine.execCardResponseTimeout slot s
  | .cardBusyEnd slot => Sys2Proof.Machine.execCardBusyEnd slot s
  | .cardBusyTimeout slot => Sys2Proof.Machine.execCardBusyTimeout slot s
  | .cardReadyTimeout slot => Sys2Proof.Machine.execCardReadyTimeout slot s
  | .cardPoll slot => Sys2Proof.Machine.execCardPoll slot s
  | .cardRequestDeadline slot => Sys2Proof.Machine.execCardRequestDeadline slot s
  | .shareOut w => Sys2Proof.Machine.execShareOut w s
  | .shareIn w => Sys2Proof.Machine.execShareIn w s
  | .reshare w => Sys2Proof.Machine.execReshare w s
  | .shareErase w => Sys2Proof.Machine.execShareErase w s
  | .ceremonyTimeout => Sys2Proof.Machine.execCeremonyTimeout s
  | .portLinkChange port up => Sys2Proof.Machine.execPortLinkChange port up s
  | .neighbourSolicitation port target => Sys2Proof.Machine.execNeighbourSolicitation port target s
  | .hello f => Sys2Proof.Machine.execHello f s
  | .reply f => Sys2Proof.Machine.execReply f s
  | .finish f => Sys2Proof.Machine.execFinish f s
  | .data f => Sys2Proof.Machine.execData f s
  | .ack f => Sys2Proof.Machine.execAck f s
  | .probe f => Sys2Proof.Machine.execProbe f s
  | .close f => Sys2Proof.Machine.execClose f s
  | .headOffer peer => Sys2Proof.Machine.execHeadOffer peer s
  | .headAck peer => Sys2Proof.Machine.execHeadAck peer s
  | .headQuery peer => Sys2Proof.Machine.execHeadQuery peer s
  | .headHeld peer => Sys2Proof.Machine.execHeadHeld peer s
  | .claimReq peer => Sys2Proof.Machine.execClaimReq peer s
  | .claimVerdict peer => Sys2Proof.Machine.execClaimVerdict peer s
  | .lockSend peer => Sys2Proof.Machine.execLockSend peer s
  | .lockHeld peer => Sys2Proof.Machine.execLockHeld peer s
  | .timeReq peer t2 => Sys2Proof.Machine.execTimeReq peer t2 s
  | .timeResp peer t4 => Sys2Proof.Machine.execTimeResp peer t4 s
  | .timeReqSend peer t1 => Sys2Proof.Machine.execTimeReqSend peer t1 s
  | .timeRespSend peer => Sys2Proof.Machine.execTimeRespSend peer s
  | .peerAdd w => Sys2Proof.Machine.execPeerAdd w s
  | .peerRemove w => Sys2Proof.Machine.execPeerRemove w s
  | .peerSet w => Sys2Proof.Machine.execPeerSet w s
  | .peerInfo w => Sys2Proof.Machine.execPeerInfo w s
  | .sessionOpen w => Sys2Proof.Machine.execSessionOpen w s
  | .sessionClose w => Sys2Proof.Machine.execSessionClose w s
  | .handshakeRetry peer => Sys2Proof.Machine.execHandshakeRetry peer s
  | .rekey peer => Sys2Proof.Machine.execRekey peer s
  | .drainTimeout peer => Sys2Proof.Machine.execDrainTimeout peer s
  | .ackDelay peer => Sys2Proof.Machine.execAckDelay peer s
  | .retransmissionTimeout peer => Sys2Proof.Machine.execRetransmissionTimeout peer s
  | .idleProbe peer => Sys2Proof.Machine.execIdleProbe peer s
  | .silenceTimeout peer => Sys2Proof.Machine.execSilenceTimeout peer s
  | .interlockHoldExpiry index => Sys2Proof.Machine.execInterlockHoldExpiry index s
  | .portConfigWrite port v => Sys2Proof.Machine.execPortConfigWrite port v s
  | .ptpCorrectionWrite r v => Sys2Proof.Machine.execPtpCorrectionWrite r v s
  | .deviceCertRead w => Sys2Proof.Machine.execDeviceCertRead w s
  | .deviceCertInstall w => Sys2Proof.Machine.execDeviceCertInstall w s
  | .authChallenge w => Sys2Proof.Machine.execAuthChallenge w s
  | .debugOpen w => Sys2Proof.Machine.execDebugOpen w s
  | .lcTransition w => Sys2Proof.Machine.execLcTransition w s
  | .codeKeySet w => Sys2Proof.Machine.execCodeKeySet w s
  | .challengeExpiry => Sys2Proof.Machine.execChallengeExpiry s
  | .transitionComplete => Sys2Proof.Machine.execTransitionComplete s
  | .tamperCycle t xs => Sys2Proof.Machine.execTamperCycle t xs s
  | .meshMeasure loop cls => Sys2Proof.Machine.execMeshMeasure loop cls s
  | .detectorSplit src => Sys2Proof.Machine.execDetectorSplit src s
  | .tamperEnrol w meas caseOpen => Sys2Proof.Machine.execTamperEnrol w meas caseOpen s
  | .railUndervoltage src pwrFailLong => Sys2Proof.Machine.execRailUndervoltage src pwrFailLong s
  | .railGlitchReturn src => Sys2Proof.Machine.execRailGlitchReturn src s
  | .railLowTimeout src => Sys2Proof.Machine.execRailLowTimeout src s
  | .tamperPolicyWrite reg v => Sys2Proof.Machine.execTamperPolicyWrite reg v s
  | .tamperPolicyLock alertRecord => Sys2Proof.Machine.execTamperPolicyLock alertRecord s
  | .tamperFlagsClear v => Sys2Proof.Machine.execTamperFlagsClear v s
  | .diagStatus => Sys2Proof.Machine.execDiagStatus s
  | .diagEvents => Sys2Proof.Machine.execDiagEvents s
  | .diagTamper => Sys2Proof.Machine.execDiagTamper s
  | .diagHelp => Sys2Proof.Machine.execDiagHelp s
  | .diagHeldLine => Sys2Proof.Machine.execDiagHeldLine s
  | .selfTestEngine w => Sys2Proof.Machine.execSelfTestEngine w s
  | .selfTestLane w => Sys2Proof.Machine.execSelfTestLane w s
  | .selfTestPk w => Sys2Proof.Machine.execSelfTestPk w s
  | .selfTestFull w => Sys2Proof.Machine.execSelfTestFull w s
  | .selfTestDone r => Sys2Proof.Machine.execSelfTestDone r s
  | .stable t => Sys2Proof.Machine.execStable t s
  | .stabledEnter => Sys2Proof.Machine.execStabledEnter s
  | .stabledEntryTimeout => Sys2Proof.Machine.execStabledEntryTimeout s
  | .wake => Sys2Proof.Machine.execWake s
  | .wakeComplete t failedDies => Sys2Proof.Machine.execWakeComplete t failedDies s
  | .signalBoxAccess a => Sys2Proof.Machine.execSignalBoxAccess a s
  | .sigboxRuleWrite initiator pl v => Sys2Proof.Machine.execSigboxRuleWrite initiator pl v s
  | .sigboxLockWrite initiator bank v => Sys2Proof.Machine.execSigboxLockWrite initiator bank v s
  | .sigboxFence initiator => Sys2Proof.Machine.execSigboxFence initiator s
  | .fenceComplete => Sys2Proof.Machine.execFenceComplete s
  | .eventFreezeTimeout => Sys2Proof.Machine.execEventFreezeTimeout s
  | .mirrorWrite good => Sys2Proof.Machine.execMirrorWrite good s
  | .mirrorSearchEnd => Sys2Proof.Machine.execMirrorSearchEnd s
  | .operatingHeartbeat => Sys2Proof.Machine.execOperatingHeartbeat s
  | .countersCfgWrite v => Sys2Proof.Machine.execCountersCfgWrite v s
  | .snapReq => Sys2Proof.Machine.execSnapReq s
  | .bwWindowEnd vals => Sys2Proof.Machine.execBwWindowEnd vals s
  | .dimmTempPoll channel temp => Sys2Proof.Machine.execDimmTempPoll channel temp s
  | .smbVariant => Sys2Proof.Machine.execSmbVariant s
  | .smbStepping => Sys2Proof.Machine.execSmbStepping s
  | .smbDeviceId => Sys2Proof.Machine.execSmbDeviceId s
  | .smbState => Sys2Proof.Machine.execSmbState s
  | .smbLifecycle => Sys2Proof.Machine.execSmbLifecycle s
  | .smbTempHottest => Sys2Proof.Machine.execSmbTempHottest s
  | .smbTempAnchor => Sys2Proof.Machine.execSmbTempAnchor s
  | .smbTempEngineDie k => Sys2Proof.Machine.execSmbTempEngineDie k s
  | .smbTempSubstrate => Sys2Proof.Machine.execSmbTempSubstrate s
  | .smbThermalFlags => Sys2Proof.Machine.execSmbThermalFlags s
  | .smbWrite cmd data => Sys2Proof.Machine.execSmbWrite cmd data s
  | .smbClkTimeout => Sys2Proof.Machine.execSmbClkTimeout s
  | .pauseFrame port quanta => Sys2Proof.Machine.execPauseFrame port quanta s
  | .pauseTimeExpiry port => Sys2Proof.Machine.execPauseTimeExpiry port s
  | .followUp t port offset => Sys2Proof.Machine.execFollowUp t port offset s
  | .frameDropped port cause => Sys2Proof.Machine.execFrameDropped port cause s
  | .rsFecAlarm port => Sys2Proof.Machine.execRsFecAlarm port s
  | .ideKmRequest keys => Sys2Proof.Machine.execIdeKmRequest keys s
  | .jtagAccess a => Sys2Proof.Machine.execJtagAccess a s
  | .ppsOutEdge rise => Sys2Proof.Machine.execPpsOutEdge rise s

end Sys2Proof.Machine
end

