-- ==== Sys2Proof/Machine/Step.lean ====
section
/-! DEFINITION. One step of the block: the command at the front of the queue is taken; an empty queue idles. -/

namespace Sys2Proof.Machine

/-- The command at the front of the queue runs with the rest of the queue; with none waiting the block idles. (DESIGN CHOICE, log 11; DESIGN CHOICE, log 52) -/
def step (s : State) : Host.Outcome State Fault Refusal :=
  match s.pending with
  | [] => .next s
  | c :: rest => exec c { s with pending := rest }

/-- The state with the command of a table word at the front of its queue; no word spells a command, so the state
itself. (DESIGN CHOICE, log 9) -/
def State.withFetchWord (s : State) (nbits w : Nat) : State :=
  match decodeTableWord nbits w with
  | some c => { s with pending := c :: s.pending }
  | none => s

end Sys2Proof.Machine
end

