-- ==== Sys2Proof/Safety.lean ====
section
/-! DEFINITION. The words in which the statements speak: what a command answers, what a work item's end leaves
on its ring, what a thread's op leaves alone, and the properties that every step keeps. -/

namespace Sys2Proof.Machine

/-- The command answers a next state, and P holds of it. -/
def Yields (c : Instr) (s : State) (P : State → Prop) : Prop := ∃ t, exec c s = .next t ∧ P t

/-! ### Threads -/

/-- Nothing but the threads differs, and of the threads only `id`. -/
def OnlyThread (id : ThreadId) (s t : State) : Prop :=
  t = { s with eng := { s.eng with threads := t.eng.threads } } ∧ ∀ j, j ≠ id → threadOf t j = threadOf s j

/-- An op of the thread `id` answers a next state, in which the thread is one of which P holds and nothing
else has changed. -/
def OpGives (c : Instr) (id : ThreadId) (s : State) (P : Thread → Prop) : Prop :=
  ∃ t th', exec c s = .next t ∧ threadOf t id = some th' ∧ OnlyThread id s t ∧ P th'

/-- The thread one op further with v in register d (g0 reads 0 and ignores writes, R116), every other part and
every other register as before. -/
def RegResult (th : Thread) (d : BitVec 5) (v : W64) (th' : Thread) : Prop :=
  th' = { th with regs := th'.regs, pc := th.pc + 1 } ∧ th'.reg d = (if d = 0 then 0 else v)
    ∧ ∀ g, g ≠ d → th'.reg g = th.reg g

/-- An op ends its thread: the thread is free, its work item carries the outcome, vault memory, the other threads
and every ring are untouched (R130, R138). -/
def OpEndsAs (c : Instr) (id : ThreadId) (s : State) (th : Thread) (e : EndOp) : Prop :=
  ∃ t, exec c s = .next t ∧ threadOf t id = none ∧ (∀ j, j ≠ id → threadOf t j = threadOf s j)
    ∧ (∀ i, itemOf s th.seq = some i → itemOf t th.seq = some { i with ended := some e })
    ∧ t.vm = s.vm ∧ t.rings = s.rings

/-- The outcome keeps the thread's RULE_FIELD and CNT marks. -/
def OpEnds (c : Instr) (id : ThreadId) (s : State) (th : Thread) (st : Status) (reason : Nat)
    (staged : Option (List Staged)) : Prop :=
  OpEndsAs c id s th { status := st, reason := reason, staged := staged, ruleField := th.ruleField, marks := th.marks }

/-- An op that needs a line found bad ends its work item with FAULT, which commits nothing (R188). -/
def OpFaults (c : Instr) (id : ThreadId) (s : State) (th : Thread) : Prop :=
  OpEndsAs c id s th { status := .fault, reason := 0, staged := none, ruleField := 0, marks := 0 }

/-! ### Work items -/

/-- A work item of opcode op waits for its command, in READY or DEGRADED with no CLOSE response in force, and its
ring takes results. -/
abbrev Waits (s : State) (id : WorkId) (op : Nat) (w : Work) : Prop :=
  inService s = true ∧ closeWork s = false
    ∧ (s.adm.work.find? fun x => x.ring == id.ring && x.idx == id.idx && dOp x.desc == op) = some w
    ∧ ringTakes (ringOf s w.ring) w.gen = true

/-- The reorder buffer of the item's ring holds its completion (R59, R64). -/
def Completed (t : State) (w : Work) (st : Status) (detail : Nat) (stamp : Option Stamp) : Prop :=
  ∃ d ∈ (ringOf t w.ring).fin, d.idx = w.idx ∧ d.tag = dTag w.desc ∧ d.status = st ∧ d.detail = detail
    ∧ d.stamp = stamp

/-- Output bytes went to DST_ADDR with the requester id of the ring's function, where that function is a bus
master (R38, R564). -/
def Wrote (s t : State) (w : Work) (b : Bytes) : Prop :=
  b ≠ [] → s.link.bme.getLsbD (w.func s) = true → Out.dma (w.func s) (dDstAddr w.desc) b ∈ t.out

/-- The number, admission time and departure of the next admission (R85 step 4, R86). -/
def nextStamp (s : State) : Stamp :=
  { seq := s.adm.nextSeq, t := max s.clk.run (s.adm.lastT + 1), dep := s.dep.number }

/-- A leaf of this content is in its departure's subtree (R163, R168). -/
def Sealed (t : State) (st : Stamp) (l : Leaf) : Prop :=
  LeafHash.mk st.seq st.dep l.subtree (leafHash (leafBytes st l)) ∈ t.dep.leaves

/-- The command completes a waiting item: it is out of the waiting list, its completion and output are
delivered, and P holds. -/
def EndsWork (c : Instr) (s : State) (w : Work) (st : Status) (detail : Nat) (out : Bytes) (P : State → Prop) : Prop :=
  Yields c s fun t => Completed t w st detail w.stamp ∧ Wrote s t w out ∧ w ∉ t.adm.work ∧ P t

/-- The command numbers, seals and completes a waiting item: the leaf carries the next number, which is taken,
and the completion carries the leaf's status and reason. -/
def SealsWork (c : Instr) (s : State) (w : Work) (l : Leaf) (out : Bytes) (P : State → Prop) : Prop :=
  Yields c s fun t => Completed t w l.status l.reason (some (nextStamp s)) ∧ Wrote s t w out
    ∧ Sealed t (nextStamp s) l ∧ t.adm.nextSeq = s.adm.nextSeq + 1 ∧ w ∉ t.adm.work ∧ P t

/-- An item that has ended completes with a status and reason and the stamp of its admission. -/
def ItemCompleted (t : State) (i : Item) (st : Status) (reason : Nat) : Prop :=
  ∃ d ∈ (ringOf t i.ring).fin, d.idx = i.idx ∧ d.tag = dTag i.desc ∧ d.status = st ∧ d.detail = reason
    ∧ d.stamp = some { seq := i.seq, t := i.t, dep := i.dep }

/-- At most one TKINS or TKSET, as R137 bounds a path. (DEDUCED, log 18) -/
def oneTicketChange (l : List Staged) : Prop :=
  (l.filter fun x => match x with
    | .ticketInsert _ _ => true
    | .ticketMove _ => true
    | _ => false).length ≤ 1

/-- The accord that OP_ARG names passes R253 for an operation of this owner and opcode over the item's input. -/
abbrev HasAccord (s : State) (w : Work) (owner opcode : Nat) (a : Accord) : Prop :=
  accordCheck w.accordId owner opcode (Config.sha384 w.input) s = .inr a

/-- A ceremony completes: the next number is taken for its CEREMONY leaf, the completion carries that stamp, and the
accord is consumed (R254, R372). -/
def CeremonyDone (s t : State) (w : Work) (a : Accord) (st : Status) (detail : Nat) : Prop :=
  Completed t w st detail (some (nextStamp s)) ∧ t.adm.nextSeq = s.adm.nextSeq + 1
    ∧ ∀ x ∈ t.keys.accords, x.no ≠ a.no

/-- No owner's root is or was in slot i: sealing a leaf, which may close a journal block under a root (R210, R236),
leaves the slot as it is. -/
abbrev NoRootIn (s : State) (i : Nat) : Prop :=
  (∀ p ∈ s.adm.owners, p.2.root ≠ some i) ∧ ∀ r ∈ s.keys.oldRoots, r.slot ≠ i

/-- The handle names a usable key of this verb whose check passes, apart from every root. -/
abbrev KeyReady (s : State) (o h verb : Nat) (k : KeyView) : Prop :=
  keyFor s o h verb = .inr k ∧ checkKey o h s = s ∧ ∀ i, k.ref = .slot i → NoRootIn s i

/-- The owner's root is VALID in slot i with no limit of uses, its check passes, and no debug lock holds. -/
abbrev RootReady (s : State) (o i : Nat) : Prop :=
  (ownerOf s o).root = some i ∧ (slotOf s i).state = 1 ∧ (slotOf s i).uses = 0 ∧ slotSound s i = true
    ∧ s.keys.locked = false

/-- No other operation is of this one's work item. -/
abbrev OnlyPk (s : State) (c : PkOp) : Prop :=
  (∀ x ∈ s.pk.ops, x.work = c.work → x = c) ∧ (∀ x ∈ s.pk.queue, x.work ≠ c.work) ∧ ∀ a ∈ s.pk.aborts, a.1.work ≠ c.work

/-! ### Linzen -/

/-- A frame of this TYPE arrives at a port that is up, passes every row of R385, and comes from entry i. -/
abbrev Heard (s : State) (f : LinzenFrame) (type i : Nat) (p : Peer) : Prop :=
  portUp s f.port = true ∧ f.type = type ∧ frameRow s f = none
    ∧ peerIndex s (BitVec.ofNat 64 f.srcId) = some i ∧ peerOf s i = some p

/-- Message m of this service and kind is the oldest one that entry i has delivered and no service has taken. -/
abbrev Delivered (s : State) (i service msg : Nat) (p : Peer) (m : Bytes) : Prop :=
  portsRun s = true ∧ peerOf s i = some p
    ∧ p.inbox.find? (fun m => rd m 0 1 == service && rd m 1 1 == msg) = some m

/-- Where entry i has a session with nothing queued and a free place in its window, message m goes out as its next
DATA frame (R393). -/
def SendsTo (s t : State) (i : Nat) (p : Peer) (m : Bytes) : Prop :=
  ∀ x, p.cur = some x → x.queue = [] → x.flight.length < 64 → ∃ q y, peerOf t i = some q ∧ q.cur = some y
    ∧ y.sent = x.sent + 1 ∧ y.flight = x.flight ++ [(x.sent + 1, m, s.clk.run, true)]

/-- Entry i after the command is one of which P holds. -/
def PeerNow (c : Instr) (s : State) (i : Nat) (P : Peer → Prop) : Prop :=
  Yields c s fun t => ∃ q, peerOf t i = some q ∧ P q

/-! ### Host register accesses -/

/-- A host write to this BAR0 offset reaches its register: the function answers, the rule of the offset's slot
grants level 3 a write, and the device is neither in HELD nor STABLED (R464, R476, R483). -/
abbrev HostMayWrite (s : State) (off : Nat) : Prop :=
  hostOpen s = true ∧ grants (ruleOf s (barSlot off)) 3 .write = true ∧ heldGate s = false ∧ s.sys.state ≠ .stabled

/-- A host read of this BAR0 offset reaches its register. -/
abbrev HostMayRead (s : State) (off : Nat) : Prop :=
  hostOpen s = true ∧ grants (ruleOf s (barSlot off)) 3 .read = true ∧ heldGate s = false

/-- The recorder has a new record of this code and arguments, numbered after every earlier one (R494, R498). -/
def NewRecord (s t : State) (code : Nat) (arg : Bytes) : Prop :=
  ∃ e ∈ t.evt.evs, e.code = code ∧ s.evt.head < e.seq ∧ e.arg = arg

/-- The recorder takes a record of this code as a new one: the mirror search has ended, the newest record is of
another code, and no performance counter counts event creations. -/
abbrev RecorderOpen (s : State) (code : Nat) : Prop :=
  s.evt.staging = false ∧ (∀ e ∈ s.evt.evs.head?, e.code ≠ code)
    ∧ ∀ p ∈ s.cnt.cfg, cfgSelects p.2 0x0F [0] 0 = false

/-! ### What every step keeps -/

/-- The signal box stays within the slot map (R483, R484, R490): no rule grants what its slot's ceiling does not, level 0
keeps the ceiling's permissions, and the violation log holds at most 64 entries. -/
def BoxInv (s : State) : Prop :=
  (∀ k, within (ruleOf s k) (ceilOf k) = true ∧ (ruleOf s k).extractLsb' 0 3 = (ceilOf k).extractLsb' 0 3)
    ∧ s.box.vlog.length ≤ 64

/-- The commands that are a reset, a change of power, or a rail event that restarts the device or takes its power (R29,
R448, R455). -/
def restarts : Instr → Bool
  | .powerGood _ | .powerLoss | .resetAssert _ | .resetRelease _ _ => true
  | .railUndervoltage _ _ | .railGlitchReturn _ | .railLowTimeout _ => true
  | _ => false

/-! ### Frames -/

/-- The parts of the state. -/
inductive Part where
  | sys | link | rings | bulk | adm | clk | eng | dep | vm | keys | box | evt | cnt
  | flash | otp | lanes | pk | life | rng | cards | jct | tamper | pkg | out | free | pending
  deriving DecidableEq, Repr

def Part.all : List Part :=
  [.sys, .link, .rings, .bulk, .adm, .clk, .eng, .dep, .vm, .keys, .box, .evt, .cnt, .flash, .otp, .lanes,
   .pk, .life, .rng, .cards, .jct, .tamper, .pkg, .out, .free, .pending]

/-- Every part but those listed. -/
def allBut (l : List Part) : List Part := Part.all.filter fun p => !l.contains p

/-- A part is the same in two states. -/
def Part.same (s t : State) : Part → Prop
  | .sys => t.sys = s.sys
  | .link => t.link = s.link
  | .rings => t.rings = s.rings
  | .bulk => t.bulk = s.bulk
  | .adm => t.adm = s.adm
  | .clk => t.clk = s.clk
  | .eng => t.eng = s.eng
  | .dep => t.dep = s.dep
  | .vm => t.vm = s.vm
  | .keys => t.keys = s.keys
  | .box => t.box = s.box
  | .evt => t.evt = s.evt
  | .cnt => t.cnt = s.cnt
  | .flash => t.flash = s.flash
  | .otp => t.otp = s.otp
  | .lanes => t.lanes = s.lanes
  | .pk => t.pk = s.pk
  | .life => t.life = s.life
  | .rng => t.rng = s.rng
  | .cards => t.cards = s.cards
  | .jct => t.jct = s.jct
  | .tamper => t.tamper = s.tamper
  | .pkg => t.pkg = s.pkg
  | .out => t.out = s.out
  | .free => t.free = s.free
  | .pending => t.pending = s.pending

/-- The parts that a command may change. An effect of the rules that reaches further than the command's own registers is
counted: an event reaches the recorder and the counters, a sealed leaf the departure, the journal and the lane counters,
an owner's end the rings, and ZEROISE whatever R266 clears. The queue is never among them. -/
def footprint : Instr → List Part
  | .retrainSlot .. => []
  | .ppsOutEdge .. => [.clk]
  | .bwWindowEnd .. => [.cnt]
  | .rulebookDrainEnd .. | .workDispatch .. | .nop .. | .jmp .. | .beq .. | .bne .. | .bltu .. | .bgeu .. | .movi ..
    | .movhi .. | .add .. | .sub .. | .addsat .. | .mulu .. | .divu .. | .and .. | .or .. | .xor .. | .shl .. |
    .shr .. | .minu .. | .maxu .. | .lookup .. | .ctx .. | .cnt .. | .fld .. | .flen .. | .digest .. | .tkins .. |
    .tkset .. | .rfield .. | .rfdig .. => [.eng]
  | .eventFreezeTimeout | .mirrorSearchEnd => [.evt]
  | .delayResp .. | .timeReq .. => [.jct]
  | .challengeExpiry => [.life]
  | .romConfigTakeover | .perstNRelease | .linkTrainingStart | .ideKmRequest .. => [.link]
  | .diagStatus | .diagEvents | .diagTamper | .diagHelp | .diagHeldLine | .smbVariant | .smbStepping | .smbDeviceId
    | .smbState | .smbLifecycle | .smbTempHottest | .smbTempAnchor | .smbTempSubstrate | .smbThermalFlags |
    .smbWrite .. | .smbClkTimeout | .jtagAccess .. => [.out]
  | .tokenRefill .. => [.rings]
  | .pwrFailHoldEnd => [.sys]
  | .fenceComplete => [.box, .out]
  | .cardDetected .. => [.cards, .out]
  | .headAck .. => [.dep, .jct]
  | .operatingHeartbeat | .rsFecAlarm .. => [.evt, .cnt]
  | .delayReq .. | .neighbourSolicitation .. | .pauseFrame .. | .pauseTimeExpiry .. => [.jct, .out]
  | .cacheInvalidation .. => [.keys, .out]
  | .configRequest .. | .vectorHoldoff .. | .vectorUnmask .. => [.link, .out]
  | .smbTempEngineDie .. => [.out, .free]
  | .couplingAckTimeout .. => [.sys, .keys]
  | .partitionRelayEnd .. => [.adm, .evt, .cnt]
  | .sigboxRuleWrite .. | .sigboxLockWrite .. | .countersCfgWrite .. => [.box, .evt, .cnt]
  | .engineTestSlot .. => [.eng, .evt, .cnt]
  | .mirrorWrite .. => [.evt, .cnt, .flash]
  | .announce .. | .announceReceiptTimeout .. | .frameDropped .. => [.evt, .cnt, .jct]
  | .laneTestSlot .. => [.evt, .cnt, .lanes]
  | .pkTestSlot => [.evt, .cnt, .pk]
  | .dimmTempPoll .. => [.evt, .cnt, .pkg]
  | .gHalt => [.evt, .cnt, .rng]
  | .interlockHoldExpiry .. => [.keys, .evt, .cnt]
  | .wrappedAreaErased => [.keys, .flash, .life]
  | .recordFetched .. | .gameStatus .. | .ticketStatus .. | .limitStatus .. | .slotInfo .. | .drawFetch .. |
    .peerInfo .. => [.rings, .adm, .out]
  | .pwrFailNDeassert => [.sys, .adm, .flash]
  | .patrolScrub .. => [.vm, .evt, .cnt]
  | .ownerShareWrite .. => [.adm, .box, .evt, .cnt]
  | .accept .. | .reject .. | .ld .. | .st .. | .const .. | .parse .. | .limget .. | .limadd .. | .tkget .. =>
    [.adm, .eng, .evt, .cnt]
  | .ptpCorrectionWrite .. => [.box, .evt, .cnt, .jct]
  | .signalBoxAccess .. | .sigboxFence .. => [.box, .evt, .cnt, .out]
  | .tamperPolicyWrite .. | .tamperPolicyLock .. | .tamperFlagsClear .. => [.box, .evt, .cnt, .tamper]
  | .timeAllowanceWrite .. => [.clk, .box, .evt, .cnt]
  | .ppsInEdge .. | .sourceLossTimeout .. => [.clk, .evt, .cnt, .free]
  | .departPeriodWrite .. | .departWitnessWrite .. => [.dep, .box, .evt, .cnt]
  | .rngReadTimeout => [.evt, .cnt, .rng, .out]
  | .slotScrub .. => [.keys, .evt, .cnt, .flash]
  | .ackDelay .. | .idleProbe .. => [.lanes, .jct, .out, .free]
  | .accordOpen .. | .accordCancel .. => [.rings, .adm, .keys, .out]
  | .deviceCertInstall .. => [.rings, .adm, .life, .out]
  | .deviceCertRead .. => [.rings, .adm, .out, .free]
  | .snapRegions .. | .checkpointWait .. | .checkpointNow .. => [.rings, .adm, .vm, .out]
  | .stop | .ringConfigWrite .. => [.rings, .box, .evt, .cnt]
  | .cipherOperationDone .. => [.rings, .lanes, .out, .free]
  | .handshakeRetry .. | .rekey .. => [.rng, .jct, .out, .free]
  | .stabledEntryTimeout => [.sys, .adm, .evt, .cnt]
  | .wake => [.sys, .box, .evt, .cnt]
  | .selfTestFull .. => [.sys, .rings, .adm, .out]
  | .headHeld .. | .claimReq .. => [.vm, .evt, .cnt, .jct]
  | .keysQuotaWrite .. => [.adm, .keys, .box, .evt, .cnt]
  | .snapReq => [.box, .evt, .cnt, .out, .free]
  | .settlementLoad => [.bulk, .eng, .vm, .evt, .cnt]
  | .timeNowRead => [.clk, .box, .evt, .cnt, .out]
  | .sourceAgreement .. => [.clk, .dep, .evt, .cnt, .free]
  | .timeResp .. => [.clk, .dep, .evt, .cnt, .jct]
  | .seedReady | .gReseedDue => [.evt, .cnt, .rng, .out, .free]
  | .saltEraseDone => [.keys, .evt, .cnt, .flash, .otp]
  | .busMasterDisable .. => [.link, .rings, .adm, .evt, .cnt]
  | .eventPost => [.link, .rings, .evt, .cnt, .out]
  | .ringBudgetWrite .. => [.rings, .adm, .box, .evt, .cnt]
  | .doorbell .. => [.rings, .adm, .dep, .evt, .cnt]
  | .descriptorFetchError .. => [.rings, .adm, .evt, .cnt, .out]
  | .random .. => [.rings, .adm, .rng, .out, .free]
  | .checkpointAck .. => [.rings, .adm, .vm, .flash, .out]
  | .start | .delete => [.rings, .dep, .box, .evt, .cnt]
  | .sweepEnd .. => [.rings, .vm, .evt, .cnt, .out]
  | .checkpointStart .. => [.adm, .clk, .vm, .evt, .cnt, .free]
  | .auth .. => [.adm, .eng, .keys, .evt, .cnt, .flash, .free]
  | .rngDataRead => [.box, .evt, .cnt, .rng, .out, .free]
  | .bulkOpen .. | .bulkWindowWrite .. | .bulkClose | .bulkCancel => [.bulk, .eng, .vm, .box, .evt, .cnt]
  | .firmwareInstall => [.bulk, .eng, .vm, .evt, .cnt, .life]
  | .sync .. | .followUp .. => [.clk, .dep, .evt, .cnt, .jct, .free]
  | .generatorReady .. => [.clk, .evt, .cnt, .rng, .out, .free]
  | .reply .. | .finish .. | .data .. | .ack .. | .probe .. | .headQuery .. | .timeReqSend .. | .timeRespSend .. |
    .drainTimeout .. => [.evt, .cnt, .lanes, .jct, .out, .free]
  | .hello .. => [.evt, .cnt, .rng, .jct, .out, .free]
  | .flrVf .. | .vfDisable .. => [.link, .rings, .adm, .dep, .evt, .cnt]
  | .journalPost .. => [.link, .rings, .adm, .evt, .cnt, .out]
  | .sessionOpen .. => [.rings, .adm, .rng, .jct, .out, .free]
  | .pkTestDone .. => [.rings, .evt, .cnt, .pk, .out, .free]
  | .lockHeld .. => [.rings, .keys, .evt, .cnt, .jct, .out]
  | .vmemPartWrite .. => [.adm, .vm, .box, .evt, .cnt, .rng, .free]
  | .headOffer .. => [.dep, .evt, .cnt, .lanes, .jct, .out, .free]
  | .lockSend .. => [.keys, .evt, .cnt, .lanes, .jct, .out, .free]
  | .completionWrite .. => [.link, .rings, .adm, .vm, .evt, .cnt, .out]
  | .pkAbort .. => [.rings, .adm, .evt, .cnt, .pk, .out, .free]
  | .flashRecordWritten .. => [.rings, .adm, .vm, .evt, .cnt, .flash, .out]
  | .checkpointWritten .. => [.rings, .clk, .vm, .evt, .cnt, .lanes, .out, .free]
  | .stable .. => [.sys, .adm, .clk, .box, .evt, .cnt, .free]
  | .threadOverrun .. | .engineTestDone .. | .engineFault .. | .selfTestEngine .. =>
    [.sys, .rings, .adm, .eng, .evt, .cnt, .out]
  | .selfTestLane .. => [.sys, .rings, .adm, .evt, .cnt, .lanes, .out]
  | .selfTestPk .. => [.sys, .rings, .adm, .evt, .cnt, .pk, .out]
  | .pkEngineFault .. => [.sys, .rings, .evt, .cnt, .pk, .out, .free]
  | .transitionComplete => [.vm, .evt, .cnt, .flash, .life, .rng, .free]
  | .claimBatchSend .. => [.vm, .evt, .cnt, .lanes, .jct, .out, .free]
  | .newSalt => [.dep, .keys, .evt, .cnt, .flash, .life, .rng, .free]
  | .tamperEnrol .. => [.rings, .adm, .evt, .cnt, .flash, .otp, .tamper, .out]
  | .authChallenge .. => [.rings, .adm, .evt, .cnt, .life, .rng, .out, .free]
  | .peerAdd .. => [.rings, .adm, .evt, .cnt, .rng, .jct, .out, .free]
  | .debugOpen .. => [.rings, .adm, .vm, .keys, .evt, .cnt, .life, .out]
  | .silenceTimeout .. => [.rings, .clk, .vm, .keys, .evt, .cnt, .jct, .out]
  | .timeLostClosure .. | .uncertaintyLimit .. | .clockMonitorFail .. =>
    [.adm, .clk, .dep, .keys, .evt, .cnt, .flash, .lanes, .free]
  | .perstNAssert | .flrPf0 => [.link, .rings, .bulk, .adm, .eng, .dep, .vm, .evt, .cnt]
  | .closeTick .. | .witnessTimeout .. => [.adm, .clk, .dep, .keys, .evt, .cnt, .flash, .lanes, .out, .free]
  | .settlementLoadLive => [.bulk, .adm, .dep, .vm, .keys, .evt, .cnt, .flash, .lanes, .free]
  | .ledgerPost => [.link, .rings, .adm, .dep, .evt, .cnt, .lanes, .jct, .out, .free]
  | .gameDefine .. | .gameClose .. | .gameReschedule .. | .gameReopen .. | .gameSetMaxunc .. | .gameDelete .. |
    .officialSet .. | .interlockAccept .. => [.rings, .adm, .dep, .keys, .evt, .cnt, .flash, .lanes, .out, .free]
  | .departKeyRoll .. => [.rings, .adm, .dep, .keys, .evt, .cnt, .flash, .rng, .out, .free]
  | .portLinkChange .. | .close .. | .retransmissionTimeout .. =>
    [.rings, .clk, .vm, .keys, .evt, .cnt, .lanes, .jct, .out, .free]
  | .pkOperationDone .. => [.rings, .vm, .keys, .evt, .cnt, .flash, .pk, .rng, .out, .free]
  | .anchorFault .. => [.sys, .adm, .dep, .keys, .evt, .cnt, .flash, .lanes, .out, .free]
  | .dieLost .. => [.sys, .rings, .adm, .eng, .keys, .evt, .cnt, .pk, .out, .free]
  | .rulebookLoad | .rulebookSwitch .. | .keyTableImport =>
    [.bulk, .adm, .eng, .dep, .vm, .keys, .evt, .cnt, .flash, .lanes, .free]
  | .peerSet .. | .sessionClose .. => [.rings, .adm, .clk, .vm, .keys, .evt, .cnt, .lanes, .jct, .out, .free]
  | .interlockSend .. => [.rings, .adm, .dep, .keys, .evt, .cnt, .flash, .lanes, .jct, .out, .free]
  | .codeKeySet .. => [.rings, .adm, .dep, .keys, .evt, .cnt, .flash, .lanes, .life, .out, .free]
  | .draw .. | .drawCommit | .drawReveal => [.rings, .adm, .dep, .keys, .evt, .cnt, .flash, .lanes, .rng, .out, .free]
  | .commit .. | .claim .. | .cancel .. | .result .. | .limitSet .. | .sweep .. | .claimWaitTimeout .. | .adopt .. |
    .slotWrite .. | .slotExport .. | .slotDestroy .. | .clauseExport .. | .terminalSet .. | .aeadEncrypt .. |
    .aeadDecrypt .. | .ctrEncrypt .. | .ctrDecrypt .. | .xtsEncrypt .. | .xtsDecrypt .. | .macGenerate .. |
    .macVerify .. | .hash .. => [.rings, .adm, .dep, .vm, .keys, .evt, .cnt, .flash, .lanes, .out, .free]
  | .portConfigWrite .. => [.rings, .clk, .vm, .keys, .box, .evt, .cnt, .lanes, .jct, .out, .free]
  | .faultRecovered .. | .pwrFailNAssert .. =>
    [.sys, .adm, .clk, .dep, .keys, .evt, .cnt, .flash, .lanes, .out, .free]
  | .headQueryTimeout => [.sys, .adm, .dep, .keys, .evt, .cnt, .flash, .lanes, .life, .out, .free]
  | .stabledEnter => [.sys, .rings, .clk, .eng, .vm, .keys, .evt, .cnt, .cards, .jct, .out]
  | .restoreStream => [.bulk, .adm, .clk, .eng, .dep, .vm, .evt, .cnt, .rng, .jct, .out, .free]
  | .peerRemove .. => [.rings, .adm, .clk, .dep, .vm, .keys, .evt, .cnt, .lanes, .jct, .out, .free]
  | .accordAdd .. | .cardRemoved .. | .cardResponse .. | .cardResponseTimeout .. | .cardBusyEnd .. |
    .cardBusyTimeout .. | .cardReadyTimeout .. | .cardPoll .. | .shareIn .. | .reshare .. | .shareErase .. =>
    [.rings, .adm, .dep, .keys, .evt, .cnt, .flash, .lanes, .rng, .cards, .out, .free]
  | .claimVerdict .. => [.rings, .adm, .dep, .vm, .keys, .evt, .cnt, .flash, .lanes, .jct, .out, .free]
  | .pkSign .. | .pkVerify .. | .pkKeygen .. | .pkDerive .. | .pkEncaps .. | .pkCurveLoad .. | .pkPublic .. =>
    [.rings, .adm, .dep, .vm, .keys, .evt, .cnt, .flash, .lanes, .pk, .out, .free]
  | .ownerEnrol .. | .slotGenerate .. =>
    [.rings, .adm, .dep, .vm, .keys, .evt, .cnt, .flash, .lanes, .rng, .out, .free]
  | .laneParityFault .. | .laneTestDone .. =>
    [.sys, .rings, .adm, .eng, .dep, .keys, .evt, .cnt, .flash, .lanes, .out, .free]
  | .cardRequestDeadline .. | .ceremonyTimeout =>
    [.rings, .adm, .clk, .dep, .keys, .evt, .cnt, .flash, .lanes, .rng, .cards, .out, .free]
  | .admissionStep .. => [.rings, .adm, .clk, .dep, .vm, .keys, .evt, .cnt, .flash, .lanes, .jct, .out, .free]
  | .cardDataBlock .. | .shareOut .. =>
    [.rings, .adm, .dep, .vm, .keys, .evt, .cnt, .flash, .lanes, .rng, .cards, .out, .free]
  | .restoreAbandon .. => [.sys, .adm, .clk, .eng, .vm, .keys, .box, .evt, .cnt, .flash, .pk, .life, .free]
  | .wakeComplete .. => [.sys, .rings, .adm, .clk, .eng, .dep, .keys, .evt, .cnt, .pk, .cards, .out, .free]
  | .departureSigned .. => allBut [.sys, .link, .bulk, .eng, .box, .otp, .life, .cards, .jct, .tamper, .pkg, .pending]
  | .ownerRetire .. => allBut [.sys, .link, .bulk, .clk, .box, .otp, .rng, .cards, .jct, .tamper, .pkg, .pending]
  | .readClear .. => allBut [.sys, .link, .clk, .eng, .flash, .otp, .lanes, .pk, .pkg, .pending]
  | .meshMeasure .. | .detectorSplit .. => allBut [.box, .flash, .life, .pkg, .free, .pending]
  | .registerWrite .. => allBut [.sys, .otp, .pk, .pkg, .pending]
  | .tamperCycle .. => allBut [.box, .flash, .life, .pkg, .pending]
  | .lcTransition .. => allBut [.box, .tamper, .pkg, .pending]
  | .rngAlarm .. | .rngKat .. | .selfTestDone .. => allBut [.box, .life, .pkg, .pending]
  | .powerGood .. | .powerLoss | .resetAssert .. | .resetRelease .. => allBut [.otp, .pending]
  | .startupStepEnd .. => allBut [.pkg, .pending]
  | .railUndervoltage .. | .railGlitchReturn .. | .railLowTimeout .. => allBut [.pending]

end Sys2Proof.Machine
end

