-- ==== Sys2Proof/Certificates/Slice0/Obligations.lean ====
section
/-! DEFINITION. The statements for the provers. Each docstring cites the rules it rests on. -/

open Sys2Proof Sys2Proof.Machine

/-- R129, R130: The arithmetic and logic ops and MOVI, MOVHI. Each writes its result to d, where g0 ignores writes
(R116), and goes on to the next op; b is the second register, or IMM sign-extended with MODE[0] = 1. Nothing else of
the state changes. NOP goes on to the next op, JMP always branches and a conditional branch branches when its
comparison holds. The target is pc + 1 + IMM[15:0]; with MODE[0] = 1, MODE[8:1] zero-extended replaces b. Only the
program counter of the thread changes. -/
def Obligations.ArithmeticAndBranchOps : Prop :=
  (∀ (s : State) (id : ThreadId) (o : OpFields) (th : Thread), threadOf s id = some th →
    let a := th.reg o.a
    let b := if o.mode.getLsbD 0 then o.imm.signExtend 64 else th.reg o.b
    let gives := fun (c : Instr) (v : W64) => OpGives c id s (RegResult th o.d v)
    gives (.movi id o) (o.imm.signExtend 64)
    ∧ gives (.movhi id o) (o.imm ++ (th.reg o.d).extractLsb' 0 32)
    ∧ gives (.add id o) (BitVec.ofNat 64 (a.toNat + b.toNat))
    ∧ gives (.sub id o) (BitVec.ofInt 64 ((a.toNat : Int) - b.toNat))
    ∧ gives (.addsat id o) (BitVec.ofNat 64 (min (a.toNat + b.toNat) (2 ^ 64 - 1)))
    ∧ gives (.mulu id o) (BitVec.ofNat 64 (a.toNat * b.toNat))
    ∧ gives (.divu id o) (if b = 0 then BitVec.allOnes 64 else BitVec.ofNat 64 (a.toNat / b.toNat))
    ∧ gives (.and id o) (a &&& b)
    ∧ gives (.or id o) (a ||| b)
    ∧ gives (.xor id o) (a ^^^ b)
    ∧ gives (.shl id o) (BitVec.ofNat 64 (a.toNat * 2 ^ (b.toNat % 64)))
    ∧ gives (.shr id o) (BitVec.ofNat 64 (a.toNat / 2 ^ (b.toNat % 64)))
    ∧ gives (.minu id o) (BitVec.ofNat 64 (min a.toNat b.toNat))
    ∧ gives (.maxu id o) (BitVec.ofNat 64 (max a.toNat b.toNat)))
  ∧ (∀ (s : State) (id : ThreadId) (o : OpFields) (th : Thread), threadOf s id = some th →
      let a := th.reg o.a
      let b := if o.mode.getLsbD 0 then (o.mode.extractLsb' 1 8).setWidth 64 else th.reg o.b
      let goes := fun (c : Instr) (p : BitVec 12) => OpGives c id s (fun th' => th' = { th with pc := p })
      let next := th.pc + 1
      let target := BitVec.ofNat 12 (th.pc.toNat + 1 + o.imm.toNat % 2 ^ 16)
      goes (.nop id o) next
      ∧ goes (.jmp id o) target
      ∧ goes (.beq id o) (if a = b then target else next)
      ∧ goes (.bne id o) (if a = b then next else target)
      ∧ goes (.bltu id o) (if a.toNat < b.toNat then target else next)
      ∧ goes (.bgeu id o) (if b.toNat ≤ a.toNat then target else next))

/-- R125, R127, R129, R130, R131, R132, R136, R188, R205: LD and ST of 1, 2, 4 or 8 bytes at a + IMM. Inside the 16
KiB window LD writes the bytes, zero-extended, to d and changes no byte of the window. ST at offset 0x1000 or above
stores the low bytes of b, byte 0 first, and every other byte of the window reads as before. Any other access ends the
thread as REJECT does, with reason 0xFF01. The ops that read a constant, a table, the context, a limit counter or the
target ticket for the work item i under its rulebook version b. A CONST index at or beyond NCONST ends the thread with
reason 0xFF02. LIMGET counts what the path has staged for the counter. An op that needs a bad line of vault memory
ends with FAULT. PARSE, and the ops on the syntax field g of index IMM. FLD reads the field's first 8 bytes little-
endian, which is the value of a UINT field; FLEN its received length, for DSET its count; DIGEST the first 8 bytes of
SHA-384 over it. PARSE goes on where BODY_LEN and every field pass and otherwise ends the thread as REJECT does, with
reason IMM[15:0]. -/
def Obligations.WindowAndLookupOps : Prop :=
  (∀ (s : State) (id : ThreadId) (o : OpFields) (th : Thread), threadOf s id = some th →
    let n := 2 ^ (o.mode.extractLsb' 0 2).toNat
    let at_ := windowAddr th o
    (at_ + n ≤ 0x4000 →
      OpGives (.ld id o) id s (fun th' => RegResult th o.d (BitVec.ofNat 64 (leNat (th.readBytes at_ n))) th'
        ∧ ∀ x, th'.readByte x = th.readByte x))
    ∧ (0x4000 < at_ + n → OpEnds (.ld id o) id s th .sealedReject 0xFF01 (some (nonceOnly th.staged)))
    ∧ (0x1000 ≤ at_ → at_ + n ≤ 0x4000 →
      OpGives (.st id o) id s (fun th' => th' = { th with scratch := th'.scratch, pc := th.pc + 1 }
        ∧ (∀ k, k < n → th'.readByte (at_ + k) = BitVec.ofNat 8 ((th.reg o.b).toNat / 256 ^ k))
        ∧ ∀ x, x < at_ ∨ at_ + n ≤ x → th'.readByte x = th.readByte x))
    ∧ (at_ < 0x1000 ∨ 0x4000 < at_ + n →
      OpEnds (.st id o) id s th .sealedReject 0xFF01 (some (nonceOnly th.staged))))
  ∧ (∀ (s : State) (id : ThreadId) (o : OpFields) (th : Thread) (i : Item) (b : Book),
      threadOf s id = some th → itemOf s th.seq = some i → bookFor s i = some b →
      let a := th.reg o.a
      let gives := fun (c : Instr) (v : W64) => OpGives c id s (RegResult th o.d v)
      (∀ v, b.consts[o.imm.toNat + a.toNat]? = some v → gives (.const id o) v)
      ∧ (b.consts.length ≤ o.imm.toNat + a.toNat →
          OpEnds (.const id o) id s th .sealedReject 0xFF02 (some (nonceOnly th.staged)))
      ∧ (∀ k, (b.tables.getD o.imm.toNat []).findIdx? (· == a) = some k → gives (.lookup id o) (BitVec.ofNat 64 k))
      ∧ (a ∉ b.tables.getD o.imm.toNat [] → gives (.lookup id o) (BitVec.allOnes 64))
      ∧ (o.imm = 0 → gives (.ctx id o) (BitVec.ofNat 64 i.t))
      ∧ (o.imm = 1 → gives (.ctx id o) (BitVec.ofNat 64 i.unc))
      ∧ (o.imm = 2 → gives (.ctx id o) (BitVec.ofNat 64 i.seq))
      ∧ (o.imm = 3 → gives (.ctx id o) (BitVec.ofNat 64 i.dep))
      ∧ (o.imm = 8 → gives (.ctx id o) (ownerOf s i.owner).id)
      ∧ (o.imm = 9 → gives (.ctx id o) s.otp.deviceId)
      ∧ (o.imm = 16 → gives (.ctx id o) (BitVec.ofNat 64 i.targetSeq))
      ∧ (keyBad s i.owner 1 (limitKey a.toNat) = true → OpFaults (.limget id o) id s th)
      ∧ (keyBad s i.owner 1 (limitKey a.toNat) = false →
          gives (.limget id o) (BitVec.ofNat 64 (stagedValue a.toNat (windowValue s i.owner a.toNat i.t) th.staged))
          ∧ (limitOf s i.owner a.toNat = none → th.staged = [] → gives (.limget id o) 0))
      ∧ (keyBad s i.owner 2 (ticketKey 0 i.targetSeq) = true → OpFaults (.tkget id o) id s th)
      ∧ (keyBad s i.owner 2 (ticketKey 0 i.targetSeq) = false →
          (ticketOf s i.owner 0 i.targetSeq = none → gives (.tkget id o) (BitVec.allOnes 64))
          ∧ ∀ k, ticketOf s i.owner 0 i.targetSeq = some k → k.pending = false →
              gives (.tkget id o) (BitVec.ofNat 64 k.state)))
  ∧ (∀ (s : State) (id : ThreadId) (o : OpFields) (th : Thread) (i : Item) (b : Book),
      threadOf s id = some th → itemOf s th.seq = some i → bookFor s i = some b →
      (∀ g, b.fields[o.imm.toNat]? = some g →
        let gives := fun (c : Instr) (v : Nat) => OpGives c id s (RegResult th o.d (BitVec.ofNat 64 v))
        gives (.fld id o) (leNat ((fieldBytes th g).take 8))
        ∧ gives (.flen id o) (if g.ty = 4 then dsetCount th b g else fieldLen th g)
        ∧ gives (.digest id o) ((Config.sha384 (fieldBytes th g)).toNat % 2 ^ 64))
      ∧ (bodyLenOk th b = true → (∀ f ∈ b.fields, fieldOk th b f = true) →
          OpGives (.parse id o) id s (fun th' => th' = { th with pc := th.pc + 1 }))
      ∧ (bodyLenOk th b = false ∨ (∃ f ∈ b.fields, fieldOk th b f = false) →
          OpEnds (.parse id o) id s th .sealedReject (o.imm.toNat % 2 ^ 16) (some (nonceOnly th.staged))))

/-- R130, R136, R137: the ops that stage a change or set a field of the thread. LIMADD with MODE[1] = 0 stages the
addition only where the sum does not exceed the limit, and otherwise gives all ones; with MODE[1] = 1 the subtraction
stops at 0. The current value includes what the path has staged for the same counter. A change for a window that lies
below the counter's own stages nothing (R205). The counter's line must not be bad (R188). -/
def Obligations.StagingOps : Prop :=
  ∀ (s : State) (id : ThreadId) (o : OpFields) (th : Thread), threadOf s id = some th →
    let next := { th with pc := th.pc + 1 }
    let digest := BitVec.ofNat 64 ((Config.sha384 (bodyAt th 0 (hBodyLen th.record))).toNat % 2 ^ 64)
    OpGives (.cnt id o) id s (fun th' => th' = { next with marks := th'.marks }
        ∧ ∀ k, k < 16 → th'.marks.getLsbD k = (th.marks.getLsbD k || decide (k = o.imm.toNat % 16)))
    ∧ OpGives (.tkins id o) id s (· = { next with staged := th.staged ++ [.ticketInsert (th.reg o.a) (th.reg o.b)] })
    ∧ OpGives (.tkset id o) id s (· = { next with staged := th.staged ++ [.ticketMove (o.imm.toNat % 8)] })
    ∧ OpGives (.rfield id o) id s (· = { next with ruleField := th.reg o.a })
    ∧ OpGives (.rfdig id o) id s (· = { next with ruleField := digest })
    ∧ ∀ (i : Item) (b : Book), itemOf s th.seq = some i → bookFor s i = some b →
      keyBad s i.owner 1 (limitKey (th.reg o.a).toNat) = false →
        let ctr := (th.reg o.a).toNat
        let delta := (th.reg o.b).toNat
        let dflt := (b.consts.getD (o.imm.toNat / 2 ^ 16) 0).toNat
        let limit := ((limitOf s i.owner ctr).map (·.limit)).getD dflt
        let cur := stagedValue ctr (windowValue s i.owner ctr i.t) th.staged
        let entry := fun sub => Staged.limit ctr delta sub (o.imm.toNat % 2 ^ 16) dflt
        let staged := fun sub => if windowPast s i.owner ctr i.t then th.staged else th.staged ++ [entry sub]
        (o.mode.getLsbD 1 = false → cur + delta ≤ limit →
          OpGives (.limadd id o) id s (fun th' => th'.staged = staged false
            ∧ RegResult { th with staged := staged false } o.d (BitVec.ofNat 64 (cur + delta)) th'))
        ∧ (o.mode.getLsbD 1 = false → limit < cur + delta →
          OpGives (.limadd id o) id s (RegResult th o.d (BitVec.allOnes 64)))
        ∧ (o.mode.getLsbD 1 = true →
          OpGives (.limadd id o) id s (RegResult { th with staged := staged true } o.d (BitVec.ofNat 64 (cur - delta))))

/-- R117, R130, R133, R134, R138, R188: dispatch and the ends of a thread. A dispatched thread starts with zeroed
registers, staged buffer, RULE_FIELD and scratch, the record in its window and the terminal record as it stands.
ACCEPT sends the whole staged set, REJECT the nonce advance alone with reason IMM[15:0]. AUTH ends the thread at the
first check that fails, under the root whose check passes, and commits nothing; when every check passes it stages the
nonce advance and goes on. A bad line of the terminal record ends it with FAULT. -/
def Obligations.ThreadStartAndEnd : Prop :=
  (∀ (s : State) (id : ThreadId) (o : OpFields) (th : Thread), threadOf s id = some th →
    OpEnds (.accept id o) id s th .ok 0 (some th.staged)
    ∧ OpEnds (.reject id o) id s th .sealedReject (o.imm.toNat % 2 ^ 16) (some (nonceOnly th.staged))
    ∧ ∀ (i : Item) (b : Book), itemOf s th.seq = some i → bookFor s i = some b →
      let bad := keyBad s i.owner 1 (terminalKey (hTerminal i.record))
      let v := checkRoot i.owner i.seq s
      let pre := authPre v i.owner i.seq (dSrcLen i.desc) b.lmax i.isCancel th.terminal i.record
      (bad = true → OpFaults (.auth id o) id s th)
      ∧ (∀ st d, bad = false → pre = some (st, d) → OpEnds (.auth id o) id s th st d none)
      ∧ (bad = false → pre = none → (authGcm v i.owner i.seq i.record).2 = true → Yields (.auth id o) s fun t =>
          ∃ th', threadOf t id = some th' ∧ th'.pc = th.pc + 1 ∧ th'.regs = th.regs
            ∧ th'.staged = th.staged ++ [.nonce (hTerminal i.record) (hTense i.record) (hCtr i.record)])
      ∧ (bad = false → pre = none → (authGcm v i.owner i.seq i.record).2 = false → Yields (.auth id o) s fun t =>
          threadOf t id = none ∧ t.vm = s.vm))
  ∧ ∀ (s : State) (i : Item) (b : Book) (id : ThreadId), itemOf s i.seq = some i → bookFor s i = some b →
      i.ended = none → (∀ th ∈ s.eng.threads, th.seq ≠ i.seq) → dispatchable s i id = true →
      OpGives (.workDispatch i.seq id) id s (fun th => th.seq = i.seq
        ∧ th.pc = BitVec.ofNat 12 (if i.isCancel then b.cancel.getD 0 else 0)
        ∧ (∀ g, th.reg g = 0) ∧ th.staged = [] ∧ th.ruleField = 0 ∧ th.marks = 0
        ∧ th.terminal = terminalOf s i.owner (rd i.record 0 8)
        ∧ (∀ x, x < 0x1000 → th.readByte x = i.record.getD x 0) ∧ ∀ x, 0x1000 ≤ x → th.readByte x = 0)

/-- R138, R139, R188: the commit of an ended work item whose number has not been applied before. A set that needs a
line found bad applies nothing and completes with FAULT. Otherwise the first row of R138 that holds decides: nothing
is applied; or the nonce advance alone, with SEALED_REJECT and its reason; or the whole set in one commit, with the
outcome of the end op. Records are compared by their images: their places in the hash tables are the controller's own. -/
def Obligations.CommitRule : Prop :=
  ∀ (s : State) (i : Item) (e : EndOp) (l : List Staged), itemOf s i.seq = some i → i.ended = some e →
    e.staged = some l → oneTicketChange l → (∃ x ∈ s.adm.owed, x.seq = i.seq) → (∀ k ∈ s.vm.kept, k.seq ≠ i.seq) →
    ringTakes (ringOf s i.ring) i.gen = true →
    let advanced := fun (t : State) => ∀ term tense ctr, stagedNonce l = some (term, tense, ctr) →
      (terminalOf t i.owner term).map terminalBytes
        = some (terminalBytes { owner := i.owner, id := term, tense := tense, ctr := ctr })
    let unapplied := fun (t : State) => t.vm.tickets = s.vm.tickets ∧ t.vm.limits = s.vm.limits
      ∧ t.vm.terminals = s.vm.terminals ∧ t.vm.commitNo = s.vm.commitNo
    (stagedBad s i l = true → Yields (.commit i.seq) s fun t => ItemCompleted t i .fault 0 ∧ unapplied t)
    ∧ (∀ st r, stagedBad s i l = false → commitRow s i l = .nothing st r →
        Yields (.commit i.seq) s fun t => ItemCompleted t i st r ∧ unapplied t)
    ∧ (∀ st r, stagedBad s i l = false → commitRow s i l = .nonceOnly st r →
        Yields (.commit i.seq) s fun t => ItemCompleted t i st r
          ∧ t.vm.tickets = s.vm.tickets ∧ advanced t ∧ t.vm.commitNo = s.vm.commitNo + 1
          ∧ ∀ n, (limitOf t i.owner n).map limitBytes = (limitOf s i.owner n).map limitBytes)
    ∧ (stagedBad s i l = false → commitRow s i l = .whole →
        Yields (.commit i.seq) s fun t => ItemCompleted t i e.status e.reason
          ∧ advanced t ∧ t.vm.commitNo = s.vm.commitNo + 1
          ∧ (∀ a b, stagedInsert l = some (a, b) → s.vm.sweeps = [] →
              (ticketOf t i.owner 0 i.seq).map ticketBytes = some (ticketBytes
                { issuer := 0, seq := i.seq, amount := a, data := b, game := i.game, payer := 0, pending := false
                  state := 0, owner := i.owner }))
          ∧ (∀ k x, stagedMove l = some k → ticketOf s i.owner 0 i.targetSeq = some x →
              ticketOf t i.owner 0 i.targetSeq = some { x with state := k }))

/-- R139: the controller keeps an applied outcome with its status, reason and RULE_FIELD until the wager's completion
has been written. A second set for a number already applied applies nothing: the completion and the leaf report the
kept outcome, and vault memory stays as it is. -/
def Obligations.CommitOnce : Prop :=
  ∀ (s : State),
    (∀ (i : Item) (e : EndOp), itemOf s i.seq = some i → i.ended = some e → (∃ x ∈ s.adm.owed, x.seq = i.seq) →
      ringTakes (ringOf s i.ring) i.gen = true →
      (∀ l, e.staged = some l → (∀ k ∈ s.vm.kept, k.seq ≠ i.seq) →
        let r := (applyCommit i e l s).1
        Yields (.commit i.seq) s fun t => ItemCompleted t i r.1 r.2.1 ∧ (r.2.2.2 = false → t.vm.kept = s.vm.kept)
          ∧ (r.2.2.2 = true → ∃ k ∈ t.vm.kept, k.seq = i.seq ∧ k.status = r.1 ∧ k.reason = r.2.1
              ∧ k.ruleField = if r.1 = .fault then 0 else e.ruleField))
      ∧ ∀ k, s.vm.kept.find? (fun x => x.seq == i.seq) = some k → Yields (.commit i.seq) s fun t =>
        ItemCompleted t i k.status k.reason ∧ t.vm = s.vm
        ∧ (i.isCancel = false → Sealed t { seq := i.seq, t := i.t, dep := i.dep }
            (wagerLeaf i.ring i.owner i.desc i.record k.status k.reason k.ruleField i.handle i.version i.die)))
    ∧ ∀ (r : Nat) (d : Done) (st : Stamp), (ringOf s r).state = .running →
        (ringOf s r).fin.find? (fun e => e.idx == (ringOf s r).next) = some d → d.stamp = some st →
        Yields (.completionWrite r) s fun t => (∀ k ∈ t.vm.kept, k.seq ≠ st.seq)
          ∧ ∀ k ∈ s.vm.kept, k.seq ≠ st.seq → k ∈ t.vm.kept

/-- R188, R198, R199, R200, R206, R207: TICKET_STATUS and LIMIT_STATUS return the 32-byte image of the record named,
or NOT_FOUND, or FAULT where they need a line found bad, and seal no leaf: no number is taken, and the vault memory
and the subtrees stay as they are. RESULT, LIMIT_SET and SWEEP with a body that passes the checks of R101 under a root
whose check passes (R235). RESULT moves a ticket only where R198 allows it; LIMIT_SET sets the limit of a counter and
keeps its value where the window length stays; SWEEP deletes SOLD tickets (mode bit 0), voids WON_UNPAID ones (bit 1)
and deletes ended ones (bit 2) of a CLOSED game at its admission step, and no ticket of another game. -/
def Obligations.StatusAndOwnerCommands : Prop :=
  (∀ (s : State) (id : WorkId) (w : Work),
    let o := w.func s
    let unsealed := fun (t : State) => t.adm.nextSeq = s.adm.nextSeq ∧ t.vm = s.vm ∧ t.dep = s.dep
    let bad := fun (area key : Nat) => keyBad s o area key = true
    (Waits s id 0x13 w → bad 2 (ticketKey (rd w.input 0 1) (rd w.input 1 8)) →
      EndsWork (.ticketStatus id) s w .fault 0 [] unsealed)
    ∧ (Waits s id 0x14 w → bad 1 (rd w.input 0 1 * 2 ^ 64 + rd w.input 1 8) →
      EndsWork (.limitStatus id) s w .fault 0 [] unsealed)
    ∧ (Waits s id 0x13 w → ¬bad 2 (ticketKey (rd w.input 0 1) (rd w.input 1 8)) →
      let found := ticketOf s o (rd w.input 0 1) (rd w.input 1 8)
      (∀ k, found = some k → k.pending = false → EndsWork (.ticketStatus id) s w .ok 0 (ticketBytes k) unsealed)
      ∧ ((∀ k ∈ found, k.pending = true) → EndsWork (.ticketStatus id) s w .notFound 0 [] unsealed))
    ∧ (Waits s id 0x14 w → rd w.input 0 1 = 1 → ¬bad 1 (limitKey (rd w.input 1 8)) →
      let found := limitOf s o (rd w.input 1 8)
      (∀ c, found = some c → EndsWork (.limitStatus id) s w .ok 0 (limitBytes c) unsealed)
      ∧ (found = none → EndsWork (.limitStatus id) s w .notFound 0 [] unsealed))
    ∧ (Waits s id 0x14 w → rd w.input 0 1 = 2 → ¬bad 1 (terminalKey (rd w.input 1 8)) →
      let found := terminalOf s o (rd w.input 1 8)
      (∀ x, found = some x → EndsWork (.limitStatus id) s w .ok 0 (terminalBytes x) unsealed)
      ∧ (found = none → EndsWork (.limitStatus id) s w .notFound 0 [] unsealed)))
  ∧ (∀ (s : State) (id : WorkId) (w : Work) (ctr : Nat),
      let o := w.func s
      let b := w.src
      canNumber s = true → s.vm.stopped = false →
      (∀ k, Waits s id 0x12 w → (takeBody o 0x0004 true b 0x12 s).1 = .good ctr →
        ticketOf s o ((rd b 8 8 / 16) % 16) (rd b 0 8) = some k → k.pending = false → k.game = rd b 24 4 →
        (rd b 8 8 % 8 = 4 ∧ (k.state = 0 ∨ k.state = 2) →
          SealsWork (.result id) s w
            (queryLeaf w.ring o w.desc (issuerDevice s o ((rd b 8 8 / 16) % 16)) (rd b 0 8) .ok 0 0)
            (ticketBytes { k with state := 4 })
            (fun t => ticketOf t o k.issuer k.seq = some { k with state := 4 } ∧ (ownerOf t o).cmdCtr = ctr))
        ∧ (rd b 8 8 % 8 = 2 ∧ k.state = 0 →
          Yields (.result id) s fun t => Completed t w .ok 0 (some (nextStamp s))
            ∧ ticketOf t o k.issuer k.seq = some { k with state := 2, amount := BitVec.ofNat 64 (rd b 16 8) })
        ∧ (k.state = 1 ∨ k.state = 3 ∨ k.state = 4 → rd b 8 8 % 8 = 2 ∨ rd b 8 8 % 8 = 4 →
          Yields (.result id) s fun t => Completed t w .sealedReject 0xFF04 (some (nextStamp s))
            ∧ t.vm.tickets = s.vm.tickets))
      ∧ (∀ c, Waits s id 0x15 w → (takeBody o 0x0005 true b 0x15 s).1 = .good ctr → rd b 0 8 ≠ 0 →
          limitOf s o (rd b 0 8) = some c → c.wlenH = rd b 16 2 → keyBad s o 1 (limitKey (rd b 0 8)) = false →
          SealsWork (.limitSet id) s w (queryLeaf w.ring o w.desc 0 0 .ok 0 0)
            (limitBytes { c with limit := rd b 8 8 })
            (fun t => limitOf t o (rd b 0 8) = some { c with limit := rd b 8 8 } ∧ (ownerOf t o).cmdCtr = ctr))
      ∧ (∀ g, Waits s id 0x16 w → (takeBody o 0x0006 true b 0x16 s).1 = .good ctr → findGame s o (rd b 0 4) = some g →
          g.live = false →
          let bit := fun k => (BitVec.ofNat 3 (rd b 8 8)).getLsbD k
          let hit := fun (x : Ticket) => x.owner = o ∧ x.game = rd b 0 4 ∧ x.pending = false
          Yields (.sweep id) s fun t => t.adm.nextSeq = s.adm.nextSeq + 1 ∧ (ownerOf t o).cmdCtr = ctr
            ∧ Sealed t (nextStamp s) (queryLeaf w.ring o w.desc 0 0 .ok 0 0)
            ∧ (∀ x ∈ s.vm.tickets, ¬hit x → x ∈ t.vm.tickets)
            ∧ (bit 0 = true → ∀ x ∈ t.vm.tickets, hit x → x.state ≠ 0)
            ∧ (bit 1 = true → ∀ x ∈ t.vm.tickets, hit x → x.state ≠ 2)
            ∧ (bit 1 = false → bit 2 = true → ∀ x ∈ t.vm.tickets, hit x → x.state ≠ 1 ∧ x.state ≠ 3 ∧ x.state ≠ 4)
            ∧ ∃ y ∈ t.vm.sweeps, y.owner = o ∧ y.game = rd b 0 4)
      ∧ (∀ g x, s.vm.sweeps.find? (fun y => y.owner == o && y.game == g) = some x →
          (∀ i ∈ s.adm.items, i.owner = o → x.atSeq ≤ i.seq) → (∀ y ∈ s.vm.sweeps, y.owner = o → y.game = g → y = x) →
          ringTakes (ringOf s x.work.ring) x.work.gen = true →
          Yields (.sweepEnd o g) s fun t => Completed t x.work .ok 0 x.work.stamp ∧ x ∉ t.vm.sweeps
            ∧ Wrote s t x.work (padTo 32 (le 8 x.deleted ++ le 8 x.voided))))

/-- R200, R201, R203: CLAIM of a ticket that this device holds, with a record that passes the checks of R134 and a
terminal that has its record. A WON_UNPAID ticket becomes PAID and the claim completes OK; any other state is refused
with the status and reason of its state and the ticket stays as it was, so no ticket is paid twice. A routed claim
whose wait passes ends OWNER_UNREACHABLE with a RELAY leaf. -/
def Obligations.ClaimPaysOnce : Prop :=
  ∀ (s : State) (id : WorkId) (w : Work) (st : Stamp) (i : Nat) (k : Ticket),
    let o := w.func s
    let seq := claimSeq w.src
    Waits s id 0x10 w → w.stamp = some st → s.vm.stopped = false →
    (claimAuth w o (placeDie s o (hTerminal w.src)) s).1 = none →
    nonceAdvances s o (hTerminal w.src) (hTense w.src) (hCtr w.src) = true →
    (terminalOf s o (hTerminal w.src)).isSome = true → issuerIndex s o (claimDev w.src) = some i →
    ticketOf s o i seq = some k → k.pending = false →
    let leaf := fun x d => queryLeaf w.ring o w.desc (claimDev w.src) seq x d (placeDie s o (hTerminal w.src))
    let ends := fun (x : Status) (d : Nat) (k' : Ticket) =>
      EndsWork (.claim id) s w x d (ticketBytes k') fun t => Sealed t st (leaf x d) ∧ ticketOf t o i seq = some k'
        ∧ (terminalOf t o (hTerminal w.src)).map terminalBytes = some (terminalBytes
            { owner := o, id := hTerminal w.src, tense := hTense w.src, ctr := hCtr w.src })
    (k.state = 2 → ends .ok 0 { k with state := 3, data := BitVec.ofNat 64 st.seq, payer := 0xFFFF })
    ∧ (k.state = 3 → ends .alreadyPaid 0 k)
    ∧ (k.state = 0 → ends .sealedReject 0xFF10 k)
    ∧ (k.state = 1 → ends .sealedReject 0xFF11 k)
    ∧ (k.state = 4 → ends .sealedReject 0xFF12 k)

/-- R98, R99, R100, R101, R102: the game commands with a body that passes the checks of R101, under a root whose check
passes (R235). Each takes the next number, seals a GAME leaf with the entry's CLOSE_TIME after the command, moves the
owner's command counter and changes no other game. GAME_STATUS takes no number and writes the 32-byte entry. -/
def Obligations.GameCommands : Prop :=
  ∀ (s : State) (id : WorkId) (w : Work) (ctr : Nat),
    let o := w.func s
    let b := w.src
    let leaf := fun (op : Nat) (st : Status) (closeT : Nat) =>
      ({ subject := bGame b, arg := bCtr b, arg2 := closeT, tag := dTag w.desc, arg3 := op, ring := w.ring,
         status := st, kind := 0x04, owner := o } : Leaf)
    let ready := fun (op : Nat) => canNumber s = true ∧ Waits s id op w
      ∧ (takeBody o 0x0003 (gameRsvOk b) b op s).1 = .good ctr
    let others := fun (t : State) => (∀ x, x ≠ bGame b → findGame t o x = findGame s o x) ∧ (ownerOf t o).cmdCtr = ctr
    let now := fun (g : Game) (t : State) => others t ∧ findGame t o (bGame b) = some g
    (∀ k, ready 0x60 → bookOf s o (bBook b) = some k → findGame s o (bGame b) = none → s.adm.games.length < 16384 →
        s.life.decided ≠ 3 → (ownerOf s o).relaying = false → s.sys.selftest = false → k.w ≤ 1000000 →
        bindErr s o k.w k.c = 0 → bOpen b < bClose b →
        SealsWork (.gameDefine id) s w (leaf 0x60 .ok (bClose b)) [] (now
          { owner := o, id := bGame b, live := true, reason := 0, rulebook := bBook b, openT := bOpen b
            closeT := bClose b, guard := bGuard b }))
    ∧ (∀ g, ready 0x61 → findGame s o (bGame b) = some g →
        SealsWork (.gameClose id) s w (leaf 0x61 .ok g.closeT) [] (now { g with live := false, reason := 0x04 }))
    ∧ (∀ g, ready 0x62 → findGame s o (bGame b) = some g → g.live = true → bOpen b < bClose b →
        SealsWork (.gameReschedule id) s w (leaf 0x62 .ok (bClose b)) [] (now
          { g with openT := bOpen b, closeT := bClose b, guard := bGuard b }))
    ∧ (∀ g k, ready 0x63 → findGame s o (bGame b) = some g → g.live = false → clkValid s = true →
        uncTooBig s o = false → bookOf s o g.rulebook = some k → bindErr s o k.w k.c = 0 → sweeping s o g.id = false →
        s.sys.selftest = false → bOpen b < bClose b →
        SealsWork (.gameReopen id) s w (leaf 0x63 .ok (bClose b)) [] (now
          { g with live := true, reason := 0, openT := bOpen b, closeT := bClose b, guard := bGuard b }))
    ∧ (∀ g, ready 0x65 → findGame s o (bGame b) = some g → g.live = false → sweeping s o g.id = false →
        SealsWork (.gameDelete id) s w (leaf 0x65 .ok 0) [] fun t => others t ∧ findGame t o (bGame b) = none)
    ∧ (∀ g, ready 0x65 → findGame s o (bGame b) = some g → g.live = true →
        SealsWork (.gameDelete id) s w (leaf 0x65 .policy g.closeT) [] fun t => t.adm.games = s.adm.games)
    ∧ (ready 0x64 → 1000 ≤ bMaxUnc b → bMaxUnc b ≤ 100000000 →
        Yields (.gameSetMaxunc id) s fun t => Completed t w .ok 0 (some (nextStamp s))
          ∧ t.adm.nextSeq = s.adm.nextSeq + 1 ∧ (ownerOf t o).cmdCtr = ctr ∧ (ownerOf t o).maxUnc = bMaxUnc b
          ∧ t.adm.games = s.adm.games)
    ∧ (∀ g, Waits s id 0x66 w → findGame s (if o = 0 then rd w.input 4 1 else o) (rd w.input 0 4) = some g →
        EndsWork (.gameStatus id) s w .ok 0 (gameBytes g) fun t => t.adm.games = s.adm.games
          ∧ t.adm.nextSeq = s.adm.nextSeq ∧ t.dep = s.dep)

/-- R104, R105, R107, R109: The moves of the station clock. Two agreeing sources take it from ACQUIRING to LOCKED, by
one step forward, by slewing from at most 1 s behind, and never below the last admission time of the departure
verified at start-up. The loss of every source takes LOCKED to HOLDOVER, u above 1 s and a failed monitor take it to
LOST. When u exceeds the maximum of an owner, or the clock has left its valid states, every LIVE game of that owner is
closed with CLOSE_REASON 0x03. -/
def Obligations.StationClock : Prop :=
  (∀ (s : State) (t : Nat), alive s = true →
    let now := max s.clk.run t
    (∀ a b off, s.clk.state = .acquiring → agreedOffset s a b = some off →
      Yields (.sourceAgreement t a b) s fun r =>
        if (now : Int) + off < s.clk.floorT ∨ off < -1000000000 then r.clk.state = .acquiring ∧ r.clk.run = now
        else if 0 < off then r.clk.state = .locked ∧ (r.clk.run : Int) = now + off ∧ r.dep.timeStep = true
        else r.clk.state = .locked ∧ r.clk.run = now ∧ r.clk.corr = off)
    ∧ (s.clk.state = .locked → Yields (.sourceLossTimeout t) s fun r => r.clk.state = .holdover
        ∧ r.clk.holdSince = now ∧ r.clk.source = 0)
    ∧ (∀ u, uncertainty (advance t s) = some u → 1000000000 < u →
        Yields (.uncertaintyLimit t) s fun r => r.clk.state = .lost)
    ∧ (Yields (.clockMonitorFail t) s fun r => r.clk.state = .lost ∧ r.clk.refPresent = false)
    ∧ (∀ rise, Yields (.ppsOutEdge rise) s fun r =>
        r.clk.ppsOut = (rise && s.clk.ppsOutEn && (s.clk.state == .locked || s.clk.state == .holdover)))
    ∧ (∀ d : Int, s.clk.srcEn.getLsbD 0 = true → clkValid s = true → (d + s.clk.ppsDelay.toInt).natAbs ≤ 1000 →
        withinU (advance t s) (d + s.clk.ppsDelay.toInt) = true →
        Yields (.ppsInEdge t d) s fun r => r.clk.ppsOkAt = some now
          ∧ r.clk.offsetLast = BitVec.ofInt 64 (d + s.clk.ppsDelay.toInt))
    ∧ (∀ d : Int, s.clk.srcEn.getLsbD 0 = true → clkValid s = true → 1000 < (d + s.clk.ppsDelay.toInt).natAbs →
        Yields (.ppsInEdge t d) s fun r => r.clk.ppsOkAt = s.clk.ppsOkAt ∧ r.clk.offsetLast = s.clk.offsetLast))
  ∧ (∀ (s : State) (t : Nat), inService s = true → s.clk.everValid = true →
      Yields (.timeLostClosure t) s fun r => ∀ g ∈ r.adm.games, (∃ p ∈ s.adm.owners, p.1 = g.owner) →
        uncTooBig (advance t s) g.owner = true → g.live = false ∧ (g ∈ s.adm.games ∨ g.reason = 0x03))

/-- R381: PTP on a port whose ordinary clock runs. A Sync of the selected grandmaster, or the Follow_Up of a two-step
one, becomes a reading of the port's source once the path delay is measured; the best master of those announced is
selected; a grandmaster that is not heard is dropped; a Delay_Req goes out and its response gives the delay. -/
def Obligations.PtpMessages : Prop :=
  ∀ (s : State) (t p : Nat), ptpOn s p = true →
    let x := portOf s p
    let now := max s.clk.run t
    let read := fun (off : Int) (r : State) => (ptpSrc p, off, now) ∈ r.clk.readings
    (∀ off g d, x.gm = some g → x.delay = some d → srcEnabled s (ptpSrc p) = true →
      Yields (.sync t p false off) s fun r => read (off + d) r
        ∧ (s.clk.state = .unset ∨ s.clk.state = .lost → r.clk.state = .acquiring))
    ∧ (∀ off g, x.gm = some g → Yields (.sync t p true off) s fun r => (portOf r p).syncWait = true
        ∧ r.clk.readings = s.clk.readings)
    ∧ (∀ off d, x.syncWait = true → x.delay = some d → srcEnabled s (ptpSrc p) = true →
        Yields (.followUp t p off) s fun r => read (off + d) r ∧ (portOf r p).syncWait = false)
    ∧ (∀ g k, Yields (.announce p g k true) s fun r => (g, k) ∈ (portOf r p).masters
        ∧ ((∀ m ∈ x.masters, k ≤ m.2) → (portOf r p).gm = some g))
    ∧ (∀ g, x.gm = some g → Yields (.announceReceiptTimeout p) s fun r => (portOf r p).gm ≠ some g
        ∧ ∀ m ∈ (portOf r p).masters, m.1 ≠ g)
    ∧ (∀ g, x.gm = some g → x.paused = false → Yields (.delayReq p) s fun r => (portOf r p).delayWait = true
        ∧ Out.frame p kindDelayReq [] ∈ r.out)
    ∧ (∀ d, x.delayWait = true → Yields (.delayResp p d) s fun r => (portOf r p).delay = some d
        ∧ (portOf r p).delayWait = false)

/-- R382: while any game is LIVE, a write to a PTP correction register or to JCT_PTP_DOMAIN is refused and the
register keeps its old value. -/
def Obligations.PtpFixedWhileLive : Prop :=
  ∀ (s : State) (r : PtpReg) (v : W32), anyLive s = true →
    Yields (.ptpCorrectionWrite r v) s fun t => t.jct = s.jct ∧ (HostMayWrite s (ptpRegOff r) → t = s)

/-- R95, R96, R110, R115, R153, R182, R382: A write of ADMIT_RING_BUDGET or ADMIT_OWNER_SHARE is taken where every
check of R96 holds after it, and otherwise only sets ERR. The tokens held are kept, reduced to the new BURST.
TOKEN_REFILL gives a ring one token, up to BURST. The TIME and PTP registers. A read of TIME_NOW returns the station-
clock time, 0 where it is not valid, and latches its uncertainty. An allowance is taken where it rises, or where it
falls to no less than its floor while no game is LIVE; PPS_DELAY and the PTP corrections only while no game is LIVE
and in range. The DEPART registers. A period between the floor of the variant and 1,000,000 us is taken and any other
sets ERR 0x1; DEPART_WITNESS sets LAG and WAIT_US until it is locked, and a WAIT_US above 1,000 sets ERR 0x2. -/
def Obligations.BlockRegisterWrites : Prop :=
  (∀ (s : State),
    (∀ v : W64, HostMayWrite s 0x20038 →
      let x := ringOf s s.adm.ringSel
      let x' := { x with rate := v.toNat % 2 ^ 17, burst := v.toNat / 2 ^ 32 % 2 ^ 13,
                         tokens := min x.tokens (v.toNat / 2 ^ 32 % 2 ^ 13) }
      let s' := setRing s.adm.ringSel x' s
      x.cls = 0 → x.state ≠ .free →
      exec (.ringBudgetWrite v) s = .next (if budgetErr s' (budgetsOf s') = 0 then s'
        else { s with adm := { s.adm with err := budgetErr s' (budgetsOf s') } }))
    ∧ (∀ v : W32, HostMayWrite s 0x20014 → s.adm.ownerSel ≠ 0 →
      let s' := mapOwner s.adm.ownerSel (fun w => { w with share := v.toNat % 2 ^ 20 }) s
      exec (.ownerShareWrite v) s = .next (if budgetErr s' (budgetsOf s') = 0 then s'
        else { s with adm := { s.adm with err := budgetErr s' (budgetsOf s') } }))
    ∧ ∀ r, (ringOf s r).cls = 0 → (ringOf s r).state = .running → 0 < (ringOf s r).rate →
      Yields (.tokenRefill r) s fun t =>
        (ringOf t r).tokens = max (ringOf s r).tokens (min (ringOf s r).burst ((ringOf s r).tokens + 1))
        ∧ ∀ q, q ≠ r → ringOf t q = ringOf s q)
  ∧ (∀ (s : State),
      (HostMayRead s 0x30000 → Yields .timeNowRead s fun t =>
        t.out = .regData 0x30000 (if clkValid s then s.clk.run else 0) :: s.out
        ∧ t.clk = { s.clk with uncLatch := BitVec.ofNat 32 ((uncertainty s).getD 0xFFFFFFFF) })
      ∧ (∀ (v : W32), HostMayWrite s 0x30014 → Yields (.timeAllowanceWrite .ppsAllow v) s (fun t =>
          let n := if s.clk.ppsAllow ≤ v.toNat ∨ 20 ≤ v.toNat ∧ anyLive s = false then v.toNat else s.clk.ppsAllow
          t = { s with clk := { s.clk with ppsAllow := n } }))
      ∧ (∀ (v : W32), HostMayWrite s 0x30018 → Yields (.timeAllowanceWrite .ptpAllow v) s (fun t =>
          let n := if s.clk.ptpAllow ≤ v.toNat ∨ 50 ≤ v.toNat ∧ anyLive s = false then v.toNat else s.clk.ptpAllow
          t = { s with clk := { s.clk with ptpAllow := n } }))
      ∧ (∀ (v : W32), HostMayWrite s 0x3001C → Yields (.timeAllowanceWrite .holdFreq v) s (fun t =>
          let n := if s.clk.holdFreq ≤ v.toNat ∨ 10 ≤ v.toNat ∧ anyLive s = false then v.toNat else s.clk.holdFreq
          t = { s with clk := { s.clk with holdFreq := n } }))
      ∧ (∀ (v : W32), HostMayWrite s 0x30020 → Yields (.timeAllowanceWrite .holdAging v) s (fun t =>
          let n := if s.clk.holdAging ≤ v.toNat ∨ 10 ≤ v.toNat ∧ anyLive s = false then v.toNat else s.clk.holdAging
          t = { s with clk := { s.clk with holdAging := n } }))
      ∧ (∀ (v : W32), HostMayWrite s 0x30024 → Yields (.timeAllowanceWrite .ppsDelay v) s (fun t =>
          let n := if anyLive s = false ∧ -1000 ≤ v.toInt ∧ v.toInt ≤ 1000 then v else s.clk.ppsDelay
          t = { s with clk := { s.clk with ppsDelay := n } }))
      ∧ (∀ (p : Nat) (v : W32), p < 2 → anyLive s = false → -500 ≤ v.toInt → v.toInt ≤ 500 →
          (HostMayWrite s (0x90058 + 4 * p) → Yields (.ptpCorrectionWrite (.ingress p) v) s fun t =>
            (portOf t p).ingress = v ∧ portOf t (1 - p) = portOf s (1 - p))
          ∧ (HostMayWrite s (0x90060 + 4 * p) → Yields (.ptpCorrectionWrite (.egress p) v) s fun t =>
            (portOf t p).egress = v ∧ portOf t (1 - p) = portOf s (1 - p))))
  ∧ (∀ (s : State) (v : W32),
      let us := v.toNat % 2 ^ 20
      let floor := if s.otp.variant = 2 then 500 else if s.otp.variant = 4 then 200 else 100
      let wait := v.toNat % 2 ^ 11
      (HostMayWrite s 0x40000 →
        (floor ≤ us → us ≤ 1000000 → exec (.departPeriodWrite v) s =
          .next { s with dep := { s.dep with periodUs := us, periodChanged := true } })
        ∧ (us < floor ∨ 1000000 < us → exec (.departPeriodWrite v) s = .next { s with dep := { s.dep with err := 0x1 } }))
      ∧ (HostMayWrite s 0x40028 →
        (s.dep.witLock = true → exec (.departWitnessWrite v) s = .next s)
        ∧ (s.dep.witLock = false → 1000 < wait → exec (.departWitnessWrite v) s =
            .next { s with dep := { s.dep with err := 0x2 } })
        ∧ (s.dep.witLock = false → wait ≤ 1000 → exec (.departWitnessWrite v) s =
            .next { s with dep := { s.dep with witLag := v.toNat / 2 ^ 16 % 256, witWaitUs := wait,
                                               witLock := decide (2 ^ 31 ≤ v.toNat) } })))

/-- R6, R7, R9, R40, R41, R67, R227, R341, R563: register accesses without a row of their own. A read returns the
register's value and changes nothing but what it clears; a counter that clears on reading reads 0 afterwards. Three
values move by themselves, and a read finds a free value for them: CONSUMED of an open bulk session, the RS-FEC counts
of a port that is up (assumption 55), and counters of time (assumption 48). A write to a register that no table gives
an access to changes nothing; a value out of range and a write under a lock keep the old one. An entry of an MSI-X
table holds what is written to it, and its mask bit masks the vector. -/
def Obligations.RegisterAccess : Prop :=
  ∀ (s : State),
    let clearing := [0x10030, 0x10034, 0x20040, 0x20060, 0x40004, 0x40038, 0x50000, 0x50060, 0x50064, 0x60000, 0x60040, 0x70020,
      0x70024, 0x80038, 0x8003C, 0x900A0, 0x900A4, 0x900A8, 0x900AC, 0x900B0, 0x900B4, 0x900B8, 0xA0020, 0xB0000, 0xB0058,
      0xB0064, 0xC0034, 0xD0030]
    let counters := [0x10030, 0x10034, 0x20060, 0x40038, 0x50060, 0x50064, 0x60040, 0x70020, 0x70024, 0x80038, 0x8003C, 0x900A0,
      0x900A4, 0x900A8, 0x900AC, 0x900B0, 0x900B4, 0x900B8, 0xB0064, 0xD0030]
    let writable := [0x400, 0x408, 0x420, 0x10000, 0x10040, 0x10044, 0x20010, 0x20030, 0x20040, 0x30010, 0x30038, 0x50014, 0x50040,
      0x50044, 0x50090, 0x60010, 0x70038, 0x80004, 0x80008, 0x90030, 0x90038, 0x90040, 0x90048, 0x90050, 0x90070, 0x90080,
      0xA0020, 0xB0004, 0xB0048, 0xC0000, 0xD0018, 0xD001C, 0xE0000, 0xE0028, 0xE0030, 0xE0038]
    let fec := [0x900A0, 0x900A4, 0x900A8, 0x900AC]
    let still := fun (off : Nat) => off ≠ 0x70040 ∧ (off = 0x418 → s.bulk.state ≠ .opened)
      ∧ (off ∈ fec → portUp s (off / 4 % 2) = false) ∧ (off = 0xE0008 → ∀ p ∈ s.cnt.cfg, countsTime s p.1 p.2 = false)
    (∀ off, HostMayRead s off → ownRead off = false → still off → off < 0xF0000 →
      Yields (.readClear (.bar0 off)) s fun t => t.out = .regData off (regValue s off) :: s.out
        ∧ (off ∉ clearing → t = { s with out := .regData off (regValue s off) :: s.out })
        ∧ (off ∈ counters → regValue t off = 0))
    ∧ (HostMayRead s 0x418 → s.bulk.state = .opened → s.bulk.consumed ≤ s.bulk.addr → Yields (.readClear (.bar0 0x418)) s
        fun t => s.bulk.consumed ≤ t.bulk.consumed ∧ t.bulk.consumed ≤ s.bulk.addr
          ∧ t.out = .regData 0x418 t.bulk.consumed :: s.out)
    ∧ (∀ off ∈ fec, HostMayRead s off → Yields (.readClear (.bar0 off)) s fun t => regValue t off = 0
        ∧ ∃ n, regValue s off ≤ n ∧ t.out = .regData off n :: s.out)
    ∧ (HostMayRead s 0x70040 → Yields (.readClear (.bar0 0x70040)) s fun t => ∃ n, t.out = .regData 0x70040 n :: s.out
        ∧ (s.life.invalid = true ∨ 2 ≤ s.life.decided → n = 0))
    ∧ (∀ off, hostOpen s = true → heldGate s = false → exec (.readClear (.bar2 off)) s =
        .next { s with out := .regData off (bar2Value s off) :: s.out })
    ∧ (∀ f off, hostOpen s = true → heldGate s = false → funcOn s f = true → f ≠ 0 →
        exec (.readClear (.vfBar0 f off)) s = .next { s with out := .regData off (vfValue s f off) :: s.out })
    ∧ (∀ off (v : W64), HostMayWrite s off → off ∉ writable → exec (.registerWrite (.bar0 off) v) s = .next s)
    ∧ (∀ v : W64, let n := v.toNat % 2 ^ 16
        (HostMayWrite s 0x30010 → s.clk.srcLock = true → exec (.registerWrite (.bar0 0x30010) v) s = .next s)
        ∧ (HostMayWrite s 0x30010 → s.clk.srcLock = false → exec (.registerWrite (.bar0 0x30010) v) s =
            .next { s with clk := { s.clk with srcEn := v.extractLsb' 0 4, srcLock := v.getLsbD 31 } })
        ∧ (HostMayWrite s 0x80004 → s.cards.lock = true → exec (.registerWrite (.bar0 0x80004) v) s = .next s)
        ∧ (HostMayWrite s 0x50040 → exec (.registerWrite (.bar0 0x50040) v) s =
            .next (if 10 ≤ n ∧ n ≤ 3600 then { s with vm := { s.vm with ckptPeriod := n } } else s))
        ∧ (HostMayWrite s 0x50044 → exec (.registerWrite (.bar0 0x50044) v) s =
            .next (if 1 ≤ n ∧ n ≤ 1000 then { s with vm := { s.vm with claimWait := n } } else s))
        ∧ (HostMayWrite s 0x400 → bulkBusy s = true → v.getLsbD 8 = true →
            exec (.registerWrite (.bar0 0x400) v) s = .next s)
        ∧ (HostMayWrite s 0x400 → v.getLsbD 8 = false → v.getLsbD 9 = false → v.getLsbD 10 = false →
            exec (.registerWrite (.bar0 0x400) v) s = .next { s with
              bulk := { s.bulk with ctlOwner := v.toNat / 2 ^ 16 % 2 ^ 8, ctlTarget := v.toNat % 2 ^ 3 } })
        ∧ (HostMayWrite s 0xA0020 → s.life.deny = true → exec (.registerWrite (.bar0 0xA0020) v) s = .next s))
    ∧ (∀ f vec (v : W64), hostOpen s = true → funcOn s f = true → vec < 32 → v.getLsbD 0 = true →
        Yields (.registerWrite (.msixMask f vec) v) s fun t => gvec f vec ∉ t.link.unmasked
          ∧ t = { s with link := { s.link with unmasked := t.link.unmasked } })
    ∧ (∀ f vec (v : W64), hostOpen s = true → funcOn s f = true → vec < 32 →
        (Yields (.registerWrite (.msixEntry f vec false) v) s fun t => (t.link.msix.atD (gvec f vec) (0, 0)).1 = v
          ∧ (t.link.msix.atD (gvec f vec) (0, 0)).2 = (s.link.msix.atD (gvec f vec) (0, 0)).2)
        ∧ Yields (.registerWrite (.msixEntry f vec true) v) s fun t =>
          t.link.msix.atD (gvec f vec) (0, 0) = ((s.link.msix.atD (gvec f vec) (0, 0)).1, v.setWidth 32)
          ∧ (gvec f vec ∈ t.link.unmasked ↔ v.getLsbD 32 = false))

/-- R481, R483, R488, R489, R490: an access that lies in one slot. Where the rule in force grants its kind to its
level it is allowed and nothing else happens; otherwise the newest violation-log entry names it, and a read other than
the host's, a non-posted write and a fetch get an error response. -/
def Obligations.SignalBoxAccess : Prop :=
  ∀ (s : State) (a : BoxAccess) (r : SlotRow), alive s = true → plAllowed s a.initiator a.pl = true →
    slotAt a.addr = some r → a.addr + a.len ≤ r.base + r.size → 0 < a.len →
    (grants (ruleOf s r.slot) a.pl a.kind = true →
      exec (.signalBoxAccess a) s = .next { s with out := .boxReply a.initiator true false :: s.out })
    ∧ (grants (ruleOf s r.slot) a.pl a.kind = false → Yields (.signalBoxAccess a) s fun t =>
      (∃ e rest, t.box.vlog = e :: rest ∧ e.slot = r.slot ∧ e.initiator = a.initiator ∧ e.addr = a.addr)
      ∧ Out.boxReply a.initiator false (match a.kind with
          | .read => decide (a.initiator ≠ 5)
          | .write => !a.posted
          | .fetch => true) ∈ t.out
      ∧ t.box.rules = s.box.rules ∧ t.box.lock = s.box.lock)

/-- R484, R485, R487: A write of SIGBOX_RULE by the host (level 3) or by a core at level 1. It is taken where the slot
is in the map and not locked, the rule stays within the slot's ceiling with its level 0 field equal to the ceiling's,
and, for the host, it only lowers the level 3 field; it then counts in SIGBOX_GEN. A write to a locked slot sets ERR 1
and changes no rule. Locks and the fence. Writing 1 to a bit of SIGBOX_LOCK0-1 locks that slot and 0 leaves it; a
fence read of the host or of a core waits, and the oldest one returns SIGBOX_GEN once the older accesses have
completed. -/
def Obligations.SigboxRegisters : Prop :=
  (∀ (s : State) (n pl : Nat) (v : W32), n = 5 ∧ pl = 3 ∧ HostMayWrite s 0xC0004
      ∨ n ≤ 3 ∧ pl = 1 ∧ alive s = true ∧ s.sys.firmwareUp = true ∧ grants (ruleOf s 12) 1 .write = true →
    let k := s.box.sel
    let r := v.extractLsb' 0 12
    (s.box.lock.getLsbD k = false → within r (ceilOf k) = true → r.extractLsb' 0 3 = (ceilOf k).extractLsb' 0 3 →
      (rowOf k).isSome = true → (pl = 3 → r.extractLsb' 0 9 = (ruleOf s k).extractLsb' 0 9 ∧ within r (ruleOf s k) = true) →
      Yields (.sigboxRuleWrite n pl v) s fun t => ruleOf t k = r ∧ t.box.gen = (s.box.gen + 1) % 2 ^ 32
        ∧ t.box.lock = s.box.lock ∧ ∀ j, j ≠ k → ruleOf t j = ruleOf s j)
    ∧ (s.box.lock.getLsbD k = true → Yields (.sigboxRuleWrite n pl v) s fun t => t.box.err = 1
        ∧ t.box.rules = s.box.rules ∧ t.box.gen = s.box.gen))
  ∧ (∀ (s : State),
      (∀ (b : Fin 2) (v : W32), HostMayWrite s (0xC0020 + 4 * b.val) → Yields (.sigboxLockWrite 5 b v) s fun t =>
        (∀ i, i < 64 → t.box.lock.getLsbD i = (s.box.lock.getLsbD i || (decide (i / 32 = b.val) && v.getLsbD (i % 32))))
        ∧ t.box.rules = s.box.rules)
      ∧ (HostMayRead s 0xC0030 →
          exec (.sigboxFence 5) s = .next { s with box := { s.box with fence := s.box.fence ++ [5] } })
      ∧ (∀ n, n ≤ 3 → alive s = true → s.sys.firmwareUp = true → grants (ruleOf s 12) 1 .read = true →
          exec (.sigboxFence n) s = .next { s with box := { s.box with fence := s.box.fence ++ [n] } })
      ∧ (∀ n rest, s.box.fence = n :: rest → Yields .fenceComplete s fun t => t.box = { s.box with fence := rest }
          ∧ t.out = (if n = 5 then [] else [.boxReply n true false]) ++ .regData 0xC0030 s.box.gen :: s.out))

/-- R483, R484, R490: every step keeps the signal box within the slot map: each rule stays within its slot's ceiling
with level 0 at the ceiling's, and the violation log holds at most 64 entries. -/
def Obligations.SignalBoxInvariant : Prop :=
  ∀ s t : State, BoxInv s → step s = .next t → BoxInv t

/-- R483: the signal box invariant holds at reset. -/
def Obligations.SignalBoxAtReset : Prop :=
  BoxInv State.reset

/-- R52, R496, R498, R501, R502, R503, R504, R508, R511, R512, R517: The recorder's own steps. The newest record is
frozen at 1 s of age; the heartbeat is recorded with the operating time in seconds; the mirror search ends staging,
numbering on from the newest valid mirrored record; the oldest frozen record goes to the mirror with its MAC, after a
counter record that is being written once PWR_FAIL_N is asserted. The next frozen record goes to a free slot of PF0's
EVENT ring, and counts as lost where no slot is free. The performance counters. A write of COUNTERS_CFG sets the
selected counter's configuration and clears its live value; a snapshot latches every live value, with what the
counters of time have added (a free value, assumption 48), numbers on and names no departure; at the end of a
bandwidth window a bandwidth counter of the anchor takes the bytes of its unit. -/
def Obligations.RecorderAndCounters : Prop :=
  (∀ (s : State), alive s = true →
    (∀ n rest, s.evt.evs = n :: rest → Yields .eventFreezeTimeout s fun t =>
      t.evt.evs = { n with frozen := true } :: rest ∧ t.evt.frozen = n.seq)
    ∧ (RecorderOpen s 0x0E01 → Yields .operatingHeartbeat s fun t =>
        NewRecord s t 0x0E01 (padTo 22 (le 5 ((s.evt.opBase + s.clk.upNs) / 10 ^ 9))))
    ∧ (∀ m, s.evt.staging = true → newestMirror s = some m → Yields .mirrorSearchEnd s fun t =>
        t.evt.staging = false ∧ t.evt.staged = [] ∧ t.evt.head = m.ev.seq + s.evt.staged.length
        ∧ t.evt.cycles = (m.ev.power + 1) % 2 ^ 24)
    ∧ (s.evt.staging = true → newestMirror s = none → Yields .mirrorSearchEnd s fun t =>
        t.evt.staging = false ∧ t.evt.cycles = 1 ∧ t.evt.head = s.evt.head + s.evt.staged.length)
    ∧ (∀ e, s.evt.staging = false → s.keys.mirrorKey.isSome = true → nextToMirror s = some e →
        s.sys.pwrFail = false ∨ s.flash.writing = [] →
        (Yields (.mirrorWrite true) s fun t => t.evt.mirrored = e.seq
          ∧ ∃ r ∈ t.flash.mirror, r.ev = e ∧ r.mac = mirrorMac e ∧ r.place = s.flash.mirrorNext % 2 ^ 18)
        ∧ Yields (.mirrorWrite false) s fun t => t.evt.mirrorErr = true ∧ t.flash.mirror = s.flash.mirror
          ∧ t.flash.mirrorNext = (s.flash.mirrorNext % 2 ^ 18 / 64 + 1) % 4096 * 64)
    ∧ (∀ e r, outputsRun s = true → s.evt.posted < s.evt.frozen →
        s.evt.evs.find? (fun x => x.seq == s.evt.posted + 1) = some e → ringIs s 5 0 .running = some r →
        (ringOf s r).tail ≠ ((ringOf s r).fetch + 1) % (ringOf s r).size →
        Yields .eventPost s fun t => t.evt.posted = s.evt.posted + 1
          ∧ Out.dma (ringOf s r).func ((ringOf s r).qbase + slotBytes (ringOf s r).cls * (ringOf s r).fetch) (evSlot e)
              ∈ t.out)
    ∧ (∀ e r, outputsRun s = true → s.evt.posted < s.evt.frozen →
        s.evt.evs.find? (fun x => x.seq == s.evt.posted + 1) = some e → ringIs s 5 0 .running = some r →
        (ringOf s r).tail = ((ringOf s r).fetch + 1) % (ringOf s r).size → e.owner = 0 →
        Yields .eventPost s fun t => t.evt.posted = s.evt.posted + 1
          ∧ (ringOf t r).lost = min ((ringOf s r).lost + 1) (2 ^ 32 - 1)))
  ∧ (∀ (s : State),
      (∀ v : W32, HostMayWrite s 0xE0004 → s.cnt.sel < counterCount s → Yields (.countersCfgWrite v) s fun t =>
        t.cnt.cfg.atD s.cnt.sel 0 = cfgAfter s.cnt.sel (s.cnt.cfg.atD s.cnt.sel 0) v
        ∧ t.cnt.live.atD s.cnt.sel 0 = 0
        ∧ ∀ k, k ≠ s.cnt.sel → t.cnt.cfg.atD k 0 = s.cnt.cfg.atD k 0 ∧ t.cnt.live.atD k 0 = s.cnt.live.atD k 0)
      ∧ (HostMayWrite s 0xE0028 → Yields .snapReq s fun t => t.cnt.shadow = (countTime s).cnt.live
          ∧ ((∀ p ∈ s.cnt.cfg, countsTime s p.1 p.2 = false) → t.cnt.shadow = s.cnt.live)
          ∧ t.cnt.snapNo = s.cnt.snapNo + 1 ∧ t.cnt.snapDep = 2 ^ 64 - 1)
      ∧ (∀ vals, alive s = true → Yields (.bwWindowEnd vals) s fun t => t.cnt.cfg = s.cnt.cfg
          ∧ ∀ k c, s.cnt.cfg = [(k, c)] → k < 1024 → c.getLsbD 31 = true → c.getLsbD 30 = false → c.toNat % 256 = 0x20 →
            c.toNat / 2 ^ 22 % 64 = 0 → c.toNat / 256 % 256 < 12 →
            t.cnt.live.atD k 0 = vals.getD (c.toNat / 256 % 256) 0 % 2 ^ 48))

/-- R42, R44, R69, R70, R71, R73, R74: the set-up commands on the ring that RINGCTL_SEL names. START runs a CONFIGURED
or STOPPED ring whose checks all pass, with both indices 0, PHASE 1 and a full token bucket, and otherwise puts it in
ERROR with the code; STOP of a RUNNING ring stops it, and STOP of a LEDGER ring in any state sets LAST_ERR 0x09; the
configuration writes act in the states that allow them, and in another state only set LAST_ERR 0x09. No other ring
changes. -/
def Obligations.RingSetup : Prop :=
  ∀ (s : State),
    let r := s.rings.sel
    let x := ringOf s r
    let alone := fun (t : State) => (∀ q, q ≠ r → ringOf t q = ringOf s q) ∧ t.adm = s.adm ∧ t.link = s.link
    (HostMayWrite s 0x10028 → x.state = .configured ∨ x.state = .stopped → Yields .start s fun t => alone t
      ∧ (startErr s r = 0 → ringOf t r = { x with state := .running, tail := 0, fetch := 0, next := 0, phase := true,
                                                  fin := [], tokens := x.burst, gen := x.gen + 1 })
      ∧ (startErr s r ≠ 0 → ringOf t r = { x with state := .error, lastErr := startErr s r }))
    ∧ (HostMayWrite s 0x10028 → x.state = .running → Yields .stop s fun t => alone t
        ∧ (x.cls ≤ 2 → ringOf t r = { x with state := if x.next = x.tail ∧ x.fetch = x.tail then .stopped else .stopping })
        ∧ (x.cls = 5 → ringOf t r = { x with state := .stopped }))
    ∧ (HostMayWrite s 0x10028 → x.cls = 3 → Yields .stop s fun t => alone t ∧ ringOf t r = { x with lastErr := 0x09 })
    ∧ (∀ g v, HostMayWrite s (ringRegOff g) → Yields (.ringConfigWrite g v) s fun t => alone t
        ∧ (x.state = .running ∨ x.state = .stopping ∨ x.state = .error → ringOf t r = { x with lastErr := 0x09 })
        ∧ (x.state = .free ∨ x.state = .configured ∨ x.state = .stopped →
            (g = .epoch → (ringOf t r).epoch = v.toNat % 2 ^ 16)
            ∧ (g = .localIndex → (ringOf t r).localIdx = v.toNat % 2 ^ 11)
            ∧ (g = .qbase → (ringOf t r).qbase = v.toNat / 4096 * 4096)
            ∧ (g = .cqbase → (ringOf t r).cqbase = v.toNat / 4096 * 4096)
            ∧ (g = .rbase → (ringOf t r).rbase = v.toNat / 4096 * 4096)
            ∧ (g = .cfg → (ringOf t r).state = (if x.state = .free then .configured else x.state)
                ∧ (ringOf t r).cls = v.toNat % 8 ∧ (ringOf t r).log2 = v.toNat / 2 ^ 8 % 32
                ∧ (ringOf t r).func = v.toNat / 2 ^ 16 % 64 ∧ (ringOf t r).vector = v.toNat / 2 ^ 24 % 32)))

/-- R72: DELETE moves a STOPPED or ERROR ring to FREE with every register of it at its reset value (only the model's
own count of incarnations goes on, and the records of a LEDGER ring's slots go with it); in any other state it sets
LAST_ERR to 0x09 and changes nothing. -/
def Obligations.RingDelete : Prop :=
  ∀ s : State, HostMayWrite s 0x10028 →
    let r := s.rings.sel
    let x := ringOf s r
    Yields .delete s fun t =>
      t = { s with rings := { s.rings with tbl := t.rings.tbl }, dep := { s.dep with posted := t.dep.posted } }
      ∧ (x.cls ≠ 3 → t.dep.posted = s.dep.posted)
      ∧ (∀ q, q ≠ r → ringOf t q = ringOf s q)
      ∧ ringOf t r = if x.state = .stopped ∨ x.state = .error then { gen := x.gen + 1 } else { x with lastErr := 0x09 }

/-- R42, R49, R53, R54, R55, R67, R91: A doorbell. Where no cause of R54 holds it moves the tail, and on the LEDGER
ring the slots it passes make their departures durable; otherwise it changes no ring and is counted. Interrupt
moderation and masks. A vector whose hold-off has passed fires: its pending count is cleared, and its message is sent
or, while masked, its pending bit set. Unmasking sends a pending message and clears the bit. -/
def Obligations.DoorbellsAndInterrupts : Prop :=
  (∀ (s : State) (bar : DoorbellBar) (slot r : Nat) (v : W32) (single : Bool), hostOpen s = true → heldGate s = false →
    (∀ f, bar = .vfBar0 f → funcOn s f = true ∧ f ≠ 0) → doorbellRing s bar slot = some r →
    let x := ringOf s r
    let idx := v.toNat % 2 ^ 16
    let taken := v.toNat / 2 ^ 16 = x.epoch ∧ idx < 2 ^ x.log2 ∧ x.state = .running ∧ single = true
      ∧ (bar = .pf0Bar2 → x.func = 0)
    (taken → Yields (.doorbell bar slot v single) s fun t => ringOf t r = { x with tail := idx }
      ∧ (∀ q, q ≠ r → ringOf t q = ringOf s q) ∧ t.rings.dbReject = s.rings.dbReject
      ∧ (x.cls = 3 →
          let passed := fun (p : Nat × Nat × Nat) =>
            decide ((p.1 + x.size - x.tail) % x.size < (idx + x.size - x.tail) % x.size)
          ∀ k d q, (s.dep.posted.filter passed).getLast? = some (k, d, q) →
            t.dep.durable = some d ∧ t.adm.durSeq = some q ∧ t.dep.posted = s.dep.posted.filter fun p => !passed p)
      ∧ (x.cls ≠ 3 → t.dep = s.dep ∧ t.adm = s.adm))
    ∧ (¬taken → Yields (.doorbell bar slot v single) s fun t => t.rings.tbl = s.rings.tbl
        ∧ t.rings.dbReject = min (s.rings.dbReject + 1) (2 ^ 32 - 1) ∧ t.dep = s.dep ∧ t.adm = s.adm))
  ∧ (∀ (s : State) (f k : Nat),
      let g := gvec f k
      (0 < s.link.pend.atD g 0 → Yields (.vectorHoldoff f k) s fun t => t.link.pend.atD g 0 = 0
        ∧ (g ∈ s.link.unmasked → t.out = .msix f k :: s.out ∧ t.link.pba = s.link.pba)
        ∧ (g ∉ s.link.unmasked → t.out = s.out ∧ g ∈ t.link.pba))
      ∧ (hostOpen s = true → funcOn s f = true → k < 32 → Yields (.vectorUnmask f k) s fun t =>
          g ∈ t.link.unmasked ∧ g ∉ t.link.pba
          ∧ (g ∈ s.link.pba → t.out = .msix f k :: s.out) ∧ (g ∉ s.link.pba → t.out = s.out)))

/-- R38, R59, R64, R66, R83, R84, R210, R162, R564: what the ring unit does by itself. A fetched record, read with the
requester ID of the ring's function, joins the records that wait and moves the fetch index; a failed descriptor read
puts the ring in ERROR with LAST_ERR 0x0A; the next completion in ring order is written after its receipt; an owner's
oldest closed block and the oldest signed record go to a returned slot of their ring. -/
def Obligations.RingTraffic : Prop :=
  ∀ (s : State) (r : Nat),
    let x := ringOf s r
    (∀ d src, mayFetch s r = true →
      (Yields (.recordFetched r d src) s fun t =>
        t.adm.fetched = s.adm.fetched
          ++ [{ ring := r, gen := x.gen, idx := x.fetch, desc := d, src := src, step := s.clk.upNs / 10 }]
        ∧ ringOf t r = { x with fetch := (x.fetch + 1) % x.size } ∧ (∀ q, q ≠ r → ringOf t q = ringOf s q)
        ∧ Out.dmaRead x.func (x.qbase + 64 * x.fetch) 64 ∈ t.out
        ∧ (dInline d = false → x.state = .running → Out.dmaRead x.func (dSrcAddr d) (dSrcLen d) ∈ t.out))
      ∧ Yields (.descriptorFetchError r) s fun t => (ringOf t r).state = .error ∧ (ringOf t r).lastErr = 0x0A
        ∧ (∀ f ∈ t.adm.fetched, f.ring ≠ r) ∧ ∀ q, q ≠ r → ringOf t q = ringOf s q)
    ∧ (∀ d, x.state = .running → x.fin.find? (fun e => e.idx == x.next) = some d →
        Yields (.completionWrite r) s fun t => (ringOf t r).next = (x.next + 1) % x.size
          ∧ (ringOf t r).phase = (if (x.next + 1) % x.size = 0 then !x.phase else x.phase)
          ∧ Out.dma x.func (x.cqbase + 32 * d.idx) (doneBytes d x.phase) ∈ t.out
          ∧ (∀ b, d.receipt = some b → Out.dma x.func (x.rbase + 64 * d.idx) b ∈ t.out)
          ∧ ∀ e ∈ (ringOf t r).fin, e.idx ≠ x.next)
    ∧ (∀ o b rest, outRing s 4 o = some r → (ownerOf s o).closed = b :: rest → Yields (.journalPost o) s fun t =>
        (ownerOf t o).closed = rest ∧ (ringOf t r).fetch = (x.fetch + 1) % x.size
        ∧ Out.dma x.func (x.qbase + slotBytes x.cls * x.fetch) (padTo 4096 b.bytes) ∈ t.out)
    ∧ (∀ g rest, outRing s 3 0 = some r → s.dep.signed = g :: rest → Yields .ledgerPost s fun t =>
        t.dep.signed = rest ∧ t.dep.posted = s.dep.posted ++ [(x.fetch, g.dep, g.lastSeq)]
        ∧ Out.dma x.func (x.qbase + slotBytes x.cls * x.fetch) g.bytes ∈ t.out)

/-- R33, R37, R39, R75, R459: the PCIe interface. PERST_N, FLR and a smaller NumVFs free the rings of the functions
they reset and leave the device state as it is; clearing Bus Master Enable puts the function's live rings in ERROR
with LAST_ERR 0x0B; a configuration request is answered with retry status until the firmware or the ROM serves. -/
def Obligations.PcieEvents : Prop :=
  ∀ (s : State),
    (s.sys.state ≠ .off → Yields .perstNAssert s fun t => t.link.perst = true ∧ t.link.trained = false
      ∧ t.link.rom = false ∧ t.sys = s.sys ∧ t.link.numVFs = 0
      ∧ ∀ r, (ringOf s r).func ≤ s.link.numVFs → (ringOf t r).state = .free)
    ∧ exec .perstNRelease s = .next { s with link := { s.link with perst := false } }
    ∧ (alive s = true → s.link.perst = false →
        exec .linkTrainingStart s = .next { s with link := { s.link with trained := true } })
    ∧ (alive s = true → s.link.perst = false → s.sys.firmwareUp = false →
        exec .romConfigTakeover s = .next { s with link := { s.link with rom := true } })
    ∧ (∀ q, alive s = true → s.link.perst = false → s.link.trained = true →
        (s.sys.firmwareUp = false ∧ s.link.rom = false → exec (.configRequest q) s = .next { s with out := .cfgRetry :: s.out })
        ∧ (s.sys.firmwareUp = true ∨ s.link.rom = true → Yields (.configRequest q) s fun t => t.out = .cfgServed :: s.out
            ∧ (∀ f, q = .enableBusMaster f → f ≤ s.link.numVFs → f ≤ 63 → t.link.bme.getLsbD f = true)
            ∧ (∀ n, q = .enableVFs n → heldGate s = false → n ≤ 63 → s.link.numVFs ≤ n → t.link.numVFs = n)
            ∧ (∀ n, q = .enableVFs n → heldGate s = true → t.link.numVFs = s.link.numVFs)))
    ∧ (hostOpen s = true →
        (∀ f, f ≠ 0 → funcOn s f = true → Yields (.flrVf f) s fun t => (∀ r ∈ ringsOf s f, (ringOf t r).state = .free)
          ∧ (∀ r, r ∉ ringsOf s f → ringOf t r = ringOf s r) ∧ t.link.bme.getLsbD f = false ∧ t.sys = s.sys)
        ∧ (∀ n, Yields (.vfDisable n) s fun t => t.link.numVFs = min n s.link.numVFs ∧ t.sys = s.sys
          ∧ ∀ r, n < (ringOf s r).func → (ringOf s r).func ≤ s.link.numVFs → (ringOf t r).state = .free)
        ∧ (Yields .flrPf0 s fun t => t.sys = s.sys ∧ t.dep.isOpen = s.dep.isOpen
          ∧ (bulkBusy s = true → t.bulk.state = .failed ∧ t.bulk.result = 0x09)
          ∧ ∀ r, (ringOf s r).func ≤ s.link.numVFs → (ringOf t r).state = .free)
        ∧ (∀ f, funcOn s f = true → Yields (.busMasterDisable f) s fun t => t.link.bme.getLsbD f = false
          ∧ ∀ r ∈ ringsOf s f, (ringOf s r).state = .running ∨ (ringOf s r).state = .stopping →
              (ringOf t r).state = .error ∧ (ringOf t r).lastErr = 0x0B)
        ∧ ∀ ks, exec (.ideKmRequest ks) s = .next { s with link := { s.link with ideKeys := some ks } })

/-- R77, R78, R79, R81, R82: the bulk port. OPEN is ignored while a session runs, opens one where the target and owner
are allowed and otherwise fails it with POLICY; a window write in sequence and within the credit is taken and any
other fails the session with BAD_DESCRIPTOR and each flag that applies (a length that is no multiple of 4 counts as
out of sequence, assumption 55); CLOSE starts verification where ADDR equals LEN; CANCEL ends a session as ABORTED. -/
def Obligations.BulkPort : Prop :=
  ∀ (s : State),
    (∀ v : W32, HostMayWrite s 0x400 →
      let target := v.toNat % 8
      let owner := v.toNat / 2 ^ 16 % 256
      (bulkBusy s = true → exec (.bulkOpen v) s = .next s)
      ∧ (bulkBusy s = false → bulkAllowed s target owner = true → Yields (.bulkOpen v) s fun t =>
          t.bulk.state = .opened ∧ t.bulk.target = target ∧ t.bulk.owner = owner ∧ t.bulk.addr = 0 ∧ t.bulk.data = [])
      ∧ (bulkBusy s = false → bulkAllowed s target owner = false → Yields (.bulkOpen v) s fun t =>
          t.bulk.state = .failed ∧ t.bulk.result = 0x11))
    ∧ (∀ off data drained, HostMayWrite s (0xF0000 + off % 65536) → s.bulk.state = .opened →
        let consumed := min s.bulk.addr (s.bulk.consumed + drained)
        let inSeq := off = s.bulk.addr % 65536 ∧ data.length % 4 = 0
        let credit := s.bulk.addr + data.length ≤ consumed + 2 ^ 20
        (inSeq → credit → Yields (.bulkWindowWrite off data drained) s fun t => t.bulk.state = .opened
          ∧ t.bulk.addr = s.bulk.addr + data.length ∧ t.bulk.data = s.bulk.data ++ data ∧ t.bulk.consumed = consumed)
        ∧ (¬inSeq → Yields (.bulkWindowWrite off data drained) s fun t => t.bulk.state = .failed ∧ t.bulk.seqErr = true
            ∧ t.bulk.result = 0x07)
        ∧ (¬credit → Yields (.bulkWindowWrite off data drained) s fun t => t.bulk.state = .failed
            ∧ t.bulk.overrun = true ∧ t.bulk.result = 0x07))
    ∧ (HostMayWrite s 0x400 → s.bulk.state = .opened →
        (s.bulk.addr = s.bulk.len → Yields .bulkClose s fun t => t.bulk.state = .verifying ∧ t.bulk.data = s.bulk.data)
        ∧ (s.bulk.addr ≠ s.bulk.len → Yields .bulkClose s fun t => t.bulk.state = .failed ∧ t.bulk.result = 0x0C))
    ∧ (HostMayWrite s 0x400 → bulkBusy s = true → Yields .bulkCancel s fun t => t.bulk.state = .failed
        ∧ t.bulk.result = 0x09 ∧ t.bulk.data = [])
    ∧ (HostMayWrite s 0x400 → bulkBusy s = false → exec .bulkCancel s = .next s)

/-- R80: a read of the bulk window returns zeros, and a write to it while no session is OPEN is dropped without a
flag. -/
def Obligations.BulkWindowClosed : Prop :=
  ∀ s : State,
    (∀ off, 0xF0000 ≤ off → off < 0x100000 → HostMayRead s off →
      exec (.readClear (.bar0 off)) s = .next { s with out := .regData off 0 :: s.out })
    ∧ ∀ off data drained, HostMayWrite s (0xF0000 + off % 65536) → s.bulk.state ≠ .opened →
        exec (.bulkWindowWrite off data drained) s = .next s

/-- R144, R145, R146, R147, R419: what a verified bulk session puts in place. A rulebook image that an order of R144
refuses fails the session with that order's RESULT; one for a handle not loaded is loaded with its leaf; one for a
loaded handle waits for its switch, after which new wagers find the new version while the old one drains. An accepted
firmware image goes into the idle slot and leaves the running one. -/
def Obligations.VerifiedLoads : Prop :=
  ∀ (s : State),
    let owner := s.bulk.owner
    let image := s.bulk.data
    let failed := fun (st : Status) (t : State) => t.bulk.state = .failed ∧ t.bulk.result = st.code
    let done := fun (t : State) => t.bulk.state = .done ∧ t.bulk.result = 0
    (inService s = true → bulkVerifying s 1 = true → s.eng.waiting = none → canNumber s = true →
      let b := bookOfImage owner image
      (∀ k i, imageErr false owner image s = some (k, i) → Yields .rulebookLoad s fun t => failed (orderResult k) t
        ∧ t.eng.books = s.eng.books ∧ t.flash = s.flash ∧ t.adm.nextSeq = s.adm.nextSeq)
      ∧ (imageErr false owner image s = none → iOps image ≠ 0 →
        (roomForBook s b = false ∨ bookFits s b = false →
          Yields .rulebookLoad s fun t => failed .policy t ∧ t.eng.books = s.eng.books)
        ∧ (roomForBook s b = true → bookFits s b = true →
          (bookOf s owner b.handle = none → Yields .rulebookLoad s fun t => done t ∧ t.eng.books = s.eng.books ++ [b]
            ∧ (owner, b.handle, image) ∈ t.flash.books ∧ (b.ownerId, b.handle, b.version) ∈ t.flash.floors
            ∧ t.adm.nextSeq = s.adm.nextSeq + 1
            ∧ Sealed t (nextStamp s) (rulebookLeaf owner b.handle b.version b.digest 1))
          ∧ ((bookOf s owner b.handle).isSome = true → Yields .rulebookLoad s fun t => t.eng.waiting = some b
            ∧ t.eng.books = s.eng.books ∧ t.bulk = s.bulk ∧ t.adm = s.adm))))
    ∧ (∀ b old, inService s = true → bulkVerifying s 1 = true → canNumber s = true → s.eng.waiting = some b →
        let mine := fun (x : Book) => x.owner = b.owner ∧ x.handle = b.handle
        ((∃ x ∈ s.eng.books, mine x ∧ x.draining = true) → exec (.rulebookSwitch b.owner b.handle) s = .next s)
        ∧ ((∀ x ∈ s.eng.books, mine x → x.draining = false) → bookOf s b.owner b.handle = some old →
          Yields (.rulebookSwitch b.owner b.handle) s fun t => done t ∧ t.eng.waiting = none ∧ b ∈ t.eng.books
            ∧ t.adm.items = s.adm.items ∧ Sealed t (nextStamp s) (rulebookLeaf b.owner b.handle b.version b.digest 2)
            ∧ (bookBusy s old = true → { old with draining := true } ∈ t.eng.books)
            ∧ (bookBusy s old = false → ∀ x ∈ t.eng.books, mine x → x = b)))
    ∧ (∀ o h, alive s = true → Yields (.rulebookDrainEnd o h) s fun t =>
        t = { s with eng := { s.eng with books := t.eng.books } } ∧ ∀ x, x ∈ t.eng.books ↔ x ∈ s.eng.books
          ∧ ¬(x.owner = o ∧ x.handle = h ∧ x.draining = true ∧ bookBusy s x = false))
    ∧ (inService s = true → bulkVerifying s 2 = true → Yields .firmwareInstall s fun t =>
        t.life.fw = s.life.fw ∧ t.life.fwSlot = s.life.fwSlot ∧
        if fwFormOk image = false then failed .paramInvalid t ∧ t.life = s.life
        else if fwSigOk s image = false then failed .authFail t ∧ t.life = s.life
        else if fwSvn image < s.life.svnFloor ∨ (fwRevoke image).getLsbD (fwGen image) = true then failed .policy t ∧ t.life = s.life
        else done t ∧ t.life.fwSlots.at? (1 - s.life.fwSlot) = some image)

/-- R17, R155, R156, R161, R175, R180, R309: the departure unit. A tick that is due and not held back closes departure
n with its last number, and opens n + 1 with the next one; within 10 ns of the target it carries the target time. A
tick that comes due in an admission pause waits for its end. A tick whose witness is missing waits, until WAIT_US has
passed: then it comes and sets UNWITNESSED. Once every leaf of the oldest closing departure has arrived its record is
signed and waits for a LEDGER slot; a failed signature quarantines the engine that signed, and the record waits on. -/
def Obligations.Departures : Prop :=
  ∀ (s : State) (t : Nat), alive s = true →
    let s' := advance t s
    let closes := fun (r : State) (flag : Bool) => r.dep.number = s.dep.number + 1 ∧ r.dep.firstSeq = s.adm.nextSeq
      ∧ r.dep.isOpen = true ∧ ∃ c, r.dep.closing = s.dep.closing ++ [c] ∧ c.dep = s.dep.number
        ∧ c.firstSeq = s.dep.firstSeq ∧ c.lastSeq = s.adm.nextSeq - 1 ∧ c.flags.getLsbD 10 = flag
        ∧ (s'.clk.run ≤ s.dep.target + 10 → c.actual = s.dep.target)
        ∧ (s.dep.target + 10 < s'.clk.run → c.actual = s'.clk.run)
    let open_ := tickDue s' = true ∧ s.adm.pausedAt = none ∧ tickBlocked s' = none
    (open_ → witnessOk s' = true → Yields (.closeTick t) s fun r => closes r false)
    ∧ (tickDue s' = false → Yields (.closeTick t) s fun r => r.dep = s.dep)
    ∧ (tickDue s' = true → s.adm.pausedAt.isSome = true → Yields (.closeTick t) s fun r =>
        r.dep.number = s.dep.number ∧ 1 ∈ r.dep.causes)
    ∧ (open_ → witnessOk s' = false →
        (Yields (.closeTick t) s fun r => r.dep.number = s.dep.number ∧ 4 ∈ r.dep.causes)
        ∧ (s.dep.target + 1000 * s.dep.witWaitUs ≤ s'.clk.run →
            Yields (.witnessTimeout t) s fun r => closes r true)
        ∧ (s'.clk.run < s.dep.target + 1000 * s.dep.witWaitUs →
            Yields (.witnessTimeout t) s fun r => r.dep = s.dep))
    ∧ (∀ c, readyToSign s = some c → canSign s c = true → Yields (.departureSigned t none) s fun r =>
        r.dep.closing = s.dep.closing.drop 1
        ∧ ∃ g, r.dep.signed = s.dep.signed ++ [g] ∧ g.dep = c.dep ∧ g.lastSeq = c.lastSeq ∧ r.dep.head = g.head)
    ∧ (∀ c a, readyToSign s = some c → canSign s c = true → Yields (.departureSigned t (some a)) s fun r =>
        (∃ e ∈ signers s, e ∈ r.pk.quarantined) ∧ r.dep.closing = s.dep.closing ∧ r.dep.signed = s.dep.signed)

/-- R83, R85, R86, R89, R103: one admission step that finds no tick and no device-originated leaf due, outside a
pause, decides the record f that is next in the order of R83 and whose ring runs. A record that fails R58 ends
BAD_DESCRIPTOR; a wager without a token ends REFUSED_BUSY; both take no number. A wager with a token takes the next
number at time max(now, last + 1): where a close rule matches it is sealed REFUSED_CLOSED with the reason, otherwise
it is placed. A QUERY or SERVICE record waits for its command. -/
def Obligations.AdmissionStep : Prop :=
  ∀ (s : State) (t : Nat) (f : Fetched), alive s = true → inService s = true → lastIssued s = false →
    s.adm.pausedAt = none → nextRecord (advance t s) = some f → (ringOf s f.ring).state = .running →
    (ringOf s f.ring).gen = f.gen → tryTick (drainEnds (advance t s)) = advance t s →
    let s' := advance t s
    let x := ringOf s f.ring
    let st : Stamp := { seq := s.adm.nextSeq, t := max s'.clk.run (s.adm.lastT + 1), dep := s.dep.number }
    let ends := fun (status : Status) (d : Nat) (stamp : Option Stamp) (r : State) =>
      ∃ c ∈ (ringOf r f.ring).fin, c.idx = f.idx ∧ c.tag = dTag f.desc ∧ c.status = status ∧ c.detail = d ∧ c.stamp = stamp
    (checked s' x f.desc f.src = none → Yields (.admissionStep t) s fun r =>
      ends .badDescriptor 0 none r ∧ r.adm.nextSeq = s.adm.nextSeq ∧ r.adm.fetched = s.adm.fetched.erase f)
    ∧ ∀ b, checked s' x f.desc f.src = some b →
      (x.cls = 0 ∨ x.cls = 1 → ∀ k, busyCause s' x.func = k → k ≠ 0 → Yields (.admissionStep t) s fun r =>
        ends .refusedBusy k none r ∧ r.adm.nextSeq = s.adm.nextSeq ∧ r.adm.refused = min (s.adm.refused + 1) (2 ^ 32 - 1))
      ∧ (x.cls = 0 → busyCause s' x.func = 0 →
        (x.tokens = 0 → Yields (.admissionStep t) s fun r => ends .refusedBusy 1 none r ∧ r.adm.nextSeq = s.adm.nextSeq
          ∧ r.adm.items = s.adm.items)
        ∧ (0 < x.tokens → ∀ c, closeReason s' x.func (hGame b) st.t = some c → Yields (.admissionStep t) s fun r =>
            ends .refusedClosed c (some st) r ∧ r.adm.nextSeq = s.adm.nextSeq + 1 ∧ r.adm.items = s.adm.items
            ∧ Sealed r st (wagerLeaf f.ring x.func f.desc b .refusedClosed c 0 0 0 0))
        ∧ (0 < x.tokens → closeReason s' x.func (hGame b) st.t = none → Yields (.admissionStep t) s fun r =>
            r.adm.nextSeq = s.adm.nextSeq + 1 ∧ r.adm.lastT = st.t ∧ (ringOf r f.ring).tokens = x.tokens - 1
            ∧ ∃ i, r.adm.items = s.adm.items ++ [i] ∧ i.seq = st.seq ∧ i.t = st.t ∧ i.dep = st.dep ∧ i.owner = x.func
              ∧ i.record = b ∧ i.idx = f.idx ∧ i.game = hGame b ∧ i.isCancel = false ∧ i.ended = none))
      ∧ (x.cls = 1 ∨ x.cls = 2 → busyCause s' x.func = 0 ∨ x.cls = 2 → Yields (.admissionStep t) s fun r =>
          ∃ w, r.adm.work = s.adm.work ++ [w] ∧ w.ring = f.ring ∧ w.idx = f.idx ∧ w.desc = f.desc ∧ w.src = b)

/-- R232, R246, R247, R248, R249, R250, R252, R440: owners and accords. OWNER_ENROL under an accord enrols the
function with its id, officials and M, with a drawn root in a free slot within its quota unless the body asks for
none; in PRODUCTION without a valid mesh enrolment it completes POLICY; OFFICIAL_SET replaces the officials and voids
the owner's other accords; OWNER_RETIRE removes the owner's games, tickets, counters and accords, and keeps of its
rulebooks only those that items in flight run; ACCORD_OPEN adds an accord with the next ACCORD_NO and writes its
block; ACCORD_CANCEL frees one. -/
def Obligations.OwnersAndAccords : Prop :=
  ∀ (s : State) (id : WorkId) (w : Work),
    let b := w.input
    let f := rd b 8 1
    (canNumber s = true → Waits s id 0x50 w → enrolFormOk b 1 = true → s.life.decided = 2 → meshValid s = none →
        EndsWork (.ownerEnrol id) s w .policy 0 [] fun t => t.adm.owners = s.adm.owners ∧ t.keys = s.keys)
    ∧ (∀ a, canNumber s = true → Waits s id 0x50 w → enrolFormOk b 1 = true → s.life.decided ≠ 3 → 1 ≤ f → f ≤ 63 →
      (s.life.decided = 2 → (meshValid s).isSome = true) →
      (ownerOf s f).enrolled = 0 → funcOfId s (BitVec.ofNat 64 (rd b 0 8)) = none → HasAccord s w f 0x50 a →
      let named := fun (t : State) => (ownerOf t f).id = BitVec.ofNat 64 (rd b 0 8)
        ∧ (ownerOf t f).officials = bodyOfficials b (rd b 9 1) ∧ (ownerOf t f).m = rd b 10 1
      (rd b 11 1 = 1 → Yields (.ownerEnrol id) s fun t => CeremonyDone s t w a .ok 0 ∧ named t
        ∧ (ownerOf t f).enrolled = 1 ∧ (ownerOf t f).root = none)
      ∧ (∀ i, rd b 11 1 = 0 → canDraw s = true → freeSlot s = some i → ownerSlots s f < (ownerOf s f).quota →
          Yields (.ownerEnrol id) s fun t =>
          CeremonyDone s t w a .ok 0 ∧ named t ∧ (ownerOf t f).enrolled = 2 ∧ (ownerOf t f).root = some i
          ∧ (slotOf t i).state = 1 ∧ (slotOf t i).verb = 0x0100 ∧ (slotOf t i).owner = f))
    ∧ (∀ a, canNumber s = true → Waits s id 0x52 w → enrolFormOk b 0 = true → rd b 8 1 = 0 →
        (ownerOf s (w.func s)).id.toNat = rd b 0 8 → HasAccord s w (w.func s) 0x52 a →
        Yields (.officialSet id) s fun t => CeremonyDone s t w a .ok 0
          ∧ (ownerOf t (w.func s)).officials = bodyOfficials b (rd b 9 1)
          ∧ ∀ x ∈ t.keys.accords, x.owner ≠ w.func s)
    ∧ (∀ a, let g := rd b 0 1;
        Waits s id 0x51 w → retireRefused s g = false → HasAccord s w g 0x51 a →
        canNumberN ((s.eng.books.filter fun k => k.owner == g).length + 1) s = true →
        Yields (.ownerRetire id) s fun t => Completed t w .ok 0 (some (nextStamp s)) ∧ (ownerOf t g).enrolled = 0
          ∧ (∀ x ∈ t.adm.games, x.owner ≠ g) ∧ (∀ x ∈ t.vm.tickets, x.owner ≠ g) ∧ (∀ x ∈ t.vm.limits, x.owner ≠ g)
          ∧ (∀ x ∈ t.vm.keyRecs, x.owner ≠ g) ∧ (∀ x ∈ t.keys.accords, x.owner ≠ g)
          ∧ ∀ x ∈ t.eng.books, x.owner = g → x.draining = true ∧ ∃ i ∈ s.adm.items, i.owner = g ∧ i.handle = x.handle)
    ∧ (let owner := if w.func s = 0 then rd b 1 1 else w.func s;
        Waits s id 0x5A w → s.keys.nextAccord ≤ accordHigh s →
        accordOpenErr s (w.func s = 0) (rd b 0 1) owner b (b.drop 64) = none →
        Yields (.accordOpen id) s fun t => Completed t w .ok (s.keys.nextAccord % 65536) w.stamp
          ∧ t.keys.nextAccord = s.keys.nextAccord + 1 ∧ t.adm.nextSeq = s.adm.nextSeq
          ∧ ∃ a, t.keys.accords = s.keys.accords ++ [a] ∧ a.no = s.keys.nextAccord ∧ a.owner = owner
            ∧ a.opcode = rd b 0 1 ∧ a.openT = s.clk.run ∧ a.signers = [] ∧ Wrote s t w (accordBlock s.otp.deviceId a))
    ∧ (∀ a, Waits s id 0x5C w → accordFor s (w.func s) (rd b 0 2) = some a →
        EndsWork (.accordCancel id) s w .ok 0 [] fun t => ∀ x ∈ t.keys.accords, x.no ≠ a.no)

/-- R236, R238, R240, R254, R255, R257, R258: key commands. SLOT_GENERATE makes a key of the attribute word in the
first free slot or record, under an accord where the word sets DUAL; SLOT_WRITE installs a wrapped key whose tag and
attributes hold, and otherwise leaves the slot; SLOT_EXPORT of an exportable key and CLAUSE_EXPORT end OK;
SLOT_DESTROY frees the slot; each of these four consumes its accord whatever it completes with. SLOT_INFO writes the
key's attribute word, generation and state. Sealing a leaf may use the root, so the slots that no root is in are the
ones compared. -/
def Obligations.KeyCommands : Prop :=
  ∀ (s : State) (id : WorkId) (w : Work),
    let o := w.func s
    let b := w.input
    let attr : W64 := BitVec.ofNat 64 (rd b 0 8)
    (canNumber s = true → Waits s id 0x53 w → aVerb attr ≠ verbRoot → canDraw s = true →
      (∀ i, rd b 8 1 = 0 → attrOk o false attr (aKlen attr) = true → ownerSlots s o < (ownerOf s o).quota →
        freeSlot s = some i →
        let made := fun (t : State) => (NoRootIn s i → (slotOf t i).state = 1 ∧ (slotOf t i).attr = attr
          ∧ (slotOf t i).gen = ((slotOf s i).gen + 1) % 65536) ∧ ∀ j, j ≠ i → NoRootIn s j → slotOf t j = slotOf s j
        (aDual attr = false → Yields (.slotGenerate id) s fun t => Completed t w .ok 0 (some (nextStamp s)) ∧ made t
          ∧ Sealed t (nextStamp s) (serviceLeaf w o .ok 0))
        ∧ ∀ a, aDual attr = true → HasAccord s w o 0x53 a → Yields (.slotGenerate id) s fun t =>
            CeremonyDone s t w a .ok 0 ∧ made t)
      ∧ (∀ x, rd b 8 1 = 1 → attrOk o true attr (aKlen attr) = true → aKlen attr ≤ 64 → freeRecord s o = some x →
          aDual attr = false →
          Yields (.slotGenerate id) s fun t => Completed t w .ok 0 (some (nextStamp s))
            ∧ ∃ r ∈ t.vm.keyRecs, r.owner = o ∧ r.index = x ∧ r.attr = attr ∧ r.state = 1))
    ∧ (∀ a k t i, canNumber s = true → Waits s id 0x54 w → HasAccord s w o 0x54 a → findKey s o (rd b 0 4) = some k →
        k.ref = .slot i → NoRootIn s i → KeyReady s o (rd b 4 4) verbTransport t → t.ref ≠ k.ref →
        let u := unwrapKey t.key (ownerIdBytes s o) (b.drop 8)
        let kept := fun (r : State) => slotOf r i = slotOf s i
        (u.2.2 = false → Yields (.slotWrite id) s fun r => CeremonyDone s r w a .authFail 0 ∧ kept r)
        ∧ (u.2.2 = true → importOk o false u.1 u.2.1.length = true → Yields (.slotWrite id) s fun r =>
            CeremonyDone s r w a .ok 0 ∧ (slotOf r i).state = 1 ∧ (slotOf r i).attr = u.1 ∧ (slotOf r i).key = u.2.1)
        ∧ (u.2.2 = true → importOk o false u.1 u.2.1.length = false → Yields (.slotWrite id) s fun r =>
            CeremonyDone s r w a .paramInvalid 0 ∧ kept r))
    ∧ (∀ a k t lane, canNumber s = true → Waits s id 0x55 w → HasAccord s w o 0x55 a →
        KeyReady s o (rd b 0 4) (aVerb k.attr) k → keyLineBad s o (rd b 0 4) = false →
        KeyReady s o (rd b 4 4) verbTransport t →
        (aExport k.attr = true → Yields (.slotExport id lane) s fun r => CeremonyDone s r w a .ok 0)
        ∧ (aExport k.attr = false → Yields (.slotExport id lane) s fun r => CeremonyDone s r w a .policy 0))
    ∧ (∀ a k i, canNumber s = true → Waits s id 0x56 w → HasAccord s w o 0x56 a → findKey s o (rd b 0 4) = some k →
        k.ref = .slot i → s.keys.locked = false →
        Yields (.slotDestroy id) s fun r => CeremonyDone s r w a .ok 0 ∧ (slotOf r i).state = 0
          ∧ (slotOf r i).payload = [] ∧ (isRoot s o k = true → (ownerOf r o).root = none))
    ∧ (∀ k, Waits s id 0x57 w → rd b 0 4 ≠ 0 → findKey s o (rd b 0 4) = some k → keyLineBad s o (rd b 0 4) = false →
        EndsWork (.slotInfo id) s w .ok 0 (le 8 k.attr.toNat ++ le 2 k.gen ++ le 1 k.state ++ zeros 5)
          fun r => r.keys = s.keys)
    ∧ (∀ a t ri lane, let n := rd b 4 2;
        canNumber s = true → Waits s id 0x58 w → 1 ≤ n → n ≤ 256 → rd b 6 2 = 0 → b.length = 8 + 24 * n →
        (∀ k, k < n → clauseEntryOk s o (slice b (8 + 24 * k) 24) = true) → HasAccord s w o 0x58 a →
        KeyReady s o (rd b 0 4) verbTransport t → aUses t.attr = 0 → RootReady s o ri →
        Yields (.clauseExport id lane) s fun r => CeremonyDone s r w a .ok 0)

/-- R244, R257, R259, R260, R261, R262, R264: TERMINAL_SET bars a terminal's lower tenses (mode 0) or sets the owner's
range (mode 1), the old root and range staying in force for earlier numbers; INTERLOCK sends the root of a valid slot
to a peer with a running session, and accepts a held root, for an owner enrolled with NO_ROOT, into a free slot;
DEPART_KEY_ROLL makes the next pair of departure seeds; a key table whose tags and attributes hold is imported whole
under its accord, and one with a tag that fails imports nothing. -/
def Obligations.RootsAndRanges : Prop :=
  ∀ (s : State) (id : WorkId) (w : Work) (a : Accord),
    let o := w.func s
    let b := w.input
    (canNumber s = true → Waits s id 0x59 w → HasAccord s w o 0x59 a → allZero b 1 7 = true → allZero b 24 8 = true →
      (rd b 0 1 = 1 → rd b 8 8 ≤ rd b 16 8 → Yields (.terminalSet id) s fun t => CeremonyDone s t w a .ok 0
        ∧ (ownerOf t o).lo = rd b 8 8 ∧ (ownerOf t o).hi = rd b 16 8
        ∧ ∃ r ∈ t.keys.oldRoots, r.owner = o ∧ r.upto = s.adm.nextSeq ∧ r.lo = (ownerOf s o).lo ∧ r.hi = (ownerOf s o).hi)
      ∧ (∀ x, rd b 0 1 = 0 → rd b 16 8 < 2 ^ 32 → terminalOf s o (rd b 8 8) = some x → x.tense < rd b 16 8 →
          keyBad s o 1 (terminalKey (rd b 8 8)) = false →
          Yields (.terminalSet id) s fun t => CeremonyDone s t w a .ok 0
            ∧ (terminalOf t o (rd b 8 8)).map terminalBytes
                = some (terminalBytes { owner := o, id := rd b 8 8, tense := rd b 16 8, ctr := 0 })))
    ∧ (∀ i ri, canNumber s = true → Waits s id 0x5D w → interlockMode w = false → peerRoute s (rd b 0 8) = some (i, true) →
        (ownerOf s o).root = some ri → (slotOf s ri).state = 1 → slotSound s ri = true → s.keys.locked = false →
        HasAccord s w o 0x5D a →
        Yields (.interlockSend id) s fun t => t.adm.nextSeq = s.adm.nextSeq + 1 ∧ (∀ x ∈ t.keys.accords, x.no ≠ a.no)
          ∧ ∃ w', (i, w') ∈ t.keys.sends ∧ w'.ring = w.ring ∧ w'.idx = w.idx ∧ w'.stamp = some (nextStamp s))
    ∧ (∀ h i, canNumber s = true → Waits s id 0x5D w → interlockMode w = true → freeSlot s = some i →
        (s.keys.held.filter fun h => h.ownerId == (ownerOf s o).id).find? (fun h => h.device.toNat == rd b 0 8
          && kcv h.root == slice b 24 8 && h.setDigest == setDigest (ownerOf s o).officials) = some h →
        (ownerOf s o).enrolled = 1 → (ownerOf s o).noRoot = true → (ownerOf s o).root = none →
        ownerSlots s o < (ownerOf s o).quota → HasAccord s w o 0x5D a →
        Yields (.interlockAccept id) s fun t => CeremonyDone s t w a .ok 0 ∧ (ownerOf t o).root = some i
          ∧ (ownerOf t o).enrolled = 2 ∧ (slotOf t i).state = 1 ∧ (∀ x ∈ t.keys.held, x.index ≠ h.index))
    ∧ (Waits s id 0x5E w → s.dep.nextSerial = none → (slotOf s 0).state = 1 → slotSound s 0 = true → canDraw s = true →
        Yields (.departKeyRoll id) s fun t =>
        Completed t w .ok 0 w.stamp ∧ t.dep.nextSerial = some (s.dep.serial + 1) ∧ t.dep.serial = s.dep.serial
        ∧ (slotOf t 7).state = 1 ∧ (slotOf t 8).state = 1 ∧ slotOf t 5 = slotOf s 5 ∧ slotOf t 6 = slotOf s 6)
    ∧ (∀ recs k, let d := s.bulk.data; let p := s.bulk.owner;
        inService s = true → canNumber s = true → bulkVerifying s 3 = true →
        splitRecords (rd d 20 4) (d.drop 64) = some recs → rd d 0 4 = 0x4B544231 → rd d 4 2 = 1 → 1 ≤ rd d 20 4 →
        rd d 20 4 ≤ 4096 → rd d 24 1 ≤ 1 → allZero d 25 39 = true → (ownerOf s p).enrolled ≠ 0 →
        (ownerOf s p).id.toNat = rd d 8 8 → accordCheck (rd d 6 2) p 0xB3 (Config.sha384 (d.drop 64)) s = .inr a →
        KeyReady s p (rd d 16 4) verbTransport k → aUses k.attr = 0 →
        (∀ ks r, openRecords k.key (ownerIdBytes s p) recs = some ks →
          (∀ x ∈ ks, importOk p (rd d 24 1 = 1) x.1 x.2.length = true) → placeAll p (rd d 24 1 = 1) ks s = some r →
          Yields .keyTableImport s fun t => t.bulk.state = .done ∧ t.bulk.result = 0 ∧ (ownerOf t p).lastImport = r.1
            ∧ t.vm.keyRecs = r.2.vm.keyRecs ∧ (∀ i, NoRootIn s i → slotOf t i = slotOf r.2 i)
            ∧ t.adm.nextSeq = s.adm.nextSeq + 1 ∧ ∀ x ∈ t.keys.accords, x.no ≠ a.no)
        ∧ (openRecords k.key (ownerIdBytes s p) recs = none → Yields .keyTableImport s fun t =>
            t.bulk.state = .failed ∧ t.bulk.result = 0x04 ∧ t.keys = s.keys ∧ t.vm.keyRecs = s.vm.keyRecs))

/-- R218, R231, R235, R243, R244, R262, R266, R267, R269: what happens to keys without a command of an owner. A bad
slot found by the check becomes FAILED; the quota register keeps its sum at most 4,032 and never falls below the slots
used; a flash record raises the marks, and a failed write is tried again; a missing salt, or one whose MAC fails, is
replaced before the key area is used; zeroisation goes on by steps. -/
def Obligations.KeyHousekeeping : Prop :=
  ∀ (s : State),
    (∀ bad, alive s = true → Yields (.slotScrub bad) s fun t =>
      (∀ i ∈ bad, (slotOf s i).state ≠ 0 → (slotOf t i).state = 3)
        ∧ ∀ i, i ∉ bad → slotSound s i = true → slotOf t i = slotOf s i)
    ∧ (∀ v : W32, HostMayWrite s 0x60014 → s.keys.ownerSel ≠ 0 →
        let q := v.toNat % 2 ^ 12
        let others := (s.adm.owners.filter fun e => e.1 != s.keys.ownerSel).foldl (fun (n : Nat) e => n + e.2.quota) 0
        Yields (.keysQuotaWrite v) s fun t =>
          if 4032 < others + q then t = { s with keys := { s.keys with err := 0x1 } }
          else if q < ownerSlots s s.keys.ownerSel then t = { s with keys := { s.keys with err := 0x2 } }
          else (ownerOf t s.keys.ownerSel).quota = q ∧ t.keys = s.keys)
    ∧ (∀ o, alive s = true → Yields (.cacheInvalidation o) s fun t =>
        (∀ r ∈ t.keys.oldRoots, r.owner = o → ∃ x ∈ s.adm.owed, x.owner = o ∧ x.seq < r.upto)
        ∧ ∀ r ∈ s.keys.oldRoots, r.owner = o → (∀ x ∈ s.adm.owed, x.owner = o → r.upto ≤ x.seq) →
          ∀ e ∈ t.keys.cache, ¬(e.2.1 = o ∧ e.2.2.1 = r.slot ∧ e.2.2.2.1 = r.gen))
    ∧ (∀ r, alive s = true → dueRecord s = some r →
        (Yields (.flashRecordWritten true) s fun t => seqHigh t = nextSeqHigh s ∧ depHigh t = nextDepHigh s
          ∧ accordHigh t = nextAccordHigh s ∧ (r.type = 1 → t.vm.epochAck = r.epoch ∧ t.vm.epochDep = r.departure))
        ∧ Yields (.flashRecordWritten false) s fun t => dueRecord t = some r ∧ t.flash.counters = s.flash.counters
          ∧ t.vm = s.vm)
    ∧ (alive s = true → s.sys.state = .booting → s.rng.ready = true → s.evt.committed = true → saltBad s = true →
        6 ≤ s.sys.bootStep → s.sys.bootStep < 0x0D → Yields .newSalt s fun t => t.flash.salt.isSome = true
          ∧ saltOk t = true ∧ t.flash.owners = [] ∧ t.keys.newSalt = true
          ∧ (∀ i, 64 ≤ i → t.flash.wrapped.at? i = none) ∧ t.dep.serial = max s.dep.serial s.flash.serial + 1)
    ∧ (∀ i h, s.keys.held.find? (fun x => x.index == i) = some h → Yields (.interlockHoldExpiry i) s fun t =>
        ∀ x ∈ t.keys.held, x.index ≠ i)
    ∧ (s.sys.state = .zeroised →
        (s.keys.zeroStep = 1 → Yields .saltEraseDone s fun t => t.flash.salt = none ∧ t.flash.saltMac = []
          ∧ t.otp.pairsDone = min (min 64 s.otp.pairsUsed) (s.otp.pairsDone + 1) ∧ t.keys.zeroStep = 2
          ∧ t.sys.state = .zeroised)
        ∧ (s.keys.zeroStep = 2 → Yields .wrappedAreaErased s fun t => t.flash.wrapped = [] ∧ t.flash.owners = []
          ∧ t.keys.zeroStep = 3 ∧ t.sys.state = .zeroised)
        ∧ ∀ k, 1 ≤ k → k ≤ 7 → s.keys.zeroStep = 1 → Yields (.couplingAckTimeout k) s fun t =>
          dieIn t.sys.isolated k = true ∧ ∀ e ∈ t.keys.cache, e.1 ≠ k)

/-- R388, R390, R391, R392, R393, R394, R395, R396: Linzen frames that pass R385. A HELLO that is not yielded is
answered with REPLY or, where a signature of it fails, refused; a REPLY is answered with FINISH or refused; a FINISH
with the right code and the ACK after it bring the session UP under the secret agreed; an ACK value acknowledges what
it covers; a DATA frame in order is delivered to its service and one out of order is not; CLOSE ends the session it
names. The timers of an entry. A handshake frame is sent again up to five times, then the handshake ends; an idle
entry starts a new one and doubles its delay up to 10 s; rekeying starts one beside the session; a timed-out frame is
resent with its timeout doubled, and the eighth expiry in a row, like silence, loses the session. -/
def Obligations.LinzenSessions : Prop :=
  (∀ (s : State) (f : LinzenFrame) (i : Nat) (p : Peer),
    (Heard s f 1 i p → helloYields s p f = false → canDraw s = true → p.hs = none → running s < 16 →
      PeerNow (.hello f) s i fun q =>
        match sigCheck p (sha (frameHeader f ++ slice f.body 0 1316)) (slice f.body 1316 3405) with
        | some _ => q.state = 4 ∧ q.hs = none
        | none => q.cur = p.cur ∧ q.state = (if p.cur.isSome then 3 else 2)
            ∧ ∃ h, q.hs = some h ∧ h.stage = 2 ∧ h.num = f.session ∧ h.tries = 0)
    ∧ (∀ h, Heard s f 2 i p → p.hs = some h → h.stage = 1 → h.num = f.session →
      PeerNow (.reply f) s i fun q =>
        match sigCheck p (sha (digestBytes h.th ++ frameHeader f ++ slice f.body 0 1220)) (slice f.body 1220 3405) with
        | some _ => q.state = 4 ∧ q.hs = none
        | none => q.cur = p.cur ∧ ∃ k, q.hs = some k ∧ k.stage = 3 ∧ k.num = h.num)
    ∧ (∀ h, p.hs = some h → h.num = f.session → p.drain = none →
      let up := fun (initiator : Bool) (q : Peer) => q.state = 3 ∧ q.hs = none ∧ q.drain = p.cur
        ∧ ∃ x, q.cur = some x ∧ x.num = h.num ∧ x.ms = h.ms ∧ x.initiator = initiator
      (Heard s f 3 i p → h.stage = 2 → PeerNow (.finish f) s i fun q =>
          if f.body = finCode h.ms h.th then up false q else q.state = 4 ∧ q.hs = none)
      ∧ (Heard s f 5 i p → h.stage = 3 → PeerNow (.ack f) s i (up true)))
    ∧ (∀ x, p.hs = none → p.cur = some x → x.num = f.session → x.acked < f.ack → f.ack ≤ x.sent →
      let taken := fun (q : Peer) => ∃ y, q.cur = some y ∧ y.num = x.num ∧ y.acked = f.ack
        ∧ ∀ e ∈ y.flight, f.ack < e.1 ∨ x.sent < e.1
      (Heard s f 5 i p → PeerNow (.ack f) s i taken) ∧ (Heard s f 6 i p → PeerNow (.probe f) s i taken))
    ∧ (∀ x, Heard s f 4 i p → p.cur = some x → x.num = f.session →
      (f.seq = x.got + 1 → Yields (.data f) s fun t => ∃ q y, peerOf t i = some q ∧ q.cur = some y ∧ y.got = f.seq
        ∧ (messageOk p f.body = true → q.inbox = p.inbox ++ [f.body])
        ∧ (messageOk p f.body = false → q.inbox = p.inbox ∧ t.jct.rxDrop = sat32 (s.jct.rxDrop + 1)))
      ∧ (f.seq ≠ x.got + 1 → PeerNow (.data f) s i fun q => q.inbox = p.inbox
          ∧ ∃ y, q.cur = some y ∧ y.got = x.got))
    ∧ (Heard s f 7 i p →
      ((p.cur.map (·.num)) = some f.session → PeerNow (.close f) s i fun q => q.cur = none ∧ q.drain = none
        ∧ q.state = 1 ∧ q.retry = false)
      ∧ ((p.cur.map (·.num)) ≠ some f.session → (p.drain.map (·.num)) = some f.session →
          PeerNow (.close f) s i fun q => q.drain = none ∧ (q.cur.map (·.num)) = (p.cur.map (·.num)))))
  ∧ (∀ (s : State) (i : Nat) (p : Peer), portsRun s = true → peerOf s i = some p →
      let lost := fun (q : Peer) => q.cur = none ∧ q.drain = none ∧ q.hs = none ∧ q.state = 1 ∧ q.retry = true
      let started := fun (q : Peer) => q.cur = p.cur ∧ q.state = (if p.cur.isSome then 3 else 2)
        ∧ ∃ h, q.hs = some h ∧ h.stage = 1 ∧ h.tries = 0
      (∀ h, p.hs = some h →
          (h.tries < 5 → PeerNow (.handshakeRetry i) s i fun q => q = { p with hs := some { h with tries := h.tries + 1 } })
          ∧ (5 ≤ h.tries → PeerNow (.handshakeRetry i) s i fun q =>
              q = { p with hs := none, state := if p.cur.isSome then 3 else 1 }))
      ∧ (mayStart s p = true → p.state = 1 → p.retry = true → PeerNow (.handshakeRetry i) s i fun q =>
          started q ∧ q.backoff = min 10000 (2 * p.backoff))
      ∧ (mayStart s p = true → p.cur.isSome = true → PeerNow (.rekey i) s i started)
      ∧ (p.drain.isSome = true → PeerNow (.drainTimeout i) s i fun q => q.drain = none
          ∧ (q.cur.map (·.num)) = (p.cur.map (·.num)))
      ∧ ∀ x, p.cur = some x →
        (0 < x.owedAcks → PeerNow (.ackDelay i) s i fun q => q = { p with cur := some { x with owedAcks := 0 } })
        ∧ (PeerNow (.idleProbe i) s i fun q => q = { p with cur := some { x with owedAcks := 0 } })
        ∧ PeerNow (.silenceTimeout i) s i lost
        ∧ (x.flight ≠ [] → 7 ≤ x.expiries → PeerNow (.retransmissionTimeout i) s i lost)
        ∧ (x.flight ≠ [] → x.expiries < 7 → PeerNow (.retransmissionTimeout i) s i fun q => ∃ y, q.cur = some y
            ∧ y.expiries = x.expiries + 1 ∧ y.rtoUs = min 1000000 (2 * x.rtoUs) ∧ y.sent = x.sent
            ∧ y.flight.map (fun e => (e.1, e.2.1)) = x.flight.map (fun e => (e.1, e.2.1))))

/-- R375, R378, R379, R385, R395, R404, R405: the junction ports. A port comes up where it is enabled; going down it
ends its pause, and each session on it moves to the other port where that carries it and is lost otherwise; a locked
configuration stays; a solicitation for the port's own address is answered; a PAUSE stops the port, and its end lets
the held frames go in order; dropped frames are counted. -/
def Obligations.PortEvents : Prop :=
  ∀ (s : State) (port : Nat), port < 2 →
    let x := portOf s port
    (portsRun s = true → x.up = false → x.cfg.getLsbD 0 = true → x.media ≠ 0 →
        Yields (.portLinkChange port true) s fun t => portOf t port = { x with up := true }
          ∧ portOf t (1 - port) = portOf s (1 - port) ∧ t.jct.peers = s.jct.peers)
    ∧ (portsRun s = true → x.up = true → Yields (.portLinkChange port false) s fun t =>
        (portOf t port).up = false ∧ (portOf t port).paused = false
        ∧ ∀ i p, peerOf s i = some p →
          (p.port ≠ some port → peerOf t i = some p)
          ∧ (p.port = some port → p.cur.isSome = true → ∃ q, peerOf t i = some q
              ∧ (usable s p (1 - port) = true → q.port = some (1 - port) ∧ (q.cur.map (·.num)) = (p.cur.map (·.num)))
              ∧ (usable s p (1 - port) = false → q.cur = none ∧ q.state = 1 ∧ q.retry = true))
          ∧ (p.port = some port → p.cur = none → ∃ q, peerOf t i = some q ∧ q.hs = none ∧ q.port = none ∧ q.cur = none))
    ∧ (∀ v : W32, HostMayWrite s (0x90010 + 4 * port) →
        (x.cfg.getLsbD 31 = true → exec (.portConfigWrite port v) s = .next s)
        ∧ (x.cfg.getLsbD 31 = false → Yields (.portConfigWrite port v) s fun t =>
            (portOf t port).cfg = v &&& 0x8FFF0307
            ∧ (v.getLsbD 0 = false → (portOf t port).up = false)
            ∧ (v.getLsbD 0 = true → x.cfg.getLsbD 0 = false → (portOf t port).media = (v.extractLsb' 8 2).toNat
                ∧ (portOf t port).vlan = (v.extractLsb' 16 12).toNat)
            ∧ (v.getLsbD 0 = true → x.cfg.getLsbD 0 = true → (portOf t port).media = x.media
                ∧ (portOf t port).vlan = x.vlan ∧ (portOf t port).up = x.up)))
    ∧ (portUp s port = true →
        (∀ target, target = x.ip → x.paused = false → exec (.neighbourSolicitation port target) s =
            .next { s with out := .frame port 0x101 (le 16 target.toNat) :: s.out })
        ∧ (∀ target, target ≠ x.ip → exec (.neighbourSolicitation port target) s = .next s)
        ∧ (∀ q, q ≠ 0 → Yields (.pauseFrame port q) s fun t => portOf t port = { x with paused := true } ∧ t.out = s.out)
        ∧ (let freed := fun (t : State) => portOf t port = { x with paused := false, held := [] }
             ∧ t.out = (x.held.map fun f => Out.frame port f.1 f.2).reverse ++ s.out
           Yields (.pauseFrame port 0) s freed ∧ (x.paused = true → Yields (.pauseTimeExpiry port) s freed))
        ∧ (∀ c, Yields (.frameDropped port c) s fun t => t.jct.rxDrop = sat32 (s.jct.rxDrop + 1)
            ∧ ∀ row, c = .linzen row → RecorderOpen s 0x0B06 → NewRecord s t 0x0B06 (padTo 22 [BitVec.ofNat 8 row])))
    ∧ (portsRun s = true → RecorderOpen s 0x0B02 → Yields (.rsFecAlarm port) s fun t =>
        NewRecord s t 0x0B02 (padTo 22 [BitVec.ofNat 8 port]) ∧ t.jct = s.jct)

/-- R179, R180, R181, R225, R261, R398, R401, R402: what a delivered message of a peer does. A newer head becomes the
newest and pends for the next departure; an older or different one is evidence; both are acknowledged. A query is
answered with the newest head held; an acknowledgement ends the offer; a held head above the restored departure sets
BEHIND. A LOCK_SEND is answered with its RESULT and held on 0, and a LOCK_HELD ends the waiting SEND. TIME_REQ is
answered 20 us after its T2, and a usable TIME_RESP gives the peer's uncertainty. -/
def Obligations.PeerMessages : Prop :=
  ∀ (s : State) (i : Nat) (p : Peer) (m : Bytes),
    let b := m.drop 8
    let dep := rd b 0 8
    let head : Digest := BitVec.ofNat 384 (rd b 8 48)
    let old := s.dep.newest.find? fun e => e.1 == i
    (Delivered s i 1 1 p m → Yields (.headOffer i) s fun t => SendsTo s t i p (message 1 2 1 (le 8 dep))
        ∧ ((∀ e ∈ old, e.2.1 < dep) → (i, dep, head) ∈ t.dep.newest
            ∧ { peer := i, device := p.id, dep := dep, head := head, conflict := false } ∈ t.dep.peerHeads)
        ∧ (∀ e ∈ old, dep < e.2.1 ∨ dep = e.2.1 ∧ head ≠ e.2.2 → t.dep.newest = s.dep.newest
            ∧ { peer := i, device := p.id, dep := dep, head := head, conflict := true } ∈ t.dep.peerHeads)
        ∧ (old = some (i, dep, head) → t.dep = s.dep))
    ∧ (Delivered s i 1 2 p m → Yields (.headAck i) s fun t => (∃ d, (i, d) ∈ t.dep.acked ∧ dep ≤ d)
        ∧ ∃ q, peerOf t i = some q ∧ ∀ d h, p.offer = some (d, h) →
          q.offer = if d ≤ dep then none else some (d, h))
    ∧ (Delivered s i 1 3 p m → Yields (.headQuery i) s fun t => t.dep = s.dep ∧ SendsTo s t i p (message 1 4 1
        (slice b 0 8 ++ (match old with
          | some e => le 8 e.2.1 ++ digestBytes e.2.2
          | none => le 8 allOnes64 ++ zeros 48))))
    ∧ (Delivered s i 1 4 p m → Yields (.headHeld i) s fun t => (∃ q, peerOf t i = some q ∧ q.answered = true)
        ∧ ∀ v, s.sys.state = .restoring → s.vm.verified = some v → rd b 8 8 ≠ allOnes64 → v < rd b 8 8 →
          t.vm.behind = true)
    ∧ (Delivered s i 3 1 p m → Yields (.lockSend i) s fun t =>
        SendsTo s t i p (message 3 2 1 (slice b 0 8 ++ slice b 80 8 ++ le 1 (lockResult i p b s).1 ++ zeros 7))
        ∧ (funcOfId s (BitVec.ofNat 64 (rd b 0 8)) = none → (lockResult i p b s).1 = 2 ∧ t.keys = s.keys)
        ∧ ∀ h, (lockResult i p b s).2 = some h → h ∈ t.keys.held ∧ (lockResult i p b s).1 = 0)
    ∧ (∀ e, Delivered s i 3 2 p m →
        s.keys.sends.find? (fun e => e.1 == i && (ownerOf s (e.2.func s)).id.toNat == rd b 0 8) = some e →
        ringTakes (ringOf s e.2.ring) e.2.gen = true → Yields (.lockHeld i) s fun t => e ∉ t.keys.sends
          ∧ (rd b 16 1 = 0 → Completed t e.2 .ok 0 e.2.stamp ∧ Wrote s t e.2 (slice b 8 8))
          ∧ (rd b 16 1 ≠ 0 → Completed t e.2 .policy 0 e.2.stamp))
    ∧ (∀ t2, Delivered s i 4 1 p m → PeerNow (.timeReq i t2) s i fun q => q.timeOwed = p.timeOwed ++ [(rd b 0 8, t2)])
    ∧ (∀ req t2 rest, portsRun s = true → peerOf s i = some p → p.timeOwed = (req, t2) :: rest →
        Yields (.timeRespSend i) s fun t => (∃ q, peerOf t i = some q ∧ q.timeOwed = rest)
          ∧ SendsTo s t i p (message 4 2 1 (le 8 req ++ le 8 t2 ++ le 8 (t2 + 20000) ++ le 1 s.clk.state.code
              ++ le 1 s.clk.source ++ zeros 6 ++ le 8 ((uncertainty s).getD allOnes64))))
    ∧ (∀ t1, portsRun s = true → peerOf s i = some p → timePeer p = true → p.cur.isSome = true →
        Yields (.timeReqSend i t1) s fun t => ∃ q req, peerOf t i = some q ∧ q.timeReq = some (req, t1) ∧ req < 2 ^ 64
          ∧ SendsTo s t i p (message 4 1 1 (le 8 req)))
    ∧ (∀ t4, Delivered s i 4 2 p m →
        (∀ t1, rd b 24 1 = 2 → rd b 25 1 ≠ 4 → p.timeReq = some (rd b 0 8, t1) →
          PeerNow (.timeResp i t4) s i fun q => q.timeReq = none
            ∧ q.timeUnc = some (rd b 32 8 + (((t4 : Int) - t1 - ((rd b 16 8 : Int) - rd b 8 8)) / 2).toNat + s.clk.ptpAllow))
        ∧ (rd b 24 1 ≠ 2 ∨ rd b 25 1 = 4 ∨ (p.timeReq.map (·.1)) ≠ some (rd b 0 8) →
            PeerNow (.timeResp i t4) s i fun q => q.timeReq = p.timeReq ∧ q.timeUnc = p.timeUnc))

/-- R386, R387, R388, R391: the peer-table commands. PEER_ADD enters a device whose certificate verifies into a FREE
entry, under no id that is taken; PEER_REMOVE closes its session and frees it; PEER_SET replaces flags and paths;
PEER_INFO writes the image; SESSION_OPEN starts a handshake and SESSION_CLOSE ends the session. -/
def Obligations.PeerCommands : Prop :=
  ∀ (s : State) (id : WorkId) (w : Work),
    let b := w.input
    let i := rd b 0 2
    let same := fun (t : State) => t.jct.peers = s.jct.peers
    let others := fun (t : State) => ∀ j, j ≠ i → peerOf t j = peerOf s j
    (Waits s id 0x80 w →
      let cert := b.drop 80
      let dev : W64 := BitVec.ofNat 64 (rd cert 8 8)
      let taken := dev = s.otp.deviceId ∨ (peerIndex s dev).isSome = true ∨ (∃ a ∈ s.vm.adopted, a.2.2 = dev)
        ∨ (peerOf s i).isSome = true
      (peerFormOk b = false → EndsWork (.peerAdd id) s w .paramInvalid 0 [] same)
      ∧ (peerFormOk b = true → certOk s cert = false → EndsWork (.peerAdd id) s w .authFail 0 [] same)
      ∧ (peerFormOk b = true → certOk s cert = true → taken → EndsWork (.peerAdd id) s w .policy 0 [] same)
      ∧ (peerFormOk b = true → certOk s cert = true → ¬taken → EndsWork (.peerAdd id) s w .ok 0 [] fun t => others t
          ∧ ∃ q, peerOf t i = some q ∧ q.id = dev ∧ q.ecdsaPub = slice cert 32 97 ∧ q.mldsaPub = slice cert 129 1952
            ∧ q.flags = BitVec.ofNat 8 (rd b 8 1) ∧ q.path0 = slice b 16 32 ∧ q.path1 = slice b 48 32))
    ∧ (peerOf s i = none →
        (Waits s id 0x81 w → EndsWork (.peerRemove id) s w .notFound 0 [] same)
        ∧ (Waits s id 0x82 w → EndsWork (.peerSet id) s w (if i ≤ 2047 then .notFound else .paramInvalid) 0 [] same)
        ∧ (Waits s id 0x83 w → EndsWork (.peerInfo id) s w .notFound 0 [] same)
        ∧ (Waits s id 0x84 w → EndsWork (.sessionOpen id) s w .notFound 0 [] same)
        ∧ (Waits s id 0x85 w → EndsWork (.sessionClose id) s w .notFound 0 [] same))
    ∧ ∀ p, peerOf s i = some p →
      (Waits s id 0x81 w → EndsWork (.peerRemove id) s w .ok 0 [] fun t => peerOf t i = none ∧ others t)
      ∧ (Waits s id 0x82 w → peerFormOk b = false → EndsWork (.peerSet id) s w .paramInvalid 0 [] same)
      ∧ (Waits s id 0x82 w → peerFormOk b = true → EndsWork (.peerSet id) s w .ok 0 [] fun t => others t
          ∧ ∃ q, peerOf t i = some q ∧ q.id = p.id ∧ q.flags = BitVec.ofNat 8 (rd b 8 1) ∧ q.path0 = slice b 16 32
            ∧ q.path1 = slice b 48 32 ∧ (p.state = 4 → q.state = 1))
      ∧ (Waits s id 0x83 w → EndsWork (.peerInfo id) s w .ok 0 (peerBytes p) same)
      ∧ (Waits s id 0x84 w → p.hs.isSome = true → EndsWork (.sessionOpen id) s w .policy 0 [] same)
      ∧ (Waits s id 0x84 w → mayStart s p = true → EndsWork (.sessionOpen id) s w .ok 0 [] fun t => others t
          ∧ ∃ q h, peerOf t i = some q ∧ q.hs = some h ∧ h.stage = 1 ∧ q.cur = p.cur)
      ∧ (Waits s id 0x85 w → p.cur = none → EndsWork (.sessionClose id) s w .policy 0 [] same)
      ∧ (Waits s id 0x85 w → p.cur.isSome = true → EndsWork (.sessionClose id) s w .ok 0 [] fun t => others t
          ∧ ∃ q, peerOf t i = some q ∧ q.cur = none ∧ q.state = 1 ∧ q.retry = false)

/-- R200, R202, R203, R208, R399, R400: Routed claims. Waiting claims of a peer go out in one CLAIM_REQ of at most
127; a received CLAIM_REQ is queued up to 65,536 waiting entries; a verdict completes its claim with the issuer's
status and a RELAY leaf; the end of the wait completes it OWNER_UNREACHABLE. With either, the nonce advance of the
claim's terminal commits where it still advances. CANCEL of a ticket of this device whose game's rulebook has a CANCEL
entry is placed with the number and time of its admission; without such an entry, or of another device, it ends
POLICY, without the ticket NOT_FOUND, and the nonce advance commits with either. ADOPT under an accord gives a device
id that no other entry and no running session holds its issuer index. -/
def Obligations.RoutedClaimsAndAdopt : Prop :=
  (∀ (s : State),
    let ended := fun (c : RoutedClaim) (st : Status) (d vseq : Nat) (t : State) =>
      Completed t c.work st d c.work.stamp ∧ c ∉ t.vm.claims
      ∧ (∀ x, c.work.stamp = some x → Sealed t x (relayLeaf c st d vseq))
      ∧ (let r := c.work.src
         nonceAdvances s c.owner (hTerminal r) (hTense r) (hCtr r) = true →
           (terminalOf s c.owner (hTerminal r)).isSome = true → terminalOf t c.owner (hTerminal r) =
             some { owner := c.owner, id := hTerminal r, tense := hTense r, ctr := hCtr r })
    (∀ i p, portsRun s = true → peerOf s i = some p → p.cur.isSome = true →
      let mine := (s.vm.claims.filter fun c => c.peer == i && !c.sent).take 127
      mine ≠ [] → Yields (.claimBatchSend i) s fun t => (∀ c ∈ mine, c ∉ t.vm.claims ∧ { c with sent := true } ∈ t.vm.claims)
        ∧ SendsTo s t i p (message 2 1 mine.length (mine.flatMap fun c =>
            le 8 ((c.work.stamp.map (·.seq)).getD 0) ++ le 8 c.ownerId.toNat ++ le 8 c.device.toNat ++ le 8 c.seq)))
    ∧ (∀ i p m, Delivered s i 2 1 p m → s.sys.stableBusy = false → undecided s + min 127 (rd m 2 2) ≤ 65536 →
        Yields (.claimReq i) s fun t => t.jct = { s.jct with peers := t.jct.peers }
          ∧ t.vm = { s.vm with batchNo := s.vm.batchNo + 1, inbound := t.vm.inbound }
          ∧ ∃ l, t.vm.inbound = s.vm.inbound ++ l ∧ l.length = min 127 (rd m 2 2)
            ∧ ∀ c ∈ l, c.peer = i ∧ c.presenter = p.id ∧ c.batch = s.vm.batchNo ∧ c.verdict = none)
    ∧ (∀ i p m c, Delivered s i 2 2 p m → rd m 2 2 = 1 →
        s.vm.claims.find? (fun c => c.peer == i && c.sent && (c.work.stamp.map (·.seq)) == some (rd (m.drop 8) 0 8)) = some c →
        ringTakes (ringOf s c.work.ring) c.work.gen = true →
        let st := verdictStatus (rd (m.drop 8) 16 1)
        Yields (.claimVerdict i) s fun t =>
          ended c st (verdictReason st (slice (m.drop 8) 24 32)) (rd (m.drop 8) 8 8) t
          ∧ Wrote s t c.work (slice (m.drop 8) 24 32))
    ∧ (∀ q c, s.vm.claims.find? (fun c => c.sent && (c.work.stamp.map (·.seq)) == some q) = some c →
        ringTakes (ringOf s c.work.ring) c.work.gen = true →
        Yields (.claimWaitTimeout q) s fun t => ended c .ownerUnreachable 0 allOnes64 t ∧ Wrote s t c.work (zeros 32)))
  ∧ (∀ (s : State) (id : WorkId) (w : Work),
      let o := w.func s
      (∀ st, Waits s id 0x11 w → w.stamp = some st → s.vm.stopped = false →
          (claimAuth w o (placeDie s o (hTerminal w.src)) s).1 = none →
          let own := claimDev w.src = s.otp.deviceId.toNat
          (∀ k g b, own → ticketOf s o 0 (claimSeq w.src) = some k → findGame s o k.game = some g → cancelBook s g = some b →
            Yields (.cancel id) s fun t => w ∉ t.adm.work ∧ ∃ i, t.adm.items = s.adm.items ++ [i] ∧ i.seq = st.seq
              ∧ i.t = st.t ∧ i.dep = st.dep ∧ i.owner = o ∧ i.isCancel = true ∧ i.handle = b.handle
              ∧ i.version = b.version ∧ i.targetSeq = claimSeq w.src ∧ i.ended = none)
          ∧ (nonceAdvances s o (hTerminal w.src) (hTense w.src) (hCtr w.src) = true →
              (terminalOf s o (hTerminal w.src)).isSome = true →
              let ends := fun (x : Status) => EndsWork (.cancel id) s w x 0 [] fun t =>
                Sealed t st (queryLeaf w.ring o w.desc (claimDev w.src) (claimSeq w.src) x 0 0) ∧ t.adm.items = s.adm.items
                ∧ t.vm.tickets = s.vm.tickets ∧ terminalOf t o (hTerminal w.src) = some
                  { owner := o, id := hTerminal w.src, tense := hTense w.src, ctr := hCtr w.src }
              (¬own → ends .policy)
              ∧ (own → ticketOf s o 0 (claimSeq w.src) = none → ends .notFound)
              ∧ (∀ k g, own → ticketOf s o 0 (claimSeq w.src) = some k → findGame s o k.game = some g →
                  cancelBook s g = none → ends .policy)))
      ∧ (∀ a, let b := w.input; let dev := rd b 0 8; let ix := rd b 8 1
          canNumber s = true → Waits s id 0x74 w → 1 ≤ ix → ix ≤ 15 → HasAccord s w (rd b 9 1) 0x74 a →
          dev ≠ s.otp.deviceId.toNat → (∀ x ∈ s.vm.adopted, x.2.2.toNat ≠ dev ∧ x.2.1 ≠ ix) → peerRunning s dev = false →
          Yields (.adopt id) s fun t => CeremonyDone s t w a .ok 0
            ∧ t.vm.adopted = (rd b 9 1, ix, BitVec.ofNat 64 dev) :: s.vm.adopted))

/-- R188, R190, R191, R192, R194, R195: vault memory's upkeep. The patrol scrub counts a word whose errors are among
the patterns that are corrected, marks a device as erased at its fourth correction within 1 s, and on any other
pattern, or a line whose MAC or counter tree fails, stops the vault; a VMEM_PART write that breaks a condition of R194
sets its ERR, and any other is re-laid in the background. -/
def Obligations.VaultUpkeep : Prop :=
  ∀ (s : State),
    (∀ r : LineRead, portsRun s = true →
      let a := s.vm.patrol
      let st := heldLine r a s.vm.store
      let word := codeword (((st.lines.at? a).map (·.cipher)).getD [])
      let errs := errorSymbols word (received r.flips word)
      let fixed := correctable (markedDevice s r.channel r.subch r.rank) errs
      let sub := 2 * r.channel + r.subch
      let recent := fun (d : Nat) => (s.vm.corrections.filter fun c => c.1 == r.channel && c.2.1 == r.subch
        && c.2.2.1 == r.rank && c.2.2.2.1 == d && decide (opNow s ≤ c.2.2.2.2 + 10 ^ 9)).length
      (fixed = false → Yields (.patrolScrub r) s fun t => t.vm.stopped = true ∧ a ∈ t.vm.store.bad
          ∧ t.vm.eccUncorr = sat32 (s.vm.eccUncorr + 1) ∧ t.vm.tickets = s.vm.tickets)
      ∧ (fixed = true → lineOk st a = false → Yields (.patrolScrub r) s fun t => t.vm.stopped = true ∧ a ∈ t.vm.store.bad
          ∧ t.vm.eccUncorr = s.vm.eccUncorr ∧ t.vm.tickets = s.vm.tickets)
      ∧ (errs = [] → lineOk st a = true → Yields (.patrolScrub r) s fun t =>
          t = { s with vm := { s.vm with patrol := t.vm.patrol, store := st } })
      ∧ (fixed = true → lineOk st a = true → errs ≠ [] → Yields (.patrolScrub r) s fun t =>
          t.vm.eccCorr = sat32 (s.vm.eccCorr + 1) ∧ t.vm.store = st ∧ t.vm.stopped = s.vm.stopped
          ∧ t.vm.tickets = s.vm.tickets
          ∧ (∀ d, errorDevices errs = [d] → 3 ≤ recent d → s.vm.erased.at? sub = none →
              t.vm.erased.at? sub = some (r.rank, d))
          ∧ ((∀ d ∈ errorDevices errs, recent d < 3) ∨ (s.vm.erased.at? sub).isSome = true → t.vm.erased = s.vm.erased)))
    ∧ (∀ v : W64, HostMayWrite s 0x50018 → s.vm.partSel ≠ 0 →
        let o := s.vm.partSel
        let e := partErr s o (partFields v)
        (e ≠ 0 → exec (.vmemPartWrite v) s = .next { s with vm := { s.vm with err := e } })
        ∧ (e = 0 → Yields (.vmemPartWrite v) s fun t => (ownerOf t o).parts = partFields v ∧ (ownerOf t o).relaying = true
            ∧ (let same := fun (k : Ticket) => { k with bucket := 0 }
               t.vm.tickets.map same = s.vm.tickets.map same) ∧ t.vm.keyRecs = s.vm.keyRecs
            ∧ ((ownerOf s o).hashKeys ≠ [] → (ownerOf t o).hashKeys = (ownerOf s o).hashKeys)
            ∧ ((ownerOf s o).hashKeys = [] → (ownerOf t o).hashKeys.length = 32)
            ∧ ∀ p, p ≠ o → ownerOf t p = ownerOf s p))
    ∧ (∀ o, alive s = true →
        ((ownerOf s o).relaying = true → Yields (.partitionRelayEnd o) s fun t => (ownerOf t o).relaying = false
          ∧ (ownerOf t o).parts = (ownerOf s o).parts ∧ t.vm = s.vm)
        ∧ ((ownerOf s o).relaying = false → exec (.partitionRelayEnd o) s = .next s))

/-- R212, R213, R214, R215, R216: checkpoints. SNAP_REGIONS takes two regions that hold a snapshot; CHECKPOINT_WAIT
waits and CHECKPOINT_NOW asks for one; a checkpoint that is due starts for the open departure, or is postponed without
regions or before the last was acknowledged; written into its region, the chunks changed since epoch N - 2 and then
the manifest, it becomes the newest epoch and completes the oldest wait; an acknowledgement of the newest epoch begins
its flash record. -/
def Obligations.Checkpoints : Prop :=
  ∀ (s : State) (id : WorkId) (w : Work),
    let b := w.input
    let need := 4096 + 4160 * snapshotChunks s
    (Waits s id 0x70 w →
      (rd b 16 8 < need ∨ rd b 24 8 < need → EndsWork (.snapRegions id) s w .paramInvalid 0 [] fun t => t.vm = s.vm)
      ∧ (need ≤ rd b 16 8 → need ≤ rd b 24 8 → EndsWork (.snapRegions id) s w .ok 0 [] fun t =>
          t.vm = { s.vm with regions := some ((rd b 0 8, rd b 16 8), (rd b 8 8, rd b 24 8))
                             store := { s.vm.store with full := 2 } }))
    ∧ (Waits s id 0x71 w → Yields (.checkpointWait id) s fun t => w ∉ t.adm.work
        ∧ t.vm = { s.vm with waiters := s.vm.waiters ++ [w] })
    ∧ (Waits s id 0x72 w →
        (∀ c, s.vm.ckptDone = some c → rd b 0 8 = c.epoch → Yields (.checkpointAck id) s fun t => w ∉ t.adm.work
          ∧ t.vm.ackWait = s.vm.ackWait ++ [w] ∧ t.vm.epochAck = s.vm.epochAck
          ∧ t.flash.writing = s.flash.writing ++ [recordOf 1 c.epoch c.dep c.lastSeq (c.head.getD 0)])
        ∧ ((∀ c ∈ s.vm.ckptDone, rd b 0 8 ≠ c.epoch) → EndsWork (.checkpointAck id) s w .paramInvalid 0 [] fun t =>
            t.flash = s.flash))
    ∧ (Waits s id 0x73 w → EndsWork (.checkpointNow id) s w .ok 0 [] fun t => t.vm = { s.vm with ckptNow := true })
    ∧ (∀ n, inService s = true → s.dep.isOpen = true → s.vm.ckptRunning = none →
        let s' := advance n s
        let ready := regionsFit s = true ∧ s.vm.epochWritten ≤ s.vm.epochAck
        (ckptDue s' = true → ready → Yields (.checkpointStart n) s fun t => t.vm.ckptRunning =
            some { epoch := s.vm.epochWritten + 1, dep := s.dep.number, lastSeq := 0, head := none })
        ∧ (ckptDue s' = true → ¬ready → Yields (.checkpointStart n) s fun t => t.vm.ckptRunning = none
            ∧ (RecorderOpen s 0x0607 → NewRecord s t 0x0607 (zeros 22)))
        ∧ (ckptDue s' = false → exec (.checkpointStart n) s = .next s'))
    ∧ (∀ n c r0 r1, inService s = true → s.vm.ckptRunning = some c → s.vm.regions = some (r0, r1) → c.head.isSome = true →
        let base := if c.epoch % 2 = 0 then r0.1 else r1.1
        let ks := changedChunks (advance n s)
        Yields (.checkpointWritten n) s fun t => t.vm.ckptRunning = none ∧ t.vm.ckptDone = some c
          ∧ t.vm.epochWritten = c.epoch ∧ t.vm.waiters = s.vm.waiters.drop 1
          ∧ (∃ m, Out.dma 0 base m ∈ t.out) ∧ (∀ k ∈ ks, ∃ m, Out.dma 0 (base + 4096 + 4160 * k) m ∈ t.out)
          ∧ t.vm.store.dirty = [] ∧ t.vm.store.dirtyOld = s.vm.store.dirty
          ∧ ∀ x rest, s.vm.waiters = x :: rest → ringTakes (ringOf s x.ring) x.gen = true → Completed t x .ok 0 x.stamp
            ∧ Wrote s t x (le 8 c.epoch ++ le 8 c.dep ++ le 8 (c.epoch % 2) ++ le 8 ks.length ++ zeros 32))

/-- R158, R197, R209, R219, R220: power failure and settlement loads. The assertion of PWR_FAIL_N stops fetching,
closes the open departure and begins its record; the end of it lets fetching resume once a TYPE 4 record supersedes
that one. A load whose image passes waits, its tickets pending, until the checkpoint that holds it is acknowledged;
then all of them are live at one admission step. -/
def Obligations.PowerFailAndLoads : Prop :=
  ∀ (s : State),
    (∀ n, s.sys.state ≠ .off → s.sys.pwrFail = false → Yields (.pwrFailNAssert n) s fun t => t.sys.pwrFail = true
        ∧ t.adm.stopFetch = true
        ∧ (tickLive s = true → t.flash.writing =
            s.flash.writing ++ [recordOf 2 s.vm.epochAck s.dep.number (s.adm.nextSeq - 1) 0])
        ∧ (tickLive s = true → tickBlocked s = none → t.dep.number = s.dep.number + 1
            ∧ ∃ c ∈ t.dep.closing, c.dep = s.dep.number ∧ c.lastSeq = s.adm.nextSeq - 1)
        ∧ (tickLive s = true → (tickBlocked s).isSome = true → t.dep.number = s.dep.number ∧ t.dep.closing = s.dep.closing)
        ∧ (tickLive s = false → t.dep = s.dep ∧ t.flash.writing = s.flash.writing))
    ∧ (s.sys.state ≠ .off → s.sys.pwrFail = true → Yields .pwrFailNDeassert s fun t => t.sys.pwrFail = false ∧ t.dep = s.dep
        ∧ (let noted := (∃ r ∈ s.flash.writing, r.type = 2) ∨ lastIssued s = true
           (noted → s.dep.isOpen = true → t.adm.stopFetch = s.adm.stopFetch
              ∧ t.flash.writing = s.flash.writing ++ [recordOf 4 s.vm.epochAck 0 0 0])
           ∧ (¬noted ∨ s.dep.isOpen = false → t.adm.stopFetch = s.sys.stableBusy ∧ t.flash = s.flash)))
    ∧ (let o := s.bulk.owner; let b := s.bulk.data
       let failed := fun (st : Status) (t : State) => t.bulk.state = .failed ∧ t.bulk.result = st.code
         ∧ t.vm.tickets = s.vm.tickets ∧ t.vm.load = none
       inService s = true → bulkVerifying s 4 = true → s.vm.load = none →
        (loadFormOk b = false → Yields .settlementLoad s (failed .paramInvalid))
        ∧ (loadFormOk b = true → s.life.decided ≠ 0 → loadSigned s o b = false → Yields .settlementLoad s (failed .authFail))
        ∧ (loadFormOk b = true → s.life.decided = 0 ∨ loadSigned s o b = true →
          (loadIssuer s o b = none → Yields .settlementLoad s (failed .policy))
          ∧ (∀ x, loadIssuer s o b = some x → (ownerOf s o).enrolled ≠ 0 → (ownerOf s o).id.toNat = rd b 8 8 →
              (∀ k ∈ s.vm.tickets, ¬(k.owner = o ∧ k.issuer = x)) → ascendingSeqs (loadEntries o b) = true →
              (∀ k ∈ loadEntries o b, k.state ≤ 4 ∧ k.issuer = 0 ∧ k.pending = false) →
              let room := settleInsert s o ((loadEntries o b).map fun k => ticketKey x k.seq)
              (room = none → Yields .settlementLoad s fun t => t.bulk.state = .failed
                  ∧ t.bulk.result = Status.sealedReject.code ∧ t.vm.tickets = s.vm.tickets)
              ∧ (room.isSome = true → Yields .settlementLoad s fun t => t.bulk = s.bulk ∧ t.vm.ckptNow = true
                  ∧ t.vm.load = some (o, x, loadDigest b, ((s.vm.ckptRunning.map (·.epoch)).getD s.vm.epochWritten) + 1)
                  ∧ (∀ k ∈ loadEntries o b, (ticketOf t o x k.seq).map ticketBytes
                      = some (ticketBytes { k with issuer := x, pending := true }))
                  ∧ ∀ k ∈ s.vm.tickets, k.owner ≠ o → k ∈ t.vm.tickets))))
    ∧ (∀ o x d e, inService s = true → bulkVerifying s 4 = true → canNumber s = true → s.vm.load = some (o, x, d, e) →
        (s.vm.epochAck < e → exec .settlementLoadLive s = .next s)
        ∧ (e ≤ s.vm.epochAck → Yields .settlementLoadLive s fun t => t.vm.load = none ∧ t.bulk.state = .done
            ∧ t.adm.nextSeq = s.adm.nextSeq + 1 ∧ t.vm.commitNo = s.vm.commitNo + 1
            ∧ t.vm.tickets = s.vm.tickets.map fun k => if k.owner = o ∧ k.issuer = x then { k with pending := false } else k))

/-- R222, R224, R225, R469: restore. A stream is refused at the first row of R222 that it fails, and the device waits
for another; one that passes is replayed, and the device leaves RESTORING once the peers have answered or 1 s has
passed. A restore is abandoned by two writes of the key within 1 s, which destroy the owners' keys and records. -/
def Obligations.Restore : Prop :=
  ∀ (s : State), s.sys.state = .restoring → s.sys.abandoned = false →
    (bulkVerifying s 5 = true → s.vm.restore ≠ 4 →
      let b := s.bulk.data
      let m := sManifest b
      let refused := fun (st : Status) (t : State) => t.vm.restore = 5 ∧ t.bulk.state = .failed ∧ t.bulk.result = st.code
      Yields .restoreStream s fun t => t.sys.state = .restoring ∧
        if streamFormOk b = false then refused .paramInvalid t
        else if manifestOk s m = false then refused .authFail t
        else if rd m 16 8 ≠ ((flashNow s).map (·.epoch)).getD 0 then refused .policy t
        else if chunksOk s b = false then refused .authFail t
        else (recordsOf b = [] → refused .paramInvalid t) ∧ ∀ r rest, recordsOf b = r :: rest →
          if recDep r ≠ rd m 24 8 ∨ digestBytes (recHead r) ≠ slice m 144 48 then refused .paramInvalid t
          else t.vm.restore = 4 ∧ t.vm.epochWritten = rd m 16 8 ∧ t.vm.ckptNow = true ∧ t.bulk.state = .done
            ∧ (∃ d, t.vm.verified = some d) ∧ ∀ k ∈ t.vm.tickets, k.pending = false)
    ∧ (s.vm.restore = 4 → Yields .headQueryTimeout s fun t => inService t = true ∧ t.dep.isOpen = true
        ∧ t.adm.firstSeq = s.adm.firstSeq)
    ∧ (∀ n key, HostMayWrite s 0x24 → s.sys.inReset = false → bulkBusy s = false →
        let s' := advance n s
        (key ≠ 0x41424E44 → exec (.restoreAbandon n key) s = .next s')
        ∧ (key = 0x41424E44 → (∀ t0 ∈ s.sys.abandonAt, t0 + 10 ^ 9 < s'.clk.run) →
            exec (.restoreAbandon n key) s = .next { s' with sys := { s'.sys with abandonAt := some s'.clk.run } })
        ∧ (key = 0x41424E44 → (∃ t0 ∈ s.sys.abandonAt, s'.clk.run ≤ t0 + 10 ^ 9) → Yields (.restoreAbandon n key) s fun t =>
            t.sys.abandoned = true ∧ t.sys.state = .restoring ∧ t.vm.keyRecs = []
            ∧ ∀ p ∈ s.adm.owners, p.2.enrolled ≠ 0 → (ownerOf t p.1).enrolled = 0 ∧ (ownerOf t p.1).id = 0))

/-- R27, R29, R34, R35, R36, R112, R118, R149, R150, R275: faults and tests. An engine that fails or overruns is
quarantined and its threads stop, their items to be run again, and while it held work admission pauses until re-
placement is complete; a test puts the next engine aside, and its end makes it its cluster's reserve or quarantines
it; a lost die leaves placement with its threads, caches and public-key engines; an anchor fault stops sales for good;
a retraining slot changes nothing. -/
def Obligations.FaultHandling : Prop :=
  ∀ (s : State), alive s = true →
    (∀ n t0 u, s.sys.faults = [u] → s.adm.pausedAt = some t0 → Yields (.faultRecovered n) s fun t => t.sys.faults = []
        ∧ t.sys.overlap = false ∧ t.adm.pausedAt = none ∧ t.adm.pauseLast = sat32 ((advance n s).clk.run - t0))
    ∧ (∀ n u v rest, s.sys.faults = u :: v :: rest → Yields (.faultRecovered n) s fun t => t.sys.faults = v :: rest
        ∧ t.sys.overlap = s.sys.overlap ∧ t.adm.pausedAt = s.adm.pausedAt)
    ∧ (let failed := fun (e : EngineId) (t : State) => e ∈ t.eng.quarantined
         ∧ (∀ x ∈ t.eng.threads, engineOf x.id ≠ e)
         ∧ (∀ i ∈ s.adm.items, (∀ x ∈ s.eng.threads, engineOf x.id = e → x.seq ≠ i.seq) → i ∈ t.adm.items)
         ∧ (∀ i ∈ s.adm.items, ∃ j ∈ t.adm.items, j = { i with reserve := j.reserve })
         ∧ ((∃ x ∈ s.eng.threads, engineOf x.id = e) → t.sys.faults = s.sys.faults ++ [.engine e]
             ∧ t.adm.pausedAt = some (s.adm.pausedAt.getD s.clk.run)
             ∧ (s.sys.faults ≠ [] → t.sys.overlap = true))
       (∀ e, engineThere s e = true → e ∉ s.eng.quarantined → Yields (.engineFault e) s (failed e))
       ∧ ∀ th x, threadOf s th = some x → Yields (.threadOverrun th) s (failed (engineOf th)))
    ∧ (∀ k, inService s = true → dieIn s.sys.inService k = true → s.eng.underTest.at? k = none →
        let e := slotEngine s k
        let rests := e.engine ≠ 0 ∧ (8 * k + e.cluster) ∈ s.eng.resting
        Yields (.engineTestSlot k) s fun t => t.eng.rotation.atD k 0 = (s.eng.rotation.atD k 0 + 1) % 64
          ∧ (e ∉ s.eng.quarantined ∧ (rests ∨ clusterBad s k e.cluster = true) → t.eng.underTest.at? k = none)
          ∧ (e ∈ s.eng.quarantined ∨ ¬rests ∧ clusterBad s k e.cluster = false → t.eng.underTest.at? k = some e))
    ∧ (∀ k e, s.eng.underTest.at? k = some e →
        ((∃ x ∈ s.eng.threads, engineOf x.id = e) → ∀ pass, exec (.engineTestDone k pass) s = .next s)
        ∧ ((∀ x ∈ s.eng.threads, engineOf x.id ≠ e) →
            (Yields (.engineTestDone k true) s fun t => e ∉ t.eng.quarantined ∧ (∀ p ∈ t.eng.underTest, p.2 ≠ e)
              ∧ t.eng.reserve.at? (8 * e.die + e.cluster) = some e.engine)
            ∧ Yields (.engineTestDone k false) s fun t => e ∈ t.eng.quarantined ∧ (∀ p ∈ t.eng.underTest, p.2 ≠ e)
              ∧ t.eng.reserve = s.eng.reserve))
    ∧ (∀ k, inService s = true ∨ s.sys.state = .restoring → dieIn (presentDies s) k = true → dieIn s.sys.lost k = false → Yields (.dieLost k) s fun t =>
        dieIn t.sys.lost k = true ∧ dieIn t.sys.inService k = false ∧ (∀ x ∈ t.eng.threads, x.id.die ≠ k)
        ∧ (∀ e ∈ t.keys.cache, e.1 ≠ k) ∧ (∀ b ∈ t.eng.buckets, b ≠ k) ∧ (∀ c ∈ t.pk.ops, c.engine / 2 ≠ k) ∧ t.vm = s.vm)
    ∧ (∀ pub, inService s = true → s.sys.anchorFault = false → Yields (.anchorFault pub) s fun t =>
        t.sys.anchorFault = true ∧ t.sys.anchorStopped = true ∧ closeWork t = true
        ∧ t.dep.number = s.dep.number + (if pub = true ∧ tickLive s = true ∧ tickBlocked s = none then 1 else 0))
    ∧ ∀ u, exec (.retrainSlot u) s = .next s

/-- R36, R188, R236, R271, R278, R281, R282, R283, R284, R285: a cipher command ends at the first order of R283 that
it fails, and otherwise takes one use of its key. It runs on a vault lane that runs no other, the one that placement
chose where that is free, and waits in the queue while none is. An encryption of AEAD or CTR takes the lane's next
class D nonce. A DUAL key needs an accord, which is consumed and sealed. -/
def Obligations.CipherCommands : Prop :=
  ∀ (s : State) (id : WorkId) (w : Work) (lane : Nat),
    let o := w.func s
    let sound := fun (op : Nat) => op = 0x38 ∨ checkKey o (cKey w) s = s ∧ keyLineBad s o (cKey w) = false
    let used := fun (k : Option KeyView) (t : State) =>
      ∀ v i, k = some v → v.ref = .slot i → 0 < (slotOf s i).uses → NoRootIn s i →
        (slotOf t i).uses = (slotOf s i).uses - 1 ∧ ((slotOf s i).uses = 1 → (slotOf t i).state = 2)
    let is := fun (k : Option KeyView) (stamp : Option Stamp) (x : CipherOp) =>
      x.work = { w with stamp := stamp } ∧ x.owner = o ∧ x.faulted = false ∧ x.key = (k.map (·.key)).getD []
    let starts := fun (op : Nat) (k : Option KeyView) (stamp : Option Stamp) (t : State) => w ∉ t.adm.work ∧ used k t
      ∧ (s.lanes.queue = [] → freeLanes s ≠ [] → ∃ x, t.lanes.ops = s.lanes.ops ++ [x] ∧ is k stamp x
          ∧ x.lane ∈ freeLanes s
          ∧ ({ group := .vault, lane := lane } ∈ freeLanes s → x.lane = { group := .vault, lane := lane })
          ∧ (takesNonce op = false → x.nonce = []) ∧ (takesNonce op = true → stamp = w.stamp → x.nonce = (classD x.lane s).1))
      ∧ (freeLanes s = [] → t.lanes.ops = s.lanes.ops ∧ ∃ x, t.lanes.queue = s.lanes.queue ++ [x] ∧ is k stamp x)
    (∀ k, let ready := fun (op : Nat) => Waits s id op w ∧ sound op ∧ cipherKey s o w = .inr k
          ∧ (∀ v ∈ k, aDual v.attr = false) ∧ cipherParamsOk w ((k.map (·.key)).getD []) = true ∧ vaultLanes s ≠ []
        (ready 0x30 → Yields (.aeadEncrypt id lane) s (starts 0x30 k w.stamp))
        ∧ (ready 0x31 → Yields (.aeadDecrypt id lane) s (starts 0x31 k w.stamp))
        ∧ (ready 0x32 → Yields (.ctrEncrypt id lane) s (starts 0x32 k w.stamp))
        ∧ (ready 0x33 → Yields (.ctrDecrypt id lane) s (starts 0x33 k w.stamp))
        ∧ (ready 0x34 → Yields (.xtsEncrypt id lane) s (starts 0x34 k w.stamp))
        ∧ (ready 0x35 → Yields (.xtsDecrypt id lane) s (starts 0x35 k w.stamp))
        ∧ (ready 0x36 → Yields (.macGenerate id lane) s (starts 0x36 k w.stamp))
        ∧ (ready 0x37 → Yields (.macVerify id lane) s (starts 0x37 k w.stamp))
        ∧ (ready 0x38 → Yields (.hash id lane) s (starts 0x38 k w.stamp)))
    ∧ ∀ (c : Instr) (op : Nat), (c, op) ∈ [(.aeadEncrypt id lane, 0x30), (.aeadDecrypt id lane, 0x31),
        (.ctrEncrypt id lane, 0x32), (.ctrDecrypt id lane, 0x33), (.xtsEncrypt id lane, 0x34), (.xtsDecrypt id lane, 0x35),
        (.macGenerate id lane, 0x36), (.macVerify id lane, 0x37), (.hash id lane, 0x38)] → Waits s id op w → sound op →
      (∀ st, cipherKey s o w = .inl st → EndsWork c s w st 0 [] fun t => t.keys = s.keys ∧ t.lanes = s.lanes)
      ∧ ∀ k, cipherKey s o w = .inr k →
        ((∀ v ∈ k, aDual v.attr = false) →
          (cipherParamsOk w ((k.map (·.key)).getD []) = false →
            EndsWork c s w .paramInvalid 0 [] fun t => t.keys = s.keys ∧ t.lanes = s.lanes)
          ∧ (cipherParamsOk w ((k.map (·.key)).getD []) = true → vaultLanes s = [] → EndsWork c s w .fault 0 [] (used k)))
        ∧ ∀ v a, k = some v → aDual v.attr = true → canNumber s = true → HasAccord s w o op a →
          (cipherParamsOk w v.key = true → vaultLanes s ≠ [] → Yields c s fun t => starts op k (some (nextStamp s)) t
            ∧ t.adm.nextSeq = s.adm.nextSeq + 1 ∧ ∀ x ∈ t.keys.accords, x.no ≠ a.no)
          ∧ (cipherParamsOk w v.key = false → Yields c s fun t => CeremonyDone s t w a .paramInvalid 0)

/-- R36, R291, R292, R293, R296, R298, R304, R307, R308: a public-key command ends at the first order of R298 that it
fails; otherwise it waits in the anchor queue or is held by an engine that may run it, with room for it. Where nothing
waits before it, such an engine takes it, and an engine that held nothing starts it and takes the L of its set. A DUAL
key needs an accord, which is consumed. PK_ABORT ends a named command that is held or waits, and is NOT_FOUND where
there is none. -/
def Obligations.PkCommands : Prop :=
  ∀ (s : State) (id : WorkId) (w : Work) (e : Nat),
    let o := w.func s
    let sound := fun (op : Nat) => readsKey op = false ∨ checkKey o (kKey w) s = s ∧ keyLineBad s o (kKey w) = false
    let same := fun (t : State) => t.keys = s.keys ∧ t.pk = s.pk
    let drawn := needsRandom w = false ∨ canDraw s = true
    let is := fun (k : Option KeyView) (x : PkOp) => x.owner = o ∧ x.faulted = false ∧ x.key = (k.map (·.key)).getD []
    let starts := fun (k : Option KeyView) (t : State) => w ∉ t.adm.work
      ∧ (∃ x ∈ t.pk.ops ++ t.pk.queue, x.work = w ∧ is k x)
      ∧ (s.pk.queue = [] → signWaits s = false → pkPlaces s w ≠ [] → ∃ x ∈ t.pk.ops, x.work = w ∧ is k x
          ∧ x.engine ∈ pkPlaces s w ∧ (e ∈ pkPlaces s w → x.engine = e)
          ∧ t.pk.lens.at? x.engine = some (pkShape w).1 ∧ (pkHolds s x.engine = [] → x.running = true))
      ∧ (s.pk.queue = [] → signWaits s = true ∨ pkPlaces s w = [] → ∃ x ∈ t.pk.queue, x.work = w ∧ is k x)
    (∀ k, let ready := fun (op : Nat) => Waits s id op w ∧ sound op ∧ pkKey s o w = .inr k ∧ pkDual w k = false
          ∧ pkParamsOk s o w = true ∧ drawn ∧ pkAllowed s op ≠ []
        (ready 0x40 → Yields (.pkSign id e) s (starts k))
        ∧ (ready 0x41 → Yields (.pkVerify id e) s (starts k))
        ∧ (ready 0x42 → Yields (.pkKeygen id e) s (starts k))
        ∧ (ready 0x43 → Yields (.pkDerive id e) s (starts k))
        ∧ (ready 0x44 → Yields (.pkEncaps id e) s (starts k))
        ∧ (ready 0x45 → Yields (.pkCurveLoad id e) s (starts k))
        ∧ (ready 0x47 → Yields (.pkPublic id e) s (starts k)))
    ∧ (∀ (c : Instr) (op : Nat), (c, op) ∈ [(.pkSign id e, 0x40), (.pkVerify id e, 0x41), (.pkKeygen id e, 0x42),
        (.pkDerive id e, 0x43), (.pkEncaps id e, 0x44), (.pkCurveLoad id e, 0x45), (.pkPublic id e, 0x47)] →
      Waits s id op w → sound op →
      (∀ st, pkKey s o w = .inl st → EndsWork c s w st 0 [] same)
      ∧ ∀ k, pkKey s o w = .inr k →
        (pkDual w k = false →
          (pkParamsOk s o w = false → EndsWork c s w .paramInvalid 0 [] same)
          ∧ (pkParamsOk s o w = true → needsRandom w = true → canDraw s = false → EndsWork c s w .rngUnavailable 0 [] same)
          ∧ (pkParamsOk s o w = true → drawn → op ≠ 0x41 → pkAllowed s op = [] → EndsWork c s w .fault 0 [] same))
        ∧ (∀ a, pkDual w k = true → canNumber s = true → HasAccord s w o op a → pkParamsOk s o w = true → drawn →
            pkAllowed s op ≠ [] →
            Yields c s fun t => w ∉ t.adm.work ∧ (∀ x ∈ t.keys.accords, x.no ≠ a.no) ∧ t.adm.nextSeq = s.adm.nextSeq + 1
              ∧ ∃ x ∈ t.pk.ops ++ t.pk.queue, x.work = { w with stamp := some (nextStamp s) } ∧ is k x))
    ∧ (Waits s id 0x46 w →
      (∀ c, s.pk.ops.find? (fun c => abortNames s w c.work) = some c → ringTakes (ringOf s c.work.ring) c.work.gen = true →
        (c.running = true ∨ pkIdle s c.engine = true → EndsWork (.pkAbort id) s w .ok 0 [] fun t =>
            Completed t c.work .aborted 0 c.work.stamp ∧ (OnlyPk s c → ∀ x ∈ t.pk.ops ++ t.pk.queue, x.work ≠ c.work))
        ∧ (c.running = false → pkIdle s c.engine = false → Yields (.pkAbort id) s fun t => w ∉ t.adm.work
            ∧ t.pk = { s.pk with aborts := s.pk.aborts ++ [(c, w)] }))
      ∧ (∀ c, (∀ x ∈ s.pk.ops, abortNames s w x.work = false) → s.pk.queue.find? (fun c => abortNames s w c.work) = some c →
          ringTakes (ringOf s c.work.ring) c.work.gen = true →
          EndsWork (.pkAbort id) s w .ok 0 [] fun t => Completed t c.work .aborted 0 c.work.stamp)
      ∧ (∀ x, (∀ c ∈ s.pk.ops ++ s.pk.queue, abortNames s w c.work = false) → s.adm.work.find? (abortNames s w) = some x →
          ringTakes (ringOf s x.ring) x.gen = true →
          EndsWork (.pkAbort id) s w .ok 0 [] fun t => x ∉ t.adm.work ∧ Completed t x .aborted 0 x.stamp)
      ∧ ((∀ c ∈ s.pk.ops ++ s.pk.queue, abortNames s w c.work = false) → (∀ x ∈ s.adm.work, abortNames s w x = false) →
          EndsWork (.pkAbort id) s w .notFound 0 [] fun t => t.pk = s.pk))

/-- R36, R275, R280, R281, R285, R286, R287, R288, R289, R292, R296, R300, R304, R305, R306, R307, R308, R310, R311:
The lanes' own events. An operation's end delivers its result: a MAC that does not match and a tag that does not
verify are AUTH_FAIL with DETAIL 1, and a digest is that of the input. A parity fault quarantines the lane; its
operation runs again elsewhere, or after a second fault ends FAULT. A test puts the next lane of a group aside, and
its end puts it back or quarantines it. What a public-key engine does by itself. Of the operations it holds the
running one ends: a verification OK, AUTH_FAIL or PARAM_INVALID; a signature that exhausts its rounds FAULT; without
the generator one that draws RNG_UNAVAILABLE; a curve that passes the checks of R305 is held and one that fails names
the check. A fault quarantines the engine and its operations are placed again, the running one ending FAULT the second
time; a test puts the next engine aside, and its end puts it back or quarantines it. -/
def Obligations.LaneAndPkEvents : Prop :=
  (∀ (s : State), alive s = true →
    (∀ id c, s.lanes.ops.find? (fun c => c.work.ring == id.ring && c.work.idx == id.idx) = some c →
      (∀ x ∈ s.lanes.queue, x.work ≠ c.work) → ringTakes (ringOf s c.work.ring) c.work.gen = true →
      let b := c.work.input
      let ends := fun (st : Status) (d : Nat) (out : Bytes) => Yields (.cipherOperationDone id) s fun t =>
        Completed t c.work st d c.work.stamp ∧ Wrote s t c.work out ∧ c ∉ t.lanes.ops
      ends (cipherEnd c).status (cipherEnd c).detail (cipherEnd c).out
      ∧ (dOp c.work.desc = 0x37 →
        let m := b.length - cMacLen c.work
        (macOf c.work c.key (b.take m) = b.drop m → ends .ok 0 [])
        ∧ (macOf c.work c.key (b.take m) ≠ b.drop m → ends .authFail 1 []))
      ∧ (dOp c.work.desc = 0x38 → cAlg c.work = 2 → ends .ok 0 (digestBytes (Config.sha384 b)))
      ∧ (dOp c.work.desc = 0x31 →
        let m := b.drop (cAad c.work)
        let r := gcmOpen c.key ((cIv c.work).take 12) (b.take (cAad c.work)) (m.take (m.length - 16)) (m.drop (m.length - 16))
        (r.2 = true → ends .ok 0 r.1) ∧ (r.2 = false → ends .authFail 1 r.1)))
    ∧ (∀ l k, laneThere s l = true → l ∉ s.lanes.quarantined →
        (Yields (.laneParityFault l k) s fun t => l ∈ t.lanes.quarantined ∧ (∀ p ∈ t.lanes.underTest, p.2 ≠ l)
          ∧ ∀ n, l.group = .die n → t.lanes.ops = s.lanes.ops ∧ ∀ th ∈ s.eng.threads, th.id.die ≠ n → th ∈ t.eng.threads)
        ∧ ∀ c, l.group = .vault → s.lanes.ops.filter (fun c => c.lane == l) = [c] → (∀ x ∈ s.lanes.queue, x.work ≠ c.work) →
          Yields (.laneParityFault l k) s fun t => c ∉ t.lanes.ops
            ∧ (c.faulted = true → ringTakes (ringOf s c.work.ring) c.work.gen = true →
                Completed t c.work .fault 0 c.work.stamp)
            ∧ (c.faulted = false → (∃ j ∈ freeLanes s, j ≠ l) →
                ∃ x ∈ t.lanes.ops, x.work = c.work ∧ x.key = c.key ∧ x.faulted = true ∧ x.lane ≠ l)
            ∧ (c.faulted = false → (∀ j ∈ freeLanes s, j = l) → (∃ j ∈ vaultLanes s, j ≠ l) →
                ∃ x ∈ t.lanes.queue, x.work = c.work ∧ x.key = c.key ∧ x.faulted = true))
    ∧ (∀ g, s.sys.firmwareUp = true → groupThere s g = true → s.lanes.underTest.at? (groupIdx g) = none →
        let k := s.lanes.rotation.atD (groupIdx g) 0
        let l : LaneId := { group := g, lane := k }
        let rests := k ≠ 0 ∧ groupIdx g ∈ s.lanes.resting
        Yields (.laneTestSlot g) s fun t => t.lanes.rotation.atD (groupIdx g) 0 = (k + 1) % groupSize g
          ∧ (l ∈ s.lanes.quarantined ∨ ¬rests ∧ groupBad s g = false → t.lanes.underTest.at? (groupIdx g) = some l)
          ∧ (l ∉ s.lanes.quarantined ∧ (rests ∨ groupBad s g = true) → t.lanes.underTest.at? (groupIdx g) = none))
    ∧ ∀ g l, s.lanes.underTest.at? (groupIdx g) = some l →
        ((∃ c ∈ s.lanes.ops, c.lane = l) → ∀ pass, exec (.laneTestDone g pass) s = .next s)
        ∧ ((∀ c ∈ s.lanes.ops, c.lane ≠ l) →
            (Yields (.laneTestDone g true) s fun t => l ∉ t.lanes.quarantined
              ∧ t.lanes.underTest.at? (groupIdx l.group) = none)
            ∧ Yields (.laneTestDone g false) s fun t => l ∈ t.lanes.quarantined
              ∧ t.lanes.underTest.at? (groupIdx l.group) = none))
  ∧ (∀ (s : State), alive s = true →
      (∀ id n c, s.pk.ops.find? (fun c => c.running && c.work.ring == id.ring && c.work.idx == id.idx) = some c →
        ringTakes (ringOf s c.work.ring) c.work.gen = true →
        let w := c.work
        let ends := fun (st : Status) (d : Nat) (out : Bytes) (P : State → Prop) => Yields (.pkOperationDone id n) s fun t =>
          Completed t w st d w.stamp ∧ Wrote s t w out ∧ (OnlyPk s c → ∀ x ∈ t.pk.ops ++ t.pk.queue, x.work ≠ w) ∧ P t
        let keep := fun (t : State) => t.keys = s.keys
        let pub := onCurve s c (w.input.take (pubLen s c.owner (kPset w) (kVar w)))
        let sig := slice w.input (pubLen s c.owner (kPset w) (kVar w)) (sigLen s c.owner (kPset w) (kVar w))
        let formed := Config.valid (validPub (kAlg w)) pub = true ∧ Config.valid (validSig (kAlg w)) (onCurve s c sig) = true
        let draws := needsRandom w = false ∨ canDraw s = true
        (needsRandom w = true → canDraw s = false → ends .rngUnavailable 0 [] keep)
        ∧ (dOp w.desc = 0x41 →
            (¬formed → ends .paramInvalid 0 [] keep)
            ∧ (formed → Config.verify (pkScheme w) pub (pkMessage s c) sig = true → ends .ok 0 [] keep)
            ∧ (formed → Config.verify (pkScheme w) pub (pkMessage s c) sig = false → ends .authFail 1 [] keep))
        ∧ (dOp w.desc = 0x40 → draws →
            (Config.valid (validPriv (kAlg w)) (pkMaterial s c) = false → ends .paramInvalid 0 [] keep)
            ∧ (Config.valid (validPriv (kAlg w)) (pkMaterial s c) = true → isMldsa (kPset w) = true → 1000 ≤ n → ends .fault 0 [] keep)
            ∧ (Config.valid (validPriv (kAlg w)) (pkMaterial s c) = true → isMldsa (kPset w) = false ∨ n < 1000 →
                ∃ r, ends .ok 0 (le (sigLen s c.owner (kPset w) (kVar w))
                  (Config.sign (pkScheme w) (pkMaterial s c) (pkMessage s c) r)) keep))
        ∧ (dOp w.desc = 0x45 → curveErr w.input ≠ 0 → ends .paramInvalid (curveErr w.input) [] fun t => t.pk.curves = s.pk.curves)
        ∧ (∀ i, dOp w.desc = 0x45 → curveErr w.input = 0 → curveIndex s c.owner w.input = some i → ∃ out,
            ends .ok 0 out fun t => { index := i, owner := c.owner, params := w.input } ∈ t.pk.curves))
      ∧ (∀ e x, e ∈ pkEngines s → e ∉ s.pk.quarantined → dieIn s.sys.lost (e / 2) = false → s.pk.aborts = [] →
          Yields (.pkEngineFault e x) s fun t => e ∈ t.pk.quarantined ∧ (∀ c ∈ t.pk.ops, c.engine ≠ e)
          ∧ ∀ c, (pkHolds s e).find? (·.running) = some c →
            (c.faulted = true → ringTakes (ringOf s c.work.ring) c.work.gen = true → Completed t c.work .fault 0 c.work.stamp)
            ∧ (c.faulted = false → (∃ j ∈ pkAllowed s (dOp c.work.desc), j ≠ e) →
                ∃ y ∈ t.pk.ops ++ t.pk.queue, y.work = c.work ∧ y.key = c.key ∧ y.faulted = true))
      ∧ (s.sys.firmwareUp = true → s.pk.underTest = none →
          let k := s.pk.rotation % (pkEngines s).length
          let e := (pkEngines s).getD k 0
          let rests := k ≠ 0 ∧ s.pk.resting = true
          Yields .pkTestSlot s fun t => t.pk.rotation = (k + 1) % (pkEngines s).length
            ∧ (dieIn s.sys.lost (e / 2) = false → e ∈ s.pk.quarantined ∨ ¬rests ∧ s.pk.quarantined = [] →
                t.pk.underTest = some e)
            ∧ (dieIn s.sys.lost (e / 2) = true ∨ e ∉ s.pk.quarantined ∧ (rests ∨ s.pk.quarantined ≠ []) →
                t.pk.underTest = none))
      ∧ ∀ e, s.pk.underTest = some e →
          ((∃ c ∈ s.pk.ops, c.engine = e) → ∀ pass, exec (.pkTestDone pass) s = .next s)
          ∧ ((∀ c ∈ s.pk.ops, c.engine ≠ e) →
              (Yields (.pkTestDone true) s fun t => t.pk.underTest = none ∧ e ∉ t.pk.quarantined)
              ∧ Yields (.pkTestDone false) s fun t => t.pk.underTest = none ∧ e ∈ t.pk.quarantined))

/-- R176, R313, R315, R316, R317, R320, R321, R322, R323, R324, R325: the generator. It is ready once instantiated; a
seed goes where R317 sends it; a reseed that is due uses a seed or starts a stretch, and 2^24 requests halt it. A
first alarm is counted, and a second in 2^24 samples, like a failed known-answer test, stops all output for good,
voids every draw, and makes departure signatures deterministic. A read is served, held while the generator may come
back, or ended all ones; RANDOM writes the bytes asked for. -/
def Obligations.Generator : Prop :=
  ∀ (s : State),
    let failed := fun (src cause : Nat) (t : State) => t.rng.failed = true ∧ t.rng.failSource = src ∧ t.rng.failCause = cause
      ∧ t.rng.draws = [] ∧ t.rng.heldReads = 0 ∧ t.dep.deterministic = true
    let ones := Out.regData 0x70008 allOnes64
    (rngRuns s = true → s.rng.failed = false →
      (∀ n, s.rng.ready = false → Yields (.generatorReady n) s fun t => t.rng.ready = true ∧ t.rng.heldReads = 0
        ∧ t.rng.requests = s.rng.heldReads)
      ∧ (s.rng.ready = true →
        (s.rng.halted = true → Yields .seedReady s fun t => t.rng.halted = false ∧ t.rng.reseeds = s.rng.reseeds + 1
          ∧ t.rng.pool = s.rng.pool ∧ t.rng.heldReads = 0)
        ∧ (s.rng.halted = false → drawWaits s = true → s.rng.pool = 0 → Yields .seedReady s fun t =>
            t.rng = { s.rng with drawSeeds := s.rng.drawSeeds + 1 })
        ∧ (s.rng.halted = false → drawWaits s = false ∨ 0 < s.rng.pool →
            (s.rng.stretching = true → Yields .seedReady s fun t => t.rng.stretching = false ∧ t.rng.requests = 0
              ∧ t.rng.reseeds = s.rng.reseeds + 1 ∧ t.rng.pool = s.rng.pool)
            ∧ (s.rng.stretching = false → Yields .seedReady s fun t =>
                t.rng = { s.rng with pool := min 8 (s.rng.pool + 1) }))
        ∧ (2 ^ 16 ≤ s.rng.requests → s.rng.stretching = false → s.rng.halted = false →
            (0 < s.rng.pool → Yields .gReseedDue s fun t => t.rng.requests = 0 ∧ t.rng.pool = s.rng.pool - 1
              ∧ t.rng.reseeds = s.rng.reseeds + 1)
            ∧ (s.rng.pool = 0 → Yields .gReseedDue s fun t => t.rng.stretching = true
                ∧ t.rng.stretches = sat32 (s.rng.stretches + 1) ∧ t.rng.requests = s.rng.requests))
        ∧ (2 ^ 24 ≤ s.rng.requests → s.rng.halted = false → Yields .gHalt s fun t => t.rng = { s.rng with halted := true }))
      ∧ (∀ src k, src < 4 →
          (s.rng.ready = true → recentAlarm s src = false → Yields (.rngAlarm src k) s fun t => t.rng.failed = false
            ∧ t.rng.alarms = sat32 (s.rng.alarms + 1) ∧ t.rng.firstAlarm.at? src = some s.clk.upNs)
          ∧ (s.rng.ready = false ∨ recentAlarm s src = true → Yields (.rngAlarm src k) s (failed src (testCode k))))
      ∧ Yields (.rngKat false) s (failed 0xF 3) ∧ exec (.rngKat true) s = .next s)
    ∧ (HostMayRead s 0x70008 →
        (canDraw s = true → Yields .rngDataRead s fun t => t.rng = { s.rng with requests := s.rng.requests + 1 }
          ∧ ∃ v, v < 2 ^ 64 ∧ t.out = .regData 0x70008 v :: s.out)
        ∧ (s.rng.failed = true → Yields .rngDataRead s fun t => t.out = ones :: s.out
            ∧ t.rng = { s.rng with readFail := sat32 (s.rng.readFail + 1) })
        ∧ (canDraw s = false → s.rng.failed = false → exec .rngDataRead s =
            .next { s with rng := { s.rng with heldReads := s.rng.heldReads + 1 } }))
    ∧ (alive s = true → 0 < s.rng.heldReads → Yields .rngReadTimeout s fun t => t.out = ones :: s.out
        ∧ t.rng = { s.rng with heldReads := s.rng.heldReads - 1, readFail := sat32 (s.rng.readFail + 1) })
    ∧ ∀ id w, Waits s id 0x20 w →
        let n := dDstLen w.desc
        (n = 0 ∨ 65536 < n → EndsWork (.random id) s w .paramInvalid 0 [] fun t => t.rng = s.rng)
        ∧ (1 ≤ n → n ≤ 65536 → canDraw s = false → EndsWork (.random id) s w .rngUnavailable 0 [] fun t => t.rng = s.rng)
        ∧ (1 ≤ n → n ≤ 65536 → canDraw s = true → ∃ b : Bytes, b.length = n ∧ EndsWork (.random id) s w .ok 0 b fun t =>
            t.rng = { s.rng with requests := s.rng.requests + 1 })

/-- R327, R328, R329, R332, R333, R334, R336: certified draws. DRAW ends at the first order of R329 that it fails and
otherwise is admitted under its accord; its commitment is sealed before the outcome is known outside, under a number
of its own; it is revealed only once the departure of the commitment is durable, with the outcome committed;
DRAW_FETCH writes one of the last 64 outputs again. -/
def Obligations.CertifiedDraws : Prop :=
  ∀ (s : State),
    (∀ id w, canNumber s = true → Waits s id 0x21 w →
      let b := w.input
      let o := w.func s
      let same := fun (t : State) => t.rng = s.rng
      let room := spMode b < 1 ∨ 3 < spMode b ∨ 64 + 8 * spCount b ≤ dDstLen w.desc
      (1 ≤ spMode b → spMode b ≤ 3 → dDstLen w.desc < 64 + 8 * spCount b → EndsWork (.draw id) s w .badDescriptor 0 [] same)
      ∧ (room → specOk b = false → EndsWork (.draw id) s w .paramInvalid 0 [] same)
      ∧ (room → specOk b = true →
        (spGame b ≠ 0 → findGame s o (spGame b) = none → EndsWork (.draw id) s w .notFound 0 [] same)
        ∧ (spGame b = 0 ∨ (findGame s o (spGame b)).isSome = true →
          (drawRefused s o b = true → EndsWork (.draw id) s w .policy 0 [] same)
          ∧ (drawRefused s o b = false → s.rng.failed = true → EndsWork (.draw id) s w .rngUnavailable 0 [] same)
          ∧ ∀ a, drawRefused s o b = false → s.rng.failed = false → HasAccord s w o 0x21 a → Yields (.draw id) s fun t =>
            w ∉ t.adm.work ∧ t.adm.nextSeq = s.adm.nextSeq + 1 ∧ (∀ x ∈ t.keys.accords, x.no ≠ a.no)
            ∧ ∃ d, t.rng.draws = s.rng.draws ++ [d] ∧ d.owner = o ∧ d.spec = b ∧ d.stamp = nextStamp s ∧ d.commit = none)))
    ∧ (∀ d, inService s = true → s.rng.ready = true → s.rng.failed = false → 0 < s.rng.pool + s.rng.drawSeeds →
        canNumber s = true → s.rng.draws.find? (fun d => d.commit.isNone) = some d → Yields .drawCommit s fun t =>
        match drawOutcome s.free d.spec with
        | none => ∀ x ∈ t.rng.draws, x.stamp.seq ≠ d.stamp.seq
        | some (l, salt, n) => t.adm.nextSeq = s.adm.nextSeq + 1
            ∧ { d with commit := some { seq := s.adm.nextSeq, dep := s.dep.number, outcome := l, salt := salt } } ∈ t.rng.draws
            ∧ Sealed t (nextStamp s)
                { subject := drawId d, arg := digest8 d.spec, arg2 := d.stamp.seq, kind := 0x08, owner := d.owner
                  arg3 := spMode d.spec + 256 * rd d.spec 9 1 + 65536 * seedsFor n
                  ext := some (digestBytes (Config.sha384 (outcomeBytes l ++ salt)) ++ le 8 l.length ++ zeros 8) })
    ∧ (inService s = true →
        (∀ d c, (s.rng.draws.findSome? fun d => (d.commit.filter (revealReady s)).map fun c => (d, c)) = some (d, c) →
          ringTakes (ringOf s d.work.ring) d.work.gen = true →
          let out := le 8 (drawId d) ++ le 8 c.seq ++ le 8 c.dep ++ le 8 c.outcome.length ++ c.salt ++ outcomeBytes c.outcome
          Yields .drawReveal s fun t => (∀ x ∈ t.rng.draws, x.stamp.seq ≠ d.stamp.seq)
            ∧ (d.owner, d.stamp.seq, out) ∈ t.rng.revealed ∧ Wrote s t d.work out
            ∧ Completed t d.work .ok 0 (some { d.stamp with dep := c.dep })
            ∧ (canNumber s = true → s.adm.ends = [] → Sealed t (nextStamp s)
                { subject := drawId d, arg := c.seq, arg2 := d.stamp.seq, kind := 0x09, owner := d.owner
                  ext := some (c.salt ++ le 8 c.dep ++ zeros 24) }))
        ∧ ((∀ d ∈ s.rng.draws, ∀ c ∈ d.commit, revealReady s c = false) → exec .drawReveal s = .next s))
    ∧ ∀ id w, Waits s id 0x22 w →
        (∀ b, s.rng.revealed.find? (fun r => r.1 == w.func s && r.2.1 == rd w.input 0 8) = some (w.func s, rd w.input 0 8, b) →
          b.length ≤ dDstLen w.desc → EndsWork (.drawFetch id) s w .ok 0 b fun t => t.rng = s.rng)
        ∧ ((∀ r ∈ s.rng.revealed, ¬(r.1 = w.func s ∧ r.2.1 = rd w.input 0 8)) →
            EndsWork (.drawFetch id) s w .notFound 0 [] fun t => t.rng = s.rng)

/-- R330, R331: the outcome of a draw, whatever the words of the generator. A selection or a permutation has exactly
its count of values, all different and all in range; integers have their count and lie between the two bounds. -/
def Obligations.DrawOutcomes : Prop :=
  ∀ (base : Nat) (b : Bytes) (l : List Nat) (salt : Bytes) (n : Nat), specOk b = true → drawOutcome base b = some (l, salt, n) →
    salt.length = 32 ∧ n ≤ 2 ^ 20 ∧ l.length = spCount b
    ∧ (spMode b = 3 → ∀ x ∈ l, spLow b ≤ x ∧ x ≤ spHigh b)
    ∧ (spMode b = 1 ∨ spMode b = 2 → l.Nodup ∧ ∀ x ∈ l, spLow b ≤ x ∧ x < spLow b + spN b)
    ∧ (spMode b = 1 → spSort b = true → l.Pairwise (· < ·))

/-- R341, R346, R347, R349, R350, R352, R354, R355, R364, R365: the custody bus while no operation runs. A card in an
enabled slot is powered and identified by GO_IDLE, SEND_VDD until READY, ALL_SEND_ID, SET_ADDR and SEND_LIFE. A failed
CRC and a timeout are counted and the step is repeated. The end of busy reads the mode back or frees the record of the
committed write. A card that never becomes READY loses power; a removed card leaves its slot, and the record of a
write that was under way is unconfirmed. -/
def Obligations.CardBus : Prop :=
  ∀ (s : State) (n : Nat), s.cards.ops = [] →
    let sends := fun (t : State) (i a : Nat) => t.out = Out.cardCmd n i a :: s.out
    let at0 := fun (st : CardStep) (rest : List (Nat × CardStep)) (phase : Nat) =>
      busOn s = true ∧ s.cards.bus = (n, st) :: rest ∧ s.cards.phase = phase ∧ s.cards.blocks = [] ∧ s.sys.pwrFail = false
    let plain := fun (st : CardStep) => ∃ width, st = .switchMode 0 width
    let repeats := fun (st : CardStep) (rest : List (Nat × CardStep)) (t : State) => t.cards.bus = (n, st) :: rest
      ∧ t.cards.repeated = true ∧ sends t (stepCommand s n st).1 (stepCommand s n st).2
    (n < 8 → s.cards.slots.at? n = none →
      (busOn s = true → s.cards.slotEn.getLsbD n = true → s.cards.bus = [] → Yields (.cardDetected n) s fun t =>
        (cardOf t n).powered = true ∧ t.cards.bus = [(n, .sendVdd)]
        ∧ t.out = .cardCmd n 1 (if s.cards.v33 then 2 else 1) :: .cardCmd n 0 0 :: s.out)
      ∧ (busOn s = false ∨ s.cards.slotEn.getLsbD n = false → Yields (.cardDetected n) s fun t =>
          t.cards.slots.at? n = some {} ∧ t.cards.bus = s.cards.bus ∧ t.out = s.out))
    ∧ ((s.cards.slots.at? n).isSome = true → Yields (.cardRemoved n) s fun t => t.cards.slots.at? n = none
        ∧ (∀ txn place b rest, busOn s = true → s.cards.bus = (n, .shareWrite txn place b) :: rest →
            (cardOf s n).identified = true →
            (s.cards.phase ≠ 0 → ∀ r ∈ s.cards.records, r.card = (cardOf s n).id → r.txn = txn →
              { r with unconfirmed := true } ∈ t.cards.records)
            ∧ (s.cards.phase = 0 → ∀ r ∈ t.cards.records, ¬(r.card = (cardOf s n).id ∧ r.txn = txn))))
    ∧ (∀ p rest, at0 .sendVdd rest 0 →
        (p.getLsbD 31 = true → rest = [] → Yields (.cardResponse n (.short 1 p true)) s fun t =>
          (cardOf t n).state = 1 ∧ t.cards.bus = [(n, .allSendId)] ∧ sends t 2 0)
        ∧ (p.getLsbD 31 = false → Yields (.cardResponse n (.short 1 p true)) s fun t =>
            t.cards.bus = s.cards.bus ∧ sends t 1 (if s.cards.v33 then 2 else 1))
        ∧ Yields (.cardReadyTimeout n) s fun t => t.cards.slots.at? n = some {} ∧ ∀ q ∈ t.cards.bus, q.1 ≠ n)
    ∧ (∀ p, at0 .allSendId [] 0 → slotWith s (cardIdOf p) = none → Yields (.cardResponse n (.long p true)) s fun t =>
        (cardOf t n).id = cardIdOf p ∧ (cardOf t n).state = 2 ∧ t.cards.bus = [(n, .setAddr)] ∧ sends t 3 ((n + 1) * 2 ^ 16))
    ∧ (∀ p, at0 .sendLife [] 0 → (cardOf s n).identified = true → s.cards.regiven = none →
        Yields (.cardResponse n (.long p true)) s fun t => t.cards.bus = [] ∧ cardOf t n = lifeRead p (cardOf s n))
    ∧ (∀ st rest, plain st →
        (at0 st rest 0 → s.cards.repeated = false →
          (∀ i p, Yields (.cardResponse n (.short i p false)) s fun t => t.cards.crcErr = sat32 (s.cards.crcErr + 1)
            ∧ repeats st rest t)
          ∧ Yields (.cardResponseTimeout n) s fun t => t.cards.timeouts = sat32 (s.cards.timeouts + 1) ∧ repeats st rest t)
        ∧ (at0 st rest 2 → s.cards.repeated = false →
            Yields (.cardBusyTimeout n) s fun t => t.cards.timeouts = sat32 (s.cards.timeouts + 1) ∧ repeats st rest t))
    ∧ (∀ rest, at0 .fetch rest 1 → s.cards.repeated = false → ∀ b, Yields (.cardDataBlock n b false) s fun t =>
        t.cards.crcErr = sat32 (s.cards.crcErr + 1) ∧ repeats .fetch rest t)
    ∧ (∀ speed width, at0 (.switchMode speed width) [] 2 → Yields (.cardBusyEnd n) s fun t =>
        t.cards.bus = [(n, .readMode speed width)] ∧ sends t 8 0)
    ∧ (∀ txn place b, at0 (.shareWrite txn place b) [] 2 → Yields (.cardBusyEnd n) s fun t =>
        (cardOf t n).lastTxn = txn ∧ (cardOf t n).lastSlot = place
        ∧ ∀ r ∈ t.cards.records, ¬(r.card = (cardOf s n).id ∧ r.txn = txn))

/-- R250, R252, R358, R359, R360, R363, R365, R370: operations of the custody bus. ACCORD_ADD counts a signature that
it carries, or asks the named card for one. A request that waits is polled; the signature that the card answers with
is counted; a card that is gone ends its operation NOT_FOUND; and the accord's window or the ceremony's deadline ends
it ACCORD_REQUIRED with DETAIL 6. A card removed while it writes ends its ceremony CARD_UNCERTAIN. -/
def Obligations.CardOps : Prop :=
  ∀ (s : State) (n : Nat),
    (∀ id w a, let b := w.input; let card := slice b 16 16;
        Waits s id 0x5B w → accordFor s (w.func s) (rd b 0 2) = some a → allZero b 2 14 = true →
        (cardKeyFor s a card).isSome = true →
        (allZero b 32 64 = false → slotWith s card = none → Yields (.accordAdd id) s fun t =>
          let r := (addSignature a card (slice b 32 64) s).1
          Completed t w r.1 r.2 w.stamp ∧ w ∉ t.adm.work
          ∧ (r.1 = .ok → ∀ x ∈ t.keys.accords, x.no = a.no → card ∈ x.signers))
        ∧ (allZero b 32 64 = true → slotWith s card = none → EndsWork (.accordAdd id) s w .notFound 0 [] fun t => t.keys = s.keys)
        ∧ (allZero b 32 64 = true → slotWith s card = some n → (cardOf s n).identified = true → (cardOf s n).id = card →
            cardExpired s (cardOf s n) = false → (cardOf s n).pinBlocked = false → s.cards.ops = [] → s.cards.bus = [] →
            Yields (.accordAdd id) s fun t => w ∉ t.adm.work ∧ (∃ q, (n, CardStep.request q) ∈ t.cards.bus)
              ∧ ∃ o, t.cards.ops = [o] ∧ o.task = .sign a.no ∧ o.work = w ∧ o.deadline = a.openT + a.windowS * 10 ^ 9))
    ∧ (∀ id w, Waits s id 0x5B w → accordFor s (w.func s) (rd w.input 0 2) = none →
        EndsWork (.accordAdd id) s w .notFound 0 [] fun t => t.keys = s.keys)
    ∧ (∀ o p no, busOn s = true → s.cards.ops = [o] → o.task = .sign no → o.parts = [p] → partOn s n = some (o, p) →
        ringTakes (ringOf s o.work.ring) o.work.gen = true →
        let ends := fun (t : State) (st : Status) (d : Nat) => t.cards.ops = [] ∧ Completed t o.work st d o.work.stamp
        ((cardOf s n).identified = false → Yields (.cardPoll n) s fun t => ends t .notFound 0)
        ∧ ((cardOf s n).identified = true → (cardOf s n).id = p.card → p.stage = 3 →
            (s.cards.bus = [] → Yields (.cardPoll n) s fun t => t.cards.bus = [(n, .sendStatus)]
              ∧ t.out = .cardCmd n 13 ((n + 1) * 2 ^ 16) :: s.out)
            ∧ Yields (.cardRequestDeadline n) s fun t => ends t .accordRequired 6 ∧ (n, CardStep.cancelRequest) ∈ t.cards.bus)
        ∧ (∀ a b, s.cards.bus = [(n, .fetch)] → s.cards.phase = 1 →
            s.keys.accords.find? (fun x => x.no == no) = some a → cardExpired s (cardOf s n) = false →
            Yields (.cardDataBlock n b true) s fun t =>
              let r := (addSignature a p.card (slice b 0 64) s).1
              ends t r.1 r.2 ∧ (r.1 = .ok → ∀ x ∈ t.keys.accords, x.no = a.no → p.card ∈ x.signers)))
    ∧ (∀ o, busOn s = true → s.cards.ops = [o] → (∀ no, o.task ≠ .sign no) → canNumber s = true → s.adm.ends = [] →
        ringTakes (ringOf s o.work.ring) o.work.gen = true →
        Yields .ceremonyTimeout s (fun t => t.cards.ops = [] ∧ t.adm.nextSeq = s.adm.nextSeq + 1
          ∧ Completed t o.work .accordRequired 6 (some (nextStamp (advance o.deadline s)))
          ∧ Sealed t (nextStamp (advance o.deadline s)) (serviceLeaf o.work o.owner .accordRequired 6))
        ∧ ∀ p txn place b rest, partOn s n = some (o, p) → (s.cards.slots.at? n).isSome = true →
            (cardOf s n).identified = true → s.cards.bus = (n, .shareWrite txn place b) :: rest → s.cards.phase ≠ 0 →
            Yields (.cardRemoved n) s fun t => t.cards.ops = [] ∧ Completed t o.work .cardUncertain 0 (some (nextStamp s)))

/-- R367, R368, R369, R370, R371: a share ceremony whose body, cards and accord pass takes its number and its accord,
and runs on the named cards within the owner's window, opening a session with the first one; a card that is missing,
or unfit, ends it with the status that R369 gives. -/
def Obligations.ShareCommands : Prop :=
  ∀ (s : State) (id : WorkId) (w : Work) (a : Accord),
    let b := w.input
    let o := rd b 0 1
    let known := fun (cards : List Bytes) => s.cards.ops = [] ∧ s.cards.bus = []
      ∧ ∀ x ∈ cards, ∀ n, slotWith s x = some n → (cardOf s n).identified = true ∧ (cardOf s n).id = x
    let opened := fun (task : CardTask) (cards : List Bytes) (t : State) =>
      t.adm.nextSeq = s.adm.nextSeq + 1 ∧ (∀ x ∈ t.keys.accords, x.no ≠ a.no) ∧ w ∉ t.adm.work
        ∧ (∀ x n, cards.head? = some x → slotWith s x = some n → ∃ q, (n, CardStep.sessionOpen q) ∈ t.cards.bus)
        ∧ ∃ p, t.cards.ops = [p] ∧ p.task = task ∧ p.owner = o ∧ p.work = { w with stamp := some (nextStamp s) }
          ∧ p.deadline = s.clk.run + (ownerOf s o).windowS * 10 ^ 9 ∧ p.parts.map (·.card) = cards
    let same := fun (t : State) => t.keys = s.keys ∧ t.adm.nextSeq = s.adm.nextSeq
    canNumber s = true → 1 ≤ o → o ≤ 63 →
    (∀ k, let n := rd b 2 1; let cards := bodyCards b 8 n;
        Waits s id 0x75 w → 2 ≤ rd b 1 1 → rd b 1 1 ≤ n → n ≤ 8 → rd b 3 1 = 0 → b.length = 8 + 16 * n →
        distinct cards = true → checkKey o (rd b 4 4) s = s → usableKey s o (rd b 4 4) = some k → aVerb k.attr = verbTransport →
        aExport k.attr = true →
        let err := cardsErr s o (cards.map fun c => (c, true, true, true))
        (∀ st, err = some st → EndsWork (.shareOut id) s w st 0 [] same)
        ∧ (err = none → known cards → HasAccord s w o 0x75 a → Yields (.shareOut id) s (opened .shareOut cards)))
    ∧ (let t := rd b 1 1; let cards := bodyCards b 32 t; let attr : W64 := BitVec.ofNat 64 (rd b 24 8);
        Waits s id 0x76 w → 2 ≤ t → t ≤ 8 → allZero b 2 6 = true → b.length = 32 + 16 * t → distinct cards = true →
        aVerb attr = verbTransport → aKlen attr = 32 → aOwner attr = o → ownerSlots s o < (ownerOf s o).quota →
        let err := cardsErr s o (cards.map fun c => (c, false, false, true))
        (∀ st, err = some st → EndsWork (.shareIn id) s w st 0 [] same)
        ∧ (err = none → known cards → HasAccord s w o 0x76 a → Yields (.shareIn id) s (opened .shareIn cards)))
    ∧ (let src := slice b 24 16; let dst := slice b 40 16;
        Waits s id 0x77 w → allZero b 1 7 = true → b.length = 56 → src ≠ dst →
        let err := cardsErr s o [(src, true, false, false), (dst, true, true, true)]
        (∀ st, err = some st → EndsWork (.reshare id) s w st 0 [] same)
        ∧ (err = none → known [src, dst] → HasAccord s w o 0x77 a → Yields (.reshare id) s (opened .reshare [src, dst])))
    ∧ (let card := slice b 24 16;
        Waits s id 0x78 w → allZero b 1 7 = true → b.length = 40 →
        let err := cardsErr s o [(card, true, false, true)]
        (∀ st, err = some st → EndsWork (.shareErase id) s w st 0 [] same)
        ∧ (err = none → known [card] → HasAccord s w o 0x78 a → Yields (.shareErase id) s (opened .shareErase [card])))

/-- R410, R411, R412, R413, R414, R415, R421, R422, R424, R425, R426: the life cycle, the device certificate,
challenges, tokens and code keys. A token check consumes the challenge and counts a refusal; DEBUG_OPEN opens the
token's scope under R425 and locks owner keys in PRODUCTION; LC_TRANSITION answers the rows of R414 in order, or
programs the intent of TARGET; the rest of a transition programs the copies and erases user flash. JTAG reaches
boundary scan always, and a core or an engine only in an open scope; what that access does the manual does not give. -/
def Obligations.LifeCycleCommands : Prop :=
  ∀ (s : State) (id : WorkId) (w : Work),
    (Waits s id 0x79 w → certMode w = 0 →
      (∀ c, s.life.cert = some c → EndsWork (.deviceCertRead id) s w .ok 0 c fun t => t.life = s.life)
      ∧ (s.life.cert = none → Yields (.deviceCertRead id) s fun t => ∃ c, Completed t w .ok 0 w.stamp ∧ Wrote s t w c
          ∧ c.length = 2088 ∧ slice c 8 8 = le 8 s.otp.deviceId.toNat ∧ t.life = s.life))
    ∧ (Waits s id 0x79 w → certMode w = 1 →
        (w.src.length = certLen → ownCert s w.src = true →
          EndsWork (.deviceCertInstall id) s w .ok 0 [] fun t => t.life = { s.life with cert := some w.src })
        ∧ (w.src.length ≠ certLen ∨ ownCert s w.src = false →
            EndsWork (.deviceCertInstall id) s w .authFail 0 [] fun t => t.life = s.life))
    ∧ (Waits s id 0x7A w → let p := rd w.input 0 1;
        (p = 0 ∨ 2 < p → EndsWork (.authChallenge id) s w .paramInvalid 0 [] fun t => t.life = s.life)
        ∧ (1 ≤ p → p ≤ 2 → canDraw s = true → Yields (.authChallenge id) s fun t => ∃ c, Completed t w .ok 0 w.stamp
            ∧ Wrote s t w c ∧ t.life = { s.life with challenge := some c } ∧ c.length = 128 ∧ rd c 56 1 = p
            ∧ rd c 57 1 = (if p = 2 then rd w.input 1 1 else 0) ∧ rd c 64 8 = s.clk.run % 2 ^ 64))
    ∧ (Waits s id 0x7B w → let e := tokenErr s 1 w.src; let p := debugPolicy s;
        let counted := fun (t : State) => t.life.challenge = none ∧ t.life.scope = s.life.scope ∧ t.keys = s.keys
          ∧ t.life.refused = min 255 (s.life.refused + 1)
        (e ≠ 0 → EndsWork (.debugOpen id) s w .transitionRefused e [] counted)
        ∧ (e = 0 → p ≠ 0 → EndsWork (.debugOpen id) s w .policy p [] counted)
        ∧ (e = 0 → p = 0 → EndsWork (.debugOpen id) s w .ok 0 [] fun t => t.life.challenge = none
            ∧ t.life.scope = s.life.scope ||| BitVec.ofNat 2 (rd w.src 74 2)
            ∧ (s.life.decided = 2 → t.keys.locked = true ∧ t.vm.locked = true ∧ t.keys.cache = [])
            ∧ (s.life.decided ≠ 2 → t.keys = s.keys)))
    ∧ (canNumber s = true → Waits s id 0x7C w → let k := w.src.drop 128; let target := rd k 73 1; let e := tokenErr s 2 k;
        let stays := fun (t : State) => t.life.challenge = none ∧ t.life.settling = s.life.settling
          ∧ t.life.pendingTo = s.life.pendingTo
        (e ≠ 0 → EndsWork (.lcTransition id) s w .transitionRefused e [] fun t => stays t
          ∧ t.life.refused = min 255 (s.life.refused + 1))
        ∧ (e = 0 → targetOk s target = false → EndsWork (.lcTransition id) s w .transitionRefused 3 [] stays)
        ∧ (e = 0 → targetOk s target = true → transitionBusy s = true →
            EndsWork (.lcTransition id) s w .transitionRefused 4 [] stays)
        ∧ (e = 0 → targetOk s target = true → transitionBusy s = false → (target = 2 → canDraw s = true) →
            (target = 3 → enrolledOwners s = []) → Yields (.lcTransition id) s fun t => t.life.challenge = none
              ∧ t.life.settling = true ∧ t.life.pendingTo = target
              ∧ intentOf t.life = intentOf (programIntent target s.life) ∧ (target = 3 → t.sys.state = .zeroised)))
    ∧ (∀ a, let b := w.src; let f := rd b 1 1;
        canNumber s = true → Waits s id 0x7D w → codeKeyFormOk b = true → 1 ≤ f → f ≤ 63 → (ownerOf s f).enrolled ≠ 0 →
        regulatorMissing s b = false → HasAccord s w f 0x7D a → Yields (.codeKeySet id) s fun t => CeremonyDone s t w a .ok 0
          ∧ t.life.codeKeys.atD f (none, none) = match rd b 0 1 with
            | 0 => (some (codeKeyOf b), (s.life.codeKeys.atD f (none, none)).2)
            | 1 => ((s.life.codeKeys.atD f (none, none)).1, some (codeKeyOf b))
            | _ => ((s.life.codeKeys.atD f (none, none)).1, none))
    ∧ (∀ c, s.life.challenge = some c → exec .challengeExpiry s = .next (if rd c 64 8 + 600 * 10 ^ 9 ≤ s.clk.run then
        { s with life := { s.life with challenge := none } } else s))
    ∧ (alive s = true → s.life.settling = true → Yields .transitionComplete s fun t => t.life.settling = false
        ∧ t.life.copies = programCopies s.life.pendingTo s.life.copies ∧ t.life.cert = none ∧ t.life.fwSlots = []
        ∧ t.life.codeKeys = [] ∧ t.flash.counters = [] ∧ t.flash.wrapped = [] ∧ t.flash.salt = none
        ∧ (s.life.pendingTo = 2 → t.life.doneA = true ∨ t.life.doneB = true))
    ∧ (∀ b, s.sys.state ≠ .off → exec (.jtagAccess (.boundaryScan b)) s = .next { s with out := .jtag b :: s.out })
    ∧ (∀ n, ¬(alive s = true ∧ s.life.scope.getLsbD 0 = true) → exec (.jtagAccess (.supervisorCore n)) s = .next s)
    ∧ (∀ e, ¬(alive s = true ∧ s.life.scope.getLsbD 1 = true) → exec (.jtagAccess (.engine e)) s = .next s)
    ∧ (alive s = true → s.life.scope.getLsbD 0 = true → ∀ n,
        exec (.jtagAccess (.supervisorCore n)) s = .refused .jtagDebugAccess)
    ∧ (alive s = true → s.life.scope.getLsbD 1 = true → ∀ e,
        exec (.jtagAccess (.engine e)) s = .refused .jtagDebugAccess)

/-- R429, R434, R435, R436, R438, R443, R445, R447, R448, R449, R451, R536: the tamper logic. A sample that leaves its
band fires its source with the class in force: the flag is set, CLOSE closes and ZEROISE zeroises. A mesh loop fires
at the second differing measurement in a row, a lasting split fires source 49. TAMPER_ENROL fixes the enrolment
record. A rail below its absolute limit is power loss or freezes the device until the rail returns or stays low.
Policy writes and W1C flags take effect as R449 and R451 say. -/
def Obligations.TamperLogic : Prop :=
  ∀ (s : State),
    let flag := fun (t : State) (n : Nat) => t.tamper.flags.getLsbD n = true
    (∀ (now : Nat) (x : SourceSample), alive s = true → x.src ≤ 48 → sourceUsed s x.src = true →
      let b := sampleBand s x
      let fires := fun (t : State) (cls : Nat) => flag t x.src ∧ t.tamper.last = x.src
        ∧ t.tamper.fired = sat32 (s.tamper.fired + 1) ∧ (cls = 2 → s.sys.state ≠ .zeroised → t.sys.close = true) ∧ (cls = 3 → t.sys.state = .zeroised)
      Yields (.tamperCycle now [x]) s fun t => t.tamper.active.getLsbD x.src = decide (b ≠ 0)
        ∧ (s.tamper.bands.atD x.src 0 < b → fires t (classOf s x.src (b == 1)) ∧ (x.src = 43 → t.clk.refPresent = false))
        ∧ (b ≤ s.tamper.bands.atD x.src 0 → t.tamper.flags = s.tamper.flags ∧ t.tamper.fired = s.tamper.fired
            ∧ t.sys = s.sys))
    ∧ (∀ loop cls, alive s = true → loop < 16 → cls < 8 → (loopOf s loop).1 ≠ 0 →
        let m := s.tamper.misses.atD loop 0
        (cls = (loopOf s loop).2.1 → Yields (.meshMeasure loop cls) s fun t => t.tamper.misses.atD loop 0 = 0
          ∧ t.tamper.flags = s.tamper.flags)
        ∧ (cls ≠ (loopOf s loop).2.1 → Yields (.meshMeasure loop cls) s fun t => t.tamper.misses.atD loop 0 = m + 1
          ∧ (m ≠ 1 → t.tamper.flags = s.tamper.flags) ∧ (m = 1 → flag t loop)))
    ∧ (∀ src, alive s = true → isEnvironmental src = true → s.tamper.split.getLsbD src = true →
        Yields (.detectorSplit src) s fun t => flag t 49 ∧ t.tamper.last = 49)
    ∧ (∀ id meas open4 w, let b := w.input;
        Waits s id 0x7E w → (∀ n, n < 16 → enrolMode b n ≤ 2) → enrolMask b ≤ 0x0F → (∀ p ∈ s.adm.owners, p.2.enrolled = 0) →
        (enrolErr b meas open4 ≠ 0 →
          EndsWork (.tamperEnrol id meas open4) s w .paramInvalid (enrolErr b meas open4) [] fun t => t.tamper = s.tamper)
        ∧ (enrolErr b meas open4 = 0 →
          EndsWork (.tamperEnrol id meas open4) s w .ok 0 (enrolOutput b meas) fun t => t.tamper.enr = t.flash.mesh
          ∧ t.otp.meshEnr = (s.otp.meshEnr || s.life.decided == 2)
          ∧ ∃ r, t.flash.mesh = some r ∧ r.caseMask.toNat = enrolMask b
            ∧ r.count = ((s.flash.mesh.map (·.count)).getD 0) + 1
            ∧ ∀ k, k < 16 → r.loops[k]? = some (enrolMode b k, (measOf meas k).cls, (measOf meas k).delay)))
    ∧ (∀ src warned, alive s = true → isRail src = true → sourceUsed s src = true →
        (s.sys.pwrFail = true → warned = true → Yields (.railUndervoltage src warned) s fun t => t.sys.state = .off
          ∧ (src < 34 → t.tamper.flags = s.tamper.flags))
        ∧ (s.sys.pwrFail = false ∨ warned = false → Yields (.railUndervoltage src warned) s fun t => t.sys.inReset = true
          ∧ t.tamper.frozen = some src ∧ t.keys.slots = [] ∧ t.keys.wrapRoot = none ∧ t.eng.threads = []
          ∧ t.sys.state = s.sys.state))
    ∧ (∀ src, s.sys.state ≠ .off → s.tamper.frozen = some src → isRail src = true →
        (classOf s src false = 3 → Yields (.railGlitchReturn src) s fun t => flag t src ∧ t.sys.state = .zeroised
          ∧ t.tamper.frozen = none)
        ∧ (classOf s src false ≠ 3 → Yields (.railGlitchReturn src) s fun t => flag t src ∧ t.sys.state = .booting
          ∧ t.sys.cause = 3 ∧ t.sys.warm = true ∧ t.sys.bootStep = 1)
        ∧ Yields (.railLowTimeout src) s fun t => t.sys.state = .off ∧ t.sys.rails = false
          ∧ (src < 34 → t.tamper.flags = s.tamper.flags))
    ∧ (∀ (reg : Nat) (v : W32), reg < 8 → HostMayWrite s (0xB0028 + 4 * reg) →
        (policyErr s reg v ≠ 0 → Yields (.tamperPolicyWrite reg v) s fun t =>
          t.tamper = { s.tamper with err := policyErr s reg v })
        ∧ (policyErr s reg v = 0 → Yields (.tamperPolicyWrite reg v) s fun t =>
          ∀ n, policyField t n = if n / 8 = reg then fieldOfWrite v (n % 8) else policyField s n))
    ∧ (∀ rec, HostMayWrite s 0xB0004 → Yields (.tamperPolicyLock rec) s fun t =>
        t.tamper = if s.tamper.locked then s.tamper else { s.tamper with locked := true, alertRecord := rec })
    ∧ (∀ v, hostOpen s = true → grants (ruleOf s 11) 3 .write = true → Yields (.tamperFlagsClear v) s fun t =>
        ∀ n, n < 64 → t.tamper.flags.getLsbD n =
          (s.tamper.flags.getLsbD n && !(v.getLsbD n && !s.tamper.active.getLsbD n)))

/-- R455, R457, R460, R461, R497, R530, R534: power and resets. Good rails with released resets, and the release of
the last reset, begin the start-up at step 1; power loss and an asserted reset lose every volatile register and keep
OTP and user flash. A step that ends well leads to the next; a failed test of the PUF, the anchor or the memories
leads to HELD with its step and DETAIL; a pair without its done bit leads to ZEROISED; the last step leads to
RESTORING, or to READY or DEGRADED. -/
def Obligations.PowerAndStartup : Prop :=
  ∀ (s : State),
    let begun := fun (t : State) (cause : Nat) (warm : Bool) => t.sys.state = .booting ∧ t.sys.bootStep = 1
      ∧ t.sys.inReset = false ∧ t.sys.cause = cause ∧ t.sys.warm = warm ∧ t.sys.pwrFailHold = s.sys.pwrFail
    let kept := fun (t : State) => t.otp = s.otp ∧ t.flash.mirror = s.flash.mirror ∧ t.flash.salt = s.flash.salt
      ∧ t.flash.wrapped = s.flash.wrapped ∧ t.life.fwSlots = s.life.fwSlots ∧ t.rings.tbl = [] ∧ t.adm.games = []
      ∧ t.vm.tickets = [] ∧ t.keys.slots = [] ∧ t.eng.threads = [] ∧ t.rng.ready = false
    (∀ straps, s.sys.rails = false → Yields (.powerGood straps) s fun t => t.sys.rails = true ∧ t.pkg.straps = straps
      ∧ (s.sys.porst = true ∨ s.sys.warmPin = true → t.sys.state = s.sys.state)
      ∧ (s.sys.porst = false → s.sys.warmPin = false → begun t 1 false))
    ∧ Yields .powerLoss s (fun t => t.sys.state = .off ∧ t.sys.rails = false ∧ t.tamper.flags = 0 ∧ kept t)
    ∧ (∀ warm, Yields (.resetAssert warm) s fun t => (if warm then t.sys.warmPin else t.sys.porst) = true
        ∧ (s.sys.rails = true → t.sys.state = .booting ∧ t.sys.inReset = true ∧ t.tamper.flags = s.tamper.flags ∧ kept t))
    ∧ (∀ ref v33, s.sys.porst = true ∨ s.sys.warmPin = true → s.sys.rails = true → s.sys.inReset = true →
        s.tamper.frozen = none → Yields (.resetRelease ref v33) s fun t =>
          begun t (if s.sys.warmPin && !s.sys.porst then 2 else 1) (s.sys.warmPin && !s.sys.porst)
          ∧ t.clk.refPresent = ref ∧ t.cards.v33 = v33)
    ∧ (alive s = true → s.sys.state = .booting → s.sys.pwrFailHold = true → s.sys.pwrFail = false →
        exec .pwrFailHoldEnd s = .next { s with sys := { s.sys with pwrFailHold := false } })
    ∧ (∀ (now : Nat) (r : StepReport), stepCanEnd s = true →
        let held := fun (t : State) (step unit detail : Nat) => t.sys.state = .held ∧ t.sys.heldStep = step
          ∧ t.sys.heldUnit = unit ∧ t.sys.heldDetail = detail ∧ t.keys.slots = [] ∧ t.tamper.flags.getLsbD 52 = true
        (s.sys.bootStep = 1 → Yields (.startupStepEnd now r) s fun t => t.sys.bootStep = 2 ∧ t.sys.state = .booting)
        ∧ (s.sys.bootStep = 2 → s.otp.pairsDone < s.otp.pairsUsed → Yields (.startupStepEnd now r) s fun t =>
            t.sys.state = .zeroised ∧ t.keys.zeroStep = 1)
        ∧ (s.sys.bootStep = 2 → s.otp.pairsUsed ≤ s.otp.pairsDone → Yields (.startupStepEnd now r) s fun t =>
            t.sys.bootStep = 3 ∧ t.sys.state = .booting)
        ∧ (s.sys.bootStep = 3 → r.failed = none → intentOf s.life = none → Yields (.startupStepEnd now r) s fun t =>
            t.sys.bootStep = 4 ∧ t.life.decided = (voteOf s.life.copies).getD 2
            ∧ t.life.invalid = (voteOf s.life.copies).isNone)
        ∧ (s.sys.bootStep = 4 → r.failed.isSome = true → Yields (.startupStepEnd now r) s fun t => held t 4 0 11)
        ∧ (s.sys.bootStep = 4 → r.failed = none → Yields (.startupStepEnd now r) s fun t =>
            t.sys.bootStep = 5 ∧ t.keys.mirrorKey = some mirrorKeyNow ∧ (slotOf t 0).state = 1)
        ∧ (s.sys.bootStep = 7 → Yields (.startupStepEnd now r) s fun t =>
            let row := (meshRow r.mesh s).1
            (row ≠ 3 → row ≠ 5 → t.sys.bootStep = 8 ∧ t.sys.state = .booting ∧ (row = 4 → t.tamper.enr = meshValid s))
            ∧ (row = 3 ∨ row = 5 → t.tamper.flags.getLsbD 50 = true ∧ t.sys.bootStep = 7))
        ∧ (∀ f, r.failed = some f → (s.sys.bootStep = 8 ∨ s.sys.bootStep = 0xA ∨ s.sys.bootStep = 0xC) →
            Yields (.startupStepEnd now r) s fun t => held t s.sys.bootStep f.1 f.2)
        ∧ (s.sys.bootStep = 9 → r.dieFail &&& presentDies s ≠ 0 → r.dieFail &&& presentDies s ≠ presentDies s →
            Yields (.startupStepEnd now r) s fun t => t.sys.bootStep = 0xA ∧ t.sys.bistFail = r.dieFail &&& presentDies s
              ∧ t.sys.lost = s.sys.lost ||| (r.dieFail &&& presentDies s))
        ∧ (s.sys.bootStep = 0xE → s.evt.committed = true → priorEpoch s = true → Yields (.startupStepEnd now r) s fun t =>
            t.sys.state = .restoring)
        ∧ (s.sys.bootStep = 0xE → s.evt.committed = true → priorEpoch s = false → Yields (.startupStepEnd now r) s fun t =>
            t.sys.state = (if fullService s then .ready else .degraded) ∧ t.dep.isOpen = true))

/-- R463, R465, R466, R470, R471, R472, R473, R474, R475, R476, R477: The DIAG UART and SELF_TEST. Each DIAG command
prints its lines and changes no state; a self-test that R471 refuses ends with its status, another starts and holds
its descriptor until its report, and its completion carries the counts. STABLED. A request that nothing refuses stops
fetching and waits; one that something refuses ends with POLICY and its DETAIL. The device enters once nothing is
admitted and everything is durable, or gives up after its time; waking brings the prior state back. -/
def Obligations.DiagSelfTestAndStabled : Prop :=
  (∀ (s : State),
    let now := opNow s / 10 ^ 6
    (alive s = true →
      exec .diagStatus s = .next { s with out := .uart now (.statusLine s.sys.state s.sys.bootStep s.sys.heldStep
          s.sys.heldUnit s.sys.heldDetail (stateCode s) s.tamper.flags) :: s.out }
      ∧ exec .diagTamper s = .next { s with
          out := .uart now (.tamperRegs s.tamper.flags s.tamper.severe s.tamper.active) :: s.out }
      ∧ exec .diagHelp s = .next { s with out := .uart now .help :: s.out }
      ∧ (s.sys.state = .held → exec .diagHeldLine s = .next { s with out := .uart now (.heldLine s.sys.heldStep
          s.sys.heldUnit s.sys.heldDetail (stateCode s) s.tamper.flags) :: s.out })
      ∧ Yields .diagEvents s fun t => t = { s with out := t.out }
          ∧ t.out = ((s.evt.evs.take 8).map fun e => Out.uart (opNow s / 10 ^ 6) (.eventRecord (evSlot e))) ++ s.out)
    ∧ (∀ id w, Waits s id 0x7F w →
        (∀ st, testErr s w = some st → ∀ c ∈ [Instr.selfTestEngine id, .selfTestLane id, .selfTestPk id, .selfTestFull id],
          EndsWork c s w st 0 [] fun t => t.sys = s.sys)
        ∧ (testErr s w = none →
            s.sys.selftestWork = none →
            let starts := fun (t : State) => w ∉ t.adm.work ∧ t.sys.selftestWork = some (w, testMode w)
            let e := (pkEngines s).getD (s.pk.rotation % (pkEngines s).length) 0
            (testMode w = 1 → Yields (.selfTestEngine id) s fun t => starts t ∧ ∀ k, 1 ≤ k → k ≤ 7 →
                dieIn s.sys.inService k = true → 8 * k + (slotEngine s k).cluster ∉ s.eng.resting →
                (t.eng.underTest.at? k).isSome = true)
            ∧ (testMode w = 2 → Yields (.selfTestLane id) s fun t => starts t ∧ ∀ g ∈ laneGroups s,
                groupThere s g = true → groupIdx g ∉ s.lanes.resting → (t.lanes.underTest.at? (groupIdx g)).isSome = true)
            ∧ (testMode w = 3 → Yields (.selfTestPk id) s fun t => starts t ∧ (s.pk.underTest = none →
                s.pk.resting = false → dieIn s.sys.lost (e / 2) = false → t.pk.underTest = some e))
            ∧ (testMode w = 4 → Yields (.selfTestFull id) s fun t => starts t ∧ t.sys.selftest = true))
        ∧ (testErr s w = none → s.sys.selftestWork.isSome = true → ∀ c m, (c, m) ∈ [(Instr.selfTestEngine id, 1),
            (.selfTestLane id, 2), (.selfTestPk id, 3), (.selfTestFull id, 4)] → testMode w = m →
            Yields c s fun t => w ∈ t.adm.work ∧ t.sys = s.sys))
    ∧ (∀ r w m, inService s = true → s.sys.selftestWork = some (w, m) → ringTakes (ringOf s w.ring) w.gen = true →
        r.first = none → r.dieFail &&& s.sys.inService = 0 → r.failed < 65536 → Yields (.selfTestDone r) s fun t =>
          t.sys.selftest = false ∧ t.sys.selftestWork = none
          ∧ Completed t w (if r.failed = 0 then .ok else .fault) r.failed w.stamp))
  ∧ (∀ (s : State),
      (∀ now, HostMayWrite s 0x8 → s.sys.stableBusy = false →
        (stableErr s = 0 → Yields (.stable now) s fun t => t.sys.stableBusy = true ∧ t.sys.stableDep = some s.dep.number
          ∧ t.adm.stopFetch = true ∧ t.sys.state = s.sys.state)
        ∧ (stableErr s ≠ 0 → Yields (.stable now) s fun t => t.sys.stableBusy = false ∧ t.sys.stableValid = true
          ∧ t.sys.stableResult = 0x11 ∧ t.sys.stableDetail = stableErr s ∧ t.adm.stopFetch = s.adm.stopFetch))
      ∧ (inService s = true → s.sys.stableBusy = true → nothingAdmitted s = true → allDurable s = true →
          Yields .stabledEnter s fun t => t.sys.state = .stabled ∧ t.sys.prior = s.sys.state ∧ t.sys.gated = s.sys.inService
            ∧ t.sys.stableBusy = false ∧ t.sys.stableResult = 0 ∧ t.eng.threads = [] ∧ t.keys.cache = []
            ∧ (∀ e ∈ t.cards.slots, e.2 = {}) ∧ t.cards.bus = [])
      ∧ (alive s = true → s.sys.stableBusy = true → Yields .stabledEntryTimeout s fun t => t.sys.stableBusy = false
          ∧ t.sys.stableResult = 0x11 ∧ t.sys.stableDetail = 5 ∧ t.adm.stopFetch = s.sys.pwrFail ∧ t.sys.state = s.sys.state)
      ∧ (hostOpen s = true → grants (ruleOf s 0) 3 .write = true → heldGate s = false →
          (s.sys.state = .stabled → exec .wake s = .next { s with sys := { s.sys with waking := true } })
          ∧ (s.sys.state ≠ .stabled → exec .wake s = .next s))
      ∧ (∀ now failed, alive s = true → s.sys.state = .stabled → s.sys.waking = true → failed &&& s.sys.inService = 0 →
          Yields (.wakeComplete now failed) s fun t => t.sys.state = s.sys.prior ∧ t.sys.waking = false ∧ t.sys.gated = 0
            ∧ t.adm.stopFetch = s.sys.pwrFail ∧ 8 ∈ t.dep.causes))

/-- R538, R539, R544, R559: the package. A DIMM above 85 degrees is refreshed at the doubled rate, and one above 95
degrees is noted once a minute. While the rails are good the SMBus target answers each read command with its bytes, a
write with NACK, and releases the bus when SMB_CLK is held low. The reading of a present engine die is a free value
(the model's choice: R539 gives one source for several dies; assumption 33). -/
def Obligations.PackageCommands : Prop :=
  ∀ (s : State),
    (∀ ch (c : Int), alive s = true → ch < 4 → s.vm.trained ≠ 0 → Yields (.dimmTempPoll ch c) s fun t =>
      (∀ k, k < 4 → t.pkg.fast.getLsbD k = if k = ch then decide (85 < c) else s.pkg.fast.getLsbD k)
      ∧ (c ≤ 95 → t.pkg.hotAt.at? ch = none ∧ t.evt = s.evt)
      ∧ (95 < c → (∀ x, s.pkg.hotAt.at? ch = some x → x + 60 * 10 ^ 9 ≤ s.clk.upNs) →
          t.pkg.hotAt.at? ch = some s.clk.upNs
          ∧ (RecorderOpen s 0x0E08 → NewRecord s t 0x0E08 (padTo 22 (le 1 ch ++ le 2 (BitVec.ofInt 16 c).toNat))))
      ∧ ∀ x, 95 < c → s.pkg.hotAt.at? ch = some x → s.clk.upNs < x + 60 * 10 ^ 9 → t.evt = s.evt)
    ∧ (s.sys.rails = true →
        exec .smbVariant s = .next { s with out := .smb (.data (le 1 s.otp.variant)) :: s.out }
        ∧ exec .smbStepping s = .next { s with out := .smb (.data (le 1 0xA1)) :: s.out }
        ∧ exec .smbDeviceId s = .next { s with out := .smb (.data (le 8 s.otp.deviceId.toNat)) :: s.out }
        ∧ exec .smbState s = .next { s with out := .smb (.data (le 1 (if s.sys.inReset then 0 else s.sys.state.code))) :: s.out }
        ∧ exec .smbLifecycle s = .next { s with out := .smb (.data (le 1 (lifeCodeNow s))) :: s.out }
        ∧ exec .smbTempHottest s = .next { s with out := .smb (.data (le 2 (hottest s))) :: s.out }
        ∧ exec .smbTempAnchor s = .next { s with out := .smb (.data (le 2 (readingA s 36))) :: s.out }
        ∧ exec .smbTempSubstrate s = .next { s with out := .smb (.data (le 2 (readingA s 39))) :: s.out }
        ∧ exec .smbThermalFlags s = .next { s with out := .smb (.data (le 1 (thermalFlags s))) :: s.out }
        ∧ (∀ c b, exec (.smbWrite c b) s = .next { s with out := .smb .nack :: s.out })
        ∧ exec .smbClkTimeout s = .next { s with out := .smb .released :: s.out }
        ∧ (∀ k, dieIn (presentDies s) k = false →
            exec (.smbTempEngineDie k) s = .next { s with out := .smb (.data (le 2 0x8000)) :: s.out })
        ∧ ∀ k, dieIn (presentDies s) k = true → Yields (.smbTempEngineDie k) s fun t =>
            ∃ v, t = { s with out := .smb (.data v) :: s.out, free := s.free + 1 } ∧ v.length = 2)
    ∧ (s.sys.rails = false → ∀ c ∈ [Instr.smbVariant, .smbStepping, .smbDeviceId, .smbState, .smbLifecycle, .smbTempHottest,
        .smbTempAnchor, .smbTempSubstrate, .smbThermalFlags, .smbClkTimeout], exec c s = .next s)
    ∧ (s.sys.rails = false → ∀ c b k, exec (.smbWrite c b) s = .next s ∧ exec (.smbTempEngineDie k) s = .next s)

/-- The block's own rule of the queue: step takes the command at the front and runs it on the state with the queue's
rest; on an empty queue the block idles (DESIGN CHOICE, assumption 11). -/
def Obligations.StepRunsFront : Prop :=
  (∀ (c : Instr) (rest : List Instr) (s : State), step { s with pending := c :: rest } = exec c { s with pending := rest })
  ∧ ∀ s : State, s.pending = [] → step s = .next s

/-- The frame of every command: whatever it does, it leaves every part of the state outside its footprint as it was.
The queue is in no footprint. -/
def Obligations.Frame : Prop :=
  ∀ (c : Instr) (s t : State), exec c s = .next t → ∀ p, p ∉ footprint c → p.same s t

/-- R32: only a reset leaves ZEROISED. Of the commands, only the loss or return of power, an edge of a reset input,
and the rail events that restart the device or take its power can change the state ZEROISED. -/
def Obligations.OnlyResetLeavesZeroised : Prop :=
  ∀ (c : Instr) (s t : State), s.sys.state = .zeroised → restarts c = false → exec c s = .next t → t.sys.state = .zeroised
end

