-- ==== Sys2Proof/Laws/State.lean ====
section
/-! SUPPORT. One lemma for each field after each plain update of the state: a field that the update does not name
is as it was, and the field it names has the new value. Later proofs use these and never unfold a record update. -/

namespace Sys2Proof.Machine

/-! ### emit -/

@[simp] theorem emit_sys (o : Out) (s : State) : (emit o s).sys = s.sys := rfl
@[simp] theorem emit_link (o : Out) (s : State) : (emit o s).link = s.link := rfl
@[simp] theorem emit_rings (o : Out) (s : State) : (emit o s).rings = s.rings := rfl
@[simp] theorem emit_bulk (o : Out) (s : State) : (emit o s).bulk = s.bulk := rfl
@[simp] theorem emit_adm (o : Out) (s : State) : (emit o s).adm = s.adm := rfl
@[simp] theorem emit_clk (o : Out) (s : State) : (emit o s).clk = s.clk := rfl
@[simp] theorem emit_eng (o : Out) (s : State) : (emit o s).eng = s.eng := rfl
@[simp] theorem emit_dep (o : Out) (s : State) : (emit o s).dep = s.dep := rfl
@[simp] theorem emit_vm (o : Out) (s : State) : (emit o s).vm = s.vm := rfl
@[simp] theorem emit_keys (o : Out) (s : State) : (emit o s).keys = s.keys := rfl
@[simp] theorem emit_box (o : Out) (s : State) : (emit o s).box = s.box := rfl
@[simp] theorem emit_evt (o : Out) (s : State) : (emit o s).evt = s.evt := rfl
@[simp] theorem emit_cnt (o : Out) (s : State) : (emit o s).cnt = s.cnt := rfl
@[simp] theorem emit_flash (o : Out) (s : State) : (emit o s).flash = s.flash := rfl
@[simp] theorem emit_otp (o : Out) (s : State) : (emit o s).otp = s.otp := rfl
@[simp] theorem emit_lanes (o : Out) (s : State) : (emit o s).lanes = s.lanes := rfl
@[simp] theorem emit_pk (o : Out) (s : State) : (emit o s).pk = s.pk := rfl
@[simp] theorem emit_life (o : Out) (s : State) : (emit o s).life = s.life := rfl
@[simp] theorem emit_rng (o : Out) (s : State) : (emit o s).rng = s.rng := rfl
@[simp] theorem emit_cards (o : Out) (s : State) : (emit o s).cards = s.cards := rfl
@[simp] theorem emit_jct (o : Out) (s : State) : (emit o s).jct = s.jct := rfl
@[simp] theorem emit_tamper (o : Out) (s : State) : (emit o s).tamper = s.tamper := rfl
@[simp] theorem emit_pkg (o : Out) (s : State) : (emit o s).pkg = s.pkg := rfl
@[simp] theorem emit_out (o : Out) (s : State) : (emit o s).out = o :: s.out := rfl
@[simp] theorem emit_free (o : Out) (s : State) : (emit o s).free = s.free := rfl
@[simp] theorem emit_pending (o : Out) (s : State) : (emit o s).pending = s.pending := rfl

/-! ### gRequest -/

@[simp] theorem gRequest_sys (s : State) : (gRequest s).sys = s.sys := rfl
@[simp] theorem gRequest_link (s : State) : (gRequest s).link = s.link := rfl
@[simp] theorem gRequest_rings (s : State) : (gRequest s).rings = s.rings := rfl
@[simp] theorem gRequest_bulk (s : State) : (gRequest s).bulk = s.bulk := rfl
@[simp] theorem gRequest_adm (s : State) : (gRequest s).adm = s.adm := rfl
@[simp] theorem gRequest_clk (s : State) : (gRequest s).clk = s.clk := rfl
@[simp] theorem gRequest_eng (s : State) : (gRequest s).eng = s.eng := rfl
@[simp] theorem gRequest_dep (s : State) : (gRequest s).dep = s.dep := rfl
@[simp] theorem gRequest_vm (s : State) : (gRequest s).vm = s.vm := rfl
@[simp] theorem gRequest_keys (s : State) : (gRequest s).keys = s.keys := rfl
@[simp] theorem gRequest_box (s : State) : (gRequest s).box = s.box := rfl
@[simp] theorem gRequest_evt (s : State) : (gRequest s).evt = s.evt := rfl
@[simp] theorem gRequest_cnt (s : State) : (gRequest s).cnt = s.cnt := rfl
@[simp] theorem gRequest_flash (s : State) : (gRequest s).flash = s.flash := rfl
@[simp] theorem gRequest_otp (s : State) : (gRequest s).otp = s.otp := rfl
@[simp] theorem gRequest_lanes (s : State) : (gRequest s).lanes = s.lanes := rfl
@[simp] theorem gRequest_pk (s : State) : (gRequest s).pk = s.pk := rfl
@[simp] theorem gRequest_life (s : State) : (gRequest s).life = s.life := rfl
@[simp] theorem gRequest_rng (s : State) : (gRequest s).rng = { s.rng with requests := s.rng.requests + 1 } := rfl
@[simp] theorem gRequest_cards (s : State) : (gRequest s).cards = s.cards := rfl
@[simp] theorem gRequest_jct (s : State) : (gRequest s).jct = s.jct := rfl
@[simp] theorem gRequest_tamper (s : State) : (gRequest s).tamper = s.tamper := rfl
@[simp] theorem gRequest_pkg (s : State) : (gRequest s).pkg = s.pkg := rfl
@[simp] theorem gRequest_out (s : State) : (gRequest s).out = s.out := rfl
@[simp] theorem gRequest_free (s : State) : (gRequest s).free = s.free := rfl
@[simp] theorem gRequest_pending (s : State) : (gRequest s).pending = s.pending := rfl

/-! ### setOwner -/

@[simp] theorem setOwner_sys (o : Nat) (w : Owner) (s : State) : (setOwner o w s).sys = s.sys := rfl
@[simp] theorem setOwner_link (o : Nat) (w : Owner) (s : State) : (setOwner o w s).link = s.link := rfl
@[simp] theorem setOwner_rings (o : Nat) (w : Owner) (s : State) : (setOwner o w s).rings = s.rings := rfl
@[simp] theorem setOwner_bulk (o : Nat) (w : Owner) (s : State) : (setOwner o w s).bulk = s.bulk := rfl
@[simp] theorem setOwner_adm (o : Nat) (w : Owner) (s : State) : (setOwner o w s).adm = { s.adm with owners := s.adm.owners.put o w } := rfl
@[simp] theorem setOwner_clk (o : Nat) (w : Owner) (s : State) : (setOwner o w s).clk = s.clk := rfl
@[simp] theorem setOwner_eng (o : Nat) (w : Owner) (s : State) : (setOwner o w s).eng = s.eng := rfl
@[simp] theorem setOwner_dep (o : Nat) (w : Owner) (s : State) : (setOwner o w s).dep = s.dep := rfl
@[simp] theorem setOwner_vm (o : Nat) (w : Owner) (s : State) : (setOwner o w s).vm = s.vm := rfl
@[simp] theorem setOwner_keys (o : Nat) (w : Owner) (s : State) : (setOwner o w s).keys = s.keys := rfl
@[simp] theorem setOwner_box (o : Nat) (w : Owner) (s : State) : (setOwner o w s).box = s.box := rfl
@[simp] theorem setOwner_evt (o : Nat) (w : Owner) (s : State) : (setOwner o w s).evt = s.evt := rfl
@[simp] theorem setOwner_cnt (o : Nat) (w : Owner) (s : State) : (setOwner o w s).cnt = s.cnt := rfl
@[simp] theorem setOwner_flash (o : Nat) (w : Owner) (s : State) : (setOwner o w s).flash = s.flash := rfl
@[simp] theorem setOwner_otp (o : Nat) (w : Owner) (s : State) : (setOwner o w s).otp = s.otp := rfl
@[simp] theorem setOwner_lanes (o : Nat) (w : Owner) (s : State) : (setOwner o w s).lanes = s.lanes := rfl
@[simp] theorem setOwner_pk (o : Nat) (w : Owner) (s : State) : (setOwner o w s).pk = s.pk := rfl
@[simp] theorem setOwner_life (o : Nat) (w : Owner) (s : State) : (setOwner o w s).life = s.life := rfl
@[simp] theorem setOwner_rng (o : Nat) (w : Owner) (s : State) : (setOwner o w s).rng = s.rng := rfl
@[simp] theorem setOwner_cards (o : Nat) (w : Owner) (s : State) : (setOwner o w s).cards = s.cards := rfl
@[simp] theorem setOwner_jct (o : Nat) (w : Owner) (s : State) : (setOwner o w s).jct = s.jct := rfl
@[simp] theorem setOwner_tamper (o : Nat) (w : Owner) (s : State) : (setOwner o w s).tamper = s.tamper := rfl
@[simp] theorem setOwner_pkg (o : Nat) (w : Owner) (s : State) : (setOwner o w s).pkg = s.pkg := rfl
@[simp] theorem setOwner_out (o : Nat) (w : Owner) (s : State) : (setOwner o w s).out = s.out := rfl
@[simp] theorem setOwner_free (o : Nat) (w : Owner) (s : State) : (setOwner o w s).free = s.free := rfl
@[simp] theorem setOwner_pending (o : Nat) (w : Owner) (s : State) : (setOwner o w s).pending = s.pending := rfl

/-! ### setRing -/

@[simp] theorem setRing_sys (r : Nat) (x : Ring) (s : State) : (setRing r x s).sys = s.sys := rfl
@[simp] theorem setRing_link (r : Nat) (x : Ring) (s : State) : (setRing r x s).link = s.link := rfl
@[simp] theorem setRing_rings (r : Nat) (x : Ring) (s : State) : (setRing r x s).rings = { s.rings with tbl := s.rings.tbl.put r x } := rfl
@[simp] theorem setRing_bulk (r : Nat) (x : Ring) (s : State) : (setRing r x s).bulk = s.bulk := rfl
@[simp] theorem setRing_adm (r : Nat) (x : Ring) (s : State) : (setRing r x s).adm = s.adm := rfl
@[simp] theorem setRing_clk (r : Nat) (x : Ring) (s : State) : (setRing r x s).clk = s.clk := rfl
@[simp] theorem setRing_eng (r : Nat) (x : Ring) (s : State) : (setRing r x s).eng = s.eng := rfl
@[simp] theorem setRing_dep (r : Nat) (x : Ring) (s : State) : (setRing r x s).dep = s.dep := rfl
@[simp] theorem setRing_vm (r : Nat) (x : Ring) (s : State) : (setRing r x s).vm = s.vm := rfl
@[simp] theorem setRing_keys (r : Nat) (x : Ring) (s : State) : (setRing r x s).keys = s.keys := rfl
@[simp] theorem setRing_box (r : Nat) (x : Ring) (s : State) : (setRing r x s).box = s.box := rfl
@[simp] theorem setRing_evt (r : Nat) (x : Ring) (s : State) : (setRing r x s).evt = s.evt := rfl
@[simp] theorem setRing_cnt (r : Nat) (x : Ring) (s : State) : (setRing r x s).cnt = s.cnt := rfl
@[simp] theorem setRing_flash (r : Nat) (x : Ring) (s : State) : (setRing r x s).flash = s.flash := rfl
@[simp] theorem setRing_otp (r : Nat) (x : Ring) (s : State) : (setRing r x s).otp = s.otp := rfl
@[simp] theorem setRing_lanes (r : Nat) (x : Ring) (s : State) : (setRing r x s).lanes = s.lanes := rfl
@[simp] theorem setRing_pk (r : Nat) (x : Ring) (s : State) : (setRing r x s).pk = s.pk := rfl
@[simp] theorem setRing_life (r : Nat) (x : Ring) (s : State) : (setRing r x s).life = s.life := rfl
@[simp] theorem setRing_rng (r : Nat) (x : Ring) (s : State) : (setRing r x s).rng = s.rng := rfl
@[simp] theorem setRing_cards (r : Nat) (x : Ring) (s : State) : (setRing r x s).cards = s.cards := rfl
@[simp] theorem setRing_jct (r : Nat) (x : Ring) (s : State) : (setRing r x s).jct = s.jct := rfl
@[simp] theorem setRing_tamper (r : Nat) (x : Ring) (s : State) : (setRing r x s).tamper = s.tamper := rfl
@[simp] theorem setRing_pkg (r : Nat) (x : Ring) (s : State) : (setRing r x s).pkg = s.pkg := rfl
@[simp] theorem setRing_out (r : Nat) (x : Ring) (s : State) : (setRing r x s).out = s.out := rfl
@[simp] theorem setRing_free (r : Nat) (x : Ring) (s : State) : (setRing r x s).free = s.free := rfl
@[simp] theorem setRing_pending (r : Nat) (x : Ring) (s : State) : (setRing r x s).pending = s.pending := rfl

/-! ### setThread -/

@[simp] theorem setThread_sys (th : Thread) (s : State) : (setThread th s).sys = s.sys := rfl
@[simp] theorem setThread_link (th : Thread) (s : State) : (setThread th s).link = s.link := rfl
@[simp] theorem setThread_rings (th : Thread) (s : State) : (setThread th s).rings = s.rings := rfl
@[simp] theorem setThread_bulk (th : Thread) (s : State) : (setThread th s).bulk = s.bulk := rfl
@[simp] theorem setThread_adm (th : Thread) (s : State) : (setThread th s).adm = s.adm := rfl
@[simp] theorem setThread_clk (th : Thread) (s : State) : (setThread th s).clk = s.clk := rfl
@[simp] theorem setThread_eng (th : Thread) (s : State) : (setThread th s).eng = { s.eng with threads := s.eng.threads.map fun t => if t.id == th.id then th else t } := rfl
@[simp] theorem setThread_dep (th : Thread) (s : State) : (setThread th s).dep = s.dep := rfl
@[simp] theorem setThread_vm (th : Thread) (s : State) : (setThread th s).vm = s.vm := rfl
@[simp] theorem setThread_keys (th : Thread) (s : State) : (setThread th s).keys = s.keys := rfl
@[simp] theorem setThread_box (th : Thread) (s : State) : (setThread th s).box = s.box := rfl
@[simp] theorem setThread_evt (th : Thread) (s : State) : (setThread th s).evt = s.evt := rfl
@[simp] theorem setThread_cnt (th : Thread) (s : State) : (setThread th s).cnt = s.cnt := rfl
@[simp] theorem setThread_flash (th : Thread) (s : State) : (setThread th s).flash = s.flash := rfl
@[simp] theorem setThread_otp (th : Thread) (s : State) : (setThread th s).otp = s.otp := rfl
@[simp] theorem setThread_lanes (th : Thread) (s : State) : (setThread th s).lanes = s.lanes := rfl
@[simp] theorem setThread_pk (th : Thread) (s : State) : (setThread th s).pk = s.pk := rfl
@[simp] theorem setThread_life (th : Thread) (s : State) : (setThread th s).life = s.life := rfl
@[simp] theorem setThread_rng (th : Thread) (s : State) : (setThread th s).rng = s.rng := rfl
@[simp] theorem setThread_cards (th : Thread) (s : State) : (setThread th s).cards = s.cards := rfl
@[simp] theorem setThread_jct (th : Thread) (s : State) : (setThread th s).jct = s.jct := rfl
@[simp] theorem setThread_tamper (th : Thread) (s : State) : (setThread th s).tamper = s.tamper := rfl
@[simp] theorem setThread_pkg (th : Thread) (s : State) : (setThread th s).pkg = s.pkg := rfl
@[simp] theorem setThread_out (th : Thread) (s : State) : (setThread th s).out = s.out := rfl
@[simp] theorem setThread_free (th : Thread) (s : State) : (setThread th s).free = s.free := rfl
@[simp] theorem setThread_pending (th : Thread) (s : State) : (setThread th s).pending = s.pending := rfl

/-! ### mapItem -/

@[simp] theorem mapItem_sys (seq : Nat) (f : Item → Item) (s : State) : (mapItem seq f s).sys = s.sys := rfl
@[simp] theorem mapItem_link (seq : Nat) (f : Item → Item) (s : State) : (mapItem seq f s).link = s.link := rfl
@[simp] theorem mapItem_rings (seq : Nat) (f : Item → Item) (s : State) : (mapItem seq f s).rings = s.rings := rfl
@[simp] theorem mapItem_bulk (seq : Nat) (f : Item → Item) (s : State) : (mapItem seq f s).bulk = s.bulk := rfl
@[simp] theorem mapItem_adm (seq : Nat) (f : Item → Item) (s : State) : (mapItem seq f s).adm = { s.adm with items := s.adm.items.map fun i => if i.seq == seq then f i else i } := rfl
@[simp] theorem mapItem_clk (seq : Nat) (f : Item → Item) (s : State) : (mapItem seq f s).clk = s.clk := rfl
@[simp] theorem mapItem_eng (seq : Nat) (f : Item → Item) (s : State) : (mapItem seq f s).eng = s.eng := rfl
@[simp] theorem mapItem_dep (seq : Nat) (f : Item → Item) (s : State) : (mapItem seq f s).dep = s.dep := rfl
@[simp] theorem mapItem_vm (seq : Nat) (f : Item → Item) (s : State) : (mapItem seq f s).vm = s.vm := rfl
@[simp] theorem mapItem_keys (seq : Nat) (f : Item → Item) (s : State) : (mapItem seq f s).keys = s.keys := rfl
@[simp] theorem mapItem_box (seq : Nat) (f : Item → Item) (s : State) : (mapItem seq f s).box = s.box := rfl
@[simp] theorem mapItem_evt (seq : Nat) (f : Item → Item) (s : State) : (mapItem seq f s).evt = s.evt := rfl
@[simp] theorem mapItem_cnt (seq : Nat) (f : Item → Item) (s : State) : (mapItem seq f s).cnt = s.cnt := rfl
@[simp] theorem mapItem_flash (seq : Nat) (f : Item → Item) (s : State) : (mapItem seq f s).flash = s.flash := rfl
@[simp] theorem mapItem_otp (seq : Nat) (f : Item → Item) (s : State) : (mapItem seq f s).otp = s.otp := rfl
@[simp] theorem mapItem_lanes (seq : Nat) (f : Item → Item) (s : State) : (mapItem seq f s).lanes = s.lanes := rfl
@[simp] theorem mapItem_pk (seq : Nat) (f : Item → Item) (s : State) : (mapItem seq f s).pk = s.pk := rfl
@[simp] theorem mapItem_life (seq : Nat) (f : Item → Item) (s : State) : (mapItem seq f s).life = s.life := rfl
@[simp] theorem mapItem_rng (seq : Nat) (f : Item → Item) (s : State) : (mapItem seq f s).rng = s.rng := rfl
@[simp] theorem mapItem_cards (seq : Nat) (f : Item → Item) (s : State) : (mapItem seq f s).cards = s.cards := rfl
@[simp] theorem mapItem_jct (seq : Nat) (f : Item → Item) (s : State) : (mapItem seq f s).jct = s.jct := rfl
@[simp] theorem mapItem_tamper (seq : Nat) (f : Item → Item) (s : State) : (mapItem seq f s).tamper = s.tamper := rfl
@[simp] theorem mapItem_pkg (seq : Nat) (f : Item → Item) (s : State) : (mapItem seq f s).pkg = s.pkg := rfl
@[simp] theorem mapItem_out (seq : Nat) (f : Item → Item) (s : State) : (mapItem seq f s).out = s.out := rfl
@[simp] theorem mapItem_free (seq : Nat) (f : Item → Item) (s : State) : (mapItem seq f s).free = s.free := rfl
@[simp] theorem mapItem_pending (seq : Nat) (f : Item → Item) (s : State) : (mapItem seq f s).pending = s.pending := rfl

/-! ### setCard -/

@[simp] theorem setCard_sys (n : Nat) (c : Card) (s : State) : (setCard n c s).sys = s.sys := rfl
@[simp] theorem setCard_link (n : Nat) (c : Card) (s : State) : (setCard n c s).link = s.link := rfl
@[simp] theorem setCard_rings (n : Nat) (c : Card) (s : State) : (setCard n c s).rings = s.rings := rfl
@[simp] theorem setCard_bulk (n : Nat) (c : Card) (s : State) : (setCard n c s).bulk = s.bulk := rfl
@[simp] theorem setCard_adm (n : Nat) (c : Card) (s : State) : (setCard n c s).adm = s.adm := rfl
@[simp] theorem setCard_clk (n : Nat) (c : Card) (s : State) : (setCard n c s).clk = s.clk := rfl
@[simp] theorem setCard_eng (n : Nat) (c : Card) (s : State) : (setCard n c s).eng = s.eng := rfl
@[simp] theorem setCard_dep (n : Nat) (c : Card) (s : State) : (setCard n c s).dep = s.dep := rfl
@[simp] theorem setCard_vm (n : Nat) (c : Card) (s : State) : (setCard n c s).vm = s.vm := rfl
@[simp] theorem setCard_keys (n : Nat) (c : Card) (s : State) : (setCard n c s).keys = s.keys := rfl
@[simp] theorem setCard_box (n : Nat) (c : Card) (s : State) : (setCard n c s).box = s.box := rfl
@[simp] theorem setCard_evt (n : Nat) (c : Card) (s : State) : (setCard n c s).evt = s.evt := rfl
@[simp] theorem setCard_cnt (n : Nat) (c : Card) (s : State) : (setCard n c s).cnt = s.cnt := rfl
@[simp] theorem setCard_flash (n : Nat) (c : Card) (s : State) : (setCard n c s).flash = s.flash := rfl
@[simp] theorem setCard_otp (n : Nat) (c : Card) (s : State) : (setCard n c s).otp = s.otp := rfl
@[simp] theorem setCard_lanes (n : Nat) (c : Card) (s : State) : (setCard n c s).lanes = s.lanes := rfl
@[simp] theorem setCard_pk (n : Nat) (c : Card) (s : State) : (setCard n c s).pk = s.pk := rfl
@[simp] theorem setCard_life (n : Nat) (c : Card) (s : State) : (setCard n c s).life = s.life := rfl
@[simp] theorem setCard_rng (n : Nat) (c : Card) (s : State) : (setCard n c s).rng = s.rng := rfl
@[simp] theorem setCard_cards (n : Nat) (c : Card) (s : State) : (setCard n c s).cards = { s.cards with slots := s.cards.slots.put n c } := rfl
@[simp] theorem setCard_jct (n : Nat) (c : Card) (s : State) : (setCard n c s).jct = s.jct := rfl
@[simp] theorem setCard_tamper (n : Nat) (c : Card) (s : State) : (setCard n c s).tamper = s.tamper := rfl
@[simp] theorem setCard_pkg (n : Nat) (c : Card) (s : State) : (setCard n c s).pkg = s.pkg := rfl
@[simp] theorem setCard_out (n : Nat) (c : Card) (s : State) : (setCard n c s).out = s.out := rfl
@[simp] theorem setCard_free (n : Nat) (c : Card) (s : State) : (setCard n c s).free = s.free := rfl
@[simp] theorem setCard_pending (n : Nat) (c : Card) (s : State) : (setCard n c s).pending = s.pending := rfl

/-! ### putBack -/

@[simp] theorem putBack_sys (w : Work) (s : State) : (putBack w s).sys = s.sys := rfl
@[simp] theorem putBack_link (w : Work) (s : State) : (putBack w s).link = s.link := rfl
@[simp] theorem putBack_rings (w : Work) (s : State) : (putBack w s).rings = s.rings := rfl
@[simp] theorem putBack_bulk (w : Work) (s : State) : (putBack w s).bulk = s.bulk := rfl
@[simp] theorem putBack_adm (w : Work) (s : State) : (putBack w s).adm = { s.adm with work := w :: s.adm.work } := rfl
@[simp] theorem putBack_clk (w : Work) (s : State) : (putBack w s).clk = s.clk := rfl
@[simp] theorem putBack_eng (w : Work) (s : State) : (putBack w s).eng = s.eng := rfl
@[simp] theorem putBack_dep (w : Work) (s : State) : (putBack w s).dep = s.dep := rfl
@[simp] theorem putBack_vm (w : Work) (s : State) : (putBack w s).vm = s.vm := rfl
@[simp] theorem putBack_keys (w : Work) (s : State) : (putBack w s).keys = s.keys := rfl
@[simp] theorem putBack_box (w : Work) (s : State) : (putBack w s).box = s.box := rfl
@[simp] theorem putBack_evt (w : Work) (s : State) : (putBack w s).evt = s.evt := rfl
@[simp] theorem putBack_cnt (w : Work) (s : State) : (putBack w s).cnt = s.cnt := rfl
@[simp] theorem putBack_flash (w : Work) (s : State) : (putBack w s).flash = s.flash := rfl
@[simp] theorem putBack_otp (w : Work) (s : State) : (putBack w s).otp = s.otp := rfl
@[simp] theorem putBack_lanes (w : Work) (s : State) : (putBack w s).lanes = s.lanes := rfl
@[simp] theorem putBack_pk (w : Work) (s : State) : (putBack w s).pk = s.pk := rfl
@[simp] theorem putBack_life (w : Work) (s : State) : (putBack w s).life = s.life := rfl
@[simp] theorem putBack_rng (w : Work) (s : State) : (putBack w s).rng = s.rng := rfl
@[simp] theorem putBack_cards (w : Work) (s : State) : (putBack w s).cards = s.cards := rfl
@[simp] theorem putBack_jct (w : Work) (s : State) : (putBack w s).jct = s.jct := rfl
@[simp] theorem putBack_tamper (w : Work) (s : State) : (putBack w s).tamper = s.tamper := rfl
@[simp] theorem putBack_pkg (w : Work) (s : State) : (putBack w s).pkg = s.pkg := rfl
@[simp] theorem putBack_out (w : Work) (s : State) : (putBack w s).out = s.out := rfl
@[simp] theorem putBack_free (w : Work) (s : State) : (putBack w s).free = s.free := rfl
@[simp] theorem putBack_pending (w : Work) (s : State) : (putBack w s).pending = s.pending := rfl

/-! ### dropAccord -/

@[simp] theorem dropAccord_sys (a : Accord) (s : State) : (dropAccord a s).sys = s.sys := rfl
@[simp] theorem dropAccord_link (a : Accord) (s : State) : (dropAccord a s).link = s.link := rfl
@[simp] theorem dropAccord_rings (a : Accord) (s : State) : (dropAccord a s).rings = s.rings := rfl
@[simp] theorem dropAccord_bulk (a : Accord) (s : State) : (dropAccord a s).bulk = s.bulk := rfl
@[simp] theorem dropAccord_adm (a : Accord) (s : State) : (dropAccord a s).adm = s.adm := rfl
@[simp] theorem dropAccord_clk (a : Accord) (s : State) : (dropAccord a s).clk = s.clk := rfl
@[simp] theorem dropAccord_eng (a : Accord) (s : State) : (dropAccord a s).eng = s.eng := rfl
@[simp] theorem dropAccord_dep (a : Accord) (s : State) : (dropAccord a s).dep = s.dep := rfl
@[simp] theorem dropAccord_vm (a : Accord) (s : State) : (dropAccord a s).vm = s.vm := rfl
@[simp] theorem dropAccord_keys (a : Accord) (s : State) : (dropAccord a s).keys = { s.keys with accords := s.keys.accords.filter fun x => x.no != a.no } := rfl
@[simp] theorem dropAccord_box (a : Accord) (s : State) : (dropAccord a s).box = s.box := rfl
@[simp] theorem dropAccord_evt (a : Accord) (s : State) : (dropAccord a s).evt = s.evt := rfl
@[simp] theorem dropAccord_cnt (a : Accord) (s : State) : (dropAccord a s).cnt = s.cnt := rfl
@[simp] theorem dropAccord_flash (a : Accord) (s : State) : (dropAccord a s).flash = s.flash := rfl
@[simp] theorem dropAccord_otp (a : Accord) (s : State) : (dropAccord a s).otp = s.otp := rfl
@[simp] theorem dropAccord_lanes (a : Accord) (s : State) : (dropAccord a s).lanes = s.lanes := rfl
@[simp] theorem dropAccord_pk (a : Accord) (s : State) : (dropAccord a s).pk = s.pk := rfl
@[simp] theorem dropAccord_life (a : Accord) (s : State) : (dropAccord a s).life = s.life := rfl
@[simp] theorem dropAccord_rng (a : Accord) (s : State) : (dropAccord a s).rng = s.rng := rfl
@[simp] theorem dropAccord_cards (a : Accord) (s : State) : (dropAccord a s).cards = s.cards := rfl
@[simp] theorem dropAccord_jct (a : Accord) (s : State) : (dropAccord a s).jct = s.jct := rfl
@[simp] theorem dropAccord_tamper (a : Accord) (s : State) : (dropAccord a s).tamper = s.tamper := rfl
@[simp] theorem dropAccord_pkg (a : Accord) (s : State) : (dropAccord a s).pkg = s.pkg := rfl
@[simp] theorem dropAccord_out (a : Accord) (s : State) : (dropAccord a s).out = s.out := rfl
@[simp] theorem dropAccord_free (a : Accord) (s : State) : (dropAccord a s).free = s.free := rfl
@[simp] theorem dropAccord_pending (a : Accord) (s : State) : (dropAccord a s).pending = s.pending := rfl

end Sys2Proof.Machine
end

