-- ==== Sys2Proof/Laws/Frames.lean ====
section
/-! SUPPORT. What each shared operation leaves as it was: one lemma for each, over every field that it does not
write. simp uses every part of it. -/

namespace Sys2Proof.Machine

/-- A property that one step of a fold keeps holds after the fold. -/
theorem foldl_keeps {α : Type} (P : State → Prop) (f : State → α → State) (h : ∀ st x, P st → P (f st x)) :
    ∀ (l : List α) (s : State), P s → P (l.foldl f s)
  | [], _, hs => hs
  | x :: r, s, hs => foldl_keeps P f h r (f s x) (h s x hs)

theorem foldr_keeps {α : Type} (P : State → Prop) (f : α → State → State) (h : ∀ x st, P st → P (f x st)) :
    ∀ (l : List α) (s : State), P s → P (l.foldr f s)
  | [], _, hs => hs
  | x :: r, s, hs => h x _ (foldr_keeps P f h r s hs)

@[simp] theorem freeNat_frame (s : State) :
    (freeNat s).2.sys = s.sys ∧ (freeNat s).2.link = s.link ∧ (freeNat s).2.rings = s.rings
     ∧ (freeNat s).2.bulk = s.bulk ∧ (freeNat s).2.adm = s.adm ∧ (freeNat s).2.clk = s.clk ∧ (freeNat s).2.eng = s.eng
     ∧ (freeNat s).2.dep = s.dep ∧ (freeNat s).2.vm = s.vm ∧ (freeNat s).2.keys = s.keys ∧ (freeNat s).2.box = s.box
     ∧ (freeNat s).2.evt = s.evt ∧ (freeNat s).2.cnt = s.cnt ∧ (freeNat s).2.flash = s.flash
     ∧ (freeNat s).2.otp = s.otp ∧ (freeNat s).2.lanes = s.lanes ∧ (freeNat s).2.pk = s.pk
     ∧ (freeNat s).2.life = s.life ∧ (freeNat s).2.rng = s.rng ∧ (freeNat s).2.cards = s.cards
     ∧ (freeNat s).2.jct = s.jct ∧ (freeNat s).2.tamper = s.tamper ∧ (freeNat s).2.pkg = s.pkg
     ∧ (freeNat s).2.out = s.out ∧ (freeNat s).2.pending = s.pending := by
  simp [freeNat]

@[simp] theorem drawNat_frame (s : State) :
    (drawNat s).2.sys = s.sys ∧ (drawNat s).2.link = s.link ∧ (drawNat s).2.rings = s.rings
     ∧ (drawNat s).2.bulk = s.bulk ∧ (drawNat s).2.adm = s.adm ∧ (drawNat s).2.clk = s.clk ∧ (drawNat s).2.eng = s.eng
     ∧ (drawNat s).2.dep = s.dep ∧ (drawNat s).2.vm = s.vm ∧ (drawNat s).2.keys = s.keys ∧ (drawNat s).2.box = s.box
     ∧ (drawNat s).2.evt = s.evt ∧ (drawNat s).2.cnt = s.cnt ∧ (drawNat s).2.flash = s.flash
     ∧ (drawNat s).2.otp = s.otp ∧ (drawNat s).2.lanes = s.lanes ∧ (drawNat s).2.pk = s.pk
     ∧ (drawNat s).2.life = s.life ∧ (drawNat s).2.cards = s.cards ∧ (drawNat s).2.jct = s.jct
     ∧ (drawNat s).2.tamper = s.tamper ∧ (drawNat s).2.pkg = s.pkg ∧ (drawNat s).2.out = s.out
     ∧ (drawNat s).2.pending = s.pending := by
  simp [drawNat]

@[simp] theorem drawBytes_frame (n : Nat) (s : State) :
    (drawBytes n s).2.sys = s.sys ∧ (drawBytes n s).2.link = s.link ∧ (drawBytes n s).2.rings = s.rings
     ∧ (drawBytes n s).2.bulk = s.bulk ∧ (drawBytes n s).2.adm = s.adm ∧ (drawBytes n s).2.clk = s.clk
     ∧ (drawBytes n s).2.eng = s.eng ∧ (drawBytes n s).2.dep = s.dep ∧ (drawBytes n s).2.vm = s.vm
     ∧ (drawBytes n s).2.keys = s.keys ∧ (drawBytes n s).2.box = s.box ∧ (drawBytes n s).2.evt = s.evt
     ∧ (drawBytes n s).2.cnt = s.cnt ∧ (drawBytes n s).2.flash = s.flash ∧ (drawBytes n s).2.otp = s.otp
     ∧ (drawBytes n s).2.lanes = s.lanes ∧ (drawBytes n s).2.pk = s.pk ∧ (drawBytes n s).2.life = s.life
     ∧ (drawBytes n s).2.cards = s.cards ∧ (drawBytes n s).2.jct = s.jct ∧ (drawBytes n s).2.tamper = s.tamper
     ∧ (drawBytes n s).2.pkg = s.pkg ∧ (drawBytes n s).2.out = s.out ∧ (drawBytes n s).2.pending = s.pending := by
  simp [drawBytes]

@[simp] theorem advance_frame (t : Nat) (s : State) :
    (advance t s).sys = s.sys ∧ (advance t s).link = s.link ∧ (advance t s).rings = s.rings
     ∧ (advance t s).bulk = s.bulk ∧ (advance t s).adm = s.adm ∧ (advance t s).eng = s.eng ∧ (advance t s).dep = s.dep
     ∧ (advance t s).vm = s.vm ∧ (advance t s).keys = s.keys ∧ (advance t s).box = s.box ∧ (advance t s).evt = s.evt
     ∧ (advance t s).cnt = s.cnt ∧ (advance t s).flash = s.flash ∧ (advance t s).otp = s.otp
     ∧ (advance t s).lanes = s.lanes ∧ (advance t s).pk = s.pk ∧ (advance t s).life = s.life
     ∧ (advance t s).rng = s.rng ∧ (advance t s).cards = s.cards ∧ (advance t s).jct = s.jct
     ∧ (advance t s).tamper = s.tamper ∧ (advance t s).pkg = s.pkg ∧ (advance t s).out = s.out
     ∧ (advance t s).pending = s.pending := by
  unfold advance
  dsimp only
  split <;> simp [freeNat]

@[simp] theorem uart_frame (l : UartLine) (s : State) :
    (uart l s).sys = s.sys ∧ (uart l s).link = s.link ∧ (uart l s).rings = s.rings ∧ (uart l s).bulk = s.bulk
     ∧ (uart l s).adm = s.adm ∧ (uart l s).clk = s.clk ∧ (uart l s).eng = s.eng ∧ (uart l s).dep = s.dep
     ∧ (uart l s).vm = s.vm ∧ (uart l s).keys = s.keys ∧ (uart l s).box = s.box ∧ (uart l s).evt = s.evt
     ∧ (uart l s).cnt = s.cnt ∧ (uart l s).flash = s.flash ∧ (uart l s).otp = s.otp ∧ (uart l s).lanes = s.lanes
     ∧ (uart l s).pk = s.pk ∧ (uart l s).life = s.life ∧ (uart l s).rng = s.rng ∧ (uart l s).cards = s.cards
     ∧ (uart l s).jct = s.jct ∧ (uart l s).tamper = s.tamper ∧ (uart l s).pkg = s.pkg ∧ (uart l s).free = s.free
     ∧ (uart l s).pending = s.pending := by
  simp [uart]

@[simp] theorem recordEv_frame (e : Ev) (s : State) :
    (recordEv e s).sys = s.sys ∧ (recordEv e s).link = s.link ∧ (recordEv e s).rings = s.rings
     ∧ (recordEv e s).bulk = s.bulk ∧ (recordEv e s).adm = s.adm ∧ (recordEv e s).clk = s.clk
     ∧ (recordEv e s).eng = s.eng ∧ (recordEv e s).dep = s.dep ∧ (recordEv e s).vm = s.vm
     ∧ (recordEv e s).keys = s.keys ∧ (recordEv e s).box = s.box ∧ (recordEv e s).cnt = s.cnt
     ∧ (recordEv e s).flash = s.flash ∧ (recordEv e s).otp = s.otp ∧ (recordEv e s).lanes = s.lanes
     ∧ (recordEv e s).pk = s.pk ∧ (recordEv e s).life = s.life ∧ (recordEv e s).rng = s.rng
     ∧ (recordEv e s).cards = s.cards ∧ (recordEv e s).jct = s.jct ∧ (recordEv e s).tamper = s.tamper
     ∧ (recordEv e s).pkg = s.pkg ∧ (recordEv e s).out = s.out ∧ (recordEv e s).free = s.free
     ∧ (recordEv e s).pending = s.pending := by
  unfold recordEv
  dsimp only
  repeat' (first | split | exact ⟨rfl, rfl, rfl, rfl, rfl, rfl, rfl, rfl, rfl, rfl, rfl, rfl, rfl, rfl, rfl, rfl, rfl, rfl, rfl, rfl, rfl, rfl, rfl, rfl, rfl⟩)

@[simp] theorem countAt_frame (die ev : Nat) (subs : List Nat) (owner n : Nat) (s : State) :
    (countAt die ev subs owner n s).sys = s.sys ∧ (countAt die ev subs owner n s).link = s.link
     ∧ (countAt die ev subs owner n s).rings = s.rings ∧ (countAt die ev subs owner n s).bulk = s.bulk
     ∧ (countAt die ev subs owner n s).adm = s.adm ∧ (countAt die ev subs owner n s).clk = s.clk
     ∧ (countAt die ev subs owner n s).eng = s.eng ∧ (countAt die ev subs owner n s).dep = s.dep
     ∧ (countAt die ev subs owner n s).vm = s.vm ∧ (countAt die ev subs owner n s).keys = s.keys
     ∧ (countAt die ev subs owner n s).box = s.box ∧ (countAt die ev subs owner n s).flash = s.flash
     ∧ (countAt die ev subs owner n s).otp = s.otp ∧ (countAt die ev subs owner n s).lanes = s.lanes
     ∧ (countAt die ev subs owner n s).pk = s.pk ∧ (countAt die ev subs owner n s).life = s.life
     ∧ (countAt die ev subs owner n s).rng = s.rng ∧ (countAt die ev subs owner n s).cards = s.cards
     ∧ (countAt die ev subs owner n s).jct = s.jct ∧ (countAt die ev subs owner n s).tamper = s.tamper
     ∧ (countAt die ev subs owner n s).pkg = s.pkg ∧ (countAt die ev subs owner n s).out = s.out
     ∧ (countAt die ev subs owner n s).free = s.free ∧ (countAt die ev subs owner n s).pending = s.pending := by
  unfold countAt
  dsimp only
  exact foldr_keeps (fun t => t.sys = s.sys ∧ t.link = s.link ∧ t.rings = s.rings ∧ t.bulk = s.bulk ∧ t.adm = s.adm ∧ t.clk = s.clk ∧ t.eng = s.eng ∧ t.dep = s.dep ∧ t.vm = s.vm ∧ t.keys = s.keys ∧ t.box = s.box ∧ t.flash = s.flash ∧ t.otp = s.otp ∧ t.lanes = s.lanes ∧ t.pk = s.pk ∧ t.life = s.life ∧ t.rng = s.rng ∧ t.cards = s.cards ∧ t.jct = s.jct ∧ t.tamper = s.tamper ∧ t.pkg = s.pkg ∧ t.out = s.out ∧ t.free = s.free ∧ t.pending = s.pending) _ (fun x st h => by simpa using h) _ _ (by simp)

@[simp] theorem bumpAt_frame (die ev : Nat) (subs : List Nat) (owner n : Nat) (s : State) :
    (bumpAt die ev subs owner n s).sys = s.sys ∧ (bumpAt die ev subs owner n s).link = s.link
     ∧ (bumpAt die ev subs owner n s).rings = s.rings ∧ (bumpAt die ev subs owner n s).bulk = s.bulk
     ∧ (bumpAt die ev subs owner n s).adm = s.adm ∧ (bumpAt die ev subs owner n s).clk = s.clk
     ∧ (bumpAt die ev subs owner n s).eng = s.eng ∧ (bumpAt die ev subs owner n s).dep = s.dep
     ∧ (bumpAt die ev subs owner n s).vm = s.vm ∧ (bumpAt die ev subs owner n s).keys = s.keys
     ∧ (bumpAt die ev subs owner n s).box = s.box ∧ (bumpAt die ev subs owner n s).flash = s.flash
     ∧ (bumpAt die ev subs owner n s).otp = s.otp ∧ (bumpAt die ev subs owner n s).lanes = s.lanes
     ∧ (bumpAt die ev subs owner n s).pk = s.pk ∧ (bumpAt die ev subs owner n s).life = s.life
     ∧ (bumpAt die ev subs owner n s).rng = s.rng ∧ (bumpAt die ev subs owner n s).cards = s.cards
     ∧ (bumpAt die ev subs owner n s).jct = s.jct ∧ (bumpAt die ev subs owner n s).tamper = s.tamper
     ∧ (bumpAt die ev subs owner n s).pkg = s.pkg ∧ (bumpAt die ev subs owner n s).out = s.out
     ∧ (bumpAt die ev subs owner n s).free = s.free ∧ (bumpAt die ev subs owner n s).pending = s.pending := by
  unfold bumpAt
  dsimp only
  split <;> simp

@[simp] theorem bump_frame (ev : Nat) (subs : List Nat) (owner n : Nat) (s : State) :
    (bump ev subs owner n s).sys = s.sys ∧ (bump ev subs owner n s).link = s.link
     ∧ (bump ev subs owner n s).rings = s.rings ∧ (bump ev subs owner n s).bulk = s.bulk
     ∧ (bump ev subs owner n s).adm = s.adm ∧ (bump ev subs owner n s).clk = s.clk
     ∧ (bump ev subs owner n s).eng = s.eng ∧ (bump ev subs owner n s).dep = s.dep
     ∧ (bump ev subs owner n s).vm = s.vm ∧ (bump ev subs owner n s).keys = s.keys
     ∧ (bump ev subs owner n s).box = s.box ∧ (bump ev subs owner n s).flash = s.flash
     ∧ (bump ev subs owner n s).otp = s.otp ∧ (bump ev subs owner n s).lanes = s.lanes
     ∧ (bump ev subs owner n s).pk = s.pk ∧ (bump ev subs owner n s).life = s.life
     ∧ (bump ev subs owner n s).rng = s.rng ∧ (bump ev subs owner n s).cards = s.cards
     ∧ (bump ev subs owner n s).jct = s.jct ∧ (bump ev subs owner n s).tamper = s.tamper
     ∧ (bump ev subs owner n s).pkg = s.pkg ∧ (bump ev subs owner n s).out = s.out
     ∧ (bump ev subs owner n s).free = s.free ∧ (bump ev subs owner n s).pending = s.pending := by
  simp [bump]

@[simp] theorem eventSub_frame (code owner sub : Nat) (args : List (Nat × Nat)) (s : State) :
    (eventSub code owner sub args s).sys = s.sys ∧ (eventSub code owner sub args s).link = s.link
     ∧ (eventSub code owner sub args s).rings = s.rings ∧ (eventSub code owner sub args s).bulk = s.bulk
     ∧ (eventSub code owner sub args s).adm = s.adm ∧ (eventSub code owner sub args s).clk = s.clk
     ∧ (eventSub code owner sub args s).eng = s.eng ∧ (eventSub code owner sub args s).dep = s.dep
     ∧ (eventSub code owner sub args s).vm = s.vm ∧ (eventSub code owner sub args s).keys = s.keys
     ∧ (eventSub code owner sub args s).box = s.box ∧ (eventSub code owner sub args s).flash = s.flash
     ∧ (eventSub code owner sub args s).otp = s.otp ∧ (eventSub code owner sub args s).lanes = s.lanes
     ∧ (eventSub code owner sub args s).pk = s.pk ∧ (eventSub code owner sub args s).life = s.life
     ∧ (eventSub code owner sub args s).rng = s.rng ∧ (eventSub code owner sub args s).cards = s.cards
     ∧ (eventSub code owner sub args s).jct = s.jct ∧ (eventSub code owner sub args s).tamper = s.tamper
     ∧ (eventSub code owner sub args s).pkg = s.pkg ∧ (eventSub code owner sub args s).out = s.out
     ∧ (eventSub code owner sub args s).free = s.free ∧ (eventSub code owner sub args s).pending = s.pending := by
  unfold eventSub
  dsimp only
  split <;> simp

@[simp] theorem event_frame (code owner : Nat) (args : List (Nat × Nat)) (s : State) :
    (event code owner args s).sys = s.sys ∧ (event code owner args s).link = s.link
     ∧ (event code owner args s).rings = s.rings ∧ (event code owner args s).bulk = s.bulk
     ∧ (event code owner args s).adm = s.adm ∧ (event code owner args s).clk = s.clk
     ∧ (event code owner args s).eng = s.eng ∧ (event code owner args s).dep = s.dep
     ∧ (event code owner args s).vm = s.vm ∧ (event code owner args s).keys = s.keys
     ∧ (event code owner args s).box = s.box ∧ (event code owner args s).flash = s.flash
     ∧ (event code owner args s).otp = s.otp ∧ (event code owner args s).lanes = s.lanes
     ∧ (event code owner args s).pk = s.pk ∧ (event code owner args s).life = s.life
     ∧ (event code owner args s).rng = s.rng ∧ (event code owner args s).cards = s.cards
     ∧ (event code owner args s).jct = s.jct ∧ (event code owner args s).tamper = s.tamper
     ∧ (event code owner args s).pkg = s.pkg ∧ (event code owner args s).out = s.out
     ∧ (event code owner args s).free = s.free ∧ (event code owner args s).pending = s.pending := by
  simp [event]

@[simp] theorem freezeNewest_frame (s : State) :
    (freezeNewest s).sys = s.sys ∧ (freezeNewest s).link = s.link ∧ (freezeNewest s).rings = s.rings
     ∧ (freezeNewest s).bulk = s.bulk ∧ (freezeNewest s).adm = s.adm ∧ (freezeNewest s).clk = s.clk
     ∧ (freezeNewest s).eng = s.eng ∧ (freezeNewest s).dep = s.dep ∧ (freezeNewest s).vm = s.vm
     ∧ (freezeNewest s).keys = s.keys ∧ (freezeNewest s).box = s.box ∧ (freezeNewest s).cnt = s.cnt
     ∧ (freezeNewest s).flash = s.flash ∧ (freezeNewest s).otp = s.otp ∧ (freezeNewest s).lanes = s.lanes
     ∧ (freezeNewest s).pk = s.pk ∧ (freezeNewest s).life = s.life ∧ (freezeNewest s).rng = s.rng
     ∧ (freezeNewest s).cards = s.cards ∧ (freezeNewest s).jct = s.jct ∧ (freezeNewest s).tamper = s.tamper
     ∧ (freezeNewest s).pkg = s.pkg ∧ (freezeNewest s).out = s.out ∧ (freezeNewest s).free = s.free
     ∧ (freezeNewest s).pending = s.pending := by
  unfold freezeNewest
  split <;> simp

@[simp] theorem enterDev_frame (d : DevState) (s : State) :
    (enterDev d s).link = s.link ∧ (enterDev d s).rings = s.rings ∧ (enterDev d s).bulk = s.bulk
     ∧ (enterDev d s).adm = s.adm ∧ (enterDev d s).clk = s.clk ∧ (enterDev d s).eng = s.eng
     ∧ (enterDev d s).dep = s.dep ∧ (enterDev d s).vm = s.vm ∧ (enterDev d s).keys = s.keys
     ∧ (enterDev d s).box = s.box ∧ (enterDev d s).evt = s.evt ∧ (enterDev d s).cnt = s.cnt
     ∧ (enterDev d s).flash = s.flash ∧ (enterDev d s).otp = s.otp ∧ (enterDev d s).lanes = s.lanes
     ∧ (enterDev d s).pk = s.pk ∧ (enterDev d s).life = s.life ∧ (enterDev d s).rng = s.rng
     ∧ (enterDev d s).cards = s.cards ∧ (enterDev d s).jct = s.jct ∧ (enterDev d s).tamper = s.tamper
     ∧ (enterDev d s).pkg = s.pkg ∧ (enterDev d s).free = s.free ∧ (enterDev d s).pending = s.pending := by
  unfold enterDev
  split <;> simp

@[simp] theorem mapOwner_frame (o : Nat) (f : Owner → Owner) (s : State) :
    (mapOwner o f s).sys = s.sys ∧ (mapOwner o f s).link = s.link ∧ (mapOwner o f s).rings = s.rings
     ∧ (mapOwner o f s).bulk = s.bulk ∧ (mapOwner o f s).clk = s.clk ∧ (mapOwner o f s).eng = s.eng
     ∧ (mapOwner o f s).dep = s.dep ∧ (mapOwner o f s).vm = s.vm ∧ (mapOwner o f s).keys = s.keys
     ∧ (mapOwner o f s).box = s.box ∧ (mapOwner o f s).evt = s.evt ∧ (mapOwner o f s).cnt = s.cnt
     ∧ (mapOwner o f s).flash = s.flash ∧ (mapOwner o f s).otp = s.otp ∧ (mapOwner o f s).lanes = s.lanes
     ∧ (mapOwner o f s).pk = s.pk ∧ (mapOwner o f s).life = s.life ∧ (mapOwner o f s).rng = s.rng
     ∧ (mapOwner o f s).cards = s.cards ∧ (mapOwner o f s).jct = s.jct ∧ (mapOwner o f s).tamper = s.tamper
     ∧ (mapOwner o f s).pkg = s.pkg ∧ (mapOwner o f s).out = s.out ∧ (mapOwner o f s).free = s.free
     ∧ (mapOwner o f s).pending = s.pending := by
  simp [mapOwner]

@[simp] theorem mapRing_frame (r : Nat) (f : Ring → Ring) (s : State) :
    (mapRing r f s).sys = s.sys ∧ (mapRing r f s).link = s.link ∧ (mapRing r f s).bulk = s.bulk
     ∧ (mapRing r f s).adm = s.adm ∧ (mapRing r f s).clk = s.clk ∧ (mapRing r f s).eng = s.eng
     ∧ (mapRing r f s).dep = s.dep ∧ (mapRing r f s).vm = s.vm ∧ (mapRing r f s).keys = s.keys
     ∧ (mapRing r f s).box = s.box ∧ (mapRing r f s).evt = s.evt ∧ (mapRing r f s).cnt = s.cnt
     ∧ (mapRing r f s).flash = s.flash ∧ (mapRing r f s).otp = s.otp ∧ (mapRing r f s).lanes = s.lanes
     ∧ (mapRing r f s).pk = s.pk ∧ (mapRing r f s).life = s.life ∧ (mapRing r f s).rng = s.rng
     ∧ (mapRing r f s).cards = s.cards ∧ (mapRing r f s).jct = s.jct ∧ (mapRing r f s).tamper = s.tamper
     ∧ (mapRing r f s).pkg = s.pkg ∧ (mapRing r f s).out = s.out ∧ (mapRing r f s).free = s.free
     ∧ (mapRing r f s).pending = s.pending := by
  simp [mapRing]

@[simp] theorem deliver_frame (ring gen : Nat) (d : Done) (s : State) :
    (deliver ring gen d s).sys = s.sys ∧ (deliver ring gen d s).link = s.link ∧ (deliver ring gen d s).bulk = s.bulk
     ∧ (deliver ring gen d s).adm = s.adm ∧ (deliver ring gen d s).clk = s.clk ∧ (deliver ring gen d s).eng = s.eng
     ∧ (deliver ring gen d s).dep = s.dep ∧ (deliver ring gen d s).vm = s.vm ∧ (deliver ring gen d s).keys = s.keys
     ∧ (deliver ring gen d s).box = s.box ∧ (deliver ring gen d s).evt = s.evt ∧ (deliver ring gen d s).cnt = s.cnt
     ∧ (deliver ring gen d s).flash = s.flash ∧ (deliver ring gen d s).otp = s.otp
     ∧ (deliver ring gen d s).lanes = s.lanes ∧ (deliver ring gen d s).pk = s.pk
     ∧ (deliver ring gen d s).life = s.life ∧ (deliver ring gen d s).rng = s.rng
     ∧ (deliver ring gen d s).cards = s.cards ∧ (deliver ring gen d s).jct = s.jct
     ∧ (deliver ring gen d s).tamper = s.tamper ∧ (deliver ring gen d s).pkg = s.pkg
     ∧ (deliver ring gen d s).out = s.out ∧ (deliver ring gen d s).free = s.free
     ∧ (deliver ring gen d s).pending = s.pending := by
  unfold deliver
  split <;> simp

@[simp] theorem writeDst_frame (w : Work) (b : Bytes) (s : State) :
    (writeDst w b s).sys = s.sys ∧ (writeDst w b s).link = s.link ∧ (writeDst w b s).rings = s.rings
     ∧ (writeDst w b s).bulk = s.bulk ∧ (writeDst w b s).adm = s.adm ∧ (writeDst w b s).clk = s.clk
     ∧ (writeDst w b s).eng = s.eng ∧ (writeDst w b s).dep = s.dep ∧ (writeDst w b s).vm = s.vm
     ∧ (writeDst w b s).keys = s.keys ∧ (writeDst w b s).box = s.box ∧ (writeDst w b s).evt = s.evt
     ∧ (writeDst w b s).cnt = s.cnt ∧ (writeDst w b s).flash = s.flash ∧ (writeDst w b s).otp = s.otp
     ∧ (writeDst w b s).lanes = s.lanes ∧ (writeDst w b s).pk = s.pk ∧ (writeDst w b s).life = s.life
     ∧ (writeDst w b s).rng = s.rng ∧ (writeDst w b s).cards = s.cards ∧ (writeDst w b s).jct = s.jct
     ∧ (writeDst w b s).tamper = s.tamper ∧ (writeDst w b s).pkg = s.pkg ∧ (writeDst w b s).free = s.free
     ∧ (writeDst w b s).pending = s.pending := by
  unfold writeDst
  dsimp only
  split <;> simp

@[simp] theorem finishWith_frame (u : Bool) (w : Work) (st : Status) (detail : Nat) (b : Bytes) (s : State) :
    (finishWith u w st detail b s).sys = s.sys ∧ (finishWith u w st detail b s).link = s.link
     ∧ (finishWith u w st detail b s).bulk = s.bulk ∧ (finishWith u w st detail b s).adm = s.adm
     ∧ (finishWith u w st detail b s).clk = s.clk ∧ (finishWith u w st detail b s).eng = s.eng
     ∧ (finishWith u w st detail b s).dep = s.dep ∧ (finishWith u w st detail b s).vm = s.vm
     ∧ (finishWith u w st detail b s).keys = s.keys ∧ (finishWith u w st detail b s).box = s.box
     ∧ (finishWith u w st detail b s).evt = s.evt ∧ (finishWith u w st detail b s).cnt = s.cnt
     ∧ (finishWith u w st detail b s).flash = s.flash ∧ (finishWith u w st detail b s).otp = s.otp
     ∧ (finishWith u w st detail b s).lanes = s.lanes ∧ (finishWith u w st detail b s).pk = s.pk
     ∧ (finishWith u w st detail b s).life = s.life ∧ (finishWith u w st detail b s).rng = s.rng
     ∧ (finishWith u w st detail b s).cards = s.cards ∧ (finishWith u w st detail b s).jct = s.jct
     ∧ (finishWith u w st detail b s).tamper = s.tamper ∧ (finishWith u w st detail b s).pkg = s.pkg
     ∧ (finishWith u w st detail b s).free = s.free ∧ (finishWith u w st detail b s).pending = s.pending := by
  simp [finishWith]

@[simp] theorem finish_frame (w : Work) (st : Status) (detail : Nat) (b : Bytes) (s : State) :
    (finish w st detail b s).sys = s.sys ∧ (finish w st detail b s).link = s.link
     ∧ (finish w st detail b s).bulk = s.bulk ∧ (finish w st detail b s).adm = s.adm
     ∧ (finish w st detail b s).clk = s.clk ∧ (finish w st detail b s).eng = s.eng
     ∧ (finish w st detail b s).dep = s.dep ∧ (finish w st detail b s).vm = s.vm
     ∧ (finish w st detail b s).keys = s.keys ∧ (finish w st detail b s).box = s.box
     ∧ (finish w st detail b s).evt = s.evt ∧ (finish w st detail b s).cnt = s.cnt
     ∧ (finish w st detail b s).flash = s.flash ∧ (finish w st detail b s).otp = s.otp
     ∧ (finish w st detail b s).lanes = s.lanes ∧ (finish w st detail b s).pk = s.pk
     ∧ (finish w st detail b s).life = s.life ∧ (finish w st detail b s).rng = s.rng
     ∧ (finish w st detail b s).cards = s.cards ∧ (finish w st detail b s).jct = s.jct
     ∧ (finish w st detail b s).tamper = s.tamper ∧ (finish w st detail b s).pkg = s.pkg
     ∧ (finish w st detail b s).free = s.free ∧ (finish w st detail b s).pending = s.pending := by
  simp [finish]

@[simp] theorem issue_frame (o : Nat) (s : State) :
    (issue o s).2.sys = s.sys ∧ (issue o s).2.link = s.link ∧ (issue o s).2.rings = s.rings
     ∧ (issue o s).2.bulk = s.bulk ∧ (issue o s).2.clk = s.clk ∧ (issue o s).2.eng = s.eng ∧ (issue o s).2.dep = s.dep
     ∧ (issue o s).2.vm = s.vm ∧ (issue o s).2.keys = s.keys ∧ (issue o s).2.box = s.box ∧ (issue o s).2.evt = s.evt
     ∧ (issue o s).2.cnt = s.cnt ∧ (issue o s).2.flash = s.flash ∧ (issue o s).2.otp = s.otp
     ∧ (issue o s).2.lanes = s.lanes ∧ (issue o s).2.pk = s.pk ∧ (issue o s).2.life = s.life
     ∧ (issue o s).2.rng = s.rng ∧ (issue o s).2.cards = s.cards ∧ (issue o s).2.jct = s.jct
     ∧ (issue o s).2.tamper = s.tamper ∧ (issue o s).2.pkg = s.pkg ∧ (issue o s).2.out = s.out
     ∧ (issue o s).2.free = s.free ∧ (issue o s).2.pending = s.pending := by
  simp [issue]

@[simp] theorem classD_frame (l : LaneId) (s : State) :
    (classD l s).2.sys = s.sys ∧ (classD l s).2.link = s.link ∧ (classD l s).2.rings = s.rings
     ∧ (classD l s).2.bulk = s.bulk ∧ (classD l s).2.adm = s.adm ∧ (classD l s).2.clk = s.clk
     ∧ (classD l s).2.eng = s.eng ∧ (classD l s).2.dep = s.dep ∧ (classD l s).2.vm = s.vm
     ∧ (classD l s).2.keys = s.keys ∧ (classD l s).2.box = s.box ∧ (classD l s).2.evt = s.evt
     ∧ (classD l s).2.cnt = s.cnt ∧ (classD l s).2.flash = s.flash ∧ (classD l s).2.otp = s.otp
     ∧ (classD l s).2.pk = s.pk ∧ (classD l s).2.life = s.life ∧ (classD l s).2.rng = s.rng
     ∧ (classD l s).2.cards = s.cards ∧ (classD l s).2.jct = s.jct ∧ (classD l s).2.tamper = s.tamper
     ∧ (classD l s).2.pkg = s.pkg ∧ (classD l s).2.out = s.out ∧ (classD l s).2.free = s.free
     ∧ (classD l s).2.pending = s.pending := by
  simp [classD]

@[simp] theorem setSlot_frame (i : Nat) (x : Slot) (s : State) :
    (setSlot i x s).sys = s.sys ∧ (setSlot i x s).link = s.link ∧ (setSlot i x s).rings = s.rings
     ∧ (setSlot i x s).bulk = s.bulk ∧ (setSlot i x s).adm = s.adm ∧ (setSlot i x s).clk = s.clk
     ∧ (setSlot i x s).eng = s.eng ∧ (setSlot i x s).dep = s.dep ∧ (setSlot i x s).vm = s.vm
     ∧ (setSlot i x s).box = s.box ∧ (setSlot i x s).evt = s.evt ∧ (setSlot i x s).cnt = s.cnt
     ∧ (setSlot i x s).otp = s.otp ∧ (setSlot i x s).lanes = s.lanes ∧ (setSlot i x s).pk = s.pk
     ∧ (setSlot i x s).life = s.life ∧ (setSlot i x s).rng = s.rng ∧ (setSlot i x s).cards = s.cards
     ∧ (setSlot i x s).jct = s.jct ∧ (setSlot i x s).tamper = s.tamper ∧ (setSlot i x s).pkg = s.pkg
     ∧ (setSlot i x s).out = s.out ∧ (setSlot i x s).free = s.free ∧ (setSlot i x s).pending = s.pending := by
  simp [setSlot]

@[simp] theorem noteCheckFail_frame (o h : Nat) (s : State) :
    (noteCheckFail o h s).sys = s.sys ∧ (noteCheckFail o h s).link = s.link ∧ (noteCheckFail o h s).rings = s.rings
     ∧ (noteCheckFail o h s).bulk = s.bulk ∧ (noteCheckFail o h s).adm = s.adm ∧ (noteCheckFail o h s).clk = s.clk
     ∧ (noteCheckFail o h s).eng = s.eng ∧ (noteCheckFail o h s).dep = s.dep ∧ (noteCheckFail o h s).vm = s.vm
     ∧ (noteCheckFail o h s).box = s.box ∧ (noteCheckFail o h s).flash = s.flash ∧ (noteCheckFail o h s).otp = s.otp
     ∧ (noteCheckFail o h s).lanes = s.lanes ∧ (noteCheckFail o h s).pk = s.pk ∧ (noteCheckFail o h s).life = s.life
     ∧ (noteCheckFail o h s).rng = s.rng ∧ (noteCheckFail o h s).cards = s.cards ∧ (noteCheckFail o h s).jct = s.jct
     ∧ (noteCheckFail o h s).tamper = s.tamper ∧ (noteCheckFail o h s).pkg = s.pkg ∧ (noteCheckFail o h s).out = s.out
     ∧ (noteCheckFail o h s).free = s.free ∧ (noteCheckFail o h s).pending = s.pending := by
  simp [noteCheckFail]

@[simp] theorem failSlot_frame (i : Nat) (s : State) :
    (failSlot i s).sys = s.sys ∧ (failSlot i s).link = s.link ∧ (failSlot i s).rings = s.rings
     ∧ (failSlot i s).bulk = s.bulk ∧ (failSlot i s).adm = s.adm ∧ (failSlot i s).clk = s.clk
     ∧ (failSlot i s).eng = s.eng ∧ (failSlot i s).dep = s.dep ∧ (failSlot i s).vm = s.vm ∧ (failSlot i s).box = s.box
     ∧ (failSlot i s).otp = s.otp ∧ (failSlot i s).lanes = s.lanes ∧ (failSlot i s).pk = s.pk
     ∧ (failSlot i s).life = s.life ∧ (failSlot i s).rng = s.rng ∧ (failSlot i s).cards = s.cards
     ∧ (failSlot i s).jct = s.jct ∧ (failSlot i s).tamper = s.tamper ∧ (failSlot i s).pkg = s.pkg
     ∧ (failSlot i s).out = s.out ∧ (failSlot i s).free = s.free ∧ (failSlot i s).pending = s.pending := by
  unfold failSlot
  dsimp only
  split <;> simp

@[simp] theorem checkSlot_frame (i : Nat) (s : State) :
    (checkSlot i s).sys = s.sys ∧ (checkSlot i s).link = s.link ∧ (checkSlot i s).rings = s.rings
     ∧ (checkSlot i s).bulk = s.bulk ∧ (checkSlot i s).adm = s.adm ∧ (checkSlot i s).clk = s.clk
     ∧ (checkSlot i s).eng = s.eng ∧ (checkSlot i s).dep = s.dep ∧ (checkSlot i s).vm = s.vm
     ∧ (checkSlot i s).box = s.box ∧ (checkSlot i s).otp = s.otp ∧ (checkSlot i s).lanes = s.lanes
     ∧ (checkSlot i s).pk = s.pk ∧ (checkSlot i s).life = s.life ∧ (checkSlot i s).rng = s.rng
     ∧ (checkSlot i s).cards = s.cards ∧ (checkSlot i s).jct = s.jct ∧ (checkSlot i s).tamper = s.tamper
     ∧ (checkSlot i s).pkg = s.pkg ∧ (checkSlot i s).out = s.out ∧ (checkSlot i s).free = s.free
     ∧ (checkSlot i s).pending = s.pending := by
  unfold checkSlot
  split <;> simp

@[simp] theorem useSlot_frame (i : Nat) (s : State) :
    (useSlot i s).sys = s.sys ∧ (useSlot i s).link = s.link ∧ (useSlot i s).rings = s.rings
     ∧ (useSlot i s).bulk = s.bulk ∧ (useSlot i s).adm = s.adm ∧ (useSlot i s).clk = s.clk ∧ (useSlot i s).eng = s.eng
     ∧ (useSlot i s).dep = s.dep ∧ (useSlot i s).vm = s.vm ∧ (useSlot i s).box = s.box ∧ (useSlot i s).otp = s.otp
     ∧ (useSlot i s).lanes = s.lanes ∧ (useSlot i s).pk = s.pk ∧ (useSlot i s).life = s.life
     ∧ (useSlot i s).rng = s.rng ∧ (useSlot i s).cards = s.cards ∧ (useSlot i s).jct = s.jct
     ∧ (useSlot i s).tamper = s.tamper ∧ (useSlot i s).pkg = s.pkg ∧ (useSlot i s).out = s.out
     ∧ (useSlot i s).free = s.free ∧ (useSlot i s).pending = s.pending := by
  unfold useSlot
  dsimp only
  repeat' split <;> simp

@[simp] theorem checkRoot_frame (owner seq : Nat) (s : State) :
    (checkRoot owner seq s).sys = s.sys ∧ (checkRoot owner seq s).link = s.link
     ∧ (checkRoot owner seq s).rings = s.rings ∧ (checkRoot owner seq s).bulk = s.bulk
     ∧ (checkRoot owner seq s).adm = s.adm ∧ (checkRoot owner seq s).clk = s.clk ∧ (checkRoot owner seq s).eng = s.eng
     ∧ (checkRoot owner seq s).dep = s.dep ∧ (checkRoot owner seq s).vm = s.vm ∧ (checkRoot owner seq s).box = s.box
     ∧ (checkRoot owner seq s).otp = s.otp ∧ (checkRoot owner seq s).lanes = s.lanes
     ∧ (checkRoot owner seq s).pk = s.pk ∧ (checkRoot owner seq s).life = s.life ∧ (checkRoot owner seq s).rng = s.rng
     ∧ (checkRoot owner seq s).cards = s.cards ∧ (checkRoot owner seq s).jct = s.jct
     ∧ (checkRoot owner seq s).tamper = s.tamper ∧ (checkRoot owner seq s).pkg = s.pkg
     ∧ (checkRoot owner seq s).out = s.out ∧ (checkRoot owner seq s).free = s.free
     ∧ (checkRoot owner seq s).pending = s.pending := by
  unfold checkRoot
  dsimp only
  split <;> simp

@[simp] theorem useRoot_frame (owner seq : Nat) (s : State) :
    (useRoot owner seq s).sys = s.sys ∧ (useRoot owner seq s).link = s.link ∧ (useRoot owner seq s).rings = s.rings
     ∧ (useRoot owner seq s).bulk = s.bulk ∧ (useRoot owner seq s).adm = s.adm ∧ (useRoot owner seq s).clk = s.clk
     ∧ (useRoot owner seq s).eng = s.eng ∧ (useRoot owner seq s).dep = s.dep ∧ (useRoot owner seq s).vm = s.vm
     ∧ (useRoot owner seq s).box = s.box ∧ (useRoot owner seq s).otp = s.otp ∧ (useRoot owner seq s).lanes = s.lanes
     ∧ (useRoot owner seq s).pk = s.pk ∧ (useRoot owner seq s).life = s.life ∧ (useRoot owner seq s).rng = s.rng
     ∧ (useRoot owner seq s).cards = s.cards ∧ (useRoot owner seq s).jct = s.jct
     ∧ (useRoot owner seq s).tamper = s.tamper ∧ (useRoot owner seq s).pkg = s.pkg ∧ (useRoot owner seq s).out = s.out
     ∧ (useRoot owner seq s).free = s.free ∧ (useRoot owner seq s).pending = s.pending := by
  unfold useRoot
  dsimp only
  repeat' split <;> simp

@[simp] theorem vaultSeal_frame (key : Bytes) (aad : Bytes → Bytes) (pt : Bytes) (s : State) :
    (vaultSeal key aad pt s).2.sys = s.sys ∧ (vaultSeal key aad pt s).2.link = s.link
     ∧ (vaultSeal key aad pt s).2.rings = s.rings ∧ (vaultSeal key aad pt s).2.bulk = s.bulk
     ∧ (vaultSeal key aad pt s).2.adm = s.adm ∧ (vaultSeal key aad pt s).2.clk = s.clk
     ∧ (vaultSeal key aad pt s).2.eng = s.eng ∧ (vaultSeal key aad pt s).2.dep = s.dep
     ∧ (vaultSeal key aad pt s).2.vm = s.vm ∧ (vaultSeal key aad pt s).2.keys = s.keys
     ∧ (vaultSeal key aad pt s).2.box = s.box ∧ (vaultSeal key aad pt s).2.evt = s.evt
     ∧ (vaultSeal key aad pt s).2.cnt = s.cnt ∧ (vaultSeal key aad pt s).2.flash = s.flash
     ∧ (vaultSeal key aad pt s).2.otp = s.otp ∧ (vaultSeal key aad pt s).2.pk = s.pk
     ∧ (vaultSeal key aad pt s).2.life = s.life ∧ (vaultSeal key aad pt s).2.rng = s.rng
     ∧ (vaultSeal key aad pt s).2.cards = s.cards ∧ (vaultSeal key aad pt s).2.jct = s.jct
     ∧ (vaultSeal key aad pt s).2.tamper = s.tamper ∧ (vaultSeal key aad pt s).2.pkg = s.pkg
     ∧ (vaultSeal key aad pt s).2.out = s.out ∧ (vaultSeal key aad pt s).2.pending = s.pending := by
  simp [vaultSeal, pick]

@[simp] theorem closeBlock_frame (o : Nat) (s : State) :
    (closeBlock o s).sys = s.sys ∧ (closeBlock o s).link = s.link ∧ (closeBlock o s).rings = s.rings
     ∧ (closeBlock o s).bulk = s.bulk ∧ (closeBlock o s).clk = s.clk ∧ (closeBlock o s).eng = s.eng
     ∧ (closeBlock o s).dep = s.dep ∧ (closeBlock o s).vm = s.vm ∧ (closeBlock o s).box = s.box
     ∧ (closeBlock o s).otp = s.otp ∧ (closeBlock o s).pk = s.pk ∧ (closeBlock o s).life = s.life
     ∧ (closeBlock o s).rng = s.rng ∧ (closeBlock o s).cards = s.cards ∧ (closeBlock o s).jct = s.jct
     ∧ (closeBlock o s).tamper = s.tamper ∧ (closeBlock o s).pkg = s.pkg ∧ (closeBlock o s).out = s.out
     ∧ (closeBlock o s).pending = s.pending := by
  unfold closeBlock
  dsimp only
  split
  · simp
  · repeat' split <;> simp

@[simp] theorem addEntry_frame (o : Nat) (e : JEntry) (s : State) :
    (addEntry o e s).sys = s.sys ∧ (addEntry o e s).link = s.link ∧ (addEntry o e s).rings = s.rings
     ∧ (addEntry o e s).bulk = s.bulk ∧ (addEntry o e s).clk = s.clk ∧ (addEntry o e s).eng = s.eng
     ∧ (addEntry o e s).dep = s.dep ∧ (addEntry o e s).vm = s.vm ∧ (addEntry o e s).box = s.box
     ∧ (addEntry o e s).otp = s.otp ∧ (addEntry o e s).pk = s.pk ∧ (addEntry o e s).life = s.life
     ∧ (addEntry o e s).rng = s.rng ∧ (addEntry o e s).cards = s.cards ∧ (addEntry o e s).jct = s.jct
     ∧ (addEntry o e s).tamper = s.tamper ∧ (addEntry o e s).pkg = s.pkg ∧ (addEntry o e s).out = s.out
     ∧ (addEntry o e s).pending = s.pending := by
  unfold addEntry
  dsimp only
  split <;> simp

@[simp] theorem flushJournal_frame (o : Nat) (s : State) :
    (flushJournal o s).sys = s.sys ∧ (flushJournal o s).link = s.link ∧ (flushJournal o s).rings = s.rings
     ∧ (flushJournal o s).bulk = s.bulk ∧ (flushJournal o s).clk = s.clk ∧ (flushJournal o s).eng = s.eng
     ∧ (flushJournal o s).dep = s.dep ∧ (flushJournal o s).vm = s.vm ∧ (flushJournal o s).box = s.box
     ∧ (flushJournal o s).otp = s.otp ∧ (flushJournal o s).pk = s.pk ∧ (flushJournal o s).life = s.life
     ∧ (flushJournal o s).rng = s.rng ∧ (flushJournal o s).cards = s.cards ∧ (flushJournal o s).jct = s.jct
     ∧ (flushJournal o s).tamper = s.tamper ∧ (flushJournal o s).pkg = s.pkg ∧ (flushJournal o s).out = s.out
     ∧ (flushJournal o s).pending = s.pending := by
  unfold flushJournal
  dsimp only
  exact foldl_keeps (fun t => t.sys = s.sys ∧ t.link = s.link ∧ t.rings = s.rings ∧ t.bulk = s.bulk ∧ t.clk = s.clk ∧ t.eng = s.eng ∧ t.dep = s.dep ∧ t.vm = s.vm ∧ t.box = s.box ∧ t.otp = s.otp ∧ t.pk = s.pk ∧ t.life = s.life ∧ t.rng = s.rng ∧ t.cards = s.cards ∧ t.jct = s.jct ∧ t.tamper = s.tamper ∧ t.pkg = s.pkg ∧ t.out = s.out ∧ t.pending = s.pending) _ (fun st x h => by simpa using h) _ _ (by simp)

@[simp] theorem backlogCheck_frame (o : Nat) (s : State) :
    (backlogCheck o s).sys = s.sys ∧ (backlogCheck o s).link = s.link ∧ (backlogCheck o s).rings = s.rings
     ∧ (backlogCheck o s).bulk = s.bulk ∧ (backlogCheck o s).clk = s.clk ∧ (backlogCheck o s).eng = s.eng
     ∧ (backlogCheck o s).dep = s.dep ∧ (backlogCheck o s).vm = s.vm ∧ (backlogCheck o s).keys = s.keys
     ∧ (backlogCheck o s).box = s.box ∧ (backlogCheck o s).flash = s.flash ∧ (backlogCheck o s).otp = s.otp
     ∧ (backlogCheck o s).lanes = s.lanes ∧ (backlogCheck o s).pk = s.pk ∧ (backlogCheck o s).life = s.life
     ∧ (backlogCheck o s).rng = s.rng ∧ (backlogCheck o s).cards = s.cards ∧ (backlogCheck o s).jct = s.jct
     ∧ (backlogCheck o s).tamper = s.tamper ∧ (backlogCheck o s).pkg = s.pkg ∧ (backlogCheck o s).out = s.out
     ∧ (backlogCheck o s).free = s.free ∧ (backlogCheck o s).pending = s.pending := by
  unfold backlogCheck
  dsimp only
  repeat' split <;> simp

@[simp] theorem sealLeaf_frame (st : Stamp) (l : Leaf) (replay : Bytes) (s : State) :
    (sealLeaf st l replay s).sys = s.sys ∧ (sealLeaf st l replay s).link = s.link
     ∧ (sealLeaf st l replay s).rings = s.rings ∧ (sealLeaf st l replay s).bulk = s.bulk
     ∧ (sealLeaf st l replay s).clk = s.clk ∧ (sealLeaf st l replay s).eng = s.eng
     ∧ (sealLeaf st l replay s).vm = s.vm ∧ (sealLeaf st l replay s).box = s.box
     ∧ (sealLeaf st l replay s).otp = s.otp ∧ (sealLeaf st l replay s).pk = s.pk
     ∧ (sealLeaf st l replay s).life = s.life ∧ (sealLeaf st l replay s).rng = s.rng
     ∧ (sealLeaf st l replay s).cards = s.cards ∧ (sealLeaf st l replay s).jct = s.jct
     ∧ (sealLeaf st l replay s).tamper = s.tamper ∧ (sealLeaf st l replay s).pkg = s.pkg
     ∧ (sealLeaf st l replay s).out = s.out ∧ (sealLeaf st l replay s).pending = s.pending := by
  unfold sealLeaf
  dsimp only
  split <;> simp

@[simp] theorem sealNow_frame (l : Leaf) (replay : Bytes) (s : State) :
    (sealNow l replay s).sys = s.sys ∧ (sealNow l replay s).link = s.link ∧ (sealNow l replay s).rings = s.rings
     ∧ (sealNow l replay s).bulk = s.bulk ∧ (sealNow l replay s).clk = s.clk ∧ (sealNow l replay s).eng = s.eng
     ∧ (sealNow l replay s).vm = s.vm ∧ (sealNow l replay s).box = s.box ∧ (sealNow l replay s).otp = s.otp
     ∧ (sealNow l replay s).pk = s.pk ∧ (sealNow l replay s).life = s.life ∧ (sealNow l replay s).rng = s.rng
     ∧ (sealNow l replay s).cards = s.cards ∧ (sealNow l replay s).jct = s.jct
     ∧ (sealNow l replay s).tamper = s.tamper ∧ (sealNow l replay s).pkg = s.pkg ∧ (sealNow l replay s).out = s.out
     ∧ (sealNow l replay s).pending = s.pending := by
  unfold sealNow
  split <;> simp

@[simp] theorem finishSealed_frame (w : Work) (l : Leaf) (replay b : Bytes) (s : State) :
    (finishSealed w l replay b s).sys = s.sys ∧ (finishSealed w l replay b s).link = s.link
     ∧ (finishSealed w l replay b s).bulk = s.bulk ∧ (finishSealed w l replay b s).clk = s.clk
     ∧ (finishSealed w l replay b s).eng = s.eng ∧ (finishSealed w l replay b s).vm = s.vm
     ∧ (finishSealed w l replay b s).box = s.box ∧ (finishSealed w l replay b s).otp = s.otp
     ∧ (finishSealed w l replay b s).pk = s.pk ∧ (finishSealed w l replay b s).life = s.life
     ∧ (finishSealed w l replay b s).rng = s.rng ∧ (finishSealed w l replay b s).cards = s.cards
     ∧ (finishSealed w l replay b s).jct = s.jct ∧ (finishSealed w l replay b s).tamper = s.tamper
     ∧ (finishSealed w l replay b s).pkg = s.pkg ∧ (finishSealed w l replay b s).pending = s.pending := by
  unfold finishSealed
  dsimp only
  split <;> simp

@[simp] theorem onThread_frame (id : ThreadId) (f : Thread → Thread) (s : State) :
    (onThread id f s).sys = s.sys ∧ (onThread id f s).link = s.link ∧ (onThread id f s).rings = s.rings
     ∧ (onThread id f s).bulk = s.bulk ∧ (onThread id f s).adm = s.adm ∧ (onThread id f s).clk = s.clk
     ∧ (onThread id f s).dep = s.dep ∧ (onThread id f s).vm = s.vm ∧ (onThread id f s).keys = s.keys
     ∧ (onThread id f s).box = s.box ∧ (onThread id f s).evt = s.evt ∧ (onThread id f s).cnt = s.cnt
     ∧ (onThread id f s).flash = s.flash ∧ (onThread id f s).otp = s.otp ∧ (onThread id f s).lanes = s.lanes
     ∧ (onThread id f s).pk = s.pk ∧ (onThread id f s).life = s.life ∧ (onThread id f s).rng = s.rng
     ∧ (onThread id f s).cards = s.cards ∧ (onThread id f s).jct = s.jct ∧ (onThread id f s).tamper = s.tamper
     ∧ (onThread id f s).pkg = s.pkg ∧ (onThread id f s).out = s.out ∧ (onThread id f s).free = s.free
     ∧ (onThread id f s).pending = s.pending := by
  unfold onThread
  split <;> simp

@[simp] theorem stampWork_frame (w : Work) (o : Nat) (s : State) :
    (stampWork w o s).2.sys = s.sys ∧ (stampWork w o s).2.link = s.link ∧ (stampWork w o s).2.rings = s.rings
     ∧ (stampWork w o s).2.bulk = s.bulk ∧ (stampWork w o s).2.clk = s.clk ∧ (stampWork w o s).2.eng = s.eng
     ∧ (stampWork w o s).2.dep = s.dep ∧ (stampWork w o s).2.vm = s.vm ∧ (stampWork w o s).2.keys = s.keys
     ∧ (stampWork w o s).2.box = s.box ∧ (stampWork w o s).2.evt = s.evt ∧ (stampWork w o s).2.cnt = s.cnt
     ∧ (stampWork w o s).2.flash = s.flash ∧ (stampWork w o s).2.otp = s.otp ∧ (stampWork w o s).2.lanes = s.lanes
     ∧ (stampWork w o s).2.pk = s.pk ∧ (stampWork w o s).2.life = s.life ∧ (stampWork w o s).2.rng = s.rng
     ∧ (stampWork w o s).2.cards = s.cards ∧ (stampWork w o s).2.jct = s.jct ∧ (stampWork w o s).2.tamper = s.tamper
     ∧ (stampWork w o s).2.pkg = s.pkg ∧ (stampWork w o s).2.out = s.out ∧ (stampWork w o s).2.free = s.free
     ∧ (stampWork w o s).2.pending = s.pending := by
  simp [stampWork]

@[simp] theorem ceremony_frame (w : Work) (a : Accord) (h : Nat) (s : State) :
    (ceremony w a h s).2.sys = s.sys ∧ (ceremony w a h s).2.link = s.link ∧ (ceremony w a h s).2.rings = s.rings
     ∧ (ceremony w a h s).2.bulk = s.bulk ∧ (ceremony w a h s).2.clk = s.clk ∧ (ceremony w a h s).2.eng = s.eng
     ∧ (ceremony w a h s).2.vm = s.vm ∧ (ceremony w a h s).2.box = s.box ∧ (ceremony w a h s).2.otp = s.otp
     ∧ (ceremony w a h s).2.pk = s.pk ∧ (ceremony w a h s).2.life = s.life ∧ (ceremony w a h s).2.rng = s.rng
     ∧ (ceremony w a h s).2.cards = s.cards ∧ (ceremony w a h s).2.jct = s.jct
     ∧ (ceremony w a h s).2.tamper = s.tamper ∧ (ceremony w a h s).2.pkg = s.pkg ∧ (ceremony w a h s).2.out = s.out
     ∧ (ceremony w a h s).2.pending = s.pending := by
  unfold ceremony
  dsimp only
  split <;> simp

end Sys2Proof.Machine
end

