-- ==== Sys2Proof/Laws/Tables.lean ====
section
/-! SUPPORT. Laws of the keyed tables, of byte strings, and of the sparse byte memory of a thread's scratch: reading after
writing, and the canonical form that every memory operation keeps. -/

namespace Sys2Proof.Machine

/-! ### Keyed tables -/

/-- The entry that was put is the one that is found. -/
@[simp] theorem Tbl.at?_put_same {α : Type} (v : α) (i : Nat) : ∀ t : Tbl α, (t.put i v).at? i = some v
  | [] => by simp [Tbl.put, Tbl.at?]
  | (k, w) :: r => by
    have ih := Tbl.at?_put_same v i r
    unfold Tbl.put
    split
    · simp [Tbl.at?]
    · split
      · simp [Tbl.at?]
      · simp [Tbl.at?, *]

/-- Every other entry is as it was. -/
theorem Tbl.at?_put_other {α : Type} (v : α) {i j : Nat} (h : j ≠ i) : ∀ t : Tbl α, (t.put i v).at? j = t.at? j
  | [] => by simp [Tbl.put, Tbl.at?, Ne.symm h]
  | (k, w) :: r => by
    have ih := Tbl.at?_put_other v h r
    unfold Tbl.put
    split
    · next e => subst e; simp [Tbl.at?, Ne.symm h]
    · split
      · simp [Tbl.at?, Ne.symm h]
      · simp [Tbl.at?, ih]

@[simp] theorem Tbl.at?_del_same {α : Type} (i : Nat) : ∀ t : Tbl α, (t.del i).at? i = none
  | [] => rfl
  | (k, w) :: r => by
    have ih := Tbl.at?_del_same i r
    unfold Tbl.del at ih ⊢
    by_cases h : k = i
    · simpa [List.filter_cons, h] using ih
    · simp [h, Tbl.at?, ih]

theorem Tbl.at?_del_other {α : Type} {i j : Nat} (h : j ≠ i) : ∀ t : Tbl α, (t.del i).at? j = t.at? j
  | [] => rfl
  | (k, w) :: r => by
    have ih := Tbl.at?_del_other h r
    unfold Tbl.del at ih ⊢
    by_cases e : k = i
    · subst e; simpa [List.filter_cons, Tbl.at?, Ne.symm h] using ih
    · by_cases f : k = j
      · subst f; simp [Tbl.at?, h]
      · simp [e, Tbl.at?, f, ih]

@[simp] theorem Tbl.atD_put_same {α : Type} (t : Tbl α) (i : Nat) (v d : α) : (t.put i v).atD i d = v := by
  simp [Tbl.atD]

theorem Tbl.atD_put_other {α : Type} (t : Tbl α) {i j : Nat} (v d : α) (h : j ≠ i) :
    (t.put i v).atD j d = t.atD j d := by simp [Tbl.atD, Tbl.at?_put_other v h]

@[simp] theorem Tbl.atD_del_same {α : Type} (t : Tbl α) (i : Nat) (d : α) : (t.del i).atD i d = d := by simp [Tbl.atD]

theorem Tbl.atD_del_other {α : Type} (t : Tbl α) {i j : Nat} (d : α) (h : j ≠ i) :
    (t.del i).atD j d = t.atD j d := by simp [Tbl.atD, Tbl.at?_del_other h]

/-- Mapping the values of a table maps what is found. -/
theorem Tbl.at?_map {α β : Type} (f : α → β) (i : Nat) :
    ∀ t : Tbl α, Tbl.at? (t.map fun e => (e.1, f e.2)) i = (t.at? i).map f
  | [] => rfl
  | (k, w) :: r => by
    have ih := Tbl.at?_map f i r
    by_cases h : k = i <;> simp_all [Tbl.at?]

/-! ### Byte strings -/

@[simp] theorem le_length : ∀ n v, (le n v).length = n
  | 0, _ => rfl
  | n + 1, v => by simp [le, le_length n]

/-- A number below 256^n is what its n bytes spell. -/
theorem leNat_le : ∀ n v, leNat (le n v) = v % 256 ^ n
  | 0, v => by simp [le, leNat, Nat.mod_one]
  | n + 1, v => by
    have h := leNat_le n (v / 256)
    simp only [le, leNat, h, BitVec.toNat_ofNat, show (2 : Nat) ^ 8 = 256 from rfl]
    rw [Nat.pow_succ, Nat.mul_comm (256 ^ n), Nat.mod_mul]

@[simp] theorem zeros_length (n : Nat) : (zeros n).length = n := by simp [zeros]

@[simp] theorem padTo_length (n : Nat) (b : Bytes) : (padTo n b).length = n := by
  simp only [padTo, List.length_take, List.length_append, zeros_length]; omega

/-! ### The sparse byte memory -/

/-- In canonical form every address listed after an entry lies above it, and no listed byte is 0. -/
theorem Memory.wf_cons {c : Host.Cell} {r : List Host.Cell} :
    Memory.wf (c :: r) = true ↔ c.2 ≠ 0 ∧ (∀ d ∈ r.head?, c.1 < d.1) ∧ Memory.wf r = true := by
  cases r with
  | nil => simp [Memory.wf]
  | cons d r => simp [Memory.wf, and_assoc]

/-- Below the first address of a memory in canonical form every byte reads 0. -/
theorem Memory.read_below : ∀ {m : List Host.Cell} {a : Nat}, Memory.wf m = true → (∀ d ∈ m.head?, a < d.1) →
    Memory.read m a = 0
  | [], _, _, _ => rfl
  | c :: r, a, h, hl => by
    obtain ⟨_, h2, h3⟩ := Memory.wf_cons.1 h
    have ha : a < c.1 := hl c (by simp)
    have : c.1 ≠ a := by omega
    simp only [Memory.read, this, if_false]
    exact Memory.read_below h3 fun d hd => Nat.lt_trans ha (h2 d hd)

/-- A write puts no address below both the address written and the first one listed. -/
theorem Memory.write_head {c : Nat} : ∀ {m : List Host.Cell} {a : Nat} {v : Byte}, c < a → (∀ d ∈ m.head?, c < d.1) →
    Memory.wf m = true → ∀ d ∈ (Memory.write m a v).head?, c < d.1
  | [], a, v, hc, _, _ => by
    unfold Memory.write; split <;> simp [hc]
  | e :: r, a, v, hc, hm, hw => by
    obtain ⟨_, h2, _⟩ := Memory.wf_cons.1 hw
    have he : c < e.1 := hm e (by simp)
    unfold Memory.write
    split
    · split
      · intro d hd; exact Nat.lt_trans he (h2 d hd)
      · simp [hc]
    · split
      · split <;> simp [hc, he]
      · simp [he]

/-- A write keeps the canonical form. -/
theorem Memory.write_wf : ∀ {m : List Host.Cell} (a : Nat) (v : Byte), Memory.wf m = true → Memory.wf (Memory.write m a v) = true
  | [], a, v, _ => by
    unfold Memory.write; split <;> simp [Memory.wf] <;> assumption
  | c :: r, a, v, hw => by
    obtain ⟨h1, h2, h3⟩ := Memory.wf_cons.1 hw
    unfold Memory.write
    split
    · next e =>
      split
      · exact h3
      · next hv => exact Memory.wf_cons.2 ⟨hv, by simpa [e] using h2, h3⟩
    · split
      · next hlt =>
        split
        · exact hw
        · next hv => exact Memory.wf_cons.2 ⟨hv, by simpa using hlt, hw⟩
      · next hne hlt =>
        have hca : c.1 < a := by omega
        exact Memory.wf_cons.2 ⟨h1, Memory.write_head hca h2 h3, Memory.write_wf a v h3⟩

theorem Memory.writes_wf : ∀ (b : Bytes) {m : List Host.Cell} (a : Nat), Memory.wf m = true → Memory.wf (Memory.writes m a b) = true
  | [], _, _, h => h
  | v :: r, _, a, h => Memory.writes_wf r (a + 1) (Memory.write_wf a v h)

/-- The byte written is read back. -/
theorem Memory.read_write_same : ∀ {m : List Host.Cell} (a : Nat) (v : Byte), Memory.wf m = true →
    Memory.read (Memory.write m a v) a = v
  | [], a, v, _ => by
    unfold Memory.write; split <;> simp [Memory.read, *]
  | c :: r, a, v, hw => by
    obtain ⟨_, h2, h3⟩ := Memory.wf_cons.1 hw
    unfold Memory.write
    split
    · next e =>
      split
      · next hv => rw [hv]; exact Memory.read_below h3 (by simpa [e] using h2)
      · simp [Memory.read]
    · split
      · next hne hlt =>
        split
        · next hv => rw [hv]; exact Memory.read_below hw (by simpa using hlt)
        · simp [Memory.read]
      · next hne _ => simp only [Memory.read, hne, if_false]; exact Memory.read_write_same a v h3

/-- Every other byte reads as before. -/
theorem Memory.read_write_other : ∀ {m : List Host.Cell} {a b : Nat} (v : Byte), Memory.wf m = true → b ≠ a →
    Memory.read (Memory.write m a v) b = Memory.read m b
  | [], a, b, v, _, hb => by
    unfold Memory.write; split <;> simp [Memory.read, Ne.symm hb]
  | c :: r, a, b, v, hw, hb => by
    obtain ⟨_, _, h3⟩ := Memory.wf_cons.1 hw
    unfold Memory.write
    split
    · next e =>
      have hcb : c.1 ≠ b := by omega
      split <;> simp [Memory.read, hcb, Ne.symm hb]
    · split
      · split <;> simp [Memory.read, Ne.symm hb]
      · by_cases hcb : c.1 = b
        · simp [Memory.read, hcb]
        · simp only [Memory.read, hcb, if_false]; exact Memory.read_write_other v h3 hb

/-- A byte outside the bytes written reads as before. -/
theorem Memory.read_writes_other : ∀ (bs : Bytes) {m : List Host.Cell} {a b : Nat}, Memory.wf m = true →
    (b < a ∨ a + bs.length ≤ b) → Memory.read (Memory.writes m a bs) b = Memory.read m b
  | [], _, _, _, _, _ => rfl
  | v :: r, m, a, b, hw, hb => by
    have hl : (v :: r).length = r.length + 1 := rfl
    have h1 := Memory.read_writes_other r (a := a + 1) (b := b) (Memory.write_wf a v hw) (by omega)
    have h2 := Memory.read_write_other (a := a) (b := b) v hw (by omega)
    exact h1.trans h2

/-- Byte k of the bytes written is read back at its place. -/
theorem Memory.read_writes_at : ∀ (bs : Bytes) {m : List Host.Cell} (a k : Nat), Memory.wf m = true → k < bs.length →
    Memory.read (Memory.writes m a bs) (a + k) = bs.getD k 0
  | [], _, _, _, _, h => absurd h (by simp)
  | v :: r, m, a, 0, hw, _ => by
    have h := Memory.read_writes_other r (a := a + 1) (b := a) (Memory.write_wf a v hw) (by omega)
    simpa [Memory.writes] using h.trans (Memory.read_write_same a v hw)
  | v :: r, m, a, k + 1, hw, h => by
    have hk : k < r.length := by simpa using h
    have := Memory.read_writes_at r (a + 1) k (Memory.write_wf a v hw) hk
    have e : a + (k + 1) = a + 1 + k := by omega
    simpa [Memory.writes, e] using this

end Sys2Proof.Machine
end

