-- ==== Sys2Proof/Laws/Ops.lean ====
section
/-! SUPPORT. What the shared operations do, said once: tables of the state after an update, a completion that is handed
to its ring, a waiting item that is taken, an accord that passes, a leaf that is sealed, and the ops of a thread. -/

namespace Sys2Proof.Machine

/-! ### Reading after an update -/

@[simp] theorem ringOf_setRing_same (r : Nat) (x : Ring) (s : State) : ringOf (setRing r x s) r = x := by simp [ringOf]

theorem ringOf_setRing_other {r q : Nat} (x : Ring) (s : State) (h : q ≠ r) : ringOf (setRing r x s) q = ringOf s q := by
  simp [ringOf, Tbl.atD_put_other _ _ _ h]

@[simp] theorem ringOf_mapRing_same (r : Nat) (f : Ring → Ring) (s : State) : ringOf (mapRing r f s) r = f (ringOf s r) := by
  simp [mapRing]

theorem ringOf_mapRing_other {r q : Nat} (f : Ring → Ring) (s : State) (h : q ≠ r) :
    ringOf (mapRing r f s) q = ringOf s q := ringOf_setRing_other _ _ h

/-- A slot that is written reads as written, with its own CHECK (R233). -/
@[simp] theorem slotOf_setSlot_same (i : Nat) (x : Slot) (s : State) :
    slotOf (setSlot i x s) i = { x with check := slotCheck s i x } := by simp [slotOf, setSlot]

theorem slotOf_setSlot_other {i j : Nat} (x : Slot) (s : State) (h : j ≠ i) : slotOf (setSlot i x s) j = slotOf s j := by
  simp [slotOf, setSlot, Tbl.atD_put_other _ _ _ h]

@[simp] theorem ownerOf_setOwner_same (o : Nat) (w : Owner) (s : State) : ownerOf (setOwner o w s) o = w := by
  simp [ownerOf]

theorem ownerOf_setOwner_other {o p : Nat} (w : Owner) (s : State) (h : p ≠ o) :
    ownerOf (setOwner o w s) p = ownerOf s p := by simp [ownerOf, Tbl.atD_put_other _ _ _ h]

@[simp] theorem ownerOf_mapOwner_same (o : Nat) (f : Owner → Owner) (s : State) :
    ownerOf (mapOwner o f s) o = f (ownerOf s o) := by simp [mapOwner]

@[simp] theorem cardOf_setCard_same (n : Nat) (c : Card) (s : State) : cardOf (setCard n c s) n = c := by simp [cardOf]

theorem cardOf_setCard_other {n m : Nat} (c : Card) (s : State) (h : m ≠ n) :
    cardOf (setCard n c s) m = cardOf s m := by simp [cardOf, Tbl.atD_put_other _ _ _ h]

/-- Whatever leaves the table of rings as it was leaves every ring as it was. -/
theorem ringOf_congr {s t : State} (h : t.rings = s.rings) (r : Nat) : ringOf t r = ringOf s r := by simp [ringOf, h]

/-! ### Threads (R116, R129) -/

/-- g0 reads 0. -/
@[simp] theorem Thread.reg_zero (th : Thread) : th.reg 0 = 0 := by simp [Thread.reg]

/-- A register that is written reads as written, but g0, which ignores writes. -/
@[simp] theorem Thread.reg_setReg_same (th : Thread) (g : BitVec 5) (v : W64) :
    (th.setReg g v).reg g = if g = 0 then 0 else v := by
  unfold Thread.reg Thread.setReg; split <;> simp

theorem Thread.reg_setReg_other (th : Thread) {g h : BitVec 5} (v : W64) (ne : h ≠ g) :
    (th.setReg g v).reg h = th.reg h := by
  have hn : g.toNat ≠ h.toNat := fun e => ne (BitVec.eq_of_toNat_eq e.symm)
  unfold Thread.reg Thread.setReg
  split
  · rfl
  · split
    · rfl
    · exact Vector.getElem_set_ne g.toFin.isLt h.toFin.isLt hn

@[simp] theorem Thread.setReg_pc (th : Thread) (g : BitVec 5) (v : W64) : (th.setReg g v).pc = th.pc := by
  unfold Thread.setReg; split <;> rfl

@[simp] theorem Thread.setReg_id (th : Thread) (g : BitVec 5) (v : W64) : (th.setReg g v).id = th.id := by
  unfold Thread.setReg; split <;> rfl

/-- A write of a register changes nothing of a thread but its registers. -/
theorem Thread.setReg_only (th : Thread) (g : BitVec 5) (v : W64) :
    th.setReg g v = { th with regs := (th.setReg g v).regs } := by
  unfold Thread.setReg; split <;> rfl

/-- The threads after one is replaced under its name: it is found there, and every other thread as before. -/
theorem find_replaced (th : Thread) (j : ThreadId) : ∀ l : List Thread,
    (l.map fun t => if t.id == th.id then th else t).find? (fun t => t.id == j)
      = (l.find? fun t => t.id == j).map fun t => if t.id == th.id then th else t
  | [] => rfl
  | x :: r => by
    have ih := find_replaced th j r
    rw [List.map_cons, List.find?_cons, List.find?_cons, ih]
    by_cases e : x.id = th.id
    · rw [if_pos (by simpa using e), ← e]
      cases x.id == j <;> simp [e]
    · rw [if_neg (by simpa using e)]
      cases x.id == j <;> simp [e]

theorem threadOf_setThread_same {s : State} {th old : Thread} (h : threadOf s th.id = some old) :
    threadOf (setThread th s) th.id = some th := by
  have e : old.id = th.id := by simpa using List.find?_some h
  unfold threadOf at h ⊢
  rw [setThread_eng, find_replaced, h]
  simp [e]

theorem threadOf_setThread_other {s : State} {th : Thread} {j : ThreadId} (h : j ≠ th.id) :
    threadOf (setThread th s) j = threadOf s j := by
  unfold threadOf
  rw [setThread_eng, find_replaced]
  cases e : s.eng.threads.find? fun t => t.id == j with
  | none => rfl
  | some t =>
    have : t.id = j := by simpa using List.find?_some e
    simp [this, h]

/-- The frame of a thread-local op, in the words of the statements. -/
theorem onlyThread_setThread (s : State) (th : Thread) : OnlyThread th.id s (setThread th s) :=
  ⟨by simp [setThread], fun _ h => threadOf_setThread_other h⟩

/-! ### Completions (R59, R64, R74) -/

/-- A ring that takes results holds what is handed to it, in order after what it holds. -/
theorem deliver_fin {ring gen : Nat} (d : Done) {s : State} (h : ringTakes (ringOf s ring) gen = true) :
    ringOf (deliver ring gen d s) ring = { ringOf s ring with fin := (ringOf s ring).fin ++ [d] } := by
  simp [deliver, h]

/-- Every other ring is as it was. -/
theorem deliver_other {ring gen q : Nat} (d : Done) (s : State) (h : q ≠ ring) :
    ringOf (deliver ring gen d s) q = ringOf s q := by
  unfold deliver; split
  · exact ringOf_mapRing_other _ _ h
  · rfl

@[simp] theorem ringOf_writeDst (w : Work) (b : Bytes) (s : State) (r : Nat) : ringOf (writeDst w b s) r = ringOf s r :=
  ringOf_congr (by simp) r

/-- The end of a work item is its completion: the ring of the item holds it, and every other ring is as it was. -/
theorem finish_completed {w : Work} {s : State} (st : Status) (d : Nat) (b : Bytes)
    (h : ringTakes (ringOf s w.ring) w.gen = true) : Completed (finish w st d b s) w st d w.stamp := by
  refine ⟨{ idx := w.idx, tag := dTag w.desc, status := st, detail := d, stamp := w.stamp, receipt := none
            untrusted := false, irq := dIrq w.desc }, ?_, rfl, rfl, rfl, rfl, rfl⟩
  unfold finish finishWith
  rw [deliver_fin _ (by simpa using h)]
  simp

theorem finish_other {w : Work} {q : Nat} (st : Status) (d : Nat) (b : Bytes) (s : State) (h : q ≠ w.ring) :
    ringOf (finish w st d b s) q = ringOf s q := by
  unfold finish finishWith
  rw [deliver_other _ _ h]; simp

/-- The output bytes go out before the completion. -/
theorem finish_wrote {w : Work} {s : State} (st : Status) (d : Nat) (b : Bytes)
    (h : ringTakes (ringOf s w.ring) w.gen = true) : Wrote s (finish w st d b s) w b := by
  intro hb hm
  have hb' : b.isEmpty = false := by simpa using hb
  unfold Work.func at hm
  unfold finish finishWith
  simp only [deliver_frame]
  simp [writeDst, hb', h, hm, Work.func]

/-! ### Waiting items (R54, R102, R447) -/

/-- A waiting item is taken out of the list and its row's body runs on it. -/
theorem withWork_waits {s : State} {id : WorkId} {op : Nat} {w : Work} (body : Work → State → State)
    (h : Waits s id op w) : withWork id op body s
      = body w { s with adm := { s.adm with work := s.adm.work.filter fun x => x != w } } := by
  obtain ⟨h1, h2, h3, _⟩ := h
  unfold withWork
  simp only [h1, h2, h3]
  simp

theorem withSealedWork_waits {s : State} {id : WorkId} {op : Nat} {w : Work} (body : Work → State → State)
    (hn : canNumber s = true) (h : Waits s id op w) : withSealedWork id op body s
      = body w { s with adm := { s.adm with work := s.adm.work.filter fun x => x != w } } := by
  simp only [withSealedWork, hn, if_true]
  exact withWork_waits body h

/-- Without an item that waits for it, a row changes nothing. -/
theorem withWork_idle {s : State} {id : WorkId} {op : Nat} (body : Work → State → State)
    (h : (s.adm.work.find? fun w => w.ring == id.ring && w.idx == id.idx && dOp w.desc == op) = none) :
    withWork id op body s = s := by
  unfold withWork; simp [h]

/-- An item that is taken waits no more. -/
theorem taken_not_mem (w : Work) (l : List Work) : w ∉ l.filter fun x => x != w := by simp

/-! ### Accords (R253) -/

/-- Every condition of R253 holds of an accord that is found and fits: the operation runs with it. -/
theorem accordCheck_passes {id owner opcode : Nat} {d : Digest} {s : State} {a : Accord}
    (h1 : (s.keys.accords.find? fun a => a.no % 65536 == id) = some a) (h2 : a.owner = owner) (h3 : a.opcode = opcode)
    (h4 : a.digest = d) (h5 : enoughSigned s a = true) (h6 : expired s a = false) :
    accordCheck id owner opcode d s = .inr a := by
  unfold accordCheck; simp [h1, h2, h3, h4, h5, h6]

/-- A consumed accord is no longer held. -/
theorem dropAccord_gone (a : Accord) (s : State) : ∀ x ∈ (dropAccord a s).keys.accords, x.no ≠ a.no := by
  simp [dropAccord]

/-! ### Numbers and leaves (R85, R163, R168) -/

/-- The number issued is the next one, with the admission time and the open departure. -/
theorem issue_stamp (o : Nat) (s : State) : (issue o s).1 = nextStamp s := rfl

@[simp] theorem issue_nextSeq (o : Nat) (s : State) : (issue o s).2.adm.nextSeq = s.adm.nextSeq + 1 := rfl

/-- A sealed leaf is in its departure's subtree. -/
theorem sealLeaf_sealed (st : Stamp) (l : Leaf) (replay : Bytes) (s : State) : Sealed (sealLeaf st l replay s) st l := by
  simp only [Sealed, sealLeaf]
  generalize hb : leafBytes st l = b
  split <;> simp

theorem sealNow_sealed {s : State} (l : Leaf) (replay : Bytes) (h : canNumber s = true) :
    Sealed (sealNow l replay s) (nextStamp s) l := by
  simp only [sealNow, h, if_true]
  exact sealLeaf_sealed _ _ _ _

end Sys2Proof.Machine
end

