-- ==== Sys2Proof/Laws/PerInstr.lean ====
section
/-! SUPPORT. One lemma for each command: its footprint never holds the queue of waiting commands, which only step changes. -/

namespace Sys2Proof.Laws.Queue

open Sys2Proof.Machine

/-- The command's footprint does not hold the queue. -/
def Statement (i : Instr) : Prop := (footprint i).contains .pending = false

theorem powerGood (straps : BitVec 2) : Statement (.powerGood straps) := rfl
theorem powerLoss : Statement (.powerLoss) := rfl
theorem resetAssert (warm : Bool) : Statement (.resetAssert warm) := rfl
theorem resetRelease (timeRef card33 : Bool) : Statement (.resetRelease timeRef card33) := rfl
theorem startupStepEnd (t : Nat) (r : StepReport) : Statement (.startupStepEnd t r) := rfl
theorem pwrFailHoldEnd : Statement (.pwrFailHoldEnd) := rfl
theorem romConfigTakeover : Statement (.romConfigTakeover) := rfl
theorem perstNAssert : Statement (.perstNAssert) := rfl
theorem perstNRelease : Statement (.perstNRelease) := rfl
theorem linkTrainingStart : Statement (.linkTrainingStart) := rfl
theorem configRequest (q : CfgRequest) : Statement (.configRequest q) := rfl
theorem flrVf (func : Nat) : Statement (.flrVf func) := rfl
theorem vfDisable (numVFs : Nat) : Statement (.vfDisable numVFs) := rfl
theorem flrPf0 : Statement (.flrPf0) := rfl
theorem busMasterDisable (func : Nat) : Statement (.busMasterDisable func) := rfl
theorem doorbell (bar : DoorbellBar) (slot : Nat) (v : W32) (single : Bool) : Statement (.doorbell bar slot v single) := rfl
theorem recordFetched (ring : Nat) (desc : BitVec 512) (src : SourceRead) : Statement (.recordFetched ring desc src) := rfl
theorem descriptorFetchError (ring : Nat) : Statement (.descriptorFetchError ring) := rfl
theorem admissionStep (t : Nat) : Statement (.admissionStep t) := rfl
theorem tokenRefill (ring : Nat) : Statement (.tokenRefill ring) := rfl
theorem closeTick (t : Nat) : Statement (.closeTick t) := rfl
theorem witnessTimeout (t : Nat) : Statement (.witnessTimeout t) := rfl
theorem departureSigned (t : Nat) (bad : Option SigAlg) : Statement (.departureSigned t bad) := rfl
theorem ledgerPost : Statement (.ledgerPost) := rfl
theorem journalPost (owner : Nat) : Statement (.journalPost owner) := rfl
theorem eventPost : Statement (.eventPost) := rfl
theorem completionWrite (ring : Nat) : Statement (.completionWrite ring) := rfl
theorem vectorHoldoff (func vec : Nat) : Statement (.vectorHoldoff func vec) := rfl
theorem vectorUnmask (func vec : Nat) : Statement (.vectorUnmask func vec) := rfl
theorem start : Statement (.start) := rfl
theorem stop : Statement (.stop) := rfl
theorem delete : Statement (.delete) := rfl
theorem ringConfigWrite (r : RingReg) (v : W64) : Statement (.ringConfigWrite r v) := rfl
theorem bulkOpen (v : W32) : Statement (.bulkOpen v) := rfl
theorem bulkWindowWrite (off : Nat) (data : Bytes) (drained : Nat) : Statement (.bulkWindowWrite off data drained) := rfl
theorem bulkClose : Statement (.bulkClose) := rfl
theorem bulkCancel : Statement (.bulkCancel) := rfl
theorem rulebookLoad : Statement (.rulebookLoad) := rfl
theorem rulebookSwitch (owner handle : Nat) : Statement (.rulebookSwitch owner handle) := rfl
theorem rulebookDrainEnd (owner handle : Nat) : Statement (.rulebookDrainEnd owner handle) := rfl
theorem firmwareInstall : Statement (.firmwareInstall) := rfl
theorem keyTableImport : Statement (.keyTableImport) := rfl
theorem settlementLoad : Statement (.settlementLoad) := rfl
theorem settlementLoadLive : Statement (.settlementLoadLive) := rfl
theorem restoreStream : Statement (.restoreStream) := rfl
theorem headQueryTimeout : Statement (.headQueryTimeout) := rfl
theorem restoreAbandon (t : Nat) (key : W32) : Statement (.restoreAbandon t key) := rfl
theorem ringBudgetWrite (v : W64) : Statement (.ringBudgetWrite v) := rfl
theorem ownerShareWrite (v : W32) : Statement (.ownerShareWrite v) := rfl
theorem timeNowRead : Statement (.timeNowRead) := rfl
theorem timeAllowanceWrite (r : AllowReg) (v : W32) : Statement (.timeAllowanceWrite r v) := rfl
theorem departPeriodWrite (v : W32) : Statement (.departPeriodWrite v) := rfl
theorem departWitnessWrite (v : W32) : Statement (.departWitnessWrite v) := rfl
theorem vmemPartWrite (v : W64) : Statement (.vmemPartWrite v) := rfl
theorem partitionRelayEnd (owner : Nat) : Statement (.partitionRelayEnd owner) := rfl
theorem keysQuotaWrite (v : W32) : Statement (.keysQuotaWrite v) := rfl
theorem readClear (a : ReadAddr) : Statement (.readClear a) := rfl
theorem registerWrite (a : RegAddr) (v : W64) : Statement (.registerWrite a v) := rfl
theorem gameDefine (w : WorkId) : Statement (.gameDefine w) := rfl
theorem gameClose (w : WorkId) : Statement (.gameClose w) := rfl
theorem gameReschedule (w : WorkId) : Statement (.gameReschedule w) := rfl
theorem gameReopen (w : WorkId) : Statement (.gameReopen w) := rfl
theorem gameSetMaxunc (w : WorkId) : Statement (.gameSetMaxunc w) := rfl
theorem gameDelete (w : WorkId) : Statement (.gameDelete w) := rfl
theorem gameStatus (w : WorkId) : Statement (.gameStatus w) := rfl
theorem timeLostClosure (t : Nat) : Statement (.timeLostClosure t) := rfl
theorem ppsInEdge (t : Nat) (deviation : Int) : Statement (.ppsInEdge t deviation) := rfl
theorem sync (t port : Nat) (twoStep : Bool) (offset : Int) : Statement (.sync t port twoStep offset) := rfl
theorem announce (port : Nat) (gm : W64) (rank : Nat) (ptpTimescale : Bool) : Statement (.announce port gm rank ptpTimescale) := rfl
theorem announceReceiptTimeout (port : Nat) : Statement (.announceReceiptTimeout port) := rfl
theorem delayReq (port : Nat) : Statement (.delayReq port) := rfl
theorem delayResp (port delay : Nat) : Statement (.delayResp port delay) := rfl
theorem sourceAgreement (t : Nat) (a b : TimeSrc) : Statement (.sourceAgreement t a b) := rfl
theorem sourceLossTimeout (t : Nat) : Statement (.sourceLossTimeout t) := rfl
theorem uncertaintyLimit (t : Nat) : Statement (.uncertaintyLimit t) := rfl
theorem clockMonitorFail (t : Nat) : Statement (.clockMonitorFail t) := rfl
theorem workDispatch (seq : Nat) (th : ThreadId) : Statement (.workDispatch seq th) := rfl
theorem threadOverrun (th : ThreadId) : Statement (.threadOverrun th) := rfl
theorem nop (th : ThreadId) (o : OpFields) : Statement (.nop th o) := rfl
theorem jmp (th : ThreadId) (o : OpFields) : Statement (.jmp th o) := rfl
theorem beq (th : ThreadId) (o : OpFields) : Statement (.beq th o) := rfl
theorem bne (th : ThreadId) (o : OpFields) : Statement (.bne th o) := rfl
theorem bltu (th : ThreadId) (o : OpFields) : Statement (.bltu th o) := rfl
theorem bgeu (th : ThreadId) (o : OpFields) : Statement (.bgeu th o) := rfl
theorem accept (th : ThreadId) (o : OpFields) : Statement (.accept th o) := rfl
theorem reject (th : ThreadId) (o : OpFields) : Statement (.reject th o) := rfl
theorem movi (th : ThreadId) (o : OpFields) : Statement (.movi th o) := rfl
theorem movhi (th : ThreadId) (o : OpFields) : Statement (.movhi th o) := rfl
theorem add (th : ThreadId) (o : OpFields) : Statement (.add th o) := rfl
theorem sub (th : ThreadId) (o : OpFields) : Statement (.sub th o) := rfl
theorem addsat (th : ThreadId) (o : OpFields) : Statement (.addsat th o) := rfl
theorem mulu (th : ThreadId) (o : OpFields) : Statement (.mulu th o) := rfl
theorem divu (th : ThreadId) (o : OpFields) : Statement (.divu th o) := rfl
theorem and (th : ThreadId) (o : OpFields) : Statement (.and th o) := rfl
theorem or (th : ThreadId) (o : OpFields) : Statement (.or th o) := rfl
theorem xor (th : ThreadId) (o : OpFields) : Statement (.xor th o) := rfl
theorem shl (th : ThreadId) (o : OpFields) : Statement (.shl th o) := rfl
theorem shr (th : ThreadId) (o : OpFields) : Statement (.shr th o) := rfl
theorem minu (th : ThreadId) (o : OpFields) : Statement (.minu th o) := rfl
theorem maxu (th : ThreadId) (o : OpFields) : Statement (.maxu th o) := rfl
theorem ld (th : ThreadId) (o : OpFields) : Statement (.ld th o) := rfl
theorem st (th : ThreadId) (o : OpFields) : Statement (.st th o) := rfl
theorem const (th : ThreadId) (o : OpFields) : Statement (.const th o) := rfl
theorem lookup (th : ThreadId) (o : OpFields) : Statement (.lookup th o) := rfl
theorem ctx (th : ThreadId) (o : OpFields) : Statement (.ctx th o) := rfl
theorem cnt (th : ThreadId) (o : OpFields) : Statement (.cnt th o) := rfl
theorem parse (th : ThreadId) (o : OpFields) : Statement (.parse th o) := rfl
theorem fld (th : ThreadId) (o : OpFields) : Statement (.fld th o) := rfl
theorem flen (th : ThreadId) (o : OpFields) : Statement (.flen th o) := rfl
theorem auth (th : ThreadId) (o : OpFields) : Statement (.auth th o) := rfl
theorem digest (th : ThreadId) (o : OpFields) : Statement (.digest th o) := rfl
theorem limget (th : ThreadId) (o : OpFields) : Statement (.limget th o) := rfl
theorem limadd (th : ThreadId) (o : OpFields) : Statement (.limadd th o) := rfl
theorem tkins (th : ThreadId) (o : OpFields) : Statement (.tkins th o) := rfl
theorem tkget (th : ThreadId) (o : OpFields) : Statement (.tkget th o) := rfl
theorem tkset (th : ThreadId) (o : OpFields) : Statement (.tkset th o) := rfl
theorem rfield (th : ThreadId) (o : OpFields) : Statement (.rfield th o) := rfl
theorem rfdig (th : ThreadId) (o : OpFields) : Statement (.rfdig th o) := rfl
theorem commit (seq : Nat) : Statement (.commit seq) := rfl
theorem engineTestSlot (die : Nat) : Statement (.engineTestSlot die) := rfl
theorem engineTestDone (die : Nat) (pass : Bool) : Statement (.engineTestDone die pass) := rfl
theorem engineFault (e : EngineId) : Statement (.engineFault e) := rfl
theorem dieLost (die : Nat) : Statement (.dieLost die) := rfl
theorem anchorFault (canPublish : Bool) : Statement (.anchorFault canPublish) := rfl
theorem faultRecovered (t : Nat) : Statement (.faultRecovered t) := rfl
theorem retrainSlot (u : RetrainUnit) : Statement (.retrainSlot u) := rfl
theorem patrolScrub (r : LineRead) : Statement (.patrolScrub r) := rfl
theorem claim (w : WorkId) : Statement (.claim w) := rfl
theorem cancel (w : WorkId) : Statement (.cancel w) := rfl
theorem result (w : WorkId) : Statement (.result w) := rfl
theorem ticketStatus (w : WorkId) : Statement (.ticketStatus w) := rfl
theorem limitStatus (w : WorkId) : Statement (.limitStatus w) := rfl
theorem limitSet (w : WorkId) : Statement (.limitSet w) := rfl
theorem sweep (w : WorkId) : Statement (.sweep w) := rfl
theorem sweepEnd (owner game : Nat) : Statement (.sweepEnd owner game) := rfl
theorem claimBatchSend (peer : Nat) : Statement (.claimBatchSend peer) := rfl
theorem claimWaitTimeout (claimSeq : Nat) : Statement (.claimWaitTimeout claimSeq) := rfl
theorem adopt (w : WorkId) : Statement (.adopt w) := rfl
theorem snapRegions (w : WorkId) : Statement (.snapRegions w) := rfl
theorem checkpointWait (w : WorkId) : Statement (.checkpointWait w) := rfl
theorem checkpointAck (w : WorkId) : Statement (.checkpointAck w) := rfl
theorem checkpointNow (w : WorkId) : Statement (.checkpointNow w) := rfl
theorem checkpointStart (t : Nat) : Statement (.checkpointStart t) := rfl
theorem checkpointWritten (t : Nat) : Statement (.checkpointWritten t) := rfl
theorem flashRecordWritten (good : Bool) : Statement (.flashRecordWritten good) := rfl
theorem pwrFailNAssert (t : Nat) : Statement (.pwrFailNAssert t) := rfl
theorem pwrFailNDeassert : Statement (.pwrFailNDeassert) := rfl
theorem newSalt : Statement (.newSalt) := rfl
theorem slotScrub (bad : List Nat) : Statement (.slotScrub bad) := rfl
theorem cacheInvalidation (owner : Nat) : Statement (.cacheInvalidation owner) := rfl
theorem ownerEnrol (w : WorkId) : Statement (.ownerEnrol w) := rfl
theorem ownerRetire (w : WorkId) : Statement (.ownerRetire w) := rfl
theorem officialSet (w : WorkId) : Statement (.officialSet w) := rfl
theorem slotGenerate (w : WorkId) : Statement (.slotGenerate w) := rfl
theorem slotWrite (w : WorkId) : Statement (.slotWrite w) := rfl
theorem slotExport (w : WorkId) (lane : Nat) : Statement (.slotExport w lane) := rfl
theorem slotDestroy (w : WorkId) : Statement (.slotDestroy w) := rfl
theorem slotInfo (w : WorkId) : Statement (.slotInfo w) := rfl
theorem clauseExport (w : WorkId) (lane : Nat) : Statement (.clauseExport w lane) := rfl
theorem terminalSet (w : WorkId) : Statement (.terminalSet w) := rfl
theorem accordOpen (w : WorkId) : Statement (.accordOpen w) := rfl
theorem accordAdd (w : WorkId) : Statement (.accordAdd w) := rfl
theorem accordCancel (w : WorkId) : Statement (.accordCancel w) := rfl
theorem interlockSend (w : WorkId) : Statement (.interlockSend w) := rfl
theorem interlockAccept (w : WorkId) : Statement (.interlockAccept w) := rfl
theorem departKeyRoll (w : WorkId) : Statement (.departKeyRoll w) := rfl
theorem couplingAckTimeout (die : Nat) : Statement (.couplingAckTimeout die) := rfl
theorem saltEraseDone : Statement (.saltEraseDone) := rfl
theorem wrappedAreaErased : Statement (.wrappedAreaErased) := rfl
theorem aeadEncrypt (w : WorkId) (lane : Nat) : Statement (.aeadEncrypt w lane) := rfl
theorem aeadDecrypt (w : WorkId) (lane : Nat) : Statement (.aeadDecrypt w lane) := rfl
theorem ctrEncrypt (w : WorkId) (lane : Nat) : Statement (.ctrEncrypt w lane) := rfl
theorem ctrDecrypt (w : WorkId) (lane : Nat) : Statement (.ctrDecrypt w lane) := rfl
theorem xtsEncrypt (w : WorkId) (lane : Nat) : Statement (.xtsEncrypt w lane) := rfl
theorem xtsDecrypt (w : WorkId) (lane : Nat) : Statement (.xtsDecrypt w lane) := rfl
theorem macGenerate (w : WorkId) (lane : Nat) : Statement (.macGenerate w lane) := rfl
theorem macVerify (w : WorkId) (lane : Nat) : Statement (.macVerify w lane) := rfl
theorem hash (w : WorkId) (lane : Nat) : Statement (.hash w lane) := rfl
theorem cipherOperationDone (w : WorkId) : Statement (.cipherOperationDone w) := rfl
theorem laneParityFault (l : LaneId) (relane : Nat) : Statement (.laneParityFault l relane) := rfl
theorem laneTestSlot (group : LaneGroup) : Statement (.laneTestSlot group) := rfl
theorem laneTestDone (group : LaneGroup) (pass : Bool) : Statement (.laneTestDone group pass) := rfl
theorem pkSign (w : WorkId) (engine : Nat) : Statement (.pkSign w engine) := rfl
theorem pkVerify (w : WorkId) (engine : Nat) : Statement (.pkVerify w engine) := rfl
theorem pkKeygen (w : WorkId) (engine : Nat) : Statement (.pkKeygen w engine) := rfl
theorem pkDerive (w : WorkId) (engine : Nat) : Statement (.pkDerive w engine) := rfl
theorem pkEncaps (w : WorkId) (engine : Nat) : Statement (.pkEncaps w engine) := rfl
theorem pkCurveLoad (w : WorkId) (engine : Nat) : Statement (.pkCurveLoad w engine) := rfl
theorem pkAbort (w : WorkId) : Statement (.pkAbort w) := rfl
theorem pkPublic (w : WorkId) (engine : Nat) : Statement (.pkPublic w engine) := rfl
theorem pkOperationDone (w : WorkId) (rounds : Nat) : Statement (.pkOperationDone w rounds) := rfl
theorem pkEngineFault (engine : Nat) (cause : PkFault) : Statement (.pkEngineFault engine cause) := rfl
theorem pkTestSlot : Statement (.pkTestSlot) := rfl
theorem pkTestDone (pass : Bool) : Statement (.pkTestDone pass) := rfl
theorem generatorReady (t : Nat) : Statement (.generatorReady t) := rfl
theorem seedReady : Statement (.seedReady) := rfl
theorem rngAlarm (src : Nat) (test : HealthTest) : Statement (.rngAlarm src test) := rfl
theorem rngKat (pass : Bool) : Statement (.rngKat pass) := rfl
theorem gReseedDue : Statement (.gReseedDue) := rfl
theorem gHalt : Statement (.gHalt) := rfl
theorem rngDataRead : Statement (.rngDataRead) := rfl
theorem rngReadTimeout : Statement (.rngReadTimeout) := rfl
theorem random (w : WorkId) : Statement (.random w) := rfl
theorem draw (w : WorkId) : Statement (.draw w) := rfl
theorem drawFetch (w : WorkId) : Statement (.drawFetch w) := rfl
theorem drawCommit : Statement (.drawCommit) := rfl
theorem drawReveal : Statement (.drawReveal) := rfl
theorem cardDetected (slot : Nat) : Statement (.cardDetected slot) := rfl
theorem cardRemoved (slot : Nat) : Statement (.cardRemoved slot) := rfl
theorem cardResponse (slot : Nat) (r : CardToken) : Statement (.cardResponse slot r) := rfl
theorem cardDataBlock (slot : Nat) (data : Bytes) (crcOk : Bool) : Statement (.cardDataBlock slot data crcOk) := rfl
theorem cardResponseTimeout (slot : Nat) : Statement (.cardResponseTimeout slot) := rfl
theorem cardBusyEnd (slot : Nat) : Statement (.cardBusyEnd slot) := rfl
theorem cardBusyTimeout (slot : Nat) : Statement (.cardBusyTimeout slot) := rfl
theorem cardReadyTimeout (slot : Nat) : Statement (.cardReadyTimeout slot) := rfl
theorem cardPoll (slot : Nat) : Statement (.cardPoll slot) := rfl
theorem cardRequestDeadline (slot : Nat) : Statement (.cardRequestDeadline slot) := rfl
theorem shareOut (w : WorkId) : Statement (.shareOut w) := rfl
theorem shareIn (w : WorkId) : Statement (.shareIn w) := rfl
theorem reshare (w : WorkId) : Statement (.reshare w) := rfl
theorem shareErase (w : WorkId) : Statement (.shareErase w) := rfl
theorem ceremonyTimeout : Statement (.ceremonyTimeout) := rfl
theorem portLinkChange (port : Nat) (up : Bool) : Statement (.portLinkChange port up) := rfl
theorem neighbourSolicitation (port : Nat) (target : BitVec 128) : Statement (.neighbourSolicitation port target) := rfl
theorem hello (f : LinzenFrame) : Statement (.hello f) := rfl
theorem reply (f : LinzenFrame) : Statement (.reply f) := rfl
theorem finish (f : LinzenFrame) : Statement (.finish f) := rfl
theorem data (f : LinzenFrame) : Statement (.data f) := rfl
theorem ack (f : LinzenFrame) : Statement (.ack f) := rfl
theorem probe (f : LinzenFrame) : Statement (.probe f) := rfl
theorem close (f : LinzenFrame) : Statement (.close f) := rfl
theorem headOffer (peer : Nat) : Statement (.headOffer peer) := rfl
theorem headAck (peer : Nat) : Statement (.headAck peer) := rfl
theorem headQuery (peer : Nat) : Statement (.headQuery peer) := rfl
theorem headHeld (peer : Nat) : Statement (.headHeld peer) := rfl
theorem claimReq (peer : Nat) : Statement (.claimReq peer) := rfl
theorem claimVerdict (peer : Nat) : Statement (.claimVerdict peer) := rfl
theorem lockSend (peer : Nat) : Statement (.lockSend peer) := rfl
theorem lockHeld (peer : Nat) : Statement (.lockHeld peer) := rfl
theorem timeReq (peer t2 : Nat) : Statement (.timeReq peer t2) := rfl
theorem timeResp (peer t4 : Nat) : Statement (.timeResp peer t4) := rfl
theorem timeReqSend (peer t1 : Nat) : Statement (.timeReqSend peer t1) := rfl
theorem timeRespSend (peer : Nat) : Statement (.timeRespSend peer) := rfl
theorem peerAdd (w : WorkId) : Statement (.peerAdd w) := rfl
theorem peerRemove (w : WorkId) : Statement (.peerRemove w) := rfl
theorem peerSet (w : WorkId) : Statement (.peerSet w) := rfl
theorem peerInfo (w : WorkId) : Statement (.peerInfo w) := rfl
theorem sessionOpen (w : WorkId) : Statement (.sessionOpen w) := rfl
theorem sessionClose (w : WorkId) : Statement (.sessionClose w) := rfl
theorem handshakeRetry (peer : Nat) : Statement (.handshakeRetry peer) := rfl
theorem rekey (peer : Nat) : Statement (.rekey peer) := rfl
theorem drainTimeout (peer : Nat) : Statement (.drainTimeout peer) := rfl
theorem ackDelay (peer : Nat) : Statement (.ackDelay peer) := rfl
theorem retransmissionTimeout (peer : Nat) : Statement (.retransmissionTimeout peer) := rfl
theorem idleProbe (peer : Nat) : Statement (.idleProbe peer) := rfl
theorem silenceTimeout (peer : Nat) : Statement (.silenceTimeout peer) := rfl
theorem interlockHoldExpiry (index : Nat) : Statement (.interlockHoldExpiry index) := rfl
theorem portConfigWrite (port : Nat) (v : W32) : Statement (.portConfigWrite port v) := rfl
theorem ptpCorrectionWrite (r : PtpReg) (v : W32) : Statement (.ptpCorrectionWrite r v) := rfl
theorem deviceCertRead (w : WorkId) : Statement (.deviceCertRead w) := rfl
theorem deviceCertInstall (w : WorkId) : Statement (.deviceCertInstall w) := rfl
theorem authChallenge (w : WorkId) : Statement (.authChallenge w) := rfl
theorem debugOpen (w : WorkId) : Statement (.debugOpen w) := rfl
theorem lcTransition (w : WorkId) : Statement (.lcTransition w) := rfl
theorem codeKeySet (w : WorkId) : Statement (.codeKeySet w) := rfl
theorem challengeExpiry : Statement (.challengeExpiry) := rfl
theorem transitionComplete : Statement (.transitionComplete) := rfl
theorem tamperCycle (t : Nat) (xs : List SourceSample) : Statement (.tamperCycle t xs) := rfl
theorem meshMeasure (loop cls : Nat) : Statement (.meshMeasure loop cls) := rfl
theorem detectorSplit (src : Nat) : Statement (.detectorSplit src) := rfl
theorem tamperEnrol (w : WorkId) (meas : List LoopMeasure) (caseOpen : BitVec 4) : Statement (.tamperEnrol w meas caseOpen) := rfl
theorem railUndervoltage (src : Nat) (pwrFailLong : Bool) : Statement (.railUndervoltage src pwrFailLong) := rfl
theorem railGlitchReturn (src : Nat) : Statement (.railGlitchReturn src) := rfl
theorem railLowTimeout (src : Nat) : Statement (.railLowTimeout src) := rfl
theorem tamperPolicyWrite (reg : Nat) (v : W32) : Statement (.tamperPolicyWrite reg v) := rfl
theorem tamperPolicyLock (alertRecord : Bool) : Statement (.tamperPolicyLock alertRecord) := rfl
theorem tamperFlagsClear (v : W64) : Statement (.tamperFlagsClear v) := rfl
theorem diagStatus : Statement (.diagStatus) := rfl
theorem diagEvents : Statement (.diagEvents) := rfl
theorem diagTamper : Statement (.diagTamper) := rfl
theorem diagHelp : Statement (.diagHelp) := rfl
theorem diagHeldLine : Statement (.diagHeldLine) := rfl
theorem selfTestEngine (w : WorkId) : Statement (.selfTestEngine w) := rfl
theorem selfTestLane (w : WorkId) : Statement (.selfTestLane w) := rfl
theorem selfTestPk (w : WorkId) : Statement (.selfTestPk w) := rfl
theorem selfTestFull (w : WorkId) : Statement (.selfTestFull w) := rfl
theorem selfTestDone (r : SelfTestReport) : Statement (.selfTestDone r) := rfl
theorem stable (t : Nat) : Statement (.stable t) := rfl
theorem stabledEnter : Statement (.stabledEnter) := rfl
theorem stabledEntryTimeout : Statement (.stabledEntryTimeout) := rfl
theorem wake : Statement (.wake) := rfl
theorem wakeComplete (t : Nat) (failedDies : BitVec 7) : Statement (.wakeComplete t failedDies) := rfl
theorem signalBoxAccess (a : BoxAccess) : Statement (.signalBoxAccess a) := rfl
theorem sigboxRuleWrite (initiator pl : Nat) (v : W32) : Statement (.sigboxRuleWrite initiator pl v) := rfl
theorem sigboxLockWrite (initiator : Nat) (bank : Fin 2) (v : W32) : Statement (.sigboxLockWrite initiator bank v) := rfl
theorem sigboxFence (initiator : Nat) : Statement (.sigboxFence initiator) := rfl
theorem fenceComplete : Statement (.fenceComplete) := rfl
theorem eventFreezeTimeout : Statement (.eventFreezeTimeout) := rfl
theorem mirrorWrite (good : Bool) : Statement (.mirrorWrite good) := rfl
theorem mirrorSearchEnd : Statement (.mirrorSearchEnd) := rfl
theorem operatingHeartbeat : Statement (.operatingHeartbeat) := rfl
theorem countersCfgWrite (v : W32) : Statement (.countersCfgWrite v) := rfl
theorem snapReq : Statement (.snapReq) := rfl
theorem bwWindowEnd (vals : List Nat) : Statement (.bwWindowEnd vals) := rfl
theorem dimmTempPoll (channel : Nat) (temp : Int) : Statement (.dimmTempPoll channel temp) := rfl
theorem smbVariant : Statement (.smbVariant) := rfl
theorem smbStepping : Statement (.smbStepping) := rfl
theorem smbDeviceId : Statement (.smbDeviceId) := rfl
theorem smbState : Statement (.smbState) := rfl
theorem smbLifecycle : Statement (.smbLifecycle) := rfl
theorem smbTempHottest : Statement (.smbTempHottest) := rfl
theorem smbTempAnchor : Statement (.smbTempAnchor) := rfl
theorem smbTempEngineDie (k : Nat) : Statement (.smbTempEngineDie k) := rfl
theorem smbTempSubstrate : Statement (.smbTempSubstrate) := rfl
theorem smbThermalFlags : Statement (.smbThermalFlags) := rfl
theorem smbWrite (cmd : Byte) (data : Bytes) : Statement (.smbWrite cmd data) := rfl
theorem smbClkTimeout : Statement (.smbClkTimeout) := rfl
theorem pauseFrame (port quanta : Nat) : Statement (.pauseFrame port quanta) := rfl
theorem pauseTimeExpiry (port : Nat) : Statement (.pauseTimeExpiry port) := rfl
theorem followUp (t port : Nat) (offset : Int) : Statement (.followUp t port offset) := rfl
theorem frameDropped (port : Nat) (cause : DropCause) : Statement (.frameDropped port cause) := rfl
theorem rsFecAlarm (port : Nat) : Statement (.rsFecAlarm port) := rfl
theorem ideKmRequest (keys : Bytes) : Statement (.ideKmRequest keys) := rfl
theorem jtagAccess (a : JtagOp) : Statement (.jtagAccess a) := rfl
theorem ppsOutEdge (rise : Bool) : Statement (.ppsOutEdge rise) := rfl

end Sys2Proof.Laws.Queue
end

