-- ==== Sys2Proof/Tests/Slice0.lean ====
section
/-! SUPPORT. For every statement with hypotheses, small states and operands that meet the hypotheses of each of its
clauses (`witness_…`); one ill-formed command for every check of well-formedness; and a few single commands against
values that the manual gives (`test_…`). Where a hypothesis rests on a function of `Config`, the sample carries that
function's own value, or the witness says on which answer of it the case rests. -/

open Sys2Proof Sys2Proof.Machine

namespace Sys2Proof.Tests

/-! ### Terms that a hypothesis determines -/

def the {α : Type} (o : Option α) (h : o.isSome = true := by decide +kernel) : α := o.get h

def inr1 {α β : Type} (o : α ⊕ β) (h : o.isRight = true := by decide +kernel) : β := o.getRight h

def inl1 {α β : Type} (o : α ⊕ β) (h : o.isLeft = true := by decide +kernel) : α := o.getLeft h

def nth {α : Type} (l : List α) (i : Nat) (h : i < l.length := by decide +kernel) : α := l[i]

def hd1 {α : Type} (l : List α) (h : 0 < l.length := by decide +kernel) : α := nth l 0 h

def tl1 {α : Type} (l : List α) : List α := l.drop 1

def w1 (s : State) (h : 0 < s.adm.work.length := by decide +kernel) : Work := s.adm.work[0]

def a1 (s : State) (h : 0 < s.keys.accords.length := by decide +kernel) : Accord := s.keys.accords[0]

def ofOpt {α β : Type} (o : Option α) (f : α → List β) : List β := o.toList.flatMap f

def ofHd {α β : Type} (o : List α) (f : α → List β) : List β := match o with
  | x :: _ => f x
  | [] => []

theorem accordCheck_head {s : State} {o op id : Nat} {d : Digest} {h : 0 < s.keys.accords.length}
    (h1 : ((a1 s h).no % 65536 == id) = true ∧ (a1 s h).owner = o ∧ (a1 s h).opcode = op
      ∧ enoughSigned s (a1 s h) = true ∧ expired s (a1 s h) = false := by decide +kernel) (h2 : (a1 s h).digest = d) :
    accordCheck id o op d s = .inr (a1 s h) := by
  unfold a1 at *
  obtain ⟨h1, ho, hp, he, hx⟩ := h1
  refine accordCheck_passes ?_ ho hp h2 he hx
  generalize hl : s.keys.accords = l at *
  cases l with
  | nil => simp at h
  | cons a l => simp at h1; simp [h1]

/-- The first accord of a state passes R253 for an operation over the input it names. -/
theorem hasAccord_head {s : State} {w : Work} {o op : Nat} {h : 0 < s.keys.accords.length}
    (h1 : ((a1 s h).no % 65536 == w.accordId) = true ∧ (a1 s h).owner = o ∧ (a1 s h).opcode = op
      ∧ enoughSigned s (a1 s h) = true ∧ expired s (a1 s h) = false := by decide +kernel)
    (h2 : (a1 s h).digest = Config.sha384 w.input := by exact congrArg Config.sha384 (by decide +kernel)) :
    HasAccord s w o op (a1 s h) := accordCheck_head h1 h2

def card1 : Bytes := List.replicate 16 1

def own1 : Owner :=
  { enrolled := 2, id := 0x77, n := 1, m := 1, windowS := 60, root := some 64, quota := 10
    officials := [{ card := card1, pub := List.replicate 65 2 }] }

def slot64 : Slot := { payload := List.replicate 64 9, attr := 0x0100_0400 ||| 32, gen := 1, state := 1 }

def ringOn (cls func : Nat) : Ring := { cls := cls, func := func, state := .running, gen := 1, tail := 8, fetch := 8 }

/-- The checks of the slots, the KEYS records and the salt, as they stand after their last change. -/
def sealed (s : State) : State :=
  { s with keys := { s.keys with slots := s.keys.slots.map fun p => (p.1, { p.2 with check := slotCheck s p.1 p.2 }) }
           flash := { s.flash with saltMac := saltMac s (s.flash.salt.getD 0) }
           vm := { s.vm with keyRecs := s.vm.keyRecs.map fun r => { r with check := recordCheck s r } } }

/-- A device in READY: two VFs, a ring of every kind, one owner with its root, LOCKED, with numbers to issue. -/
def up0 : State where
  sys := { state := .ready, inReset := false, rails := true, porst := false, firmwareUp := true, bootStep := 14, inService := 0x7F }
  link := { perst := false, trained := true, numVFs := 2, bme := 0xFFFFFFFFFFFFFFFF }
  rings := { tbl := [(0, ringOn 0 1), (1, ringOn 1 1), (2, ringOn 2 1), (3, { ringOn 3 0 with tail := 4 })
                    , (4, { ringOn 4 1 with tail := 4 }), (5, { ringOn 5 0 with tail := 4 }), (6, ringOn 2 0)] }
  adm := { nextSeq := 100, owners := [(1, own1)] }
  clk := { run := 10 ^ 12, upNs := 10 ^ 11, state := .locked, everValid := true, refPresent := true }
  dep := { isOpen := true, number := 3, firstSeq := 90, target := 10 ^ 12 + 10 ^ 6, periodNs := 10 ^ 6, sched := 10 ^ 12 + 10 ^ 6 }
  flash := { counters := [{ type := 3, writeNo := 1, epoch := 0, departure := 0, sequence := 0, seqHigh := 10 ^ 6, depHigh := 10 ^ 6
                            head := 0, accordHigh := 10 ^ 6 }], salt := some 1 }
  keys := { nextAccord := 8, slots := [(64, slot64)] }
  evt := { staging := false, committed := true }
  vm := { trained := 15, rawMib := 65536, usableMib := 57344 }
  life := { decided := 2 }
  rng := { ready := true }

def up : State := sealed up0

/-- A descriptor of an opcode that names accord 7. -/
def descOf (op : Nat) : BitVec 512 := BitVec.ofNat 512 (op + 7 * 2 ^ 240 + 5 * 2 ^ 32)

/-- Work of an opcode on a ring of `up`. -/
def wkOn (ring op : Nat) (src : Bytes) : Work := { ring := ring, gen := 1, idx := 3, desc := descOf op, src := src, stamp := none }

def wid (ring : Nat) : WorkId := { ring := ring, idx := 3 }

/-- Work of an opcode whose input is PARAMS. -/
def wkIn (ring op : Nat) (params : Bytes) : Work :=
  { wkOn ring op [] with desc := descOf op ||| BitVec.ofNat 512 (2 ^ 9 + 2 ^ 21 + leNat (padTo 32 params) * 2 ^ 256) }

/-- `up` with work that waits. -/
def withWk (w : Work) : State := { up with adm := { up.adm with work := [w] } }

/-- An accord of owner 1 for an operation over an input, signed by its one official. -/
def accordOf (owner op : Nat) (input : Bytes) : Accord :=
  { no := 7, openT := 10 ^ 12, windowS := 60, owner := owner, m := 1, opcode := op, digest := Config.sha384 input
    body := if op = 0x50 then own1.officials else [], signers := [card1] }

theorem ne_of_length {a b : Bytes} (h : a.length ≠ b.length := by decide +kernel) : ¬ a = b := fun e => h (congrArg _ e)

theorem gcm_bad {key nonce aad ct tag : Bytes} (h : tag.length ≠ 16 := by decide +kernel) :
    ¬ (gcmOpen key nonce aad ct tag).2 = true := by
  intro e; exact h (by rw [← of_decide_eq_true e]; simp)

theorem slice_mid {f m r : Bytes} {n k : Nat} (h : f.length = n) (h' : m.length = k) : slice (f ++ (m ++ r)) n k = m := by
  subst h h'; simp [slice]

theorem mac_good {w : Work} {key f m : Bytes} (hin : w.input = f ++ m) (hm : m = macOf w key f) :
    macOf w key (w.input.take (w.input.length - cMacLen w)) = w.input.drop (w.input.length - cMacLen w) := by
  have hl : m.length = cMacLen w := by rw [hm]; simp [macOf]
  have e : w.input.length - cMacLen w = f.length := by rw [hin]; simp [hl]
  rw [e, hin]; simp [hm]

theorem macOf_desc {w v : Work} {key f : Bytes} (h : w.desc = v.desc) : macOf w key f = macOf v key f := by
  cases w; cases v; simp only at h; subst h; rfl

theorem gcm_good {b key nonce nonce' f : Bytes} {n n' : Nat}
    (hin : b = f ++ le 16 (Config.gcmTag key nonce' (f.take n') (f.drop n')).toNat)
    (h : n = n' ∧ nonce = nonce' ∧ n' ≤ f.length := by decide +kernel) :
    (gcmOpen key nonce (b.take n) ((b.drop n).take ((b.drop n).length - 16)) ((b.drop n).drop ((b.drop n).length - 16))).2 = true := by
  obtain ⟨rfl, rfl, h⟩ := h
  have d : b.drop n = f.drop n ++ le 16 (Config.gcmTag key nonce (f.take n) (f.drop n)).toNat := by
    rw [hin, List.drop_append_of_le_length h]
  have t : b.take n = f.take n := by rw [hin, List.take_append_of_le_length h]
  rw [t, d]
  generalize f.drop n = ct
  have e : (ct ++ le 16 (Config.gcmTag key nonce (f.take n) ct).toNat).length - 16 = ct.length := by simp
  rw [e]; simp [gcmOpen]

theorem find_single {α : Type} {l : List α} {p : α → Bool} {x : α} (h : l = [x]) (hp : p x = true := by decide +kernel) :
    l.find? p = some x := by
  subst h; simp [hp]

def isSign : CardTask → Bool
  | .sign _ => true
  | _ => false

theorem notSign {t : CardTask} (h : isSign t = false := by decide +kernel) : ∀ no, t ≠ .sign no := by
  rintro no rfl; simp [isSign] at h

theorem the_eq {α : Type} {o : Option α} {h : o.isSome = true} : o = some (the o h) := (Option.some_get h).symm

theorem inr_eq {α β : Type} {o : α ⊕ β} {h : o.isRight = true} : o = .inr (inr1 o h) := (Sum.inr_getRight o h).symm

theorem accordFor_head {s : State} {f id : Nat} {h : 0 < s.keys.accords.length}
    (h1 : ((a1 s h).no % 65536 == id && (f == 0 || (a1 s h).owner == f)) = true := by decide +kernel) :
    accordFor s f id = some (a1 s h) := by
  unfold a1 accordFor at *
  generalize hl : s.keys.accords = l at *
  cases l with
  | nil => simp at h
  | cons a l => exact List.find?_cons_of_pos (by simpa using h1)

/-! ### Hypotheses over values of `Config`

A MAC or a tag that the model computes with a constant of `Config` is put into the sample with that constant. -/

/-- The first work item of a state waits where its ring takes results. -/
theorem waits_head {s : State} {id : WorkId} {op : Nat} {h : 0 < s.adm.work.length}
    (h1 : inService s = true ∧ closeWork s = false
      ∧ ((w1 s h).ring == id.ring && (w1 s h).idx == id.idx && dOp (w1 s h).desc == op) = true
      ∧ ringTakes (ringOf s (w1 s h).ring) (w1 s h).gen = true := by decide +kernel) : Waits s id op (w1 s h) := by
  unfold w1 at *
  obtain ⟨h1, h2, h3, h4⟩ := h1
  refine ⟨h1, h2, ?_, h4⟩
  generalize hl : s.adm.work = l at *
  cases l with
  | nil => simp at h
  | cons a l => simp at h3; simp [h3]

def rootKey : Bytes := List.replicate 32 9

/-- The 112 bytes of an owner command body with its tag (R101). -/
def sealBody (verb : Nat) (f : Bytes) : Bytes :=
  f ++ kmac 16 (clauseKey rootKey (clause 0x77 verb up.otp.deviceId.toNat 0)) f "SOLNY COMMAND"

theorem slice_front {f m : Bytes} {n : Nat} (h : f.length = n) : slice (f ++ m) 0 n = f := by
  subst h; simp [slice]

theorem slice_tail {f m : Bytes} {n k : Nat} (h : f.length = n) (h' : m.length = k) : slice (f ++ m) n k = m := by
  subst h h'; simp [slice]

/-- The slot that a handle's reference names. -/
def refSlot : Option KeyRef → Nat
  | some (.slot i) => i
  | _ => 0

theorem atD_map {x : Tbl Slot} {f : Nat → Slot → Slot} {i : Nat} (h : (x.any fun p => p.1 == i) = true) :
    Tbl.atD (x.map fun p => (p.1, f p.1 p.2)) i {} = f i (x.atD i {}) := by
  induction x with
  | nil => simp at h
  | cons a l ih => 
    by_cases e : a.1 = i
    · subst e; simp [Tbl.atD, Tbl.at?]
    · have : (l.any fun p => p.1 == i) = true := by simpa [e] using h
      simpa [Tbl.atD, Tbl.at?, e] using ih this

theorem slotCheck_congr {s x : State} {i : Nat} {a b : Slot} (h : a.bytes = b.bytes) (hk : a.key = b.key) (h1 : (slotOf s 1).key = (slotOf x 1).key) :
    slotCheck s i a = slotCheck x i b := by
  simp only [slotCheck, h, hk, h1]

theorem atD_none {x : Tbl Slot} {i : Nat} (h : ¬ (x.any fun p => p.1 == i) = true) : x.atD i {} = {} := by
  induction x with
  | nil => rfl
  | cons a l ih =>
    have e : a.1 ≠ i ∧ ¬ (l.any fun p => p.1 == i) = true := by simpa using h
    simpa [Tbl.atD, Tbl.at?, e.1] using ih e.2

theorem slot_sealed {s x : State} {i : Nat} (hx : s.keys.slots = (sealed x).keys.slots)
    (h : (x.keys.slots.any fun p => p.1 == i) = true) : (slotOf s i).check = slotCheck s i (slotOf s i) := by
  have hs : ∀ j, (x.keys.slots.any fun p => p.1 == j) = true →
      slotOf s j = { slotOf x j with check := slotCheck x j (slotOf x j) } := by
    intro j hj
    unfold slotOf; rw [hx]
    exact atD_map (f := fun k y => { y with check := slotCheck x k y }) hj
  have h1 : (slotOf s 1).key = (slotOf x 1).key := by
    by_cases hj : (x.keys.slots.any fun p => p.1 == 1) = true
    · rw [hs 1 hj]; rfl
    · have e : ¬ (s.keys.slots.any fun p => p.1 == 1) = true := by
        rw [hx]; simpa [sealed] using hj
      unfold slotOf; rw [atD_none hj, atD_none e]
  rw [hs i h]
  exact (slotCheck_congr (by rfl) (by rfl) h1).symm

theorem checkKey_sealed {s x : State} {o h : Nat} (hx : s.keys.slots = (sealed x).keys.slots)
    (h1 : (match refOf s o h with
      | some (.record _ _) => false
      | some (.slot i) => s.keys.slots.any fun p => p.1 == i
      | none => true) = true := by decide +kernel) : checkKey o h s = s := by
  unfold checkKey
  split
  · next i hr =>
    rw [hr] at h1
    refine if_pos (beq_iff_eq.2 (slot_sealed hx ?_))
    rw [hx] at h1; simpa [sealed] using h1
  · next hr => rw [hr] at h1; simp at h1
  · rfl

theorem ref_only {r : KeyRef} {P : Nat → Prop} (h : r = .slot (refSlot (some r))) (h2 : P (refSlot (some r))) :
    ∀ i, r = .slot i → P i := by
  intro i e; rw [h] at e; cases e; exact h2

theorem checkRoot_sound {s x : State} {o seq : Nat} (hx : s.keys.slots = (sealed x).keys.slots)
    (h : (!(rootAt s o seq).live || s.keys.slots.any fun p => p.1 == (rootAt s o seq).slot) = true := by decide +kernel) :
    checkRoot o seq s = s := by
  unfold checkRoot checkSlot slotSound
  by_cases hl : (rootAt s o seq).live = true
  · have := slot_sealed hx (i := (rootAt s o seq).slot) (by rw [hx] at h; simpa [sealed, hl] using h)
    simp only [this, beq_self_eq_true, if_true, ite_self]
  · simp [hl]

theorem takeBody_good {s : State} {owner verb op ctr : Nat} {rsv : Bool} {b f : Bytes} (hb : b = sealBody verb f)
    (hs : checkRoot owner s.adm.nextSeq s = s := by exact checkRoot_sound rfl)
    (h : ownerLocked s s.adm.nextSeq = false ∧ (rootAt s owner s.adm.nextSeq).key = some rootKey
      ∧ (rootAt s owner s.adm.nextSeq).id.toNat = 0x77
      ∧ s.otp.deviceId = up.otp.deviceId ∧ f.length = 112 ∧ rsv = true ∧ rd b 40 1 = op ∧ allZero b 41 71 = true
      ∧ (ownerOf s owner).cmdCtr < rd b 32 8 ∧ rd b 32 8 = ctr := by decide +kernel) :
    (takeBody owner verb rsv b op s).1 = .good ctr := by
  obtain ⟨h1, h2, h3, h4, h5, h6, h7, h8, h9, h10⟩ := h
  have hm : slice b 112 16 = kmac 16 (clauseKey rootKey (clause 0x77 verb up.otp.deviceId.toNat 0)) f "SOLNY COMMAND" := by
    rw [hb]; exact slice_tail h5 (by simp [kmac])
  have hf : slice b 0 112 = f := by rw [hb]; exact slice_front h5
  have hk : bodyKey s owner verb = some (clauseKey rootKey (clause 0x77 verb up.otp.deviceId.toNat 0)) := by
    simp [bodyKey, h1, h2, h3, h4]
  unfold takeBody bodyCheck
  subst h6 h7 h10
  simp [hs, hk, h8, hm, hf, Nat.not_le.2 h9]

/-- The 48 bytes of a claim in clear with its tag under the wager key (R134, R200). -/
def sealClaim (f : Bytes) : Bytes :=
  f ++ le 16 (Config.gcmTag (clauseKey rootKey (wagerClause up 1 100 f)) (slice f 16 12) f []).toNat

theorem claimAuth_good {s : State} {w : Work} {owner die : Nat} {f : Bytes} (hb : w.src = sealClaim f)
    (hs : checkRoot owner ((w.stamp.map (·.seq)).getD 0) s = s := by exact checkRoot_sound rfl)
    (h : f.length = 48 ∧ authPre s owner ((w.stamp.map (·.seq)).getD 0) (dSrcLen w.desc) 64 true
        (terminalOf s owner (hTerminal w.src)) w.src = none
      ∧ rootFor s owner ((w.stamp.map (·.seq)).getD 0) (hTerminal w.src) = some rootKey
      ∧ wagerClause s owner ((w.stamp.map (·.seq)).getD 0) w.src = wagerClause up 1 100 f
      ∧ slice w.src 16 12 = slice f 16 12 ∧ hBodyLen w.src = 16 ∧ hFormat w.src = 1 := by decide +kernel) :
    (claimAuth w owner die s).1 = none := by
  obtain ⟨h1, h2, h3, h4, h5, h6, h7⟩ := h
  have ht : slice w.src 48 16 = le 16 (Config.gcmTag (clauseKey rootKey (wagerClause up 1 100 f)) (slice f 16 12) f []).toNat := by
    rw [hb]; exact slice_tail h1 (by simp)
  have hf : slice w.src 0 48 = f := by rw [hb]; exact slice_front h1
  unfold claimAuth
  simp only [hs, h2, authGcm, h3, h4, h5, h6, h7, Nat.reduceAdd, ht, hf, if_true, Option.getD_some, gcmOpen, decide_true, xorBytes]

theorem drop_front {f b : Bytes} {n : Nat} (h : f.length = n := by decide +kernel) : List.drop n (f ++ b) = b := List.drop_left' h

/-- The line in which an area keeps a key is bad. -/
def badFor (o area key : Nat) (s : State) : State :=
  { s with vm := { s.vm with store := { s.vm.store with bad := [lineAddr s o area (areaCandidates s o area key).1] } } }

theorem keyBad_for {s : State} {o area key o' key' : Nat} (h : o' = o ∧ key' = key := by decide +kernel) :
    keyBad (badFor o area key s) o' area key' = true := by
  obtain ⟨rfl, rfl⟩ := h
  have h1 : (lineAddr s o' area (areaCandidates s o' area key').1
      == lineAddr (badFor o' area key' s) o' area (areaCandidates (badFor o' area key' s) o' area key').1) = true := beq_iff_eq.2 rfl
  have h2 : (badFor o' area key' s).vm.store.bad = [lineAddr s o' area (areaCandidates s o' area key').1] := rfl
  unfold keyBad
  rw [h2, List.any_cons, h1]; rfl

theorem tryTick_quiet {s : State} (h1 : s.adm.ends.isEmpty = true := by decide +kernel)
    (h2 : tickDue s = false := by decide +kernel) : tryTick (drainEnds s) = s := by
  unfold drainEnds; rw [List.isEmpty_iff.1 h1]
  unfold drainList tryTick; rw [h2]; rfl

theorem authPre_sound {s : State} {o seq len lmax : Nat} {c : Bool} {t : Option Terminal} {r : Bytes} {x : Option (Status × Nat)}
    (hs : checkRoot o seq s = s) (h : authPre s o seq len lmax c t r = x := by decide +kernel) :
    authPre (checkRoot o seq s) o seq len lmax c t r = x := by rw [hs]; exact h

/-- The 64 bytes of a wager record in clear with its tag under the wager key at number 99 (R134). -/
def sealRec (f : Bytes) : Bytes :=
  f ++ le 16 (Config.gcmTag (clauseKey rootKey (wagerClause up 1 99 f)) (slice f 16 12) f []).toNat

theorem authGcm_good {s : State} {owner seq : Nat} {r f : Bytes} (hb : r = sealRec f)
    (hs : checkRoot owner seq s = s := by exact checkRoot_sound rfl)
    (h : f.length = 48 ∧ rootFor s owner seq (hTerminal r) = some rootKey
      ∧ wagerClause s owner seq r = wagerClause up 1 99 f
      ∧ slice r 16 12 = slice f 16 12 ∧ hBodyLen r = 16 ∧ hFormat r = 1 := by decide +kernel) :
    (authGcm (checkRoot owner seq s) owner seq r).2 = true := by
  obtain ⟨h1, h3, h4, h5, h6, h7⟩ := h
  have ht : slice r 48 16 = le 16 (Config.gcmTag (clauseKey rootKey (wagerClause up 1 99 f)) (slice f 16 12) f []).toNat := by
    rw [hb]; exact slice_tail h1 (by simp)
  have hf : slice r 0 48 = f := by rw [hb]; exact slice_front h1
  simp only [hs, authGcm, h3, h4, h5, h6, h7, Nat.reduceAdd, ht, hf, if_true, Option.getD_some, gcmOpen, decide_true]

theorem authGcm_short {s : State} {owner seq : Nat} {r : Bytes}
    (h : (slice r (32 + hBodyLen r) 16).length ≠ 16 ∧ hFormat r = 1 := by decide +kernel) :
    (authGcm s owner seq r).2 = false := by
  unfold authGcm
  simp only [h.2, if_true]
  exact Bool.eq_false_iff.2 (gcm_bad h.1)

/-- A 128-byte owner command body: 32 bytes of its own, command counter 50, the opcode. -/
def cmdBody (op : Nat) (own : Bytes) : Bytes := sealBody (if op = 0x12 then 4 else if op = 0x15 then 5 else if op = 0x16 then 6 else 3) (padTo 112 (padTo 32 own ++ le 8 50 ++ le 1 op))

def bk0 : Book := { owner := 1, ownerId := 0x77, handle := 1, version := 1, digest := 0, lmax := 256
                    fields := [{ hi := 0, lo := 0, off := 0, len := 8, ty := 2, count := 0 }], ops := [], consts := [5, 6, 1000]
                    tables := [[1, 5, 25]], cancel := some 3, wWager := 100, cWager := 50, wCancel := 10, cCancel := 5, bytes := 64, draining := false }

def tkSt (st : Nat) : Ticket := { issuer := 0, seq := 55, amount := 7, data := 8, game := 9, payer := 0, pending := false, state := st, owner := 1 }

def game1 (live : Bool) : Game := { owner := 1, id := 9, live := live, reason := 0, rulebook := 1, openT := 5, closeT := 10 ^ 13, guard := 2 }

/-- `up` with a rulebook, a game, tickets and counters of owner 1, and work that waits. -/
def tkt (st : Nat) (live : Bool) (w : Work) : State :=
  { withWk w with
    vm := { up.vm with tickets := [tkSt st, { tkSt 0 with seq := 56, game := 3 }, { tkSt 2 with seq := 57 }, {tkSt 1 with seq := 58}, {tkSt 3 with seq := 59}, {tkSt 0 with seq := 60, pending := true}], limits := [⟨1, 5, 30, 100, 0, 0, 0⟩], terminals := [⟨1, 5, 3, 4, 0⟩] }
    eng := { up.eng with books := [bk0] }
    adm := { (withWk w).adm with games := [game1 live, { game1 true with id := 3 }] } }

def clSt (st : Nat) : State := tkt st false { wkOn 2 0x10 (sealClaim (padTo 48 (le 8 5 ++ le 4 4 ++ le 4 0 ++ le 4 9 ++ le 8 0 ++ le 2 16 ++ [1, 0] ++ le 8 up.otp.deviceId.toNat ++ le 8 55))) with
  stamp := some { seq := 99, t := 10 ^ 12 - 5, dep := 3 }, desc := descOf 0x10 ||| BitVec.ofNat 512 (64 * 2 ^ 16) }

def it0 : Item := { seq := 99, t := 10^12 - 5, dep := 3, unc := 3, owner := 1, ring := 1, gen := 1, idx := 2, desc := BitVec.ofNat 512 (1 + 64 * 2^16)
                    record := [1,2,3], game := 9, openT := 0, closeT := 0, guard := 0, handle := 1, version := 1, isCancel := false
                    targetDev := up.otp.deviceId.toNat, targetSeq := 55, die := 1, ended := none }

def cmSt (l : Option (List Staged)) (kept : List Kept) : State :=
  let s := tkt 0 true (wkOn 2 0x13 [])
  { s with adm := { s.adm with items := [{ it0 with ended := some ⟨.ok, 0, l, 77, 5⟩ }], owed := [⟨99, 1, 3⟩], work := [] }, vm := { s.vm with kept := kept } }

def doneSt : State := { up with rings := { up.rings with tbl := [(1, { ringOn 1 1 with next := 3, fin := [⟨3, 7, .ok, 0, some ⟨99, 1, 3⟩, none, false, true, 0⟩] })] }, vm := { up.vm with kept := [⟨99, .ok, 0, 5, [], 0⟩, ⟨98, .ok, 0, 5, [], 0⟩] } }

def swSt : State := let s := tkt 0 false (wkOn 2 0x13 [])
  { s with vm := { s.vm with sweeps := [{ owner := 1, game := 9, mode := 7, atSeq := 5, deleted := 2, voided := 3, work := { wkOn 2 0x16 [] with stamp := some ⟨90, 1, 3⟩ } }] } }

/-- `up` with another clock. -/
def clkSt (c : Clk) : State := { up with clk := c }

def acq (x y : Int) : State := clkSt { up.clk with state := .acquiring, everValid := false, srcEn := 15, floorT := 10 ^ 12 - 100, readings := [(.ptp0, x, 5), (.linzen, y, 6)] }

def pps : State := clkSt { up.clk with srcEn := 15, corr := -500 }

def hold : State := clkSt { up.clk with state := .holdover, holdSince := 10 ^ 11, uEntry := 999999999 }

def port1 : Port := { cfg := 3, up := true, gm := some 7, masters := [(7, 3), (8, 2), (9, 9)], delay := some 40, syncWait := true, delayWait := true }

def ptpSt (p q : Port) : State := { up with jct := { up.jct with port0 := p, port1 := q }, clk := { up.clk with srcEn := 15, state := .lost } }

def ptpLive : State := { ptpSt port1 port1 with adm := { up.adm with games := [game1 true] } }

def regSt (sel : Nat) (x : Ring) : State :=
  { up with adm := { up.adm with ringSel := sel, ownerSel := 1 }, rings := { up.rings with sel := sel, tbl := up.rings.tbl ++ [(9, x)] } }

def boxSt (sel : Nat) (b : Box) : State := { up with box := { b with sel := sel } }

def ev1 (n : Nat) : Ev := { seq := n, code := 0x0501, opNs := 1, tai := 1, arg := [1], rep := 0, dep := none, sub := 0, power := 1, owner := 0, carry := false, trunc := false, frozen := true }

def recSt : State := { up with evt := { up.evt with head := 9, frozen := 8, mirrored := 3, posted := 4, evs := [9, 8, 7, 6, 5, 4, 3].map ev1 }, keys := { up.keys with mirrorKey := some 5 } }

def stagSt (m : Bool) : State := { up with evt := { up.evt with head := 2, staging := true, staged := [ev1 2, ev1 1] }, keys := { up.keys with mirrorKey := some 5 }, flash := { up.flash with mirror := if m then [⟨64, ev1 77, mirrorMac (ev1 77)⟩, ⟨65, ev1 78, mirrorMac (ev1 78)⟩] else [], mirrorNext := 7 } }

def dsg : Signed := { dep := 5, lastSeq := 7, head := 3, bytes := [1, 2], keyDigest := 0 }

def trafSt : State :=
  { up with rings := { up.rings with tbl := [(1, { ringOn 1 1 with next := 3, fetch := 4, fin := [⟨3, 7, .ok, 0, some ⟨99, 1, 3⟩, some [5], false, true, 0⟩, ⟨4, 7, .ok, 0, none, none, false, true, 0⟩] }), (3, { ringOn 3 0 with tail := 4 }), (4, { ringOn 4 1 with tail := 4 }), (5, { ringOn 5 0 with tail := 9 })] }
            adm := { up.adm with owners := [(1, { own1 with closed := [{ owner := 1, dep := 3, seq := 5, units := 1, bytes := [1, 2, 3] }] })], fetched := [⟨1, 1, 2, 5, .failed, 0⟩] }
            dep := { up.dep with signed := [dsg, { dsg with dep := 6 }], posted := [(4, 3, 60), (5, 4, 61)] } }

def imgHead (handle ver ops : Nat) (w c : Nat) : Bytes :=
  le 4 0x57494C31 ++ le 2 1 ++ le 2 handle ++ le 8 0x77 ++ le 4 ver ++ (if ops = 0 then zeros 4 else le 2 56 ++ [1, 0]) ++ le 2 ops ++ (if ops = 0 then zeros 2 else le 2 1)
   ++ zeros 4 ++ zeros 4 ++ le 4 w ++ le 4 c ++ zeros 8 ++ zeros 12

def imgOps : Bytes := le 8 (0x1F * 2 ^ 56) ++ le 8 (0x1C * 2 ^ 56 + 1) ++ le 8 (0x06 * 2 ^ 56)

def imgBody : Bytes := le 16 (8 * 2 ^ 16 + 2 * 2 ^ 12) ++ imgOps ++ le 8 5

def img0 (handle ver : Nat) (w c : Nat) : Bytes := imgHead handle ver 3 w c ++ imgBody ++ zeros 4723 ++ zeros 1

def img (handle ver : Nat) : Bytes :=
  let e := entryCosts (costEnv (img0 handle ver 0 0) []) (imageOps (img0 handle ver 0 0))
  img0 handle ver e.1 e.2

def bulkSt (target : Nat) (owner : Nat) (d : Bytes) (s : State) : State :=
  { s with bulk := { s.bulk with state := .verifying, target := target, owner := owner, data := d, addr := d.length, len := d.length }
           life := { s.life with codeKeys := [(1, (some (List.replicate 2696 3), none))] } }

def withBook (s : State) : State := { s with eng := { s.eng with books := [bk0, { bk0 with owner := 2 }] } }

def waitBook (s : State) (dr : Bool) (busy : Bool) : State :=
  { s with eng := { s.eng with books := [bk0, { bk0 with owner := 2 }] ++ (if dr then [{ bk0 with draining := true, version := 9 }] else []), waiting := some (bookOfImage 1 (img 1 2)) }
           adm := { s.adm with items := if busy then [it0] else [] } }

def fw (svn gen rev : Nat) : Bytes := le 4 0x53465731 ++ le 2 1 ++ le 2 0 ++ le 4 7 ++ [BitVec.ofNat 8 svn, BitVec.ofNat 8 gen, BitVec.ofNat 8 rev, 0] ++ le 8 16 ++ zeros 104 ++ zeros 16 ++ zeros (96 + 4627)

def clos1 : Closing := { dep := 2, flags := 0, periodNs := 10^6, runNs := 10^6, sched := 5, actual := 6, late := 0, unc := 3, clockState := 2, firstSeq := 80, lastSeq := 89, rulebookCount := 0, rulebookSet := 0, eventDigest := 0, counterDigest := 0, witness := [], nextKey := 0, keyDigest := 0, serial := 1 }

def depSt (lag wait : Nat) : State :=
  sealed { up with dep := { up.dep with closing := [clos1], witLag := lag, witWaitUs := wait, first := 1 }, keys := { up.keys with slots := [(5, slot64), (6, slot64), (64, slot64)] } }

def wrec (game : Nat) : Bytes := padTo 64 (le 8 5 ++ le 4 4 ++ le 4 game ++ le 4 9 ++ le 8 0 ++ le 2 16 ++ [1, 0])

def admSt (ring : Nat) (d : BitVec 512) (src : SourceRead) (tokens : Nat) : State :=
  let s := tkt 0 true (wkOn 2 0x13 [])
  { s with adm := { s.adm with work := [], fetched := [⟨ring, 1, 5, d, src, 10 ^ 11⟩, ⟨2, 1, 5, 0, .failed, 10 ^ 11⟩] }
           rings := { s.rings with tbl := (0, { ringOn 0 1 with tokens := tokens, rate := 10, burst := 10 }) :: s.rings.tbl.tail! } }

def dW (op : Nat) (n : Nat) : BitVec 512 := BitVec.ofNat 512 (op + n * 2 ^ 16 + 5 * 2 ^ 32 + 64 * 2 ^ 192)

/-- `up` with work of owner 1 and an accord over its input. -/
def acc (ring op : Nat) (input : Bytes) (owner : Nat := 1) : State :=
  let w := wkOn ring op input
  sealed { withWk w with keys := { up.keys with accords := [accordOf owner op input, { accordOf 1 3 [1] with no := 9 }, { accordOf 2 3 [1] with no := 10 }], slots := [(64, slot64), (65, { payload := List.replicate 64 8, attr := mkAttr 32 1 verbTransport 0, gen := 1, state := 1 }), (66, { payload := List.replicate 64 7, attr := mkAttr 32 1 verbCipher 3 + 256, gen := 2, state := 1 }), (67, { payload := List.replicate 64 7, attr := mkAttr 32 1 verbMac 3, gen := 2, state := 1 })] }
                         vm := { up.vm with keyRecs := [⟨1, 0, mkAttr 16 1 verbMac 0, 1, 1, [1, 2], []⟩] } }

def enrolBody (f n noRoot : Nat) : Bytes := le 8 0x99 ++ [BitVec.ofNat 8 f, BitVec.ofNat 8 n, 1, BitVec.ofNat 8 noRoot] ++ le 2 60 ++ zeros 2 ++ (List.replicate n (List.replicate 81 4 ++ zeros 15)).flatten

def setBody : Bytes := le 8 0x77 ++ [0, 1, 1, 0] ++ le 2 60 ++ zeros 2 ++ List.replicate 81 5 ++ zeros 15

def h65 : Nat := 4096 + 65

def h66 : Nat := 2 * 4096 + 66

def h67 : Nat := 2 * 4096 + 67

/-- A tag with one bit changed. -/
def flip : Bytes → Bytes
  | [] => []
  | b :: r => (b ^^^ 1) :: r

/-- A wrapped record of owner 1 under the key in slot 65, its tag good or bad. -/
def wrapRec (bad : Bool) (attr : W64) (key : Bytes) (k : Nat) : Bytes :=
  let mid := le 4 k ++ (le 2 (16 + key.length) ++ zeros 14)
  let x := gcmSeal (List.replicate 32 8) (zeros 12) (ownerIdBytes up 1 ++ mid) (le 8 attr.toNat ++ (zeros 8 ++ key))
  zeros 12 ++ (mid ++ (x.1 ++ if bad then flip x.2 else x.2))

def wrapped (attr : W64) (key : Bytes) (k : Nat) : Bytes := wrapRec false attr key k

def peer1 : Peer := { id := 0x55, ecdsaPub := [4], mldsaPub := [5], flags := 0xFF, state := 3, port := some 0, path0 := List.replicate 32 1, path1 := List.replicate 32 1
                      cur := some { num := 9, initiator := true, ms := List.replicate 64 1 } }

def withPeer (s : State) : State := { s with jct := { s.jct with peers := [(2, peer1)], port0 := { cfg := 1, media := 1, up := true }, port1 := { cfg := 1, media := 1, up := true } } }

def held1 : HeldLock := { index := 3, peer := 2, device := 0x55, ownerId := 0x77, root := List.replicate 32 6, attr := mkAttr 32 1 verbRoot 0, setDigest := setDigest own1.officials, lo := 0, hi := 99 }

def ktab (n : Nat) : Bytes :=
  let recs := wrapped (mkAttr 16 1 verbCipher 0) (List.replicate 16 9) 0 ++ (if n = 2 then wrapped (mkAttr 16 1 verbMac 0) (List.replicate 16 9) 1 else [])
  le 4 0x4B544231 ++ le 2 1 ++ le 2 7 ++ le 8 0x77 ++ le 4 h65 ++ le 4 n ++ [0] ++ zeros 39 ++ recs

def ktOf (d : Bytes) : State :=
  let s := acc 2 0x13 []
  { bulkSt 3 1 d s with keys := { s.keys with accords := [accordOf 1 0xB3 (d.drop 64)] } }

def sess (n : Nat) : Session := { num := n, initiator := true, ms := List.replicate 64 1, sent := 5, acked := 2, got := 7, flight := [(3, [1], 5, true), (4, [2], 6, true), (5, [3], 7, false)] }

def hs1 (stage num tries : Nat) : Handshake := { stage := stage, num := num, tries := tries, ecdh := [1], kem := [2], th := 9, ms := List.replicate 64 2, frame := [3] }

/-- A device with both ports up and a peer in entry 2. -/
def netSt (p : Peer) : State :=
  { up with jct := { up.jct with peers := [(2, p), (5, { peer1 with id := 0x66, port := some 1 })], port0 := { cfg := 1, media := 1, up := true, ip := 5 }, port1 := { cfg := 1, media := 1, up := true, ip := 6 } } }

def frm (type session seq ack : Nat) (body : Bytes) : LinzenFrame :=
  { port := 0, ver := 1, type := type, len := body.length + (if type ≤ 2 then 0 else 16), srcId := 0x55, dstId := up.otp.deviceId.toNat, session := session, seq := seq, ack := ack, reservedZero := true, tagOk := true, body := body }

def idle1 : Peer := { peer1 with cur := none, state := 1 }

def inb (m : Bytes) (p : Peer := peer1) : State :=
  let s := netSt { p with inbox := [message 9 9 1 [], m, m] }
  { s with dep := { s.dep with newest := [(2, 50, 7)] }, keys := { s.keys with held := [held1], sends := [(2, { wkOn 2 0x5D [] with stamp := some ⟨90, 1, 3⟩ })], slots := [(64, slot64)] }
           vm := { s.vm with claims := [{ peer := 2, owner := 1, ownerId := 0x77, device := 0x55, seq := 5, sent := true, die := 1, work := { wkOn 2 0x10 [] with stamp := some ⟨90, 1, 3⟩ } }, { peer := 2, owner := 1, ownerId := 0x77, device := 0x55, seq := 6, sent := false, die := 1, work := { wkOn 2 0x10 [] with stamp := some ⟨91, 1, 3⟩ } }], verified := some 40 } }

def lockMsg (o : Nat) : Bytes := message 3 1 1 (le 8 o ++ digestBytes (setDigest own1.officials) ++ le 8 0 ++ le 8 9 ++ le 8 (mkAttr 32 1 verbRoot 0).toNat ++ zeros 8 ++ zeros 16 ++ List.replicate 64 3 ++ zeros 16)

def cert1 (dev : Nat) : Bytes := le 4 0x49444331 ++ le 2 1 ++ zeros 2 ++ le 8 dev ++ zeros (6811 - 16)

def addBody (i fl : Nat) (cert : Bytes) : Bytes := le 2 i ++ zeros 6 ++ le 1 fl ++ zeros 7 ++ padTo 32 [1] ++ padTo 32 [2] ++ cert

def peerWk (op : Nat) (b : Bytes) (p : Peer) : State := { netSt p with adm := { up.adm with work := [wkOn 6 op b] } }

def canSt (game : Nat) (target : Nat) : State :=
  let s := tkt 0 true { wkOn 2 0x11 (sealClaim (padTo 48 (le 8 5 ++ le 4 4 ++ le 4 0 ++ le 4 9 ++ le 8 0 ++ le 2 16 ++ [1, 0] ++ le 8 up.otp.deviceId.toNat ++ le 8 target))) with
    stamp := some { seq := 99, t := 10 ^ 12 - 5, dep := 3 }, desc := descOf 0x11 ||| BitVec.ofNat 512 (64 * 2 ^ 16) }
  { s with adm := { s.adm with games := [{ game1 true with rulebook := game }] }, eng := { s.eng with books := [bk0, { bk0 with handle := 2, cancel := none }] } }

def canDev (dev : Nat) : State :=
  let s := withPeer (tkt 0 true { wkOn 2 0x11 (sealClaim (padTo 48 (le 8 5 ++ le 4 4 ++ le 4 0 ++ le 4 9 ++ le 8 0 ++ le 2 16 ++ [1, 0] ++ le 8 dev ++ le 8 55))) with
    stamp := some { seq := 99, t := 10 ^ 12 - 5, dep := 3 }, desc := descOf 0x11 ||| BitVec.ofNat 512 (64 * 2 ^ 16) })
  s

def th0 : Thread := { id := ⟨1, 0, 0, 0⟩, seq := 99, pc := 7, regs := Vector.replicate 32 0, staged := [], ruleField := 0, record := [], scratch := [], marks := 0 }

def e0 : EngineId := { die := 1, cluster := 0, engine := 0 }

def engSt : State :=
  { up with eng := { up.eng with threads := [th0, { th0 with id := ⟨1, 0, 2, 0⟩, seq := 98 }], quarantined := [⟨1, 0, 3⟩], buckets := [1, 2, 3, 1, 5] }
            adm := { up.adm with items := [it0, { it0 with seq := 98 }] }, keys := { up.keys with cache := [(1, 1, 64, 3, [1]), (2, 2, 64, 3, [1])] } }

def loadImg (n : Nat) (iss : Nat) : Bytes :=
  le 4 0x53544C31 ++ le 2 1 ++ le 2 0 ++ le 8 0x77 ++ le 8 iss ++ le 8 n ++ zeros 32 ++ ((List.range n).map fun k => ticketBytes { tkSt 0 with seq := 5 + k }).flatten ++ zeros 4723 ++ zeros 1

def loadSt (b : Bytes) : State :=
  let s := bulkSt 4 1 b up
  { s with vm := { s.vm with adopted := [(1, 3, 0x55)], tickets := [tkSt 2] }, adm := { s.adm with owners := [(1, { own1 with parts := [2, 2, 2, 2] })] } }

def liveLoad (e : Nat) : State :=
  let s := loadSt (loadImg 2 0x55)
  { s with vm := { s.vm with load := some (1, 3, 9, e), epochAck := 4, tickets := [tkSt 2, { tkSt 0 with issuer := 3, pending := true }, { tkSt 0 with issuer := 3, owner := 2, pending := true }] } }

def ckSt (w : Work) (v : Vm → Vm) : State := let s := tkt 0 true w; { s with vm := v s.vm }

def resSt (b : Bytes) (epoch : Nat) : State :=
  let s := bulkSt 5 0 b up
  sealed { s with sys := { s.sys with state := .restoring }, dep := { s.dep with isOpen := false }
                  flash := { s.flash with counters := s.flash.counters.map fun c => { c with epoch := epoch } }
                  keys := { s.keys with slots := [(5, slot64), (6, slot64), (64, slot64)] }
                  vm := { s.vm with tickets := [tkSt 0], keyRecs := [⟨1, 0, 5, 1, 1, [1, 2], []⟩] } }

/-- Work with OP_ARG low half and PARAMS set. -/
def wkP (ring op arg : Nat) (params src : Bytes) (dstLen : Nat := 4096) : Work :=
  { wkOn ring op src with desc := descOf op ||| BitVec.ofNat 512 (arg * 2 ^ 224 + leNat (padTo 32 params) * 2 ^ 256 + dstLen * 2 ^ 192) }

def ciphSt (w : Work) (attr66 : W64) : State :=
  let s := acc 2 0x13 []
  sealed { s with adm := { s.adm with work := [w] }, keys := { s.keys with accords := [accordOf 1 (dOp w.desc) w.input], slots := [(64, slot64), (65, { payload := List.replicate 64 8, attr := attr66, gen := 1, state := 1 })] } }

def aC : W64 := mkAttr 32 1 verbCipher 1

def aM : W64 := mkAttr 32 1 verbMac 5

def kp (mac : Nat) : Bytes := le 4 h65 ++ le 2 1 ++ [0, BitVec.ofNat 8 mac] ++ zeros 16

def cOp (w : Work) (f : Bool) (lane : Nat) : CipherOp := { work := w, lane := { group := .vault, lane := lane }, owner := 1, key := List.replicate 32 8, nonce := [], faulted := f }

def laneSt (ops : List CipherOp) : State := { up with lanes := { up.lanes with ops := ops } }

def pOp (w : Work) (f : Bool) (e : Nat) : PkOp := { work := w, engine := e, owner := 1, key := [1, 0] ++ List.replicate 62 8, handle := h65, faulted := f, running := false }

def pkSt (ops : List PkOp) : State := { up with pk := { up.pk with ops := ops } }

def beB (n v : Nat) : Bytes := (le n v).reverse

def p256 (ok : Nat) : Bytes := le 2 256 ++ le 2 256 ++ le 1 1 ++ zeros 3
  ++ beB 32 0xffffffff00000001000000000000000000000000ffffffffffffffffffffffff ++ beB 32 0xffffffff00000001000000000000000000000000fffffffffffffffffffffffc
  ++ beB 32 0x5ac635d8aa3a93e7b3ebbd55769886bc651d06b0cc53b0f63bce3c3e27d2604b ++ beB 32 0x6b17d1f2e12c4247f8bce6e563a440f277037d812deb33a0f4a13945d898c296
  ++ beB 32 (0x4fe342e2fe1a7f9b8ee7eb4a7c0f9e162bce33576b315ececbb6406837bf51f5 + ok) ++ beB 32 0xffffffff00000000ffffffffffffffffbce6faada7179e84f3b9cac2fc632551

def pkKeySt (w : Work) (rest : List Work) : State :=
  let s := ciphSt w 0
  sealed { s with adm := { s.adm with work := w :: rest }, keys := { s.keys with slots := [(64, slot64), (65, { payload := [1, 0] ++ List.replicate 62 8, attr := mkAttr 34 1 verbSign 0, gen := 1, state := 1 }), (66, { payload := [1, 0] ++ List.replicate 62 8, attr := mkAttr 34 1 verbKem 0, gen := 1, state := 1 })] } }

def drawSpec (mode sort n k lo hi game : Nat) : Bytes := le 8 77 ++ [BitVec.ofNat 8 mode, BitVec.ofNat 8 sort] ++ zeros 6 ++ le 8 n ++ le 8 k ++ le 8 lo ++ le 8 hi ++ le 4 game ++ zeros 12

def rngSt (r : Rng) : State := { up with rng := r }

def drawSt (sp : Bytes) (dst : Nat) : State :=
  let s := ciphSt (wkP 2 0x21 7 [] sp dst) 0
  { s with adm := { s.adm with games := [game1 false, { game1 true with id := 3 }], work := s.adm.work.map fun w => { w with desc := w.desc ||| descOf 0x21 } } }

def dr1 (c : Option DrawCommit) : DrawRec := { owner := 1, stamp := ⟨70, 5, 2⟩, spec := drawSpec 1 1 30 6 1 0 0, work := { wkP 2 0x21 7 [] [] with stamp := some ⟨70, 5, 2⟩ }, commit := c }

def dcm : DrawCommit := { seq := 75, dep := 2, outcome := [4, 5], salt := List.replicate 32 1 }

def notOpen (s : State) : State := { s with dep := { s.dep with isOpen := false } }

def selftest (s : State) : State := { s with sys := { s.sys with selftest := true } }

def held (s : State) : State := { s with sys := { s.sys with state := .held, heldStep := 3 } }

def blank (s : State) : State := { s with life := { s.life with decided := 0 } }

def paused (s : State) : State := { s with adm := { s.adm with pausedAt := some 3 } }

namespace Agree

def rF (n : Nat) : Bytes := padTo 48 (le 8 5 ++ le 4 1 ++ le 4 9 ++ le 4 1 ++ le 8 0 ++ le 2 n ++ [1, 0])

def id0 : ThreadId := { die := 1, cluster := 0, engine := 0, thread := 0 }

def regs0 : Vector W64 32 := Vector.ofFn fun i => if i.val = 0 then 0 else if i.val = 3 then BitVec.allOnes 64 else BitVec.ofNat 64 (i.val * 5)

/-- A WAGER record: body of 16 bytes and a tag. -/
def rec1 : Bytes := padTo 64 (le 8 5 ++ le 4 1 ++ le 4 9 ++ le 4 1 ++ le 2 16)

def th0 : Thread := { id := id0, seq := 99, pc := 7, regs := regs0, staged := [], ruleField := 0, record := rec1, scratch := [], marks := 0 }

def it0 : Item := { seq := 99, t := 10^12 - 5, dep := 3, unc := 3, owner := 1, ring := 0, gen := 1, idx := 2, desc := BitVec.ofNat 512 (1 + 64 * 2^16)
                    record := rec1, game := 9, openT := 0, closeT := 0, guard := 0, handle := 1, version := 1, isCancel := false
                    targetDev := 0, targetSeq := 0, die := 1, ended := none }

def bk0 : Book := { owner := 1, ownerId := 0x77, handle := 1, version := 1, digest := 0, lmax := 256
                    fields := [{ hi := 0, lo := 0, off := 0, len := 8, ty := 0, count := 0 }], ops := [], consts := [5, 6, 1000]
                    tables := [[1, 5, 25]], cancel := some 3, wWager := 100, cWager := 50, wCancel := 10, cCancel := 5, bytes := 64, draining := false }

def thSt : State := { up with eng := { up.eng with threads := [th0], books := [bk0] }, adm := { up.adm with items := [it0], owed := [⟨99, 1, 3⟩] } }

def thSt2 : State := { up with eng := { up.eng with threads := [], books := [bk0] }, adm := { up.adm with items := [it0], owed := [⟨99, 1, 3⟩] } }

def th1 : Thread := { th0 with id := { id0 with thread := 1 } }

def tk1 : Ticket := { issuer := 0, seq := 55, amount := 7, data := 8, game := 9, payer := 0, pending := false, state := 2, owner := 1 }

def it1 : Item := { it0 with targetSeq := 55 }

def thSt3 : State := { thSt with eng := { thSt.eng with threads := [th0, th1, th1, th0] }, adm := { thSt.adm with items := [it1, it1] }, vm := { up.vm with tickets := [tk1], limits := [⟨1, 5, 30, 100, 0, 0, 0⟩] } }

def rec2 : Bytes := padTo 64 (le 8 5 ++ le 4 1 ++ le 4 9 ++ le 4 1 ++ le 8 0 ++ le 2 8)

def thSt4 : State := { thSt with eng := { thSt.eng with threads := [{ th0 with record := rec2 }] } }

def thSt5 : State := { thSt4 with eng := { thSt4.eng with books := [{ bk0 with fields := [{ hi := 0, lo := 0, off := 0, len := 8, ty := 2, count := 0 }] }] } }

def z1 : OpFields := ⟨1,2,3,0,0⟩

/-- Every clause of ArithmeticAndBranchOps has a case that meets its hypotheses. -/
theorem witness_ArithmeticAndBranchOps :
    (∃ (s : State) (id : ThreadId) (th : Thread), (threadOf s id = some th))
    ∧ (∃ (s : State) (id : ThreadId) (th : Thread), (threadOf s id = some th)) :=
  ⟨⟨thSt, id0, the (threadOf thSt id0), the_eq⟩,
    ⟨thSt, id0, the (threadOf thSt id0), the_eq⟩⟩

def z2 : OpFields := ⟨2,2,2,1,0xFFFFFFFF#32⟩

def z3 : OpFields := ⟨1,0,0,3,0x3FF8⟩

def z4 : OpFields := ⟨1,0,0,0,0⟩

def z5 : OpFields := ⟨2,1,5,0,0⟩

def z6 : OpFields := ⟨1,4,5,0,1⟩

def z7 : OpFields := ⟨1,1,0,2,2⟩

def z8 : OpFields := ⟨1,4,5,0,3⟩

def z9 : OpFields := ⟨1,0,0,2,8⟩

def z10 : OpFields := ⟨1,0,0,2,9⟩

def z11 : OpFields := ⟨1,0,0,2,16⟩

def z12 : State := badFor 1 1 (limitKey 10) (thSt)

def z13 : State := badFor 1 2 (ticketKey 0 0) (thSt)

/-- Every clause of WindowAndLookupOps has a case that meets its hypotheses. -/
theorem witness_WindowAndLookupOps :
    (∃ (s : State) (id : ThreadId) (o : OpFields) (th : Thread), (threadOf s id = some th)
      ∧ (windowAddr th o + 2 ^ (BitVec.extractLsb' 0 2 o.mode).toNat ≤ 16384))
    ∧ (∃ (s : State) (id : ThreadId) (o : OpFields) (th : Thread), (threadOf s id = some th)
      ∧ (16384 < windowAddr th o + 2 ^ (BitVec.extractLsb' 0 2 o.mode).toNat))
    ∧ (∃ (s : State) (id : ThreadId) (o : OpFields) (th : Thread), (threadOf s id = some th)
      ∧ (4096 ≤ windowAddr th o) ∧ (windowAddr th o + 2 ^ (BitVec.extractLsb' 0 2 o.mode).toNat ≤ 16384))
    ∧ (∃ (s : State) (id : ThreadId) (o : OpFields) (th : Thread), (threadOf s id = some th)
      ∧ (windowAddr th o < 4096 ∨ 16384 < windowAddr th o + 2 ^ (BitVec.extractLsb' 0 2 o.mode).toNat))
    ∧ (∃ (s : State) (id : ThreadId) (o : OpFields) (th : Thread) (i : Item) (b : Book) (v : W64),
      (threadOf s id = some th) ∧ (itemOf s th.seq = some i) ∧ (bookFor s i = some b)
      ∧ (b.consts[o.imm.toNat + BitVec.toNat (th.reg o.a)]? = some v))
    ∧ (∃ (s : State) (id : ThreadId) (o : OpFields) (th : Thread) (i : Item) (b : Book), (threadOf s id = some th)
      ∧ (itemOf s th.seq = some i) ∧ (bookFor s i = some b)
      ∧ (b.consts.length ≤ o.imm.toNat + BitVec.toNat (th.reg o.a)))
    ∧ (∃ (s : State) (id : ThreadId) (o : OpFields) (th : Thread) (i : Item) (b : Book) (k : Nat),
      (threadOf s id = some th) ∧ (itemOf s th.seq = some i) ∧ (bookFor s i = some b)
      ∧ (List.findIdx? (fun x => x == th.reg o.a) (b.tables.getD o.imm.toNat []) = some k))
    ∧ (∃ (s : State) (id : ThreadId) (o : OpFields) (th : Thread) (i : Item) (b : Book), (threadOf s id = some th)
      ∧ (itemOf s th.seq = some i) ∧ (bookFor s i = some b) ∧ (th.reg o.a ∉ b.tables.getD o.imm.toNat []))
    ∧ (∃ (s : State) (id : ThreadId) (o : OpFields) (th : Thread) (i : Item) (b : Book), (threadOf s id = some th)
      ∧ (itemOf s th.seq = some i) ∧ (bookFor s i = some b) ∧ (o.imm = 0))
    ∧ (∃ (s : State) (id : ThreadId) (o : OpFields) (th : Thread) (i : Item) (b : Book), (threadOf s id = some th)
      ∧ (itemOf s th.seq = some i) ∧ (bookFor s i = some b) ∧ (o.imm = 1))
    ∧ (∃ (s : State) (id : ThreadId) (o : OpFields) (th : Thread) (i : Item) (b : Book), (threadOf s id = some th)
      ∧ (itemOf s th.seq = some i) ∧ (bookFor s i = some b) ∧ (o.imm = 2))
    ∧ (∃ (s : State) (id : ThreadId) (o : OpFields) (th : Thread) (i : Item) (b : Book), (threadOf s id = some th)
      ∧ (itemOf s th.seq = some i) ∧ (bookFor s i = some b) ∧ (o.imm = 3))
    ∧ (∃ (s : State) (id : ThreadId) (o : OpFields) (th : Thread) (i : Item) (b : Book), (threadOf s id = some th)
      ∧ (itemOf s th.seq = some i) ∧ (bookFor s i = some b) ∧ (o.imm = 8))
    ∧ (∃ (s : State) (id : ThreadId) (o : OpFields) (th : Thread) (i : Item) (b : Book), (threadOf s id = some th)
      ∧ (itemOf s th.seq = some i) ∧ (bookFor s i = some b) ∧ (o.imm = 9))
    ∧ (∃ (s : State) (id : ThreadId) (o : OpFields) (th : Thread) (i : Item) (b : Book), (threadOf s id = some th)
      ∧ (itemOf s th.seq = some i) ∧ (bookFor s i = some b) ∧ (o.imm = 16))
    ∧ (∃ (s : State) (id : ThreadId) (o : OpFields) (th : Thread) (i : Item) (b : Book), (threadOf s id = some th)
      ∧ (itemOf s th.seq = some i) ∧ (bookFor s i = some b)
      ∧ (keyBad s i.owner 1 (limitKey (BitVec.toNat (th.reg o.a))) = true))
    ∧ (∃ (s : State) (id : ThreadId) (o : OpFields) (th : Thread) (i : Item) (b : Book), (threadOf s id = some th)
      ∧ (itemOf s th.seq = some i) ∧ (bookFor s i = some b)
      ∧ (keyBad s i.owner 1 (limitKey (BitVec.toNat (th.reg o.a))) = false)
      ∧ (limitOf s i.owner (BitVec.toNat (th.reg o.a)) = none) ∧ (th.staged = []))
    ∧ (∃ (s : State) (id : ThreadId) (th : Thread) (i : Item) (b : Book), (threadOf s id = some th)
      ∧ (itemOf s th.seq = some i) ∧ (bookFor s i = some b) ∧ (keyBad s i.owner 2 (ticketKey 0 i.targetSeq) = true))
    ∧ (∃ (s : State) (id : ThreadId) (th : Thread) (i : Item) (b : Book), (threadOf s id = some th)
      ∧ (itemOf s th.seq = some i) ∧ (bookFor s i = some b) ∧ (keyBad s i.owner 2 (ticketKey 0 i.targetSeq) = false)
      ∧ (ticketOf s i.owner 0 i.targetSeq = none))
    ∧ (∃ (s : State) (id : ThreadId) (th : Thread) (i : Item) (b : Book) (k : Ticket), (threadOf s id = some th)
      ∧ (itemOf s th.seq = some i) ∧ (bookFor s i = some b) ∧ (keyBad s i.owner 2 (ticketKey 0 i.targetSeq) = false)
      ∧ (ticketOf s i.owner 0 i.targetSeq = some k) ∧ (k.pending = false))
    ∧ (∃ (s : State) (id : ThreadId) (o : OpFields) (th : Thread) (i : Item) (b : Book) (g : SynField),
      (threadOf s id = some th) ∧ (itemOf s th.seq = some i) ∧ (bookFor s i = some b)
      ∧ (b.fields[o.imm.toNat]? = some g))
    ∧ (∃ (s : State) (id : ThreadId) (th : Thread) (i : Item) (b : Book), (threadOf s id = some th)
      ∧ (itemOf s th.seq = some i) ∧ (bookFor s i = some b) ∧ (bodyLenOk th b = true) ∧ (∀ f ∈ b.fields,
      fieldOk th b f = true))
    ∧ (∃ (s : State) (id : ThreadId) (th : Thread) (i : Item) (b : Book), (threadOf s id = some th)
      ∧ (itemOf s th.seq = some i) ∧ (bookFor s i = some b) ∧ (bodyLenOk th b = false ∨ ∃ f ∈ b.fields,
      fieldOk th b f = false)) :=
  ⟨⟨thSt, id0, z1, the (threadOf thSt id0), the_eq, by decide +kernel⟩,
    ⟨thSt, id0, z2, the (threadOf thSt id0), the_eq, by decide +kernel⟩,
    ⟨thSt, id0, z3, the (threadOf thSt id0), the_eq, by decide +kernel⟩,
    ⟨thSt, id0, z1, the (threadOf thSt id0), the_eq, by decide +kernel⟩,
    ⟨thSt, id0, z4, the (threadOf thSt id0), nth (thSt.adm.items) 0, nth (thSt.eng.books) 0,
      the (nth (thSt.eng.books) 0).consts[z4.imm.toNat + BitVec.toNat ((the (threadOf thSt id0)).reg z4.a)]?, the_eq,
      by decide +kernel, by decide +kernel, the_eq⟩,
    ⟨thSt, id0, z1, the (threadOf thSt id0), nth (thSt.adm.items) 0, nth (thSt.eng.books) 0, the_eq,
      by decide +kernel⟩,
    ⟨thSt, id0, z5, the (threadOf thSt id0), nth (thSt.adm.items) 0, nth (thSt.eng.books) 0,
      the (List.findIdx? (fun x => x == (the (threadOf thSt id0)).reg z5.a) ((nth (thSt.eng.books) 0).tables.getD z5.imm.toNat [])),
      the_eq, by decide +kernel, by decide +kernel, the_eq⟩,
    ⟨thSt, id0, z1, the (threadOf thSt id0), nth (thSt.adm.items) 0, nth (thSt.eng.books) 0, the_eq,
      by decide +kernel⟩,
    ⟨thSt, id0, z1, the (threadOf thSt id0), nth (thSt.adm.items) 0, nth (thSt.eng.books) 0, the_eq,
      by decide +kernel⟩,
    ⟨thSt, id0, z6, the (threadOf thSt id0), nth (thSt.adm.items) 0, nth (thSt.eng.books) 0, the_eq,
      by decide +kernel⟩,
    ⟨thSt, id0, z7, the (threadOf thSt id0), nth (thSt.adm.items) 0, nth (thSt.eng.books) 0, the_eq,
      by decide +kernel⟩,
    ⟨thSt, id0, z8, the (threadOf thSt id0), nth (thSt.adm.items) 0, nth (thSt.eng.books) 0, the_eq,
      by decide +kernel⟩,
    ⟨thSt, id0, z9, the (threadOf thSt id0), nth (thSt.adm.items) 0, nth (thSt.eng.books) 0, the_eq,
      by decide +kernel⟩,
    ⟨thSt, id0, z10, the (threadOf thSt id0), nth (thSt.adm.items) 0, nth (thSt.eng.books) 0, the_eq,
      by decide +kernel⟩,
    ⟨thSt, id0, z11, the (threadOf thSt id0), nth (thSt.adm.items) 0, nth (thSt.eng.books) 0, the_eq,
      by decide +kernel⟩,
    ⟨z12, id0, z1, the (threadOf z12 id0), nth (z12.adm.items) 0, nth (z12.eng.books) 0, the_eq, by decide +kernel,
      by decide +kernel, keyBad_for⟩,
    ⟨thSt, id0, z1, the (threadOf thSt id0), nth (thSt.adm.items) 0, nth (thSt.eng.books) 0, the_eq,
      by decide +kernel⟩,
    ⟨z13, id0, the (threadOf z13 id0), nth (z13.adm.items) 0, nth (z13.eng.books) 0, the_eq, by decide +kernel,
      by decide +kernel, keyBad_for⟩,
    ⟨thSt, id0, the (threadOf thSt id0), nth (thSt.adm.items) 0, nth (thSt.eng.books) 0, the_eq, by decide +kernel⟩,
    ⟨thSt3, id0, the (threadOf thSt3 id0), nth (thSt3.adm.items) 0, nth (thSt3.eng.books) 0,
      the (ticketOf thSt3 (nth (thSt3.adm.items) 0).owner 0 (nth (thSt3.adm.items) 0).targetSeq), the_eq,
      by decide +kernel, by decide +kernel, by decide +kernel, the_eq, by decide +kernel⟩,
    ⟨thSt, id0, z1, the (threadOf thSt id0), nth (thSt.adm.items) 0, nth (thSt.eng.books) 0,
      the (nth (thSt.eng.books) 0).fields[z1.imm.toNat]?, the_eq, by decide +kernel, by decide +kernel, the_eq⟩,
    ⟨thSt5, id0, the (threadOf thSt5 id0), nth (thSt5.adm.items) 0, nth (thSt5.eng.books) 0, the_eq,
      by decide +kernel⟩,
    ⟨thSt, id0, the (threadOf thSt id0), nth (thSt.adm.items) 0, nth (thSt.eng.books) 0, the_eq, by decide +kernel⟩⟩

def z14 : OpFields := ⟨1,0,1,0,0x20000⟩

def z15 : OpFields := ⟨1,1,1,0x1FF#9,7⟩

/-- Every clause of StagingOps has a case that meets its hypotheses. -/
theorem witness_StagingOps :
    (∃ (s : State) (id : ThreadId) (o : OpFields) (th : Thread) (i : Item) (b : Book), (threadOf s id = some th)
      ∧ (itemOf s th.seq = some i) ∧ (bookFor s i = some b)
      ∧ (keyBad s i.owner 1 (limitKey (BitVec.toNat (th.reg o.a))) = false) ∧ (o.mode.getLsbD 1 = false)
      ∧ (stagedValue (BitVec.toNat (th.reg o.a)) (windowValue s i.owner (BitVec.toNat (th.reg o.a)) i.t) th.staged + BitVec.toNat (th.reg o.b) ≤ (Option.map (fun x => x.limit) (limitOf s i.owner (BitVec.toNat (th.reg o.a)))).getD (BitVec.toNat (b.consts.getD (o.imm.toNat / 2 ^ 16) 0))))
    ∧ (∃ (s : State) (id : ThreadId) (o : OpFields) (th : Thread) (i : Item) (b : Book), (threadOf s id = some th)
      ∧ (itemOf s th.seq = some i) ∧ (bookFor s i = some b)
      ∧ (keyBad s i.owner 1 (limitKey (BitVec.toNat (th.reg o.a))) = false) ∧ (o.mode.getLsbD 1 = false)
      ∧ ((Option.map (fun x => x.limit) (limitOf s i.owner (BitVec.toNat (th.reg o.a)))).getD (BitVec.toNat (b.consts.getD (o.imm.toNat / 2 ^ 16) 0)) < stagedValue (BitVec.toNat (th.reg o.a)) (windowValue s i.owner (BitVec.toNat (th.reg o.a)) i.t) th.staged + BitVec.toNat (th.reg o.b)))
    ∧ (∃ (s : State) (id : ThreadId) (o : OpFields) (th : Thread) (i : Item) (b : Book), (threadOf s id = some th)
      ∧ (itemOf s th.seq = some i) ∧ (bookFor s i = some b)
      ∧ (keyBad s i.owner 1 (limitKey (BitVec.toNat (th.reg o.a))) = false) ∧ (o.mode.getLsbD 1 = true)) :=
  ⟨⟨thSt, id0, z14, the (threadOf thSt id0), nth (thSt.adm.items) 0, nth (thSt.eng.books) 0, the_eq,
    by decide +kernel⟩,
    ⟨thSt, id0, z1, the (threadOf thSt id0), nth (thSt.adm.items) 0, nth (thSt.eng.books) 0, the_eq,
      by decide +kernel⟩,
    ⟨thSt, id0, z15, the (threadOf thSt id0), nth (thSt.adm.items) 0, nth (thSt.eng.books) 0, the_eq,
      by decide +kernel⟩⟩

def z16 : State := badFor 1 1 (terminalKey 5) (thSt)

def z17 : State := { thSt with eng := { thSt.eng with threads := [{ th0 with record := sealRec (rF 16) }] }, adm := { thSt.adm with items := [{ it0 with record := sealRec (rF 16) }] } }

def z18 : State := { thSt with eng := { thSt.eng with threads := [{ th0 with record := rF 16 }] }, adm := { thSt.adm with items := [{ it0 with record := rF 16 }] } }

/-- Every clause of ThreadStartAndEnd has a case that meets its hypotheses. -/
theorem witness_ThreadStartAndEnd :
    (∃ (s : State) (id : ThreadId) (th : Thread) (i : Item) (b : Book), (threadOf s id = some th)
      ∧ (itemOf s th.seq = some i) ∧ (bookFor s i = some b)
      ∧ (keyBad s i.owner 1 (terminalKey (hTerminal i.record)) = true))
    ∧ (∃ (s : State) (id : ThreadId) (th : Thread) (i : Item) (b : Book) (st : Status) (d : Nat),
      (threadOf s id = some th) ∧ (itemOf s th.seq = some i) ∧ (bookFor s i = some b)
      ∧ (keyBad s i.owner 1 (terminalKey (hTerminal i.record)) = false)
      ∧ (authPre (checkRoot i.owner i.seq s) i.owner i.seq (dSrcLen i.desc) b.lmax i.isCancel th.terminal i.record = some (st,
      d)))
    ∧ (∃ (s : State) (id : ThreadId) (th : Thread) (i : Item) (b : Book), (threadOf s id = some th)
      ∧ (itemOf s th.seq = some i) ∧ (bookFor s i = some b)
      ∧ (keyBad s i.owner 1 (terminalKey (hTerminal i.record)) = false)
      ∧ (authPre (checkRoot i.owner i.seq s) i.owner i.seq (dSrcLen i.desc) b.lmax i.isCancel th.terminal i.record = none)
      ∧ ((authGcm (checkRoot i.owner i.seq s) i.owner i.seq i.record).2 = true))
    ∧ (∃ (s : State) (id : ThreadId) (th : Thread) (i : Item) (b : Book), (threadOf s id = some th)
      ∧ (itemOf s th.seq = some i) ∧ (bookFor s i = some b)
      ∧ (keyBad s i.owner 1 (terminalKey (hTerminal i.record)) = false)
      ∧ (authPre (checkRoot i.owner i.seq s) i.owner i.seq (dSrcLen i.desc) b.lmax i.isCancel th.terminal i.record = none)
      ∧ ((authGcm (checkRoot i.owner i.seq s) i.owner i.seq i.record).2 = false))
    ∧ (∃ (s : State) (i : Item) (b : Book) (id : ThreadId), (itemOf s i.seq = some i) ∧ (bookFor s i = some b)
      ∧ (i.ended = none) ∧ (∀ th ∈ s.eng.threads, th.seq ≠ i.seq) ∧ (dispatchable s i id = true)) :=
  ⟨⟨z16, id0, the (threadOf z16 id0), nth (z16.adm.items) 0, nth (z16.eng.books) 0, the_eq, by decide +kernel,
    by decide +kernel, keyBad_for⟩,
    ⟨thSt, id0, the (threadOf thSt id0), nth (thSt.adm.items) 0, nth (thSt.eng.books) 0,
      nth (ofOpt (authPre (checkRoot (nth (thSt.adm.items) 0).owner (nth (thSt.adm.items) 0).seq thSt) (nth (thSt.adm.items) 0).owner (nth (thSt.adm.items) 0).seq (dSrcLen (nth (thSt.adm.items) 0).desc) (nth (thSt.eng.books) 0).lmax (nth (thSt.adm.items) 0).isCancel (the (threadOf thSt id0)).terminal (nth (thSt.adm.items) 0).record) fun v => [v.1]) 0,
      nth (ofOpt (authPre (checkRoot (nth (thSt.adm.items) 0).owner (nth (thSt.adm.items) 0).seq thSt) (nth (thSt.adm.items) 0).owner (nth (thSt.adm.items) 0).seq (dSrcLen (nth (thSt.adm.items) 0).desc) (nth (thSt.eng.books) 0).lmax (nth (thSt.adm.items) 0).isCancel (the (threadOf thSt id0)).terminal (nth (thSt.adm.items) 0).record) fun v => [v.2]) 0,
      the_eq, by decide +kernel, by decide +kernel, by decide +kernel, authPre_sound (checkRoot_sound rfl)⟩,
    ⟨z17, id0, the (threadOf z17 id0), the (itemOf z17 (the (threadOf z17 id0)).seq), nth (z17.eng.books) 0, the_eq,
      the_eq, by decide +kernel, by decide +kernel, authPre_sound (checkRoot_sound rfl), authGcm_good rfl⟩,
    ⟨z18, id0, the (threadOf z18 id0), nth (z18.adm.items) 0, nth (z18.eng.books) 0, the_eq, by decide +kernel,
      by decide +kernel, by decide +kernel, authPre_sound (checkRoot_sound rfl), authGcm_short⟩,
    ⟨thSt2, nth (thSt2.adm.items) 0, the (bookFor thSt2 (nth (thSt2.adm.items) 0)), id0, by decide +kernel, the_eq,
      by decide +kernel⟩⟩

end Agree

namespace Settle

theorem stagedBad_for {s : State} {i : Item} {t n c : Nat} (h : keyBad s i.owner 1 (terminalKey t) = true) :
    stagedBad s i [.nonce t n c] = true := by simp [stagedBad, h]

namespace A

def z1 : State := badFor 1 1 (terminalKey 5) (cmSt (some [.nonce 5 4 1]) [])

def z2 : State := cmSt (some [.nonce 5 1 1, .ticketInsert 5 6]) []

def z3 : State := cmSt (some [.nonce 5 4 1, .ticketInsert 5 6]) []

/-- Every clause of CommitRule has a case that meets its hypotheses. -/
theorem witness_CommitRule :
    (∃ (s : State) (i : Item) (e : EndOp) (l : List Staged), (itemOf s i.seq = some i) ∧ (i.ended = some e)
      ∧ (e.staged = some l)
      ∧ ((List.filter (fun x => match x with | Staged.ticketInsert _ _ => true | Staged.ticketMove _ => true | _ => false) l).length ≤ 1)
      ∧ (∃ x ∈ s.adm.owed, x.seq = i.seq) ∧ (∀ k ∈ s.vm.kept, k.seq ≠ i.seq)
      ∧ (ringTakes (ringOf s i.ring) i.gen = true) ∧ (stagedBad s i l = true))
    ∧ (∃ (s : State) (i : Item) (e : EndOp) (l : List Staged) (st : Status) (r : Nat), (itemOf s i.seq = some i)
      ∧ (i.ended = some e) ∧ (e.staged = some l)
      ∧ ((List.filter (fun x => match x with | Staged.ticketInsert _ _ => true | Staged.ticketMove _ => true | _ => false) l).length ≤ 1)
      ∧ (∃ x ∈ s.adm.owed, x.seq = i.seq) ∧ (∀ k ∈ s.vm.kept, k.seq ≠ i.seq)
      ∧ (ringTakes (ringOf s i.ring) i.gen = true) ∧ (stagedBad s i l = false)
      ∧ (commitRow s i l = CommitRow.nothing st r))
    ∧ (∃ (s : State) (i : Item) (e : EndOp) (l : List Staged) (st : Status) (r : Nat), (itemOf s i.seq = some i)
      ∧ (i.ended = some e) ∧ (e.staged = some l)
      ∧ ((List.filter (fun x => match x with | Staged.ticketInsert _ _ => true | Staged.ticketMove _ => true | _ => false) l).length ≤ 1)
      ∧ (∃ x ∈ s.adm.owed, x.seq = i.seq) ∧ (∀ k ∈ s.vm.kept, k.seq ≠ i.seq)
      ∧ (ringTakes (ringOf s i.ring) i.gen = true) ∧ (stagedBad s i l = false)
      ∧ (commitRow s i l = CommitRow.nonceOnly st r))
    ∧ (∃ (s : State) (i : Item) (e : EndOp) (l : List Staged), (itemOf s i.seq = some i) ∧ (i.ended = some e)
      ∧ (e.staged = some l)
      ∧ ((List.filter (fun x => match x with | Staged.ticketInsert _ _ => true | Staged.ticketMove _ => true | _ => false) l).length ≤ 1)
      ∧ (∃ x ∈ s.adm.owed, x.seq = i.seq) ∧ (∀ k ∈ s.vm.kept, k.seq ≠ i.seq)
      ∧ (ringTakes (ringOf s i.ring) i.gen = true) ∧ (stagedBad s i l = false)
      ∧ (commitRow s i l = CommitRow.whole)) :=
  ⟨⟨z1, nth (z1.adm.items) 0, the (nth (z1.adm.items) 0).ended, the (the (nth (z1.adm.items) 0).ended).staged,
    by decide +kernel, the_eq, the_eq, by decide +kernel, by decide +kernel, by decide +kernel, by decide +kernel,
    stagedBad_for keyBad_for⟩,
    ⟨z2, nth (z2.adm.items) 0, the (nth (z2.adm.items) 0).ended, the (the (nth (z2.adm.items) 0).ended).staged,
      .authFail, 2, by decide +kernel, the_eq, the_eq, by decide +kernel⟩,
    ⟨z3, nth (z3.adm.items) 0, the (nth (z3.adm.items) 0).ended, the (the (nth (z3.adm.items) 0).ended).staged,
      .sealedReject, 65283, by decide +kernel, the_eq, the_eq, by decide +kernel⟩,
    ⟨cmSt (some []) [], nth ((cmSt (some []) []).adm.items) 0, the (nth ((cmSt (some []) []).adm.items) 0).ended,
      the (the (nth ((cmSt (some []) []).adm.items) 0).ended).staged, by decide +kernel, the_eq, the_eq,
      by decide +kernel⟩⟩

def z4 : State := cmSt (some [.nonce 6 1 1, .limit 5 50 false 3 10]) [⟨99, .sealedReject, 8, 7, [], 0⟩]

/-- Every clause of CommitOnce has a case that meets its hypotheses. -/
theorem witness_CommitOnce :
    (∃ (s : State) (i : Item) (e : EndOp) (l : List Staged), (itemOf s i.seq = some i) ∧ (i.ended = some e)
      ∧ (∃ x ∈ s.adm.owed, x.seq = i.seq) ∧ (ringTakes (ringOf s i.ring) i.gen = true) ∧ (e.staged = some l)
      ∧ (∀ k ∈ s.vm.kept, k.seq ≠ i.seq))
    ∧ (∃ (s : State) (i : Item) (e : EndOp) (k : Kept), (itemOf s i.seq = some i) ∧ (i.ended = some e)
      ∧ (∃ x ∈ s.adm.owed, x.seq = i.seq) ∧ (ringTakes (ringOf s i.ring) i.gen = true)
      ∧ (List.find? (fun x => x.seq == i.seq) s.vm.kept = some k))
    ∧ (∃ (s : State) (r : Nat) (d : Done) (st : Stamp), ((ringOf s r).state = RingState.running)
      ∧ (List.find? (fun e => e.idx == (ringOf s r).next) (ringOf s r).fin = some d) ∧ (d.stamp = some st)) :=
  ⟨⟨cmSt (some []) [], nth ((cmSt (some []) []).adm.items) 0, the (nth ((cmSt (some []) []).adm.items) 0).ended,
    the (the (nth ((cmSt (some []) []).adm.items) 0).ended).staged, by decide +kernel, the_eq, by decide +kernel,
    by decide +kernel, the_eq, by decide +kernel⟩,
    ⟨z4, nth (z4.adm.items) 0, the (nth (z4.adm.items) 0).ended,
      the (List.find? (fun x => x.seq == (nth (z4.adm.items) 0).seq) z4.vm.kept), by decide +kernel, the_eq,
      by decide +kernel, by decide +kernel, the_eq⟩,
    ⟨doneSt, 1, the (List.find? (fun e => e.idx == (ringOf doneSt 1).next) (ringOf doneSt 1).fin),
      the (the (List.find? (fun e => e.idx == (ringOf doneSt 1).next) (ringOf doneSt 1).fin)).stamp,
      by decide +kernel, the_eq, the_eq⟩⟩

end A

namespace B

def z5 : State := badFor 1 2 (ticketKey 0 55) (tkt 0 true (wkIn 2 0x13 (le 1 0 ++ le 8 55)))

def z6 : State := badFor 1 1 (1 * 2 ^ 64 + 5) (tkt 0 true (wkIn 2 0x14 (le 1 1 ++ le 8 5)))

def z7 : State := tkt 0 true (wkIn 2 0x13 (le 1 0 ++ le 8 55))

def z8 : State := tkt 0 true (wkIn 2 0x13 (le 1 0 ++ le 8 54))

def z9 : State := tkt 0 true (wkIn 2 0x14 (le 1 1 ++ le 8 5))

def z10 : State := tkt 0 true (wkIn 2 0x14 (le 1 1 ++ le 8 6))

def z11 : State := tkt 0 true (wkIn 2 0x14 (le 1 2 ++ le 8 5))

def z12 : State := tkt 0 true (wkIn 2 0x14 (le 1 2 ++ le 8 6))

def z13 : State := tkt 0 true (wkOn 2 0x12 (cmdBody 0x12 (le 8 55 ++ le 8 4 ++ le 8 0 ++ le 4 9)))

def z14 : State := tkt 0 true (wkOn 2 0x12 (cmdBody 0x12 (le 8 55 ++ le 8 2 ++ le 8 900 ++ le 4 9)))

def z15 : State := tkt 3 true (wkOn 2 0x12 (cmdBody 0x12 (le 8 55 ++ le 8 2 ++ le 8 900 ++ le 4 9)))

def z16 : State := tkt 0 true (wkOn 2 0x15 (cmdBody 0x15 (le 8 5 ++ le 8 900 ++ le 2 0)))

def z17 : State := tkt 0 false (wkOn 2 0x16 (cmdBody 0x16 (le 4 9 ++ le 4 0 ++ le 8 1)))

/-- Every clause of StatusAndOwnerCommands has a case that meets its hypotheses. -/
theorem witness_StatusAndOwnerCommands :
    (∃ (s : State) (id : WorkId) (w : Work), (Waits s id 19 w)
      ∧ (keyBad s (w.func s) 2 (ticketKey (rd w.input 0 1) (rd w.input 1 8)) = true))
    ∧ (∃ (s : State) (id : WorkId) (w : Work), (Waits s id 20 w)
      ∧ (keyBad s (w.func s) 1 (rd w.input 0 1 * 2 ^ 64 + rd w.input 1 8) = true))
    ∧ (∃ (s : State) (id : WorkId) (w : Work) (k : Ticket), (Waits s id 19 w)
      ∧ (¬keyBad s (w.func s) 2 (ticketKey (rd w.input 0 1) (rd w.input 1 8)) = true)
      ∧ (ticketOf s (w.func s) (rd w.input 0 1) (rd w.input 1 8) = some k) ∧ (k.pending = false))
    ∧ (∃ (s : State) (id : WorkId) (w : Work), (Waits s id 19 w)
      ∧ (¬keyBad s (w.func s) 2 (ticketKey (rd w.input 0 1) (rd w.input 1 8)) = true)
      ∧ (∀ k ∈ ticketOf s (w.func s) (rd w.input 0 1) (rd w.input 1 8), k.pending = true))
    ∧ (∃ (s : State) (id : WorkId) (w : Work) (c : LimitCtr), (Waits s id 20 w) ∧ (rd w.input 0 1 = 1)
      ∧ (¬keyBad s (w.func s) 1 (limitKey (rd w.input 1 8)) = true)
      ∧ (limitOf s (w.func s) (rd w.input 1 8) = some c))
    ∧ (∃ (s : State) (id : WorkId) (w : Work), (Waits s id 20 w) ∧ (rd w.input 0 1 = 1)
      ∧ (¬keyBad s (w.func s) 1 (limitKey (rd w.input 1 8)) = true) ∧ (limitOf s (w.func s) (rd w.input 1 8) = none))
    ∧ (∃ (s : State) (id : WorkId) (w : Work) (x : Terminal), (Waits s id 20 w) ∧ (rd w.input 0 1 = 2)
      ∧ (¬keyBad s (w.func s) 1 (terminalKey (rd w.input 1 8)) = true)
      ∧ (terminalOf s (w.func s) (rd w.input 1 8) = some x))
    ∧ (∃ (s : State) (id : WorkId) (w : Work), (Waits s id 20 w) ∧ (rd w.input 0 1 = 2)
      ∧ (¬keyBad s (w.func s) 1 (terminalKey (rd w.input 1 8)) = true)
      ∧ (terminalOf s (w.func s) (rd w.input 1 8) = none))
    ∧ (∃ (s : State) (id : WorkId) (w : Work) (ctr : Nat) (k : Ticket), (canNumber s = true) ∧ (s.vm.stopped = false)
      ∧ (Waits s id 18 w) ∧ ((takeBody (w.func s) 4 true w.src 18 s).1 = BodyCheck.good ctr)
      ∧ (ticketOf s (w.func s) (rd w.src 8 8 / 16 % 16) (rd w.src 0 8) = some k) ∧ (k.pending = false)
      ∧ (k.game = rd w.src 24 4) ∧ (rd w.src 8 8 % 8 = 4 ∧ (k.state = 0 ∨ k.state = 2)))
    ∧ (∃ (s : State) (id : WorkId) (w : Work) (ctr : Nat) (k : Ticket), (canNumber s = true) ∧ (s.vm.stopped = false)
      ∧ (Waits s id 18 w) ∧ ((takeBody (w.func s) 4 true w.src 18 s).1 = BodyCheck.good ctr)
      ∧ (ticketOf s (w.func s) (rd w.src 8 8 / 16 % 16) (rd w.src 0 8) = some k) ∧ (k.pending = false)
      ∧ (k.game = rd w.src 24 4) ∧ (rd w.src 8 8 % 8 = 2 ∧ k.state = 0))
    ∧ (∃ (s : State) (id : WorkId) (w : Work) (ctr : Nat) (k : Ticket), (canNumber s = true) ∧ (s.vm.stopped = false)
      ∧ (Waits s id 18 w) ∧ ((takeBody (w.func s) 4 true w.src 18 s).1 = BodyCheck.good ctr)
      ∧ (ticketOf s (w.func s) (rd w.src 8 8 / 16 % 16) (rd w.src 0 8) = some k) ∧ (k.pending = false)
      ∧ (k.game = rd w.src 24 4) ∧ (k.state = 1 ∨ k.state = 3 ∨ k.state = 4)
      ∧ (rd w.src 8 8 % 8 = 2 ∨ rd w.src 8 8 % 8 = 4))
    ∧ (∃ (s : State) (id : WorkId) (w : Work) (ctr : Nat) (c : LimitCtr), (canNumber s = true)
      ∧ (s.vm.stopped = false) ∧ (Waits s id 21 w) ∧ ((takeBody (w.func s) 5 true w.src 21 s).1 = BodyCheck.good ctr)
      ∧ (rd w.src 0 8 ≠ 0) ∧ (limitOf s (w.func s) (rd w.src 0 8) = some c) ∧ (c.wlenH = rd w.src 16 2)
      ∧ (keyBad s (w.func s) 1 (limitKey (rd w.src 0 8)) = false))
    ∧ (∃ (s : State) (id : WorkId) (w : Work) (ctr : Nat) (g : Game), (canNumber s = true) ∧ (s.vm.stopped = false)
      ∧ (Waits s id 22 w) ∧ ((takeBody (w.func s) 6 true w.src 22 s).1 = BodyCheck.good ctr)
      ∧ (findGame s (w.func s) (rd w.src 0 4) = some g) ∧ (g.live = false))
    ∧ (∃ (s : State) (w : Work) (g : Nat) (x : Sweep), (canNumber s = true) ∧ (s.vm.stopped = false)
      ∧ (List.find? (fun y => y.owner == w.func s && y.game == g) s.vm.sweeps = some x) ∧ (∀ i ∈ s.adm.items,
      i.owner = w.func s → x.atSeq ≤ i.seq) ∧ (∀ y ∈ s.vm.sweeps, y.owner = w.func s → y.game = g → y = x)
      ∧ (ringTakes (ringOf s x.work.ring) x.work.gen = true)) :=
  ⟨⟨z5, wid 2, w1 z5, waits_head, keyBad_for⟩,
    ⟨z6, wid 2, w1 z6, waits_head, keyBad_for⟩,
    ⟨z7, wid 2, w1 z7, the (ticketOf z7 ((w1 z7).func z7) (rd (w1 z7).input 0 1) (rd (w1 z7).input 1 8)), waits_head,
      by decide +kernel, the_eq, by decide +kernel⟩,
    ⟨z8, wid 2, w1 z8, waits_head, by decide +kernel⟩,
    ⟨z9, wid 2, w1 z9, the (limitOf z9 ((w1 z9).func z9) (rd (w1 z9).input 1 8)), waits_head, by decide +kernel,
      by decide +kernel, the_eq⟩,
    ⟨z10, wid 2, w1 z10, waits_head, by decide +kernel⟩,
    ⟨z11, wid 2, w1 z11, the (terminalOf z11 ((w1 z11).func z11) (rd (w1 z11).input 1 8)), waits_head,
      by decide +kernel, by decide +kernel, the_eq⟩,
    ⟨z12, wid 2, w1 z12, waits_head, by decide +kernel⟩,
    ⟨z13, wid 2, w1 z13, 50,
      the (ticketOf z13 ((w1 z13).func z13) (rd (w1 z13).src 8 8 / 16 % 16) (rd (w1 z13).src 0 8)), by decide +kernel,
      by decide +kernel, waits_head, takeBody_good rfl, the_eq, by decide +kernel⟩,
    ⟨z14, wid 2, w1 z14, 50,
      the (ticketOf z14 ((w1 z14).func z14) (rd (w1 z14).src 8 8 / 16 % 16) (rd (w1 z14).src 0 8)), by decide +kernel,
      by decide +kernel, waits_head, takeBody_good rfl, the_eq, by decide +kernel⟩,
    ⟨z15, wid 2, w1 z15, 50,
      the (ticketOf z15 ((w1 z15).func z15) (rd (w1 z15).src 8 8 / 16 % 16) (rd (w1 z15).src 0 8)), by decide +kernel,
      by decide +kernel, waits_head, takeBody_good rfl, the_eq, by decide +kernel⟩,
    ⟨z16, wid 2, w1 z16, 50, the (limitOf z16 ((w1 z16).func z16) (rd (w1 z16).src 0 8)), by decide +kernel,
      by decide +kernel, waits_head, takeBody_good rfl, by decide +kernel, the_eq, by decide +kernel⟩,
    ⟨z17, wid 2, w1 z17, 50, the (findGame z17 ((w1 z17).func z17) (rd (w1 z17).src 0 4)), by decide +kernel,
      by decide +kernel, waits_head, takeBody_good rfl, the_eq, by decide +kernel⟩,
    ⟨swSt, w1 swSt, 9, the (List.find? (fun y => y.owner == (w1 swSt).func swSt && y.game == 9) swSt.vm.sweeps),
      by decide +kernel, by decide +kernel, the_eq, by decide +kernel⟩⟩

end B

namespace C

/-- Every clause of ClaimPaysOnce has a case that meets its hypotheses. -/
theorem witness_ClaimPaysOnce :
    (∃ (s : State) (id : WorkId) (w : Work) (st : Stamp) (i : Nat) (k : Ticket), (Waits s id 16 w)
      ∧ (w.stamp = some st) ∧ (s.vm.stopped = false)
      ∧ ((claimAuth w (w.func s) (placeDie s (w.func s) (hTerminal w.src)) s).1 = none)
      ∧ (nonceAdvances s (w.func s) (hTerminal w.src) (hTense w.src) (hCtr w.src) = true)
      ∧ ((terminalOf s (w.func s) (hTerminal w.src)).isSome = true)
      ∧ (issuerIndex s (w.func s) (claimDev w.src) = some i) ∧ (ticketOf s (w.func s) i (claimSeq w.src) = some k)
      ∧ (k.pending = false) ∧ (k.state = 2))
    ∧ (∃ (s : State) (id : WorkId) (w : Work) (st : Stamp) (i : Nat) (k : Ticket), (Waits s id 16 w)
      ∧ (w.stamp = some st) ∧ (s.vm.stopped = false)
      ∧ ((claimAuth w (w.func s) (placeDie s (w.func s) (hTerminal w.src)) s).1 = none)
      ∧ (nonceAdvances s (w.func s) (hTerminal w.src) (hTense w.src) (hCtr w.src) = true)
      ∧ ((terminalOf s (w.func s) (hTerminal w.src)).isSome = true)
      ∧ (issuerIndex s (w.func s) (claimDev w.src) = some i) ∧ (ticketOf s (w.func s) i (claimSeq w.src) = some k)
      ∧ (k.pending = false) ∧ (k.state = 3))
    ∧ (∃ (s : State) (id : WorkId) (w : Work) (st : Stamp) (i : Nat) (k : Ticket), (Waits s id 16 w)
      ∧ (w.stamp = some st) ∧ (s.vm.stopped = false)
      ∧ ((claimAuth w (w.func s) (placeDie s (w.func s) (hTerminal w.src)) s).1 = none)
      ∧ (nonceAdvances s (w.func s) (hTerminal w.src) (hTense w.src) (hCtr w.src) = true)
      ∧ ((terminalOf s (w.func s) (hTerminal w.src)).isSome = true)
      ∧ (issuerIndex s (w.func s) (claimDev w.src) = some i) ∧ (ticketOf s (w.func s) i (claimSeq w.src) = some k)
      ∧ (k.pending = false) ∧ (k.state = 0))
    ∧ (∃ (s : State) (id : WorkId) (w : Work) (st : Stamp) (i : Nat) (k : Ticket), (Waits s id 16 w)
      ∧ (w.stamp = some st) ∧ (s.vm.stopped = false)
      ∧ ((claimAuth w (w.func s) (placeDie s (w.func s) (hTerminal w.src)) s).1 = none)
      ∧ (nonceAdvances s (w.func s) (hTerminal w.src) (hTense w.src) (hCtr w.src) = true)
      ∧ ((terminalOf s (w.func s) (hTerminal w.src)).isSome = true)
      ∧ (issuerIndex s (w.func s) (claimDev w.src) = some i) ∧ (ticketOf s (w.func s) i (claimSeq w.src) = some k)
      ∧ (k.pending = false) ∧ (k.state = 1))
    ∧ (∃ (s : State) (id : WorkId) (w : Work) (st : Stamp) (i : Nat) (k : Ticket), (Waits s id 16 w)
      ∧ (w.stamp = some st) ∧ (s.vm.stopped = false)
      ∧ ((claimAuth w (w.func s) (placeDie s (w.func s) (hTerminal w.src)) s).1 = none)
      ∧ (nonceAdvances s (w.func s) (hTerminal w.src) (hTense w.src) (hCtr w.src) = true)
      ∧ ((terminalOf s (w.func s) (hTerminal w.src)).isSome = true)
      ∧ (issuerIndex s (w.func s) (claimDev w.src) = some i) ∧ (ticketOf s (w.func s) i (claimSeq w.src) = some k)
      ∧ (k.pending = false) ∧ (k.state = 4)) :=
  ⟨⟨clSt 2, wid 2, w1 (clSt 2), the (w1 (clSt 2)).stamp,
    the (issuerIndex (clSt 2) ((w1 (clSt 2)).func (clSt 2)) (claimDev (w1 (clSt 2)).src)),
    the (ticketOf (clSt 2) ((w1 (clSt 2)).func (clSt 2)) (the (issuerIndex (clSt 2) ((w1 (clSt 2)).func (clSt 2)) (claimDev (w1 (clSt 2)).src))) (claimSeq (w1 (clSt 2)).src)),
    waits_head, the_eq, by decide +kernel, claimAuth_good rfl, by decide +kernel, by decide +kernel, the_eq, the_eq,
    by decide +kernel⟩,
    ⟨clSt 3, wid 2, w1 (clSt 3), the (w1 (clSt 3)).stamp,
      the (issuerIndex (clSt 3) ((w1 (clSt 3)).func (clSt 3)) (claimDev (w1 (clSt 3)).src)),
      the (ticketOf (clSt 3) ((w1 (clSt 3)).func (clSt 3)) (the (issuerIndex (clSt 3) ((w1 (clSt 3)).func (clSt 3)) (claimDev (w1 (clSt 3)).src))) (claimSeq (w1 (clSt 3)).src)),
      waits_head, the_eq, by decide +kernel, claimAuth_good rfl, by decide +kernel, by decide +kernel, the_eq, the_eq,
      by decide +kernel⟩,
    ⟨clSt 0, wid 2, w1 (clSt 0), the (w1 (clSt 0)).stamp,
      the (issuerIndex (clSt 0) ((w1 (clSt 0)).func (clSt 0)) (claimDev (w1 (clSt 0)).src)),
      the (ticketOf (clSt 0) ((w1 (clSt 0)).func (clSt 0)) (the (issuerIndex (clSt 0) ((w1 (clSt 0)).func (clSt 0)) (claimDev (w1 (clSt 0)).src))) (claimSeq (w1 (clSt 0)).src)),
      waits_head, the_eq, by decide +kernel, claimAuth_good rfl, by decide +kernel, by decide +kernel, the_eq, the_eq,
      by decide +kernel⟩,
    ⟨clSt 1, wid 2, w1 (clSt 1), the (w1 (clSt 1)).stamp,
      the (issuerIndex (clSt 1) ((w1 (clSt 1)).func (clSt 1)) (claimDev (w1 (clSt 1)).src)),
      the (ticketOf (clSt 1) ((w1 (clSt 1)).func (clSt 1)) (the (issuerIndex (clSt 1) ((w1 (clSt 1)).func (clSt 1)) (claimDev (w1 (clSt 1)).src))) (claimSeq (w1 (clSt 1)).src)),
      waits_head, the_eq, by decide +kernel, claimAuth_good rfl, by decide +kernel, by decide +kernel, the_eq, the_eq,
      by decide +kernel⟩,
    ⟨clSt 4, wid 2, w1 (clSt 4), the (w1 (clSt 4)).stamp,
      the (issuerIndex (clSt 4) ((w1 (clSt 4)).func (clSt 4)) (claimDev (w1 (clSt 4)).src)),
      the (ticketOf (clSt 4) ((w1 (clSt 4)).func (clSt 4)) (the (issuerIndex (clSt 4) ((w1 (clSt 4)).func (clSt 4)) (claimDev (w1 (clSt 4)).src))) (claimSeq (w1 (clSt 4)).src)),
      waits_head, the_eq, by decide +kernel, claimAuth_good rfl, by decide +kernel, by decide +kernel, the_eq, the_eq,
      by decide +kernel⟩⟩

end C

namespace D

def gb (op : Nat) (game : Nat) : Bytes := cmdBody op (le 4 game ++ le 4 1 ++ le 8 (2 * 10 ^ 12) ++ le 8 (3 * 10 ^ 12) ++ le 4 1 ++ le 4 5000)

def z18 : State := tkt 0 true (wkOn 2 0x60 (gb 0x60 10))

def z19 : State := tkt 0 true (wkOn 2 0x61 (gb 0x61 9))

def z20 : State := tkt 0 true (wkOn 2 0x62 (gb 0x62 9))

def z21 : State := tkt 0 false (wkOn 2 0x63 (gb 0x63 9))

def z22 : State := tkt 0 false (wkOn 2 0x65 (gb 0x65 9))

def z23 : State := tkt 0 true (wkOn 2 0x65 (gb 0x65 9))

def z24 : State := tkt 0 true (wkOn 2 0x64 (gb 0x64 9))

def z25 : State := tkt 0 true (wkIn 2 0x66 (le 4 9 ++ le 4 1))

/-- Every clause of GameCommands has a case that meets its hypotheses. -/
theorem witness_GameCommands :
    (∃ (s : State) (id : WorkId) (w : Work) (ctr : Nat) (k : Book), (canNumber s = true ∧ (Waits s id 96 w)
      ∧ (takeBody (w.func s) 3 (gameRsvOk w.src) w.src 96 s).1 = BodyCheck.good ctr)
      ∧ (bookOf s (w.func s) (bBook w.src) = some k) ∧ (findGame s (w.func s) (bGame w.src) = none)
      ∧ (s.adm.games.length < 16384) ∧ (s.life.decided ≠ 3) ∧ ((ownerOf s (w.func s)).relaying = false)
      ∧ (s.sys.selftest = false) ∧ (k.w ≤ 1000000) ∧ (bindErr s (w.func s) k.w k.c = 0)
      ∧ (bOpen w.src < bClose w.src))
    ∧ (∃ (s : State) (id : WorkId) (w : Work) (ctr : Nat) (g : Game), (canNumber s = true ∧ (Waits s id 97 w)
      ∧ (takeBody (w.func s) 3 (gameRsvOk w.src) w.src 97 s).1 = BodyCheck.good ctr)
      ∧ (findGame s (w.func s) (bGame w.src) = some g))
    ∧ (∃ (s : State) (id : WorkId) (w : Work) (ctr : Nat) (g : Game), (canNumber s = true ∧ (Waits s id 98 w)
      ∧ (takeBody (w.func s) 3 (gameRsvOk w.src) w.src 98 s).1 = BodyCheck.good ctr)
      ∧ (findGame s (w.func s) (bGame w.src) = some g) ∧ (g.live = true) ∧ (bOpen w.src < bClose w.src))
    ∧ (∃ (s : State) (id : WorkId) (w : Work) (ctr : Nat) (g : Game) (k : Book), (canNumber s = true
      ∧ (Waits s id 99 w) ∧ (takeBody (w.func s) 3 (gameRsvOk w.src) w.src 99 s).1 = BodyCheck.good ctr)
      ∧ (findGame s (w.func s) (bGame w.src) = some g) ∧ (g.live = false) ∧ (clkValid s = true)
      ∧ (uncTooBig s (w.func s) = false) ∧ (bookOf s (w.func s) g.rulebook = some k)
      ∧ (bindErr s (w.func s) k.w k.c = 0) ∧ (sweeping s (w.func s) g.id = false) ∧ (s.sys.selftest = false)
      ∧ (bOpen w.src < bClose w.src))
    ∧ (∃ (s : State) (id : WorkId) (w : Work) (ctr : Nat) (g : Game), (canNumber s = true ∧ (Waits s id 101 w)
      ∧ (takeBody (w.func s) 3 (gameRsvOk w.src) w.src 101 s).1 = BodyCheck.good ctr)
      ∧ (findGame s (w.func s) (bGame w.src) = some g) ∧ (g.live = false) ∧ (sweeping s (w.func s) g.id = false))
    ∧ (∃ (s : State) (id : WorkId) (w : Work) (ctr : Nat) (g : Game), (canNumber s = true ∧ (Waits s id 101 w)
      ∧ (takeBody (w.func s) 3 (gameRsvOk w.src) w.src 101 s).1 = BodyCheck.good ctr)
      ∧ (findGame s (w.func s) (bGame w.src) = some g) ∧ (g.live = true))
    ∧ (∃ (s : State) (id : WorkId) (w : Work) (ctr : Nat), (canNumber s = true ∧ (Waits s id 100 w)
      ∧ (takeBody (w.func s) 3 (gameRsvOk w.src) w.src 100 s).1 = BodyCheck.good ctr) ∧ (1000 ≤ bMaxUnc w.src)
      ∧ (bMaxUnc w.src ≤ 100000000))
    ∧ (∃ (s : State) (id : WorkId) (w : Work) (g : Game), (Waits s id 102 w)
      ∧ (findGame s (if w.func s = 0 then rd w.input 4 1 else w.func s) (rd w.input 0 4) = some g)) :=
  ⟨⟨z18, wid 2, w1 z18, 50, the (bookOf z18 ((w1 z18).func z18) (bBook (w1 z18).src)), ⟨by decide +kernel, waits_head,
    takeBody_good rfl⟩, the_eq, by decide +kernel⟩,
    ⟨z19, wid 2, w1 z19, 50, the (findGame z19 ((w1 z19).func z19) (bGame (w1 z19).src)), ⟨by decide +kernel,
      waits_head, takeBody_good rfl⟩, the_eq⟩,
    ⟨z20, wid 2, w1 z20, 50, the (findGame z20 ((w1 z20).func z20) (bGame (w1 z20).src)), ⟨by decide +kernel,
      waits_head, takeBody_good rfl⟩, the_eq, by decide +kernel⟩,
    ⟨z21, wid 2, w1 z21, 50, the (findGame z21 ((w1 z21).func z21) (bGame (w1 z21).src)),
      the (bookOf z21 ((w1 z21).func z21) (the (findGame z21 ((w1 z21).func z21) (bGame (w1 z21).src))).rulebook),
      ⟨by decide +kernel, waits_head, takeBody_good rfl⟩, the_eq, by decide +kernel, by decide +kernel,
      by decide +kernel, the_eq, by decide +kernel⟩,
    ⟨z22, wid 2, w1 z22, 50, the (findGame z22 ((w1 z22).func z22) (bGame (w1 z22).src)), ⟨by decide +kernel,
      waits_head, takeBody_good rfl⟩, the_eq, by decide +kernel⟩,
    ⟨z23, wid 2, w1 z23, 50, the (findGame z23 ((w1 z23).func z23) (bGame (w1 z23).src)), ⟨by decide +kernel,
      waits_head, takeBody_good rfl⟩, the_eq, by decide +kernel⟩,
    ⟨z24, wid 2, w1 z24, 50, ⟨by decide +kernel, waits_head, takeBody_good rfl⟩, by decide +kernel⟩,
    ⟨z25, wid 2, w1 z25,
      the (findGame z25 (if (w1 z25).func z25 = 0 then rd (w1 z25).input 4 1 else (w1 z25).func z25) (rd (w1 z25).input 0 4)),
      waits_head, the_eq⟩⟩

end D

end Settle

namespace Clocks

namespace A

/-- Every clause of StationClock has a case that meets its hypotheses. -/
theorem witness_StationClock :
    (∃ (s : State) (a b : TimeSrc) (off : ℤ), (alive s = true) ∧ (s.clk.state = ClkState.acquiring)
      ∧ (agreedOffset s a b = some off))
    ∧ (∃ (s : State), (alive s = true) ∧ (s.clk.state = ClkState.locked))
    ∧ (∃ (s : State) (t u : Nat), (alive s = true) ∧ (uncertainty (advance t s) = some u) ∧ (1000000000 < u))
    ∧ (∃ (s : State) (t : Nat) (d : ℤ), (alive s = true) ∧ (s.clk.srcEn.getLsbD 0 = true) ∧ (clkValid s = true)
      ∧ ((d + BitVec.toInt s.clk.ppsDelay).natAbs ≤ 1000)
      ∧ (withinU (advance t s) (d + BitVec.toInt s.clk.ppsDelay) = true))
    ∧ (∃ (s : State) (d : ℤ), (alive s = true) ∧ (s.clk.srcEn.getLsbD 0 = true) ∧ (clkValid s = true)
      ∧ (1000 < (d + BitVec.toInt s.clk.ppsDelay).natAbs))
    ∧ (∃ (s : State), (inService s = true) ∧ (s.clk.everValid = true)) :=
  ⟨⟨acq 5 6, .ptp0, .linzen, the (agreedOffset (acq 5 6) .ptp0 .linzen), by decide +kernel, by decide +kernel,
    the_eq⟩,
    ⟨pps, by decide +kernel⟩,
    ⟨hold, 0, the (uncertainty (advance 0 hold)), by decide +kernel, the_eq, by decide +kernel⟩,
    ⟨pps, 0, 0, by decide +kernel⟩,
    ⟨pps, 1001, by decide +kernel⟩,
    ⟨pps, by decide +kernel⟩⟩

end A

namespace B

/-- Every clause of PtpMessages has a case that meets its hypotheses. -/
theorem witness_PtpMessages :
    (∃ (s : State) (p : Nat) (g : W64) (d : Nat), (ptpOn s p = true) ∧ ((portOf s p).gm = some g)
      ∧ ((portOf s p).delay = some d) ∧ (srcEnabled s (ptpSrc p) = true))
    ∧ (∃ (s : State) (p : Nat) (g : W64), (ptpOn s p = true) ∧ ((portOf s p).gm = some g))
    ∧ (∃ (s : State) (p d : Nat), (ptpOn s p = true) ∧ ((portOf s p).syncWait = true) ∧ ((portOf s p).delay = some d)
      ∧ (srcEnabled s (ptpSrc p) = true))
    ∧ (∃ (s : State) (p : Nat) (g : W64), (ptpOn s p = true) ∧ ((portOf s p).gm = some g))
    ∧ (∃ (s : State) (p : Nat) (g : W64), (ptpOn s p = true) ∧ ((portOf s p).gm = some g)
      ∧ ((portOf s p).paused = false))
    ∧ (∃ (s : State) (p : Nat), (ptpOn s p = true) ∧ ((portOf s p).delayWait = true)) :=
  ⟨⟨ptpSt port1 {}, 0, the (portOf (ptpSt port1 {}) 0).gm, the (portOf (ptpSt port1 {}) 0).delay, by decide +kernel,
    the_eq, the_eq, by decide +kernel⟩,
    ⟨ptpSt port1 {}, 0, the (portOf (ptpSt port1 {}) 0).gm, by decide +kernel, the_eq⟩,
    ⟨ptpSt port1 {}, 0, the (portOf (ptpSt port1 {}) 0).delay, by decide +kernel, by decide +kernel, the_eq,
      by decide +kernel⟩,
    ⟨ptpSt port1 {}, 0, the (portOf (ptpSt port1 {}) 0).gm, by decide +kernel, the_eq⟩,
    ⟨ptpSt port1 {}, 0, the (portOf (ptpSt port1 {}) 0).gm, by decide +kernel, the_eq, by decide +kernel⟩,
    ⟨ptpSt port1 {}, 0, by decide +kernel⟩⟩

/-- Every clause of PtpFixedWhileLive has a case that meets its hypotheses. -/
theorem witness_PtpFixedWhileLive :
    ∃ (s : State), (anyLive s = true) :=
  ⟨ptpLive, by decide +kernel⟩

end B

namespace C

def z1 : State := regSt 9 { ringOn 0 1 with burst := 5, tokens := 3, rate := 4}

def z2 : State := { regSt 0 (ringOn 0 1) with dep := { up.dep with witLock := true } }

/-- Every clause of BlockRegisterWrites has a case that meets its hypotheses. -/
theorem witness_BlockRegisterWrites :
    (∃ (s : State), (HostMayWrite s 131128) ∧ ((ringOf s s.adm.ringSel).cls = 0)
      ∧ ((ringOf s s.adm.ringSel).state ≠ RingState.free))
    ∧ (∃ (s : State), (HostMayWrite s 131092) ∧ (s.adm.ownerSel ≠ 0))
    ∧ (∃ (s : State) (r : Nat), ((ringOf s r).cls = 0) ∧ ((ringOf s r).state = RingState.running)
      ∧ (0 < (ringOf s r).rate))
    ∧ (∃ (s : State), (hostOpen s = true ∧ grants (ruleOf s (barSlot 196608)) 3 BoxKind.read = true
      ∧ heldGate s = false))
    ∧ (∃ (s : State), (HostMayWrite s 196628))
    ∧ (∃ (s : State), (HostMayWrite s 196632))
    ∧ (∃ (s : State), (HostMayWrite s 196636))
    ∧ (∃ (s : State), (HostMayWrite s 196640))
    ∧ (∃ (s : State), (HostMayWrite s 196644))
    ∧ (∃ (s : State) (p : Nat) (v : W32), (p < 2) ∧ (anyLive s = false) ∧ (-500 ≤ BitVec.toInt v)
      ∧ (BitVec.toInt v ≤ 500) ∧ (HostMayWrite s (589912 + 4 * p)))
    ∧ (∃ (s : State) (p : Nat) (v : W32), (p < 2) ∧ (anyLive s = false) ∧ (-500 ≤ BitVec.toInt v)
      ∧ (BitVec.toInt v ≤ 500) ∧ (HostMayWrite s (589920 + 4 * p)))
    ∧ (∃ (s : State) (v : W32), (HostMayWrite s 262144)
      ∧ ((if s.otp.variant = 2 then 500 else if s.otp.variant = 4 then 200 else 100) ≤ BitVec.toNat v % 2 ^ 20)
      ∧ (BitVec.toNat v % 2 ^ 20 ≤ 1000000))
    ∧ (∃ (s : State) (v : W32), (HostMayWrite s 262144)
      ∧ ((BitVec.toNat v % 2 ^ 20 < if s.otp.variant = 2 then 500 else if s.otp.variant = 4 then 200 else 100) ∨ 1000000 < BitVec.toNat v % 2 ^ 20))
    ∧ (∃ (s : State), (HostMayWrite s 262184) ∧ (s.dep.witLock = true))
    ∧ (∃ (s : State) (v : W32), (HostMayWrite s 262184) ∧ (s.dep.witLock = false) ∧ (1000 < BitVec.toNat v % 2 ^ 11))
    ∧ (∃ (s : State) (v : W32), (HostMayWrite s 262184) ∧ (s.dep.witLock = false)
      ∧ (BitVec.toNat v % 2 ^ 11 ≤ 1000)) :=
  ⟨⟨regSt 0 (ringOn 0 1), by decide +kernel⟩,
    ⟨regSt 0 (ringOn 0 1), by decide +kernel⟩,
    ⟨z1, 9, by decide +kernel⟩,
    ⟨regSt 0 (ringOn 0 1), by decide +kernel⟩,
    ⟨regSt 0 (ringOn 0 1), by decide +kernel⟩,
    ⟨regSt 0 (ringOn 0 1), by decide +kernel⟩,
    ⟨regSt 0 (ringOn 0 1), by decide +kernel⟩,
    ⟨regSt 0 (ringOn 0 1), by decide +kernel⟩,
    ⟨regSt 0 (ringOn 0 1), by decide +kernel⟩,
    ⟨regSt 0 (ringOn 0 1), 0, 0x00000000#32, by decide +kernel⟩,
    ⟨regSt 0 (ringOn 0 1), 0, 0x00000000#32, by decide +kernel⟩,
    ⟨regSt 0 (ringOn 0 1), 0x00000064#32, by decide +kernel⟩,
    ⟨regSt 0 (ringOn 0 1), 0x00000000#32, by decide +kernel⟩,
    ⟨z2, by decide +kernel⟩,
    ⟨regSt 0 (ringOn 0 1), 0x000003e9#32, by decide +kernel⟩,
    ⟨regSt 0 (ringOn 0 1), 0x00000000#32, by decide +kernel⟩⟩

end C

end Clocks

namespace RingsEtc

theorem newest_one {s : State} {r : MirrorRec} (h : s.flash.mirror = [r]) (hm : r.mac = mirrorMac r.ev)
    (hp : r.place % 64 = 0 := by decide +kernel) : newestMirror s = some r := by
  simp [newestMirror, h, mirrorValid, hm, hp, highestSeq]

def mir1 : MirrorRec := ⟨64, ev1 77, mirrorMac (ev1 77)⟩

namespace A

def cl : State := { up with cards := { up.cards with lock := true }, clk := { up.clk with srcLock := true }, life := { up.life with deny := true }, bulk := { up.bulk with state := .opened }, rng := { up.rng with alarms := 7, readFail := 8, ready := true }, sys := { up.sys with state := .degraded }, link := { up.link with unmasked := [33, 34] } }

/-- Every clause of RegisterAccess has a case that meets its hypotheses. -/
theorem witness_RegisterAccess :
    (∃ (s : State) (off : Nat), (hostOpen s = true ∧ grants (ruleOf s (barSlot off)) 3 BoxKind.read = true
      ∧ heldGate s = false) ∧ (ownRead off = false) ∧ (off ≠ 458816 ∧ (off = 1048 → s.bulk.state ≠ BulkState.opened)
      ∧ (off ∈ [589984, 589988, 589992, 589996] → portUp s (off / 4 % 2) = false) ∧ (off = 917512 → ∀ p ∈ s.cnt.cfg,
      countsTime s p.1 p.2 = false)) ∧ (off < 983040))
    ∧ (∃ (s : State), (hostOpen s = true ∧ grants (ruleOf s (barSlot 1048)) 3 BoxKind.read = true
      ∧ heldGate s = false) ∧ (s.bulk.state = BulkState.opened) ∧ (s.bulk.consumed ≤ s.bulk.addr))
    ∧ (∃ (s : State) (off : Nat), (off ∈ [589984, 589988, 589992, 589996]) ∧ (hostOpen s = true
      ∧ grants (ruleOf s (barSlot off)) 3 BoxKind.read = true ∧ heldGate s = false))
    ∧ (∃ (s : State), (hostOpen s = true ∧ grants (ruleOf s (barSlot 458816)) 3 BoxKind.read = true
      ∧ heldGate s = false))
    ∧ (∃ (s : State), (hostOpen s = true) ∧ (heldGate s = false))
    ∧ (∃ (s : State) (f : Nat), (hostOpen s = true) ∧ (heldGate s = false) ∧ (funcOn s f = true) ∧ (f ≠ 0))
    ∧ (∃ (s : State) (off : Nat), (HostMayWrite s off) ∧ (off ∉ [1024, 1032, 1056, 65536, 65600, 65604, 131088,
      131120, 131136, 196624, 196664, 327700, 327744, 327748, 327824, 393232, 458808, 524292, 524296, 589872, 589880,
      589888, 589896, 589904, 589936, 589952, 655392, 720900, 720968, 786432, 851992, 851996, 917504, 917544, 917552,
      917560]))
    ∧ (∃ (s : State), (HostMayWrite s 196624) ∧ (s.clk.srcLock = true))
    ∧ (∃ (s : State), (HostMayWrite s 196624) ∧ (s.clk.srcLock = false))
    ∧ (∃ (s : State), (HostMayWrite s 524292) ∧ (s.cards.lock = true))
    ∧ (∃ (s : State), (HostMayWrite s 327744))
    ∧ (∃ (s : State), (HostMayWrite s 327748))
    ∧ (∃ (s : State) (v : W64), (HostMayWrite s 1024) ∧ (bulkBusy s = true) ∧ (BitVec.getLsbD v 8 = true))
    ∧ (∃ (s : State) (v : W64), (HostMayWrite s 1024) ∧ (BitVec.getLsbD v 8 = false) ∧ (BitVec.getLsbD v 9 = false)
      ∧ (BitVec.getLsbD v 10 = false))
    ∧ (∃ (s : State), (HostMayWrite s 655392) ∧ (s.life.deny = true))
    ∧ (∃ (s : State) (f vec : Nat) (v : W64), (hostOpen s = true) ∧ (funcOn s f = true) ∧ (vec < 32)
      ∧ (BitVec.getLsbD v 0 = true))
    ∧ (∃ (s : State) (f vec : Nat), (hostOpen s = true) ∧ (funcOn s f = true) ∧ (vec < 32)) :=
  ⟨⟨up, 36, by decide +kernel⟩,
    ⟨cl, by decide +kernel⟩,
    ⟨up, nth ([589984, 589988, 589992, 589996]) 0, by decide +kernel⟩,
    ⟨up, by decide +kernel⟩,
    ⟨up, by decide +kernel⟩,
    ⟨up, 1, by decide +kernel⟩,
    ⟨up, 36, by decide +kernel⟩,
    ⟨cl, by decide +kernel⟩,
    ⟨up, by decide +kernel⟩,
    ⟨cl, by decide +kernel⟩,
    ⟨up, by decide +kernel⟩,
    ⟨up, by decide +kernel⟩,
    ⟨cl, 0x00000000000003e8#64, by decide +kernel⟩,
    ⟨up, 0x0000000000000000#64, by decide +kernel⟩,
    ⟨cl, by decide +kernel⟩,
    ⟨up, 0, 0, 0x0000000000000001#64, by decide +kernel⟩,
    ⟨up, 0, 0, by decide +kernel⟩⟩

end A

namespace B

def z1 : BoxAccess := ⟨5, 3, .read, false, 0x10030, 4⟩

def z2 : BoxAccess := ⟨8, 2, .write, false, 0xC0000, 4⟩

/-- Every clause of SignalBoxAccess has a case that meets its hypotheses. -/
theorem witness_SignalBoxAccess :
    (∃ (s : State) (a : BoxAccess) (r : SlotRow), (alive s = true) ∧ (plAllowed s a.initiator a.pl = true)
      ∧ (slotAt a.addr = some r) ∧ (a.addr + a.len ≤ r.base + r.size) ∧ (0 < a.len)
      ∧ (grants (ruleOf s r.slot) a.pl a.kind = true))
    ∧ (∃ (s : State) (a : BoxAccess) (r : SlotRow), (alive s = true) ∧ (plAllowed s a.initiator a.pl = true)
      ∧ (slotAt a.addr = some r) ∧ (a.addr + a.len ≤ r.base + r.size) ∧ (0 < a.len)
      ∧ (grants (ruleOf s r.slot) a.pl a.kind = false)) :=
  ⟨⟨boxSt 3 {}, z1, the (slotAt z1.addr), by decide +kernel, by decide +kernel, the_eq, by decide +kernel⟩,
    ⟨boxSt 3 {}, z2, the (slotAt z2.addr), by decide +kernel, by decide +kernel, the_eq, by decide +kernel⟩⟩

def z3 : State := boxSt 12 { gen := 0xFFFFFFFF, fence := [2] }

/-- Every clause of SigboxRegisters has a case that meets its hypotheses. -/
theorem witness_SigboxRegisters :
    (∃ (s : State) (n pl : Nat) (v : W32), (n = 5 ∧ pl = 3 ∧ HostMayWrite s 786436 ∨ n ≤ 3 ∧ pl = 1 ∧ alive s = true
      ∧ s.sys.firmwareUp = true ∧ grants (ruleOf s 12) 1 BoxKind.write = true)
      ∧ (s.box.lock.getLsbD s.box.sel = false) ∧ (within (BitVec.extractLsb' 0 12 v) (ceilOf s.box.sel) = true)
      ∧ (BitVec.extractLsb' 0 3 (BitVec.extractLsb' 0 12 v) = BitVec.extractLsb' 0 3 (ceilOf s.box.sel))
      ∧ ((rowOf s.box.sel).isSome = true) ∧ (pl = 3
      → BitVec.extractLsb' 0 9 (BitVec.extractLsb' 0 12 v) = BitVec.extractLsb' 0 9 (ruleOf s s.box.sel)
      ∧ within (BitVec.extractLsb' 0 12 v) (ruleOf s s.box.sel) = true))
    ∧ (∃ (s : State) (n pl : Nat), (n = 5 ∧ pl = 3 ∧ HostMayWrite s 786436 ∨ n ≤ 3 ∧ pl = 1 ∧ alive s = true
      ∧ s.sys.firmwareUp = true ∧ grants (ruleOf s 12) 1 BoxKind.write = true)
      ∧ (s.box.lock.getLsbD s.box.sel = true))
    ∧ (∃ (s : State) (b : Fin 2), (HostMayWrite s (786464 + 4 * ↑b)))
    ∧ (∃ (s : State), (hostOpen s = true ∧ grants (ruleOf s (barSlot 786480)) 3 BoxKind.read = true
      ∧ heldGate s = false))
    ∧ (∃ (s : State) (n : Nat), (n ≤ 3) ∧ (alive s = true) ∧ (s.sys.firmwareUp = true)
      ∧ (grants (ruleOf s 12) 1 BoxKind.read = true))
    ∧ (∃ (s : State) (n : Nat) (rest : List Nat), (s.box.fence = n :: rest)) :=
  ⟨⟨boxSt 3 {}, 0, 1, 0x00050603#32, by decide +kernel⟩,
    ⟨boxSt 3 { lock := 8 }, 0, 1, by decide +kernel⟩,
    ⟨boxSt 3 {}, 0, by decide +kernel⟩,
    ⟨boxSt 3 {}, by decide +kernel⟩,
    ⟨boxSt 3 {}, 0, by decide +kernel⟩,
    ⟨z3, hd1 z3.box.fence, tl1 z3.box.fence, by decide +kernel⟩⟩

end B

namespace C

def recF : State := { recSt with rings := { up.rings with tbl := [(5, { ringOn 5 0 with tail := 4, fetch := 3 }), (6, ringOn 2 0)] } }

def z4 : State := { stagSt true with flash := { (stagSt true).flash with mirror := [mir1] } }

/-- Every clause of RecorderAndCounters has a case that meets its hypotheses. -/
theorem witness_RecorderAndCounters :
    (∃ (s : State) (n : Ev) (rest : List Ev), (alive s = true) ∧ (s.evt.evs = n :: rest))
    ∧ (∃ (s : State), (alive s = true) ∧ (s.evt.staging = false ∧ (∀ e ∈ s.evt.evs.head?, e.code ≠ 3585)
      ∧ ∀ p ∈ s.cnt.cfg, cfgSelects p.2 15 [0] 0 = false))
    ∧ (∃ (s : State) (m : MirrorRec), (alive s = true) ∧ (s.evt.staging = true) ∧ (newestMirror s = some m))
    ∧ (∃ (s : State), (alive s = true) ∧ (s.evt.staging = true) ∧ (newestMirror s = none))
    ∧ (∃ (s : State) (e : Ev), (alive s = true) ∧ (s.evt.staging = false) ∧ (s.keys.mirrorKey.isSome = true)
      ∧ (nextToMirror s = some e) ∧ (s.sys.pwrFail = false ∨ s.flash.writing = []))
    ∧ (∃ (s : State) (e : Ev) (r : Nat), (alive s = true) ∧ (outputsRun s = true) ∧ (s.evt.posted < s.evt.frozen)
      ∧ (List.find? (fun x => x.seq == s.evt.posted + 1) s.evt.evs = some e)
      ∧ (ringIs s 5 0 RingState.running = some r)
      ∧ ((ringOf s r).tail ≠ ((ringOf s r).fetch + 1) % (ringOf s r).size))
    ∧ (∃ (s : State) (e : Ev) (r : Nat), (alive s = true) ∧ (outputsRun s = true) ∧ (s.evt.posted < s.evt.frozen)
      ∧ (List.find? (fun x => x.seq == s.evt.posted + 1) s.evt.evs = some e)
      ∧ (ringIs s 5 0 RingState.running = some r) ∧ ((ringOf s r).tail = ((ringOf s r).fetch + 1) % (ringOf s r).size)
      ∧ (e.owner = 0))
    ∧ (∃ (s : State), (HostMayWrite s 917508) ∧ (s.cnt.sel < counterCount s))
    ∧ (∃ (s : State), (HostMayWrite s 917544))
    ∧ (∃ (s : State), (alive s = true)) :=
  ⟨⟨recSt, hd1 recSt.evt.evs, tl1 recSt.evt.evs, by decide +kernel⟩,
    ⟨recSt, by decide +kernel⟩,
    ⟨z4, mir1, by decide +kernel, by decide +kernel, newest_one rfl rfl⟩,
    ⟨stagSt false, by decide +kernel⟩,
    ⟨recSt, the (nextToMirror recSt), by decide +kernel, by decide +kernel, by decide +kernel, the_eq,
      by decide +kernel⟩,
    ⟨recSt, the (List.find? (fun x => x.seq == recSt.evt.posted + 1) recSt.evt.evs),
      the (ringIs recSt 5 0 RingState.running), by decide +kernel, by decide +kernel, by decide +kernel, the_eq,
      the_eq, by decide +kernel⟩,
    ⟨recF, the (List.find? (fun x => x.seq == recF.evt.posted + 1) recF.evt.evs),
      the (ringIs recF 5 0 RingState.running), by decide +kernel, by decide +kernel, by decide +kernel, the_eq,
      the_eq, by decide +kernel⟩,
    ⟨recSt, by decide +kernel⟩,
    ⟨recSt, by decide +kernel⟩,
    ⟨recSt, by decide +kernel⟩⟩

end C

namespace D

def x (st : RingState) (cls : Nat) : State := regSt 9 { ringOn cls 1 with state := st, localIdx := 9, tail := 8, fetch := 8, next := 7, qbase := 0x100000, cqbase := 0x200000, rbase := 0x300000, burst := 3, fin := [⟨3, 7, .ok, 0, none, none, false, true, 0⟩] }

def x2 (st : RingState) (cls : Nat) : State := regSt 9 { ringOn cls 1 with state := st, localIdx := 9, tail := 8, fetch := 8, next := 8, qbase := 0x100000, cqbase := 0x200000, rbase := 0x300000, burst := 3 }

/-- Every clause of RingSetup has a case that meets its hypotheses. -/
theorem witness_RingSetup :
    (∃ (s : State), (HostMayWrite s 65576)
      ∧ ((ringOf s s.rings.sel).state = RingState.configured ∨ (ringOf s s.rings.sel).state = RingState.stopped))
    ∧ (∃ (s : State), (HostMayWrite s 65576) ∧ ((ringOf s s.rings.sel).state = RingState.running))
    ∧ (∃ (s : State), (HostMayWrite s 65576) ∧ ((ringOf s s.rings.sel).cls = 3))
    ∧ (∃ (s : State) (g : RingReg), (HostMayWrite s (ringRegOff g))) :=
  ⟨⟨x .configured 2, by decide +kernel⟩,
    ⟨x2 .running 2, by decide +kernel⟩,
    ⟨x .running 3, by decide +kernel⟩,
    ⟨x .configured 2, .cfg, by decide +kernel⟩⟩

/-- Every clause of RingDelete has a case that meets its hypotheses. -/
theorem witness_RingDelete :
    ∃ (s : State), (HostMayWrite s 65576) :=
  ⟨x .configured 2, by decide +kernel⟩

end D

namespace E

def bellSt (x : Ring) : State := { trafSt with rings := { trafSt.rings with tbl := trafSt.rings.tbl ++ [(6, x)] } }

def z5 : State := bellSt {ringOn 2 0 with epoch := 1}

def z6 : State := { bellSt (ringOn 2 0) with link := { up.link with pend := [(32, 5), (33, 6)], unmasked := [33], pba := [32, 33] } }

/-- Every clause of DoorbellsAndInterrupts has a case that meets its hypotheses. -/
theorem witness_DoorbellsAndInterrupts :
    (∃ (s : State) (bar : DoorbellBar) (slot r : Nat) (v : W32) (single : Bool), (hostOpen s = true)
      ∧ (heldGate s = false) ∧ (∀ (f : Nat), bar = DoorbellBar.vfBar0 f → funcOn s f = true ∧ f ≠ 0)
      ∧ (doorbellRing s bar slot = some r) ∧ (BitVec.toNat v / 2 ^ 16 = (ringOf s r).epoch
      ∧ BitVec.toNat v % 2 ^ 16 < 2 ^ (ringOf s r).log2 ∧ (ringOf s r).state = RingState.running ∧ single = true
      ∧ (bar = DoorbellBar.pf0Bar2 → (ringOf s r).func = 0)))
    ∧ (∃ (s : State) (bar : DoorbellBar) (slot r : Nat) (v : W32) (single : Bool), (hostOpen s = true)
      ∧ (heldGate s = false) ∧ (∀ (f : Nat), bar = DoorbellBar.vfBar0 f → funcOn s f = true ∧ f ≠ 0)
      ∧ (doorbellRing s bar slot = some r) ∧ (¬(BitVec.toNat v / 2 ^ 16 = (ringOf s r).epoch
      ∧ BitVec.toNat v % 2 ^ 16 < 2 ^ (ringOf s r).log2 ∧ (ringOf s r).state = RingState.running ∧ single = true
      ∧ (bar = DoorbellBar.pf0Bar2 → (ringOf s r).func = 0))))
    ∧ (∃ (s : State) (f k : Nat), (0 < s.link.pend.atD (gvec f k) 0))
    ∧ (∃ (s : State) (f k : Nat), (hostOpen s = true) ∧ (funcOn s f = true) ∧ (k < 32)) :=
  ⟨⟨z5, .pf0Bar2, 3, the (doorbellRing z5 .pf0Bar2 3), 0x00000000#32, nth ([true]) 0, by decide +kernel,
    by decide +kernel, by rintro _ ⟨⟩, the_eq, by decide +kernel⟩,
    ⟨z5, .pf0Bar2, 0, the (doorbellRing z5 .pf0Bar2 0), 0x00000000#32, nth ([true]) 0, by decide +kernel,
      by decide +kernel, by rintro _ ⟨⟩, the_eq, by decide +kernel⟩,
    ⟨z6, 1, 0, by decide +kernel⟩,
    ⟨z5, 0, 0, by decide +kernel⟩⟩

end E

namespace F

/-- Every clause of RingTraffic has a case that meets its hypotheses. -/
theorem witness_RingTraffic :
    (∃ (s : State) (r : Nat), (mayFetch s r = true))
    ∧ (∃ (s : State) (r : Nat) (d : Done), ((ringOf s r).state = RingState.running)
      ∧ (List.find? (fun e => e.idx == (ringOf s r).next) (ringOf s r).fin = some d))
    ∧ (∃ (s : State) (r o : Nat) (b : JBlock) (rest : List JBlock), (outRing s 4 o = some r)
      ∧ ((ownerOf s o).closed = b :: rest))
    ∧ (∃ (s : State) (r : Nat) (g : Signed) (rest : List Signed), (outRing s 3 0 = some r)
      ∧ (s.dep.signed = g :: rest)) :=
  ⟨⟨trafSt, 1, by decide +kernel⟩,
    ⟨trafSt, 1, the (List.find? (fun e => e.idx == (ringOf trafSt 1).next) (ringOf trafSt 1).fin), by decide +kernel,
      the_eq⟩,
    ⟨trafSt, 4, 1, hd1 (ownerOf trafSt 1).closed, tl1 (ownerOf trafSt 1).closed, by decide +kernel⟩,
    ⟨trafSt, the (outRing trafSt 3 0), hd1 trafSt.dep.signed, tl1 trafSt.dep.signed, the_eq, by decide +kernel⟩⟩

def z7 : State := {trafSt with sys := {up.sys with firmwareUp := false}}

/-- Every clause of PcieEvents has a case that meets its hypotheses. -/
theorem witness_PcieEvents :
    (∃ (s : State), (s.sys.state ≠ DevState.off))
    ∧ (∃ (s : State), (alive s = true) ∧ (s.link.perst = false))
    ∧ (∃ (s : State), (alive s = true) ∧ (s.link.perst = false) ∧ (s.sys.firmwareUp = false))
    ∧ (∃ (s : State), (alive s = true) ∧ (s.link.perst = false) ∧ (s.link.trained = true) ∧ (s.sys.firmwareUp = false
      ∧ s.link.rom = false))
    ∧ (∃ (s : State), (alive s = true) ∧ (s.link.perst = false) ∧ (s.link.trained = true)
      ∧ (s.sys.firmwareUp = true ∨ s.link.rom = true))
    ∧ (∃ (s : State) (f : Nat), (hostOpen s = true) ∧ (f ≠ 0) ∧ (funcOn s f = true))
    ∧ (∃ (s : State) (f : Nat), (hostOpen s = true) ∧ (funcOn s f = true)) :=
  ⟨⟨trafSt, by decide +kernel⟩,
    ⟨trafSt, by decide +kernel⟩,
    ⟨z7, by decide +kernel⟩,
    ⟨z7, by decide +kernel⟩,
    ⟨trafSt, by decide +kernel⟩,
    ⟨trafSt, 1, by decide +kernel⟩,
    ⟨trafSt, 0, by decide +kernel⟩⟩

end F

end RingsEtc

namespace Admit

namespace A

def bo (st : BulkState) (addr len : Nat) : State := { up with bulk := { up.bulk with state := st, addr := addr, len := len, target := 1, owner := 1, data := [7] } }

/-- Every clause of BulkPort has a case that meets its hypotheses. -/
theorem witness_BulkPort :
    (∃ (s : State), (HostMayWrite s 1024) ∧ (bulkBusy s = true))
    ∧ (∃ (s : State) (v : W32), (HostMayWrite s 1024) ∧ (bulkBusy s = false)
      ∧ (bulkAllowed s (BitVec.toNat v % 8) (BitVec.toNat v / 2 ^ 16 % 256) = true))
    ∧ (∃ (s : State) (v : W32), (HostMayWrite s 1024) ∧ (bulkBusy s = false)
      ∧ (bulkAllowed s (BitVec.toNat v % 8) (BitVec.toNat v / 2 ^ 16 % 256) = false))
    ∧ (∃ (s : State) (off : Nat) (data : Bytes) (drained : Nat), (HostMayWrite s (983040 + off % 65536))
      ∧ (s.bulk.state = BulkState.opened) ∧ (off = s.bulk.addr % 65536 ∧ List.length data % 4 = 0)
      ∧ (s.bulk.addr + List.length data ≤ min s.bulk.addr (s.bulk.consumed + drained) + 2 ^ 20))
    ∧ (∃ (s : State) (off : Nat) (data : Bytes), (HostMayWrite s (983040 + off % 65536))
      ∧ (s.bulk.state = BulkState.opened) ∧ (¬(off = s.bulk.addr % 65536 ∧ List.length data % 4 = 0)))
    ∧ (∃ (s : State) (off : Nat) (data : Bytes) (drained : Nat), (HostMayWrite s (983040 + off % 65536))
      ∧ (s.bulk.state = BulkState.opened)
      ∧ (¬s.bulk.addr + List.length data ≤ min s.bulk.addr (s.bulk.consumed + drained) + 2 ^ 20))
    ∧ (∃ (s : State), (HostMayWrite s 1024) ∧ (s.bulk.state = BulkState.opened) ∧ (s.bulk.addr = s.bulk.len))
    ∧ (∃ (s : State), (HostMayWrite s 1024) ∧ (s.bulk.state = BulkState.opened) ∧ (s.bulk.addr ≠ s.bulk.len))
    ∧ (∃ (s : State), (HostMayWrite s 1024) ∧ (bulkBusy s = true))
    ∧ (∃ (s : State), (HostMayWrite s 1024) ∧ (bulkBusy s = false)) :=
  ⟨⟨bo .opened 0 8, by decide +kernel⟩,
    ⟨up, 0x00000002#32, by decide +kernel⟩,
    ⟨up, 0x00000000#32, by decide +kernel⟩,
    ⟨bo .opened 0 8, nth ([(bo .opened 0 8).bulk.addr % 65536]) 0, [], 0, by decide +kernel⟩,
    ⟨bo .opened 0 8, nth ([(bo .opened 0 8).bulk.addr % 65536]) 0, [1,2,3], by decide +kernel⟩,
    ⟨bo .opened (2^20) 8, nth ([(bo .opened (2^20) 8).bulk.addr % 65536]) 0, [1,2,3,4], 0, by decide +kernel⟩,
    ⟨bo .opened 8 8, by decide +kernel⟩,
    ⟨bo .opened 0 8, by decide +kernel⟩,
    ⟨bo .opened 0 8, by decide +kernel⟩,
    ⟨up, by decide +kernel⟩⟩

/-- Every clause of BulkWindowClosed has a case that meets its hypotheses. -/
theorem witness_BulkWindowClosed :
    (∃ (s : State) (off : Nat), (983040 ≤ off) ∧ (off < 1048576) ∧ (hostOpen s = true
      ∧ grants (ruleOf s (barSlot off)) 3 BoxKind.read = true ∧ heldGate s = false))
    ∧ (∃ (s : State) (off : Nat), (HostMayWrite s (983040 + off % 65536)) ∧ (s.bulk.state ≠ BulkState.opened)) :=
  ⟨⟨up, 983040, by decide +kernel⟩,
    ⟨up, 0, by decide +kernel⟩⟩

end A

namespace B

def z1 : State := blank ({ bulkSt 1 1 (img 1 2) up with eng := { up.eng with books := [{ bk0 with owner := 2, bytes := 2 ^ 23 }] } })

def z2 : State := blank (bulkSt 1 1 (img 1 2) up)

def z3 : State := blank (bulkSt 1 1 (img 1 2) (withBook up))

def z4 : State := { waitBook (bulkSt 1 1 (img 1 2) up) true false with eng := { (waitBook (bulkSt 1 1 (img 1 2) up) true false).eng with waiting := some bk0 } }

def z5 : State := { waitBook (bulkSt 1 1 (img 1 2) up) false false with eng := { (waitBook (bulkSt 1 1 (img 1 2) up) false false).eng with waiting := some bk0 } }

/-- Every clause of VerifiedLoads has a case that meets its hypotheses. -/
theorem witness_VerifiedLoads :
    (∃ (s : State) (k i : Nat), (inService s = true) ∧ (bulkVerifying s 1 = true) ∧ (s.eng.waiting = none)
      ∧ (canNumber s = true) ∧ (imageErr false s.bulk.owner s.bulk.data s = some (k, i)))
    ∧ (∃ (s : State), (inService s = true) ∧ (bulkVerifying s 1 = true) ∧ (s.eng.waiting = none)
      ∧ (canNumber s = true) ∧ (imageErr false s.bulk.owner s.bulk.data s = none) ∧ (iOps s.bulk.data ≠ 0)
      ∧ (roomForBook s (bookOfImage s.bulk.owner s.bulk.data) = false ∨ bookFits s (bookOfImage s.bulk.owner s.bulk.data) = false))
    ∧ (∃ (s : State), (inService s = true) ∧ (bulkVerifying s 1 = true) ∧ (s.eng.waiting = none)
      ∧ (canNumber s = true) ∧ (imageErr false s.bulk.owner s.bulk.data s = none) ∧ (iOps s.bulk.data ≠ 0)
      ∧ (roomForBook s (bookOfImage s.bulk.owner s.bulk.data) = true)
      ∧ (bookFits s (bookOfImage s.bulk.owner s.bulk.data) = true)
      ∧ (bookOf s s.bulk.owner (bookOfImage s.bulk.owner s.bulk.data).handle = none))
    ∧ (∃ (s : State), (inService s = true) ∧ (bulkVerifying s 1 = true) ∧ (s.eng.waiting = none)
      ∧ (canNumber s = true) ∧ (imageErr false s.bulk.owner s.bulk.data s = none) ∧ (iOps s.bulk.data ≠ 0)
      ∧ (roomForBook s (bookOfImage s.bulk.owner s.bulk.data) = true)
      ∧ (bookFits s (bookOfImage s.bulk.owner s.bulk.data) = true)
      ∧ ((bookOf s s.bulk.owner (bookOfImage s.bulk.owner s.bulk.data).handle).isSome = true))
    ∧ (∃ (s : State) (b : Book), (inService s = true) ∧ (bulkVerifying s 1 = true) ∧ (canNumber s = true)
      ∧ (s.eng.waiting = some b) ∧ (∃ x ∈ s.eng.books, (x.owner = b.owner ∧ x.handle = b.handle) ∧ x.draining = true))
    ∧ (∃ (s : State) (b old : Book), (inService s = true) ∧ (bulkVerifying s 1 = true) ∧ (canNumber s = true)
      ∧ (s.eng.waiting = some b) ∧ (∀ x ∈ s.eng.books, x.owner = b.owner ∧ x.handle = b.handle → x.draining = false)
      ∧ (bookOf s b.owner b.handle = some old))
    ∧ (∃ (s : State), (alive s = true))
    ∧ (∃ (s : State), (inService s = true) ∧ (bulkVerifying s 2 = true)) :=
  ⟨⟨bulkSt 1 1 [1] up,
    nth (ofOpt (imageErr false (bulkSt 1 1 [1] up).bulk.owner (bulkSt 1 1 [1] up).bulk.data (bulkSt 1 1 [1] up)) fun v => [v.1]) 0,
    nth (ofOpt (imageErr false (bulkSt 1 1 [1] up).bulk.owner (bulkSt 1 1 [1] up).bulk.data (bulkSt 1 1 [1] up)) fun v => [v.2]) 0,
    by decide +kernel⟩,
    ⟨z1, by decide +kernel⟩,
    ⟨z2, by decide +kernel⟩,
    ⟨z3, by decide +kernel⟩,
    ⟨z4, nth (z4.eng.books) 0, by decide +kernel⟩,
    ⟨z5, nth (z5.eng.books) 0, nth (z5.eng.books) 0, by decide +kernel⟩,
    ⟨z4, by decide +kernel⟩,
    ⟨bulkSt 2 0 (fw 1 0 0) up, by decide +kernel⟩⟩

end B

namespace C

/-- Every clause of Departures has a case that meets its hypotheses. -/
theorem witness_Departures :
    (∃ (s : State) (t : Nat), (alive s = true) ∧ (tickDue (advance t s) = true ∧ s.adm.pausedAt = none
      ∧ tickBlocked (advance t s) = none) ∧ (witnessOk (advance t s) = true))
    ∧ (∃ (s : State) (t : Nat), (alive s = true) ∧ (tickDue (advance t s) = false))
    ∧ (∃ (s : State) (t : Nat), (alive s = true) ∧ (tickDue (advance t s) = true) ∧ (s.adm.pausedAt.isSome = true))
    ∧ (∃ (s : State) (t : Nat), (alive s = true) ∧ (tickDue (advance t s) = true ∧ s.adm.pausedAt = none
      ∧ tickBlocked (advance t s) = none) ∧ (witnessOk (advance t s) = false)
      ∧ (s.dep.target + 1000 * s.dep.witWaitUs ≤ (advance t s).clk.run))
    ∧ (∃ (s : State) (t : Nat), (alive s = true) ∧ (tickDue (advance t s) = true ∧ s.adm.pausedAt = none
      ∧ tickBlocked (advance t s) = none) ∧ (witnessOk (advance t s) = false)
      ∧ ((advance t s).clk.run < s.dep.target + 1000 * s.dep.witWaitUs))
    ∧ (∃ (s : State) (c : Closing), (alive s = true) ∧ (readyToSign s = some c) ∧ (canSign s c = true))
    ∧ (∃ (s : State) (c : Closing), (alive s = true) ∧ (readyToSign s = some c) ∧ (canSign s c = true)) :=
  ⟨⟨depSt 0 0, 1000001000000, by decide +kernel⟩,
    ⟨depSt 0 0, 0, by decide +kernel⟩,
    ⟨paused (depSt 0 0), 1000001000000, by decide +kernel⟩,
    ⟨depSt 1 500, 1000010000000, by decide +kernel⟩,
    ⟨depSt 1 500, 1000001000000, by decide +kernel⟩,
    ⟨depSt 0 0, the (readyToSign (depSt 0 0)), by decide +kernel, the_eq, by decide +kernel⟩,
    ⟨depSt 0 0, the (readyToSign (depSt 0 0)), by decide +kernel, the_eq, by decide +kernel⟩⟩

end C

namespace D

def z6 : State := admSt 0 (dW 0 60) (.bytes (wrec 10)) 3

def z7 : State := notOpen (admSt 0 (dW 1 64) (.bytes (wrec 9)) 0)

def z8 : State := admSt 0 (dW 1 64) (.bytes (wrec 9)) 0

def z9 : State := admSt 0 (dW 1 64) (.bytes (wrec 10)) 3

def z10 : State := admSt 0 (dW 1 64) (.bytes (wrec 9)) 3

def z11 : State := admSt 1 (dW 0x10 64) (.bytes (wrec 0)) 3

/-- Every clause of AdmissionStep has a case that meets its hypotheses. -/
theorem witness_AdmissionStep :
    (∃ (s : State) (t : Nat) (f : Fetched), (alive s = true) ∧ (inService s = true) ∧ (lastIssued s = false)
      ∧ (s.adm.pausedAt = none) ∧ (nextRecord (advance t s) = some f) ∧ ((ringOf s f.ring).state = RingState.running)
      ∧ ((ringOf s f.ring).gen = f.gen) ∧ (tryTick (drainEnds (advance t s)) = advance t s)
      ∧ (checked (advance t s) (ringOf s f.ring) f.desc f.src = none))
    ∧ (∃ (s : State) (t : Nat) (f : Fetched) (b : Bytes) (k : Nat), (alive s = true) ∧ (inService s = true)
      ∧ (lastIssued s = false) ∧ (s.adm.pausedAt = none) ∧ (nextRecord (advance t s) = some f)
      ∧ ((ringOf s f.ring).state = RingState.running) ∧ ((ringOf s f.ring).gen = f.gen)
      ∧ (tryTick (drainEnds (advance t s)) = advance t s)
      ∧ (checked (advance t s) (ringOf s f.ring) f.desc f.src = some b)
      ∧ ((ringOf s f.ring).cls = 0 ∨ (ringOf s f.ring).cls = 1) ∧ (busyCause (advance t s) (ringOf s f.ring).func = k)
      ∧ (k ≠ 0))
    ∧ (∃ (s : State) (t : Nat) (f : Fetched) (b : Bytes), (alive s = true) ∧ (inService s = true)
      ∧ (lastIssued s = false) ∧ (s.adm.pausedAt = none) ∧ (nextRecord (advance t s) = some f)
      ∧ ((ringOf s f.ring).state = RingState.running) ∧ ((ringOf s f.ring).gen = f.gen)
      ∧ (tryTick (drainEnds (advance t s)) = advance t s)
      ∧ (checked (advance t s) (ringOf s f.ring) f.desc f.src = some b) ∧ ((ringOf s f.ring).cls = 0)
      ∧ (busyCause (advance t s) (ringOf s f.ring).func = 0) ∧ ((ringOf s f.ring).tokens = 0))
    ∧ (∃ (s : State) (t : Nat) (f : Fetched) (b : Bytes) (c : Nat), (alive s = true) ∧ (inService s = true)
      ∧ (lastIssued s = false) ∧ (s.adm.pausedAt = none) ∧ (nextRecord (advance t s) = some f)
      ∧ ((ringOf s f.ring).state = RingState.running) ∧ ((ringOf s f.ring).gen = f.gen)
      ∧ (tryTick (drainEnds (advance t s)) = advance t s)
      ∧ (checked (advance t s) (ringOf s f.ring) f.desc f.src = some b) ∧ ((ringOf s f.ring).cls = 0)
      ∧ (busyCause (advance t s) (ringOf s f.ring).func = 0) ∧ (0 < (ringOf s f.ring).tokens)
      ∧ (closeReason (advance t s) (ringOf s f.ring).func (hGame b) (max (advance t s).clk.run (s.adm.lastT + 1)) = some c))
    ∧ (∃ (s : State) (t : Nat) (f : Fetched) (b : Bytes), (alive s = true) ∧ (inService s = true)
      ∧ (lastIssued s = false) ∧ (s.adm.pausedAt = none) ∧ (nextRecord (advance t s) = some f)
      ∧ ((ringOf s f.ring).state = RingState.running) ∧ ((ringOf s f.ring).gen = f.gen)
      ∧ (tryTick (drainEnds (advance t s)) = advance t s)
      ∧ (checked (advance t s) (ringOf s f.ring) f.desc f.src = some b) ∧ ((ringOf s f.ring).cls = 0)
      ∧ (busyCause (advance t s) (ringOf s f.ring).func = 0) ∧ (0 < (ringOf s f.ring).tokens)
      ∧ (closeReason (advance t s) (ringOf s f.ring).func (hGame b) (max (advance t s).clk.run (s.adm.lastT + 1)) = none))
    ∧ (∃ (s : State) (t : Nat) (f : Fetched) (b : Bytes), (alive s = true) ∧ (inService s = true)
      ∧ (lastIssued s = false) ∧ (s.adm.pausedAt = none) ∧ (nextRecord (advance t s) = some f)
      ∧ ((ringOf s f.ring).state = RingState.running) ∧ ((ringOf s f.ring).gen = f.gen)
      ∧ (tryTick (drainEnds (advance t s)) = advance t s)
      ∧ (checked (advance t s) (ringOf s f.ring) f.desc f.src = some b)
      ∧ ((ringOf s f.ring).cls = 1 ∨ (ringOf s f.ring).cls = 2)
      ∧ (busyCause (advance t s) (ringOf s f.ring).func = 0 ∨ (ringOf s f.ring).cls = 2)) :=
  ⟨⟨z6, 0, the (nextRecord (advance 0 z6)), by decide +kernel, by decide +kernel, by decide +kernel,
    by decide +kernel, the_eq, by decide +kernel, by decide +kernel, tryTick_quiet, by decide +kernel⟩,
    ⟨z7, 0, the (nextRecord (advance 0 z7)),
      the (checked (advance 0 z7) (ringOf z7 (the (nextRecord (advance 0 z7))).ring) (the (nextRecord (advance 0 z7))).desc (the (nextRecord (advance 0 z7))).src),
      nth ([busyCause (advance 0 z7) (ringOf z7 (the (nextRecord (advance 0 z7))).ring).func]) 0, by decide +kernel,
      by decide +kernel, by decide +kernel, by decide +kernel, the_eq, by decide +kernel, by decide +kernel,
      tryTick_quiet, the_eq, by decide +kernel⟩,
    ⟨z8, 0, the (nextRecord (advance 0 z8)),
      the (checked (advance 0 z8) (ringOf z8 (the (nextRecord (advance 0 z8))).ring) (the (nextRecord (advance 0 z8))).desc (the (nextRecord (advance 0 z8))).src),
      by decide +kernel, by decide +kernel, by decide +kernel, by decide +kernel, the_eq, by decide +kernel,
      by decide +kernel, tryTick_quiet, the_eq, by decide +kernel⟩,
    ⟨z9, 0, the (nextRecord (advance 0 z9)),
      the (checked (advance 0 z9) (ringOf z9 (the (nextRecord (advance 0 z9))).ring) (the (nextRecord (advance 0 z9))).desc (the (nextRecord (advance 0 z9))).src),
      the (closeReason (advance 0 z9) (ringOf z9 (the (nextRecord (advance 0 z9))).ring).func (hGame (the (checked (advance 0 z9) (ringOf z9 (the (nextRecord (advance 0 z9))).ring) (the (nextRecord (advance 0 z9))).desc (the (nextRecord (advance 0 z9))).src))) (max (advance 0 z9).clk.run (z9.adm.lastT + 1))),
      by decide +kernel, by decide +kernel, by decide +kernel, by decide +kernel, the_eq, by decide +kernel,
      by decide +kernel, tryTick_quiet, the_eq, by decide +kernel, by decide +kernel, by decide +kernel, the_eq⟩,
    ⟨z10, 0, the (nextRecord (advance 0 z10)),
      the (checked (advance 0 z10) (ringOf z10 (the (nextRecord (advance 0 z10))).ring) (the (nextRecord (advance 0 z10))).desc (the (nextRecord (advance 0 z10))).src),
      by decide +kernel, by decide +kernel, by decide +kernel, by decide +kernel, the_eq, by decide +kernel,
      by decide +kernel, tryTick_quiet, the_eq, by decide +kernel⟩,
    ⟨z11, 0, the (nextRecord (advance 0 z11)),
      the (checked (advance 0 z11) (ringOf z11 (the (nextRecord (advance 0 z11))).ring) (the (nextRecord (advance 0 z11))).desc (the (nextRecord (advance 0 z11))).src),
      by decide +kernel, by decide +kernel, by decide +kernel, by decide +kernel, the_eq, by decide +kernel,
      by decide +kernel, tryTick_quiet, the_eq, by decide +kernel⟩⟩

end D

end Admit

namespace Keyed

theorem leNat_le (n v : Nat) : leNat (le n v) = v % 256 ^ n := by
  induction n generalizing v with
  | zero => simp [le, leNat, Nat.mod_one]
  | succ n ih =>
    simp only [le, leNat, ih, BitVec.toNat_ofNat]
    exact (Nat.pow_succ' ▸ Nat.mod_mul (x := v) (a := 256) (b := 256 ^ n)).symm

theorem rd_mid {f m r : Bytes} {n k v : Nat} (h : f.length = n) (hm : m = le k v) (hv : v < 256 ^ k) : rd (f ++ (m ++ r)) n k = v := by
  unfold rd; rw [slice_mid h (by simp [hm]), hm, leNat_le, Nat.mod_eq_of_lt hv]

theorem flip_ne {b : Bytes} (h : b ≠ []) : b ≠ flip b := by
  cases b with
  | nil => exact absurd rfl h
  | cons x r =>
    intro e
    have hx := (List.cons.inj e).1
    have : x ^^^ x = x ^^^ (x ^^^ 1) := congrArg _ hx
    simp at this

theorem gcmOpen_of {key nonce aad pt tag : Bytes} {bad : Bool}
    (h : tag = if bad then flip (gcmSeal key nonce aad pt).2 else (gcmSeal key nonce aad pt).2) :
    gcmOpen key nonce aad (gcmSeal key nonce aad pt).1 tag = (pt, !bad) := by
  have hl : (gcmSeal key nonce aad pt).1.length = pt.length := by simp [gcmSeal, xorBytes]
  have hx : xorBytes (gcmSeal key nonce aad pt).1 (le pt.length (Config.gcmStream key nonce pt.length)) = pt := by
    simp only [gcmSeal]
    generalize he : le pt.length (Config.gcmStream key nonce pt.length) = k
    have hk : k.length = pt.length := by rw [← he]; simp
    clear he hl h
    induction pt generalizing k with
    | nil => simp [xorBytes]
    | cons a l ih =>
      cases k with
      | nil => simp at hk
      | cons b k => simp only [xorBytes, List.zipWith_cons_cons, BitVec.xor_assoc, BitVec.xor_self, BitVec.xor_zero]; exact congrArg _ (ih k (by simpa using hk))
  unfold gcmOpen
  rw [hl, hx, h]
  cases bad
  · simp [gcmSeal]
  · have : (gcmSeal key nonce aad pt).2 ≠ [] := by simp [gcmSeal, le]
    simp only [if_true, Bool.not_true, Prod.mk.injEq, true_and, decide_eq_false_iff_not]
    exact flip_ne this

theorem flip_length (b : Bytes) : (flip b).length = b.length := by cases b <;> rfl

theorem zeros_length (n : Nat) : (zeros n).length = n := List.length_replicate

theorem unwrap_parts {tk own n0 c t : Bytes} {k p : Nat} (h0 : n0.length = 12) (hp : c.length = p) (hc : p < 256 ^ 2)
    (ht : t.length = 16) :
    unwrapKey tk own (n0 ++ ((le 4 k ++ (le 2 p ++ zeros 14)) ++ (c ++ t)))
      = (BitVec.ofNat 64 (rd (gcmOpen tk n0 (own ++ (le 4 k ++ (le 2 p ++ zeros 14))) c t).1 0 8),
          (gcmOpen tk n0 (own ++ (le 4 k ++ (le 2 p ++ zeros 14))) c t).1.drop 16,
          (gcmOpen tk n0 (own ++ (le 4 k ++ (le 2 p ++ zeros 14))) c t).2) := by
  have hr : rd (n0 ++ ((le 4 k ++ (le 2 p ++ zeros 14)) ++ (c ++ t))) 16 2 = p := by
    rw [List.append_assoc, ← List.append_assoc, List.append_assoc (le 2 p)]
    exact rd_mid (by rw [List.length_append, h0, le_length]) rfl hc
  have hm : (le 4 k ++ (le 2 p ++ zeros 14)).length = 20 := by
    rw [List.length_append, List.length_append, le_length, le_length, zeros_length]
  generalize hM : le 4 k ++ (le 2 p ++ zeros 14) = m at *
  unfold unwrapKey
  have e2 : slice (n0 ++ (m ++ (c ++ t))) 32 p = c := by
    rw [← List.append_assoc]; exact slice_mid (by rw [List.length_append, h0, hm]) hp
  have e3 : slice (n0 ++ (m ++ (c ++ t))) (32 + p) 16 = t := by
    rw [← List.append_assoc, ← List.append_assoc]
    exact slice_tail (by rw [List.length_append, List.length_append, h0, hm, hp]) ht
  simp only [hr, slice_front h0, slice_mid h0 hm, e2, e3]

/-- A wrapped record opens to what it wraps; a bad tag is found. -/
theorem unwrap_rec {bad : Bool} {attr : W64} {key : Bytes} {k : Nat} {tk own b : Bytes}
    (hb : b = wrapRec bad attr key k)
    (h : tk = List.replicate 32 8 ∧ own = ownerIdBytes up 1 ∧ 16 + key.length < 256 ^ 2 := by decide +kernel) :
    unwrapKey tk own b = (attr, key, !bad) := by
  obtain ⟨rfl, rfl, hk⟩ := h
  subst hb
  unfold wrapRec
  generalize (List.replicate 32 8 : Bytes) = q
  generalize ownerIdBytes up 1 = o
  generalize hz : zeros 12 = z
  have h0 : z.length = 12 := by rw [← hz, zeros_length]
  have hl : ∀ m, (gcmSeal q z m (le 8 attr.toNat ++ (zeros 8 ++ key))).1.length = 16 + key.length := by
    intro m
    simp only [gcmSeal, xorBytes, List.length_zipWith, List.length_append, le_length, zeros_length]; omega
  have e5 : (le 8 attr.toNat ++ (zeros 8 ++ key)).drop 16 = key := by
    rw [← List.append_assoc]; exact List.drop_left' (by rw [List.length_append, le_length, zeros_length])
  simp only []
  rw [unwrap_parts h0 (hl _) hk (by split <;> simp [flip_length, gcmSeal]), gcmOpen_of rfl]
  have e4 : rd (le 8 attr.toNat ++ (zeros 8 ++ key)) 0 8 = attr.toNat :=
    (congrArg leNat (slice_front (le_length 8 _))).trans
      ((leNat_le 8 _).trans (Nat.mod_eq_of_lt (Nat.lt_of_lt_of_eq attr.isLt (by decide))))
  simp only [e5, e4, BitVec.ofNat_toNat, BitVec.setWidth_eq]

theorem import_rec {w : Work} {f b : Bytes} {n : Nat} (h : w.src = f ++ b) (hi : dInline w.desc = false := by decide +kernel)
    (hf : f.length = n := by decide +kernel) : List.drop n w.input = b := by
  unfold Work.input; rw [hi, h]; exact List.drop_left' hf

theorem src_digest {w : Work} (h : dInline w.desc = false := by decide +kernel) : Config.sha384 w.src = Config.sha384 w.input := by
  unfold Work.input; rw [h]; rfl

theorem splitRecords_one {n : Nat} {b r : Bytes} (hb : b = r)
    (h : n = 1 ∧ r.length = wrapSize (rd r 16 2) ∧ (!allZero r 18 14
      || !allZero r (48 + rd r 16 2) (wrapSize (rd r 16 2) - (48 + rd r 16 2))) = false := by decide +kernel) :
    splitRecords n b = some [r] := by
  obtain ⟨rfl, hl, hz⟩ := h
  subst hb
  have e : (decide (b.length < wrapSize (rd b 16 2)) || !allZero b 18 14
      || !allZero b (48 + rd b 16 2) (wrapSize (rd b 16 2) - (48 + rd b 16 2))) = false := by
    rw [Bool.or_assoc, hz, hl]; simp
  simp only [splitRecords, e]
  rw [← hl, List.drop_length, List.take_length]; rfl

theorem openRecords_one {tk own r : Bytes} {a : W64} {k : Bytes} (h : unwrapKey tk own r = (a, k, true)) :
    openRecords tk own [r] = some [(a, k)] := by simp [openRecords, h]

theorem openRecords_bad {tk own r : Bytes} {a : W64} {k : Bytes} (h : unwrapKey tk own r = (a, k, false)) :
    openRecords tk own [r] = none := by simp [openRecords, h]

def ktHdr : Bytes := (ktab 1).take 64

def ktRec (bad : Bool) : Bytes := wrapRec bad (mkAttr 16 1 verbCipher 0) (List.replicate 16 9) 0

def ilIn : Bytes := (le 8 0x55 ++ zeros 16) ++ kcv held1.root

def ilB : State :=
  let s := withPeer (acc 2 0x5D ilIn)
  { s with
    adm := { s.adm with owners := [(1, { own1 with enrolled := 1, noRoot := true, root := none })]
                        work := s.adm.work.map fun w => { w with desc := w.desc ||| BitVec.ofNat 512 (2 ^ 224) } }
    keys := { s.keys with held := [held1] } }

theorem ilB_input : (w1 ilB).input = ilIn := if_neg (by decide +kernel)

theorem ilB_find : (ilB.keys.held.filter fun h => h.ownerId == (ownerOf ilB ((w1 ilB).func ilB)).id).find? (fun h =>
    BitVec.toNat h.device == rd (w1 ilB).input 0 8 && kcv h.root == slice (w1 ilB).input 24 8
      && h.setDigest == setDigest (ownerOf ilB ((w1 ilB).func ilB)).officials) = some held1 := by
  refine find_single rfl (hp := ?_)
  have e : slice ilIn 24 8 = kcv held1.root := slice_tail (by decide) (by simp [kcv, kmac])
  rw [ilB_input, e, Bool.and_eq_true, Bool.and_eq_true]
  exact ⟨⟨by decide +kernel, beq_self_eq_true _⟩, beq_iff_eq.2 rfl⟩

namespace E

def oq (s : State) : State := { s with adm := { s.adm with owners := s.adm.owners ++ [(3, { quota := 5 })] } }

def z1 : State := oq (acc 6 0x50 (enrolBody 3 1 0) 3)

def z2 : State := blank (acc 6 0x50 (enrolBody 3 1 1) 3)

def z3 : State := blank (oq (acc 6 0x50 (enrolBody 3 1 0) 3))

def z4 : State := { acc 6 0x51 [1] with rings := { up.rings with tbl := [(6, ringOn 2 0), (2, ringOn 2 1)] } }

def z5 : State := acc 2 0x5A (padTo 64 [0x53])

/-- Every clause of OwnersAndAccords has a case that meets its hypotheses. -/
theorem witness_OwnersAndAccords :
    (∃ (s : State) (id : WorkId) (w : Work), (canNumber s = true) ∧ (Waits s id 80 w) ∧ (enrolFormOk w.input 1 = true)
      ∧ (s.life.decided = 2) ∧ (meshValid s = none))
    ∧ (∃ (s : State) (id : WorkId) (w : Work) (a : Accord), (canNumber s = true) ∧ (Waits s id 80 w)
      ∧ (enrolFormOk w.input 1 = true) ∧ (s.life.decided ≠ 3) ∧ (1 ≤ rd w.input 8 1) ∧ (rd w.input 8 1 ≤ 63)
      ∧ (s.life.decided = 2 → (meshValid s).isSome = true) ∧ ((ownerOf s (rd w.input 8 1)).enrolled = 0)
      ∧ (funcOfId s (BitVec.ofNat 64 (rd w.input 0 8)) = none) ∧ (HasAccord s w (rd w.input 8 1) 80 a)
      ∧ (rd w.input 11 1 = 1))
    ∧ (∃ (s : State) (id : WorkId) (w : Work) (a : Accord) (i : Nat), (canNumber s = true) ∧ (Waits s id 80 w)
      ∧ (enrolFormOk w.input 1 = true) ∧ (s.life.decided ≠ 3) ∧ (1 ≤ rd w.input 8 1) ∧ (rd w.input 8 1 ≤ 63)
      ∧ (s.life.decided = 2 → (meshValid s).isSome = true) ∧ ((ownerOf s (rd w.input 8 1)).enrolled = 0)
      ∧ (funcOfId s (BitVec.ofNat 64 (rd w.input 0 8)) = none) ∧ (HasAccord s w (rd w.input 8 1) 80 a)
      ∧ (rd w.input 11 1 = 0) ∧ (canDraw s = true) ∧ (freeSlot s = some i)
      ∧ (ownerSlots s (rd w.input 8 1) < (ownerOf s (rd w.input 8 1)).quota))
    ∧ (∃ (s : State) (id : WorkId) (w : Work) (a : Accord), (canNumber s = true) ∧ (Waits s id 82 w)
      ∧ (enrolFormOk w.input 0 = true) ∧ (rd w.input 8 1 = 0)
      ∧ (BitVec.toNat (ownerOf s (w.func s)).id = rd w.input 0 8) ∧ (HasAccord s w (w.func s) 82 a))
    ∧ (∃ (s : State) (id : WorkId) (w : Work) (a : Accord), (Waits s id 81 w)
      ∧ (retireRefused s (rd w.input 0 1) = false) ∧ (HasAccord s w (rd w.input 0 1) 81 a)
      ∧ (canNumberN ((List.filter (fun k => k.owner == rd w.input 0 1) s.eng.books).length + 1) s = true))
    ∧ (∃ (s : State) (id : WorkId) (w : Work), (Waits s id 90 w) ∧ (s.keys.nextAccord ≤ accordHigh s)
      ∧ (accordOpenErr s (decide (w.func s = 0)) (rd w.input 0 1) (if w.func s = 0 then rd w.input 1 1 else w.func s) w.input (List.drop 64 w.input) = none))
    ∧ (∃ (s : State) (id : WorkId) (w : Work) (a : Accord), (Waits s id 92 w)
      ∧ (accordFor s (w.func s) (rd w.input 0 2) = some a)) :=
  ⟨⟨z1, wid 6, w1 z1, by decide +kernel, waits_head, by decide +kernel⟩,
    ⟨z2, wid 6, w1 z2, a1 z2, by decide +kernel, waits_head, by decide +kernel, by decide +kernel, by decide +kernel,
      by decide +kernel, by decide +kernel, by decide +kernel, by decide +kernel, hasAccord_head, by decide +kernel⟩,
    ⟨z3, wid 6, w1 z3, a1 z3, the (freeSlot z3), by decide +kernel, waits_head, by decide +kernel, by decide +kernel,
      by decide +kernel, by decide +kernel, by decide +kernel, by decide +kernel, by decide +kernel, hasAccord_head,
      by decide +kernel, by decide +kernel, the_eq, by decide +kernel⟩,
    ⟨acc 2 0x52 setBody, wid 2, w1 (acc 2 0x52 setBody), a1 (acc 2 0x52 setBody), by decide +kernel, waits_head,
      by decide +kernel, by decide +kernel, by decide +kernel, hasAccord_head⟩,
    ⟨z4, wid 6, w1 z4, a1 z4, waits_head, by decide +kernel, hasAccord_head, by decide +kernel⟩,
    ⟨z5, wid 2, w1 z5, waits_head, by decide +kernel⟩,
    ⟨acc 6 0x5C [7], wid 6, w1 (acc 6 0x5C [7]), a1 (acc 6 0x5C [7]), waits_head, accordFor_head⟩⟩

end E

namespace F

def gen (klen verb uses : Nat) (dual record : Nat) : Bytes := le 8 ((mkAttr klen 1 verb uses).toNat + 512 * dual) ++ [BitVec.ofNat 8 record] ++ zeros 7

def rng (s : State) : State := { s with adm := { s.adm with owners := [(1, { own1 with parts := [2, 2, 2, 2] })] } }

def ent (v : Nat) : Bytes := le 8 5 ++ le 8 (if v ≤ 2 then 0x77 else up.otp.deviceId.toNat) ++ le 4 1 ++ le 2 v ++ zeros 2

def z6 : State := rng (acc 2 0x53 (gen 16 verbCipher 0 0 0))

def z7 : State := rng (acc 2 0x53 (gen 16 verbCipher 0 1 0))

def z8 : State := rng (acc 2 0x53 (gen 16 verbMac 0 0 1))

def z9 : State := rng (acc 2 0x54 (le 4 h66 ++ le 4 h65 ++ wrapRec true (mkAttr 16 1 verbMac 0) (List.replicate 16 4) 0))

def z10 : State := rng (acc 2 0x54 (le 4 h66 ++ le 4 h65 ++ wrapped (mkAttr 16 1 verbMac 0) (List.replicate 16 4) 0))

def z11 : State := rng (acc 2 0x54 (le 4 h66 ++ le 4 h65 ++ wrapped (mkAttr 15 1 verbMac 0) (List.replicate 16 4) 0))

def z12 : State := rng (acc 2 0x55 (le 4 h66 ++ le 4 h65))

def z13 : State := rng (acc 2 0x55 (le 4 h67 ++ le 4 h65))

def z14 : State := rng (acc 2 0x56 (le 4 h66 ++ zeros 4))

def z15 : State := rng (acc 2 0x57 (le 4 h66))

def z16 : State := rng (acc 2 0x58 (le 4 h65 ++ le 2 2 ++ zeros 2 ++ ent 1 ++ ent 3))

/-- Every clause of KeyCommands has a case that meets its hypotheses. -/
theorem witness_KeyCommands :
    (∃ (s : State) (id : WorkId) (w : Work) (i : Nat), (canNumber s = true) ∧ (Waits s id 83 w)
      ∧ (aVerb (BitVec.ofNat 64 (rd w.input 0 8)) ≠ verbRoot) ∧ (canDraw s = true) ∧ (rd w.input 8 1 = 0)
      ∧ (attrOk (w.func s) false (BitVec.ofNat 64 (rd w.input 0 8)) (aKlen (BitVec.ofNat 64 (rd w.input 0 8))) = true)
      ∧ (ownerSlots s (w.func s) < (ownerOf s (w.func s)).quota) ∧ (freeSlot s = some i)
      ∧ (aDual (BitVec.ofNat 64 (rd w.input 0 8)) = false))
    ∧ (∃ (s : State) (id : WorkId) (w : Work) (i : Nat) (a : Accord), (canNumber s = true) ∧ (Waits s id 83 w)
      ∧ (aVerb (BitVec.ofNat 64 (rd w.input 0 8)) ≠ verbRoot) ∧ (canDraw s = true) ∧ (rd w.input 8 1 = 0)
      ∧ (attrOk (w.func s) false (BitVec.ofNat 64 (rd w.input 0 8)) (aKlen (BitVec.ofNat 64 (rd w.input 0 8))) = true)
      ∧ (ownerSlots s (w.func s) < (ownerOf s (w.func s)).quota) ∧ (freeSlot s = some i)
      ∧ (aDual (BitVec.ofNat 64 (rd w.input 0 8)) = true) ∧ (HasAccord s w (w.func s) 83 a))
    ∧ (∃ (s : State) (id : WorkId) (w : Work) (x : Nat), (canNumber s = true) ∧ (Waits s id 83 w)
      ∧ (aVerb (BitVec.ofNat 64 (rd w.input 0 8)) ≠ verbRoot) ∧ (canDraw s = true) ∧ (rd w.input 8 1 = 1)
      ∧ (attrOk (w.func s) true (BitVec.ofNat 64 (rd w.input 0 8)) (aKlen (BitVec.ofNat 64 (rd w.input 0 8))) = true)
      ∧ (aKlen (BitVec.ofNat 64 (rd w.input 0 8)) ≤ 64) ∧ (freeRecord s (w.func s) = some x)
      ∧ (aDual (BitVec.ofNat 64 (rd w.input 0 8)) = false))
    ∧ (∃ (s : State) (id : WorkId) (w : Work) (a : Accord) (k t : KeyView) (i : Nat), (canNumber s = true)
      ∧ (Waits s id 84 w) ∧ (HasAccord s w (w.func s) 84 a) ∧ (findKey s (w.func s) (rd w.input 0 4) = some k)
      ∧ (k.ref = KeyRef.slot i) ∧ ((∀ p ∈ s.adm.owners, p.2.root ≠ some i) ∧ ∀ r ∈ s.keys.oldRoots, r.slot ≠ i)
      ∧ (keyFor s (w.func s) (rd w.input 4 4) verbTransport = .inr t ∧ checkKey (w.func s) (rd w.input 4 4) s = s
      ∧ ∀ (i : Nat), t.ref = KeyRef.slot i → (∀ p ∈ s.adm.owners, p.2.root ≠ some i) ∧ ∀ r ∈ s.keys.oldRoots,
      r.slot ≠ i) ∧ (t.ref ≠ k.ref)
      ∧ ((unwrapKey t.key (ownerIdBytes s (w.func s)) (List.drop 8 w.input)).2.2 = false))
    ∧ (∃ (s : State) (id : WorkId) (w : Work) (a : Accord) (k t : KeyView) (i : Nat), (canNumber s = true)
      ∧ (Waits s id 84 w) ∧ (HasAccord s w (w.func s) 84 a) ∧ (findKey s (w.func s) (rd w.input 0 4) = some k)
      ∧ (k.ref = KeyRef.slot i) ∧ ((∀ p ∈ s.adm.owners, p.2.root ≠ some i) ∧ ∀ r ∈ s.keys.oldRoots, r.slot ≠ i)
      ∧ (keyFor s (w.func s) (rd w.input 4 4) verbTransport = .inr t ∧ checkKey (w.func s) (rd w.input 4 4) s = s
      ∧ ∀ (i : Nat), t.ref = KeyRef.slot i → (∀ p ∈ s.adm.owners, p.2.root ≠ some i) ∧ ∀ r ∈ s.keys.oldRoots,
      r.slot ≠ i) ∧ (t.ref ≠ k.ref) ∧ ((unwrapKey t.key (ownerIdBytes s (w.func s)) (List.drop 8 w.input)).2.2 = true)
      ∧ (importOk (w.func s) false (unwrapKey t.key (ownerIdBytes s (w.func s)) (List.drop 8 w.input)).1 (List.length (unwrapKey t.key (ownerIdBytes s (w.func s)) (List.drop 8 w.input)).2.1) = true))
    ∧ (∃ (s : State) (id : WorkId) (w : Work) (a : Accord) (k t : KeyView) (i : Nat), (canNumber s = true)
      ∧ (Waits s id 84 w) ∧ (HasAccord s w (w.func s) 84 a) ∧ (findKey s (w.func s) (rd w.input 0 4) = some k)
      ∧ (k.ref = KeyRef.slot i) ∧ ((∀ p ∈ s.adm.owners, p.2.root ≠ some i) ∧ ∀ r ∈ s.keys.oldRoots, r.slot ≠ i)
      ∧ (keyFor s (w.func s) (rd w.input 4 4) verbTransport = .inr t ∧ checkKey (w.func s) (rd w.input 4 4) s = s
      ∧ ∀ (i : Nat), t.ref = KeyRef.slot i → (∀ p ∈ s.adm.owners, p.2.root ≠ some i) ∧ ∀ r ∈ s.keys.oldRoots,
      r.slot ≠ i) ∧ (t.ref ≠ k.ref) ∧ ((unwrapKey t.key (ownerIdBytes s (w.func s)) (List.drop 8 w.input)).2.2 = true)
      ∧ (importOk (w.func s) false (unwrapKey t.key (ownerIdBytes s (w.func s)) (List.drop 8 w.input)).1 (List.length (unwrapKey t.key (ownerIdBytes s (w.func s)) (List.drop 8 w.input)).2.1) = false))
    ∧ (∃ (s : State) (id : WorkId) (w : Work) (a : Accord) (k t : KeyView), (canNumber s = true) ∧ (Waits s id 85 w)
      ∧ (HasAccord s w (w.func s) 85 a) ∧ (keyFor s (w.func s) (rd w.input 0 4) (aVerb k.attr) = .inr k
      ∧ checkKey (w.func s) (rd w.input 0 4) s = s ∧ ∀ (i : Nat), k.ref = KeyRef.slot i → (∀ p ∈ s.adm.owners,
      p.2.root ≠ some i) ∧ ∀ r ∈ s.keys.oldRoots, r.slot ≠ i) ∧ (keyLineBad s (w.func s) (rd w.input 0 4) = false)
      ∧ (keyFor s (w.func s) (rd w.input 4 4) verbTransport = .inr t ∧ checkKey (w.func s) (rd w.input 4 4) s = s
      ∧ ∀ (i : Nat), t.ref = KeyRef.slot i → (∀ p ∈ s.adm.owners, p.2.root ≠ some i) ∧ ∀ r ∈ s.keys.oldRoots,
      r.slot ≠ i) ∧ (aExport k.attr = true))
    ∧ (∃ (s : State) (id : WorkId) (w : Work) (a : Accord) (k t : KeyView), (canNumber s = true) ∧ (Waits s id 85 w)
      ∧ (HasAccord s w (w.func s) 85 a) ∧ (keyFor s (w.func s) (rd w.input 0 4) (aVerb k.attr) = .inr k
      ∧ checkKey (w.func s) (rd w.input 0 4) s = s ∧ ∀ (i : Nat), k.ref = KeyRef.slot i → (∀ p ∈ s.adm.owners,
      p.2.root ≠ some i) ∧ ∀ r ∈ s.keys.oldRoots, r.slot ≠ i) ∧ (keyLineBad s (w.func s) (rd w.input 0 4) = false)
      ∧ (keyFor s (w.func s) (rd w.input 4 4) verbTransport = .inr t ∧ checkKey (w.func s) (rd w.input 4 4) s = s
      ∧ ∀ (i : Nat), t.ref = KeyRef.slot i → (∀ p ∈ s.adm.owners, p.2.root ≠ some i) ∧ ∀ r ∈ s.keys.oldRoots,
      r.slot ≠ i) ∧ (aExport k.attr = false))
    ∧ (∃ (s : State) (id : WorkId) (w : Work) (a : Accord) (k : KeyView) (i : Nat), (canNumber s = true)
      ∧ (Waits s id 86 w) ∧ (HasAccord s w (w.func s) 86 a) ∧ (findKey s (w.func s) (rd w.input 0 4) = some k)
      ∧ (k.ref = KeyRef.slot i) ∧ (s.keys.locked = false))
    ∧ (∃ (s : State) (id : WorkId) (w : Work) (k : KeyView), (Waits s id 87 w) ∧ (rd w.input 0 4 ≠ 0)
      ∧ (findKey s (w.func s) (rd w.input 0 4) = some k) ∧ (keyLineBad s (w.func s) (rd w.input 0 4) = false))
    ∧ (∃ (s : State) (id : WorkId) (w : Work) (a : Accord) (t : KeyView) (ri : Nat), (canNumber s = true)
      ∧ (Waits s id 88 w) ∧ (1 ≤ rd w.input 4 2) ∧ (rd w.input 4 2 ≤ 256) ∧ (rd w.input 6 2 = 0)
      ∧ (List.length w.input = 8 + 24 * rd w.input 4 2) ∧ (∀ k < rd w.input 4 2,
      clauseEntryOk s (w.func s) (slice w.input (8 + 24 * k) 24) = true) ∧ (HasAccord s w (w.func s) 88 a)
      ∧ (keyFor s (w.func s) (rd w.input 0 4) verbTransport = .inr t ∧ checkKey (w.func s) (rd w.input 0 4) s = s
      ∧ ∀ (i : Nat), t.ref = KeyRef.slot i → (∀ p ∈ s.adm.owners, p.2.root ≠ some i) ∧ ∀ r ∈ s.keys.oldRoots,
      r.slot ≠ i) ∧ (aUses t.attr = 0) ∧ ((ownerOf s (w.func s)).root = some ri ∧ (slotOf s ri).state = 1
      ∧ (slotOf s ri).uses = 0 ∧ slotSound s ri = true ∧ s.keys.locked = false)) :=
  ⟨⟨z6, wid 2, w1 z6, the (freeSlot z6), by decide +kernel, waits_head, by decide +kernel, by decide +kernel,
    by decide +kernel, by decide +kernel, by decide +kernel, the_eq, by decide +kernel⟩,
    ⟨z7, wid 2, w1 z7, the (freeSlot z7), a1 z7, by decide +kernel, waits_head, by decide +kernel, by decide +kernel,
      by decide +kernel, by decide +kernel, by decide +kernel, the_eq, by decide +kernel, hasAccord_head⟩,
    ⟨z8, wid 2, w1 z8, the (freeRecord z8 ((w1 z8).func z8)), by decide +kernel, waits_head, by decide +kernel,
      by decide +kernel, by decide +kernel, by decide +kernel, by decide +kernel, the_eq, by decide +kernel⟩,
    ⟨z9, wid 2, w1 z9, a1 z9, the (findKey z9 ((w1 z9).func z9) (rd (w1 z9).input 0 4)),
      inr1 (keyFor z9 ((w1 z9).func z9) (rd (w1 z9).input 4 4) verbTransport), 66, by decide +kernel, waits_head,
      hasAccord_head (h2 := src_digest (w := w1 z9)), the_eq, by decide +kernel, by decide +kernel, ⟨inr_eq,
      (checkKey_sealed rfl), ref_only (by decide +kernel) (by decide +kernel)⟩,
      by decide +kernel, by rw [unwrap_rec (import_rec rfl)]; rfl⟩,
    ⟨z10, wid 2, w1 z10, a1 z10, the (findKey z10 ((w1 z10).func z10) (rd (w1 z10).input 0 4)),
      inr1 (keyFor z10 ((w1 z10).func z10) (rd (w1 z10).input 4 4) verbTransport), 66, by decide +kernel, waits_head,
      hasAccord_head (h2 := src_digest (w := w1 z10)), the_eq, by decide +kernel, by decide +kernel, ⟨inr_eq,
      (checkKey_sealed rfl), ref_only (by decide +kernel) (by decide +kernel)⟩,
      by decide +kernel, by rw [unwrap_rec (import_rec rfl)]; rfl,
      by rw [unwrap_rec (import_rec rfl)]; decide +kernel⟩,
    ⟨z11, wid 2, w1 z11, a1 z11, the (findKey z11 ((w1 z11).func z11) (rd (w1 z11).input 0 4)),
      inr1 (keyFor z11 ((w1 z11).func z11) (rd (w1 z11).input 4 4) verbTransport), 66, by decide +kernel, waits_head,
      hasAccord_head (h2 := src_digest (w := w1 z11)), the_eq, by decide +kernel, by decide +kernel, ⟨inr_eq,
      (checkKey_sealed rfl), ref_only (by decide +kernel) (by decide +kernel)⟩,
      by decide +kernel, by rw [unwrap_rec (import_rec rfl)]; rfl,
      by rw [unwrap_rec (import_rec rfl)]; decide +kernel⟩,
    ⟨z12, wid 2, w1 z12, a1 z12, (findKey (acc 2 3 []) 1 h66).getD ⟨.slot 0, 0, 0, 0, []⟩,
      inr1 (keyFor z12 ((w1 z12).func z12) (rd (w1 z12).input 4 4) verbTransport), by decide +kernel, waits_head,
      hasAccord_head, ⟨by decide +kernel, (checkKey_sealed rfl),
      ref_only (by decide +kernel) (by decide +kernel)⟩, by decide +kernel, ⟨inr_eq,
      (checkKey_sealed rfl), ref_only (by decide +kernel) (by decide +kernel)⟩,
      by decide +kernel⟩,
    ⟨z13, wid 2, w1 z13, a1 z13, (findKey (acc 2 3 []) 1 h67).getD ⟨.slot 0, 0, 0, 0, []⟩,
      inr1 (keyFor z13 ((w1 z13).func z13) (rd (w1 z13).input 4 4) verbTransport), by decide +kernel, waits_head,
      hasAccord_head, ⟨by decide +kernel, (checkKey_sealed rfl),
      ref_only (by decide +kernel) (by decide +kernel)⟩, by decide +kernel, ⟨inr_eq,
      (checkKey_sealed rfl), ref_only (by decide +kernel) (by decide +kernel)⟩,
      by decide +kernel⟩,
    ⟨z14, wid 2, w1 z14, a1 z14, the (findKey z14 ((w1 z14).func z14) (rd (w1 z14).input 0 4)), 66, by decide +kernel,
      waits_head, hasAccord_head, the_eq, by decide +kernel⟩,
    ⟨z15, wid 2, w1 z15, the (findKey z15 ((w1 z15).func z15) (rd (w1 z15).input 0 4)), waits_head, by decide +kernel,
      the_eq, by decide +kernel⟩,
    ⟨z16, wid 2, w1 z16, a1 z16, inr1 (keyFor z16 ((w1 z16).func z16) (rd (w1 z16).input 0 4) verbTransport),
      the (ownerOf z16 ((w1 z16).func z16)).root, by decide +kernel, waits_head, by decide +kernel, by decide +kernel,
      by decide +kernel, by decide +kernel, by decide +kernel, hasAccord_head, ⟨inr_eq,
      (checkKey_sealed rfl), ref_only (by decide +kernel) (by decide +kernel)⟩,
      by decide +kernel, ⟨the_eq, by decide +kernel, by decide +kernel,
      beq_iff_eq.2 (slot_sealed rfl (by decide +kernel)), by decide +kernel⟩⟩⟩

end F

namespace G

def ts (mode a b : Nat) : State := let s := acc 2 0x59 ([BitVec.ofNat 8 mode] ++ zeros 7 ++ le 8 a ++ le 8 b ++ zeros 8); { s with vm := { s.vm with terminals := [⟨1, 5, 3, 4, 0⟩] } }

def z17 : State := withPeer (acc 2 0x5D (le 8 0x55 ++ zeros 24))

def z18 : State := sealed { acc 2 0x5E [] with keys := { up.keys with accords := [accordOf 1 0x59 []], slots := [(0, slot64), (5, slot64), (64, slot64)] } }

def z19 : State := ktOf (ktHdr ++ ktRec false)

def z20 : State := ktOf (ktHdr ++ ktRec true)

/-- Every clause of RootsAndRanges has a case that meets its hypotheses. -/
theorem witness_RootsAndRanges :
    (∃ (s : State) (id : WorkId) (w : Work) (a : Accord), (canNumber s = true) ∧ (Waits s id 89 w)
      ∧ (HasAccord s w (w.func s) 89 a) ∧ (allZero w.input 1 7 = true) ∧ (allZero w.input 24 8 = true)
      ∧ (rd w.input 0 1 = 1) ∧ (rd w.input 8 8 ≤ rd w.input 16 8))
    ∧ (∃ (s : State) (id : WorkId) (w : Work) (a : Accord) (x : Terminal), (canNumber s = true) ∧ (Waits s id 89 w)
      ∧ (HasAccord s w (w.func s) 89 a) ∧ (allZero w.input 1 7 = true) ∧ (allZero w.input 24 8 = true)
      ∧ (rd w.input 0 1 = 0) ∧ (rd w.input 16 8 < 2 ^ 32) ∧ (terminalOf s (w.func s) (rd w.input 8 8) = some x)
      ∧ (x.tense < rd w.input 16 8) ∧ (keyBad s (w.func s) 1 (terminalKey (rd w.input 8 8)) = false))
    ∧ (∃ (s : State) (id : WorkId) (w : Work) (a : Accord) (i ri : Nat), (canNumber s = true) ∧ (Waits s id 93 w)
      ∧ (interlockMode w = false) ∧ (peerRoute s (rd w.input 0 8) = some (i, true))
      ∧ ((ownerOf s (w.func s)).root = some ri) ∧ ((slotOf s ri).state = 1) ∧ (slotSound s ri = true)
      ∧ (s.keys.locked = false) ∧ (HasAccord s w (w.func s) 93 a))
    ∧ (∃ (s : State) (id : WorkId) (w : Work) (a : Accord) (h : HeldLock) (i : Nat), (canNumber s = true)
      ∧ (Waits s id 93 w) ∧ (interlockMode w = true) ∧ (freeSlot s = some i)
      ∧ (List.find? (fun h => BitVec.toNat h.device == rd w.input 0 8 && kcv h.root == slice w.input 24 8 && h.setDigest == setDigest (ownerOf s (w.func s)).officials) (List.filter (fun h => h.ownerId == (ownerOf s (w.func s)).id) s.keys.held) = some h)
      ∧ ((ownerOf s (w.func s)).enrolled = 1) ∧ ((ownerOf s (w.func s)).noRoot = true)
      ∧ ((ownerOf s (w.func s)).root = none) ∧ (ownerSlots s (w.func s) < (ownerOf s (w.func s)).quota)
      ∧ (HasAccord s w (w.func s) 93 a))
    ∧ (∃ (s : State) (id : WorkId) (w : Work), (Waits s id 94 w) ∧ (s.dep.nextSerial = none)
      ∧ ((slotOf s 0).state = 1) ∧ (slotSound s 0 = true) ∧ (canDraw s = true))
    ∧ (∃ (s : State) (a : Accord) (recs : List Bytes) (k : KeyView) (ks : List (W64 × Bytes)) (r : List Nat × State),
      (inService s = true) ∧ (canNumber s = true) ∧ (bulkVerifying s 3 = true)
      ∧ (splitRecords (rd s.bulk.data 20 4) (List.drop 64 s.bulk.data) = some recs)
      ∧ (rd s.bulk.data 0 4 = 1263813169) ∧ (rd s.bulk.data 4 2 = 1) ∧ (1 ≤ rd s.bulk.data 20 4)
      ∧ (rd s.bulk.data 20 4 ≤ 4096) ∧ (rd s.bulk.data 24 1 ≤ 1) ∧ (allZero s.bulk.data 25 39 = true)
      ∧ ((ownerOf s s.bulk.owner).enrolled ≠ 0) ∧ (BitVec.toNat (ownerOf s s.bulk.owner).id = rd s.bulk.data 8 8)
      ∧ (accordCheck (rd s.bulk.data 6 2) s.bulk.owner 179 (Config.sha384 (List.drop 64 s.bulk.data)) s = .inr a)
      ∧ (keyFor s s.bulk.owner (rd s.bulk.data 16 4) verbTransport = .inr k
      ∧ checkKey s.bulk.owner (rd s.bulk.data 16 4) s = s ∧ ∀ (i : Nat), k.ref = KeyRef.slot i → (∀ p ∈ s.adm.owners,
      p.2.root ≠ some i) ∧ ∀ r ∈ s.keys.oldRoots, r.slot ≠ i) ∧ (aUses k.attr = 0)
      ∧ (openRecords k.key (ownerIdBytes s s.bulk.owner) recs = some ks) ∧ (∀ x ∈ ks,
      importOk s.bulk.owner (decide (rd s.bulk.data 24 1 = 1)) x.1 (List.length x.2) = true)
      ∧ (placeAll s.bulk.owner (decide (rd s.bulk.data 24 1 = 1)) ks s = some r))
    ∧ (∃ (s : State) (a : Accord) (recs : List Bytes) (k : KeyView), (inService s = true) ∧ (canNumber s = true)
      ∧ (bulkVerifying s 3 = true) ∧ (splitRecords (rd s.bulk.data 20 4) (List.drop 64 s.bulk.data) = some recs)
      ∧ (rd s.bulk.data 0 4 = 1263813169) ∧ (rd s.bulk.data 4 2 = 1) ∧ (1 ≤ rd s.bulk.data 20 4)
      ∧ (rd s.bulk.data 20 4 ≤ 4096) ∧ (rd s.bulk.data 24 1 ≤ 1) ∧ (allZero s.bulk.data 25 39 = true)
      ∧ ((ownerOf s s.bulk.owner).enrolled ≠ 0) ∧ (BitVec.toNat (ownerOf s s.bulk.owner).id = rd s.bulk.data 8 8)
      ∧ (accordCheck (rd s.bulk.data 6 2) s.bulk.owner 179 (Config.sha384 (List.drop 64 s.bulk.data)) s = .inr a)
      ∧ (keyFor s s.bulk.owner (rd s.bulk.data 16 4) verbTransport = .inr k
      ∧ checkKey s.bulk.owner (rd s.bulk.data 16 4) s = s ∧ ∀ (i : Nat), k.ref = KeyRef.slot i → (∀ p ∈ s.adm.owners,
      p.2.root ≠ some i) ∧ ∀ r ∈ s.keys.oldRoots, r.slot ≠ i) ∧ (aUses k.attr = 0)
      ∧ (openRecords k.key (ownerIdBytes s s.bulk.owner) recs = none)) :=
  ⟨⟨ts 1 5 9, wid 2, w1 (ts 1 5 9), a1 (ts 1 5 9), by decide +kernel, waits_head, hasAccord_head, by decide +kernel⟩,
    ⟨ts 0 5 9, wid 2, w1 (ts 0 5 9), a1 (ts 0 5 9),
      the (terminalOf (ts 0 5 9) ((w1 (ts 0 5 9)).func (ts 0 5 9)) (rd (w1 (ts 0 5 9)).input 8 8)), by decide +kernel,
      waits_head, hasAccord_head, by decide +kernel, by decide +kernel, by decide +kernel, by decide +kernel, the_eq,
      by decide +kernel⟩,
    ⟨z17, wid 2, w1 z17, a1 z17, nth (ofOpt (peerRoute z17 (rd (w1 z17).input 0 8)) fun v => [v.1]) 0,
      the (ownerOf z17 ((w1 z17).func z17)).root, by decide +kernel, waits_head, by decide +kernel, by decide +kernel,
      the_eq, by decide +kernel, beq_iff_eq.2 (slot_sealed rfl (by decide +kernel)), by decide +kernel,
      hasAccord_head⟩,
    ⟨ilB, wid 2, w1 ilB, a1 ilB, held1, the (freeSlot ilB), by decide +kernel, waits_head, by decide +kernel, the_eq,
      ilB_find, by decide +kernel, by decide +kernel, by decide +kernel, by decide +kernel,
      hasAccord_head (h2 := congrArg Config.sha384 ilB_input.symm)⟩,
    ⟨z18, wid 2, w1 z18, waits_head, by decide +kernel, by decide +kernel,
      beq_iff_eq.2 (slot_sealed rfl (by decide +kernel)), by decide +kernel⟩,
    ⟨z19, a1 z19, [ktRec false], inr1 (keyFor z19 z19.bulk.owner (rd z19.bulk.data 16 4) verbTransport),
      [(mkAttr 16 1 verbCipher 0, List.replicate 16 9)],
      the (placeAll z19.bulk.owner (decide (rd z19.bulk.data 24 1 = 1)) ([(mkAttr 16 1 verbCipher 0,
      List.replicate 16 9)]) z19), by decide +kernel, by decide +kernel, by decide +kernel,
      splitRecords_one drop_front, by decide +kernel, by decide +kernel, by decide +kernel, by decide +kernel,
      by decide +kernel, by decide +kernel, by decide +kernel, by decide +kernel, accordCheck_head (h2 := rfl),
      ⟨inr_eq, (checkKey_sealed rfl),
      ref_only (by decide +kernel) (by decide +kernel)⟩, by decide +kernel, openRecords_one (unwrap_rec rfl),
      by decide +kernel, the_eq⟩,
    ⟨z20, a1 z20, [ktRec true], inr1 (keyFor z20 z20.bulk.owner (rd z20.bulk.data 16 4) verbTransport),
      by decide +kernel, by decide +kernel, by decide +kernel, splitRecords_one drop_front, by decide +kernel,
      by decide +kernel, by decide +kernel, by decide +kernel, by decide +kernel, by decide +kernel,
      by decide +kernel, by decide +kernel, accordCheck_head (h2 := rfl), ⟨inr_eq,
      (checkKey_sealed rfl), ref_only (by decide +kernel) (by decide +kernel)⟩,
      by decide +kernel, openRecords_bad (unwrap_rec rfl)⟩⟩

end G

namespace H

def kh : State := let s := acc 2 0x13 []; { s with keys := { s.keys with ownerSel := 1, held := [held1], oldRoots := [⟨1, 0x77, 100, 64, 1, 0, 9, none, 0⟩, ⟨1, 0x77, 50, 64, 3, 0, 9, none, 0⟩, ⟨2, 0x77, 50, 64, 3, 0, 9, none, 0⟩], cache := [(1, 1, 64, 3, [1]), (1, 1, 64, 1, [1]), (2, 2, 64, 3, [1])] }, adm := { s.adm with owners := [(1, own1), (2, { own1 with quota := 50 })], owed := [⟨60, 1, 3⟩] } }

def ks : State := { kh with flash := { kh.flash with salt := none }, sys := { kh.sys with state := .booting, bootStep := 8 } }

def kz (n : Nat) : State := { kh with sys := { kh.sys with state := .zeroised }, keys := { kh.keys with zeroStep := n }, otp := { kh.otp with pairsUsed := 3, pairsDone := 2 } }

/-- Every clause of KeyHousekeeping has a case that meets its hypotheses. -/
theorem witness_KeyHousekeeping :
    (∃ (s : State), (alive s = true))
    ∧ (∃ (s : State), (HostMayWrite s 393236) ∧ (s.keys.ownerSel ≠ 0))
    ∧ (∃ (s : State), (alive s = true))
    ∧ (∃ (s : State) (r : FlashRec), (alive s = true) ∧ (dueRecord s = some r))
    ∧ (∃ (s : State), (alive s = true) ∧ (s.sys.state = DevState.booting) ∧ (s.rng.ready = true)
      ∧ (s.evt.committed = true) ∧ (saltBad s = true) ∧ (6 ≤ s.sys.bootStep) ∧ (s.sys.bootStep < 13))
    ∧ (∃ (s : State) (i : Nat) (h : HeldLock), (List.find? (fun x => x.index == i) s.keys.held = some h))
    ∧ (∃ (s : State), (s.sys.state = DevState.zeroised) ∧ (s.keys.zeroStep = 1))
    ∧ (∃ (s : State), (s.sys.state = DevState.zeroised) ∧ (s.keys.zeroStep = 2))
    ∧ (∃ (s : State) (k : Nat), (s.sys.state = DevState.zeroised) ∧ (1 ≤ k) ∧ (k ≤ 7) ∧ (s.keys.zeroStep = 1)) :=
  ⟨⟨kh, by decide +kernel⟩,
    ⟨kh, by decide +kernel⟩,
    ⟨kh, by decide +kernel⟩,
    ⟨kh, the (dueRecord kh), by decide +kernel, the_eq⟩,
    ⟨ks, by decide +kernel⟩,
    ⟨kh, 3, held1, rfl⟩,
    ⟨kz 1, by decide +kernel⟩,
    ⟨kz 2, by decide +kernel⟩,
    ⟨kz 1, 1, by decide +kernel⟩⟩

end H

end Keyed

namespace Link

namespace A

def body0 : Bytes := [4] ++ zeros 4722

def z1 : State := netSt { idle1 with hs := some (hs1 1 9 0), state := 2 }

def z2 : State := netSt { idle1 with hs := some (hs1 2 9 4), state := 2 }

def z3 : State := netSt { idle1 with hs := some (hs1 3 9 0), state := 2 }

def z4 : State := netSt { peer1 with cur := some (sess 9), drain := some (sess 10) }

def z5 : State := netSt { idle1 with hs := some (hs1 2 9 5), state := 2 }

def z6 : State := netSt { peer1 with cur := some { sess 9 with owedAcks := 3, expiries := 7 } }

def z7 : State := netSt { peer1 with hs := some (hs1 3 9 0), cur := some (sess 8) }

/-- Every clause of LinzenSessions has a case that meets its hypotheses. -/
theorem witness_LinzenSessions :
    (∃ (s : State) (f : LinzenFrame) (i : Nat) (p : Peer), (portUp s f.port = true ∧ f.type = 1 ∧ frameRow s f = none
      ∧ peerIndex s (BitVec.ofNat 64 f.srcId) = some i ∧ peerOf s i = some p) ∧ (helloYields s p f = false)
      ∧ (canDraw s = true) ∧ (p.hs = none) ∧ (running s < 16))
    ∧ (∃ (s : State) (f : LinzenFrame) (i : Nat) (p : Peer) (h : Handshake), (portUp s f.port = true ∧ f.type = 2
      ∧ frameRow s f = none ∧ peerIndex s (BitVec.ofNat 64 f.srcId) = some i ∧ peerOf s i = some p) ∧ (p.hs = some h)
      ∧ (h.stage = 1) ∧ (h.num = f.session))
    ∧ (∃ (s : State) (f : LinzenFrame) (i : Nat) (p : Peer) (h : Handshake), (p.hs = some h) ∧ (h.num = f.session)
      ∧ (p.drain = none) ∧ (portUp s f.port = true ∧ f.type = 3 ∧ frameRow s f = none
      ∧ peerIndex s (BitVec.ofNat 64 f.srcId) = some i ∧ peerOf s i = some p) ∧ (h.stage = 2))
    ∧ (∃ (s : State) (f : LinzenFrame) (i : Nat) (p : Peer) (h : Handshake), (p.hs = some h) ∧ (h.num = f.session)
      ∧ (p.drain = none) ∧ (portUp s f.port = true ∧ f.type = 5 ∧ frameRow s f = none
      ∧ peerIndex s (BitVec.ofNat 64 f.srcId) = some i ∧ peerOf s i = some p) ∧ (h.stage = 3))
    ∧ (∃ (s : State) (f : LinzenFrame) (i : Nat) (p : Peer) (x : Session), (p.hs = none) ∧ (p.cur = some x)
      ∧ (x.num = f.session) ∧ (x.acked < f.ack) ∧ (f.ack ≤ x.sent) ∧ (portUp s f.port = true ∧ f.type = 5
      ∧ frameRow s f = none ∧ peerIndex s (BitVec.ofNat 64 f.srcId) = some i ∧ peerOf s i = some p))
    ∧ (∃ (s : State) (f : LinzenFrame) (i : Nat) (p : Peer) (x : Session), (p.hs = none) ∧ (p.cur = some x)
      ∧ (x.num = f.session) ∧ (x.acked < f.ack) ∧ (f.ack ≤ x.sent) ∧ (portUp s f.port = true ∧ f.type = 6
      ∧ frameRow s f = none ∧ peerIndex s (BitVec.ofNat 64 f.srcId) = some i ∧ peerOf s i = some p))
    ∧ (∃ (s : State) (f : LinzenFrame) (i : Nat) (p : Peer) (x : Session), (portUp s f.port = true ∧ f.type = 4
      ∧ frameRow s f = none ∧ peerIndex s (BitVec.ofNat 64 f.srcId) = some i ∧ peerOf s i = some p) ∧ (p.cur = some x)
      ∧ (x.num = f.session) ∧ (f.seq = x.got + 1))
    ∧ (∃ (s : State) (f : LinzenFrame) (i : Nat) (p : Peer) (x : Session), (portUp s f.port = true ∧ f.type = 4
      ∧ frameRow s f = none ∧ peerIndex s (BitVec.ofNat 64 f.srcId) = some i ∧ peerOf s i = some p) ∧ (p.cur = some x)
      ∧ (x.num = f.session) ∧ (f.seq ≠ x.got + 1))
    ∧ (∃ (s : State) (f : LinzenFrame) (i : Nat) (p : Peer), (portUp s f.port = true ∧ f.type = 7
      ∧ frameRow s f = none ∧ peerIndex s (BitVec.ofNat 64 f.srcId) = some i ∧ peerOf s i = some p)
      ∧ (Option.map (fun x => x.num) p.cur = some f.session))
    ∧ (∃ (s : State) (f : LinzenFrame) (i : Nat) (p : Peer), (portUp s f.port = true ∧ f.type = 7
      ∧ frameRow s f = none ∧ peerIndex s (BitVec.ofNat 64 f.srcId) = some i ∧ peerOf s i = some p)
      ∧ (Option.map (fun x => x.num) p.cur ≠ some f.session) ∧ (Option.map (fun x => x.num) p.drain = some f.session))
    ∧ (∃ (s : State) (i : Nat) (p : Peer) (h : Handshake), (portsRun s = true) ∧ (peerOf s i = some p)
      ∧ (p.hs = some h) ∧ (h.tries < 5))
    ∧ (∃ (s : State) (i : Nat) (p : Peer) (h : Handshake), (portsRun s = true) ∧ (peerOf s i = some p)
      ∧ (p.hs = some h) ∧ (5 ≤ h.tries))
    ∧ (∃ (s : State) (i : Nat) (p : Peer), (portsRun s = true) ∧ (peerOf s i = some p) ∧ (mayStart s p = true)
      ∧ (p.state = 1) ∧ (p.retry = true))
    ∧ (∃ (s : State) (i : Nat) (p : Peer), (portsRun s = true) ∧ (peerOf s i = some p) ∧ (mayStart s p = true)
      ∧ (p.cur.isSome = true))
    ∧ (∃ (s : State) (i : Nat) (p : Peer), (portsRun s = true) ∧ (peerOf s i = some p) ∧ (p.drain.isSome = true))
    ∧ (∃ (s : State) (i : Nat) (p : Peer) (x : Session), (portsRun s = true) ∧ (peerOf s i = some p)
      ∧ (p.cur = some x) ∧ (0 < x.owedAcks))
    ∧ (∃ (s : State) (i : Nat) (p : Peer) (x : Session), (portsRun s = true) ∧ (peerOf s i = some p)
      ∧ (p.cur = some x) ∧ (x.flight ≠ []) ∧ (7 ≤ x.expiries))
    ∧ (∃ (s : State) (i : Nat) (p : Peer) (x : Session), (portsRun s = true) ∧ (peerOf s i = some p)
      ∧ (p.cur = some x) ∧ (x.flight ≠ []) ∧ (x.expiries < 7)) :=
  ⟨⟨netSt idle1, frm 1 77 0 0 body0, the (peerIndex (netSt idle1) (BitVec.ofNat 64 (frm 1 77 0 0 body0).srcId)),
    the (peerOf (netSt idle1) (the (peerIndex (netSt idle1) (BitVec.ofNat 64 (frm 1 77 0 0 body0).srcId)))),
    ⟨by decide +kernel, by decide +kernel, by decide +kernel, the_eq, the_eq⟩, by decide +kernel⟩,
    ⟨z1, frm 2 9 0 0 body0, the (peerIndex z1 (BitVec.ofNat 64 (frm 2 9 0 0 body0).srcId)),
      the (peerOf z1 (the (peerIndex z1 (BitVec.ofNat 64 (frm 2 9 0 0 body0).srcId)))),
      the (the (peerOf z1 (the (peerIndex z1 (BitVec.ofNat 64 (frm 2 9 0 0 body0).srcId))))).hs, ⟨by decide +kernel,
      by decide +kernel, by decide +kernel, the_eq, the_eq⟩, the_eq, by decide +kernel⟩,
    ⟨z2, frm 3 9 0 0 (finCode [] 0), the (peerIndex z2 (BitVec.ofNat 64 (frm 3 9 0 0 (finCode [] 0)).srcId)),
      the (peerOf z2 (the (peerIndex z2 (BitVec.ofNat 64 (frm 3 9 0 0 (finCode [] 0)).srcId)))),
      the (the (peerOf z2 (the (peerIndex z2 (BitVec.ofNat 64 (frm 3 9 0 0 (finCode [] 0)).srcId))))).hs, the_eq,
      by decide +kernel, by decide +kernel, ⟨by decide +kernel, by decide +kernel, by decide +kernel, the_eq, the_eq⟩,
      by decide +kernel⟩,
    ⟨z3, frm 5 9 0 3 [], the (peerIndex z3 (BitVec.ofNat 64 (frm 5 9 0 3 []).srcId)),
      the (peerOf z3 (the (peerIndex z3 (BitVec.ofNat 64 (frm 5 9 0 3 []).srcId)))),
      the (the (peerOf z3 (the (peerIndex z3 (BitVec.ofNat 64 (frm 5 9 0 3 []).srcId))))).hs, the_eq,
      by decide +kernel, by decide +kernel, ⟨by decide +kernel, by decide +kernel, by decide +kernel, the_eq, the_eq⟩,
      by decide +kernel⟩,
    ⟨z4, frm 5 9 0 3 [], the (peerIndex z4 (BitVec.ofNat 64 (frm 5 9 0 3 []).srcId)),
      the (peerOf z4 (the (peerIndex z4 (BitVec.ofNat 64 (frm 5 9 0 3 []).srcId)))),
      the (the (peerOf z4 (the (peerIndex z4 (BitVec.ofNat 64 (frm 5 9 0 3 []).srcId))))).cur, by decide +kernel,
      the_eq, by decide +kernel, by decide +kernel, by decide +kernel, ⟨by decide +kernel, by decide +kernel,
      by decide +kernel, the_eq, the_eq⟩⟩,
    ⟨z4, frm 6 9 0 4 [], the (peerIndex z4 (BitVec.ofNat 64 (frm 6 9 0 4 []).srcId)),
      the (peerOf z4 (the (peerIndex z4 (BitVec.ofNat 64 (frm 6 9 0 4 []).srcId)))),
      the (the (peerOf z4 (the (peerIndex z4 (BitVec.ofNat 64 (frm 6 9 0 4 []).srcId))))).cur, by decide +kernel,
      the_eq, by decide +kernel, by decide +kernel, by decide +kernel, ⟨by decide +kernel, by decide +kernel,
      by decide +kernel, the_eq, the_eq⟩⟩,
    ⟨z4, frm 4 9 8 3 (message 2 1 1 [1]),
      the (peerIndex z4 (BitVec.ofNat 64 (frm 4 9 8 3 (message 2 1 1 [1])).srcId)),
      the (peerOf z4 (the (peerIndex z4 (BitVec.ofNat 64 (frm 4 9 8 3 (message 2 1 1 [1])).srcId)))),
      the (the (peerOf z4 (the (peerIndex z4 (BitVec.ofNat 64 (frm 4 9 8 3 (message 2 1 1 [1])).srcId))))).cur,
      ⟨by decide +kernel, by decide +kernel, by decide +kernel, the_eq, the_eq⟩, the_eq, by decide +kernel⟩,
    ⟨z4, frm 4 9 9 0 (message 2 1 1 [1]),
      the (peerIndex z4 (BitVec.ofNat 64 (frm 4 9 9 0 (message 2 1 1 [1])).srcId)),
      the (peerOf z4 (the (peerIndex z4 (BitVec.ofNat 64 (frm 4 9 9 0 (message 2 1 1 [1])).srcId)))),
      the (the (peerOf z4 (the (peerIndex z4 (BitVec.ofNat 64 (frm 4 9 9 0 (message 2 1 1 [1])).srcId))))).cur,
      ⟨by decide +kernel, by decide +kernel, by decide +kernel, the_eq, the_eq⟩, the_eq, by decide +kernel⟩,
    ⟨z4, frm 7 9 0 0 [], the (peerIndex z4 (BitVec.ofNat 64 (frm 7 9 0 0 []).srcId)),
      the (peerOf z4 (the (peerIndex z4 (BitVec.ofNat 64 (frm 7 9 0 0 []).srcId)))), ⟨by decide +kernel,
      by decide +kernel, by decide +kernel, the_eq, the_eq⟩, by decide +kernel⟩,
    ⟨z4, frm 7 10 0 0 [], the (peerIndex z4 (BitVec.ofNat 64 (frm 7 10 0 0 []).srcId)),
      the (peerOf z4 (the (peerIndex z4 (BitVec.ofNat 64 (frm 7 10 0 0 []).srcId)))), ⟨by decide +kernel,
      by decide +kernel, by decide +kernel, the_eq, the_eq⟩, by decide +kernel⟩,
    ⟨z1, 2, the (peerOf z1 2), the (the (peerOf z1 2)).hs, by decide +kernel, the_eq, the_eq, by decide +kernel⟩,
    ⟨z5, 2, the (peerOf z5 2), the (the (peerOf z5 2)).hs, by decide +kernel, the_eq, the_eq, by decide +kernel⟩,
    ⟨netSt idle1, 2, the (peerOf (netSt idle1) 2), by decide +kernel, the_eq, by decide +kernel⟩,
    ⟨netSt idle1, 5, the (peerOf (netSt idle1) 5), by decide +kernel, the_eq, by decide +kernel⟩,
    ⟨z4, 2, the (peerOf z4 2), by decide +kernel, the_eq, by decide +kernel⟩,
    ⟨z6, 2, the (peerOf z6 2), the (the (peerOf z6 2)).cur, by decide +kernel, the_eq, the_eq, by decide +kernel⟩,
    ⟨z6, 2, the (peerOf z6 2), the (the (peerOf z6 2)).cur, by decide +kernel, the_eq, the_eq, by decide +kernel⟩,
    ⟨z7, 2, the (peerOf z7 2), the (the (peerOf z7 2)).cur, by decide +kernel, the_eq, the_eq, by decide +kernel⟩⟩

end A

namespace B

def dn (s : State) (c : W32) : State := { s with jct := { s.jct with port0 := { s.jct.port0 with up := false, cfg := c } } }

def pa (s : State) : State := { s with jct := { s.jct with port0 := { s.jct.port0 with paused := true, held := [(1, [1]), (2, [2])] } } }

def z8 : State := dn (netSt peer1) 0x80000001

/-- Every clause of PortEvents has a case that meets its hypotheses. -/
theorem witness_PortEvents :
    (∃ (s : State) (port : Nat), (port < 2) ∧ (portsRun s = true) ∧ ((portOf s port).up = false)
      ∧ (BitVec.getLsbD (portOf s port).cfg 0 = true) ∧ ((portOf s port).media ≠ 0))
    ∧ (∃ (s : State) (port : Nat), (port < 2) ∧ (portsRun s = true) ∧ ((portOf s port).up = true))
    ∧ (∃ (s : State) (port : Nat), (port < 2) ∧ (HostMayWrite s (589840 + 4 * port))
      ∧ (BitVec.getLsbD (portOf s port).cfg 31 = true))
    ∧ (∃ (s : State) (port : Nat), (port < 2) ∧ (HostMayWrite s (589840 + 4 * port))
      ∧ (BitVec.getLsbD (portOf s port).cfg 31 = false))
    ∧ (∃ (s : State) (port : Nat) (target : BitVec 128), (port < 2) ∧ (portUp s port = true)
      ∧ (target = (portOf s port).ip) ∧ ((portOf s port).paused = false))
    ∧ (∃ (s : State) (port : Nat) (target : BitVec 128), (port < 2) ∧ (portUp s port = true)
      ∧ (target ≠ (portOf s port).ip))
    ∧ (∃ (s : State) (port q : Nat), (port < 2) ∧ (portUp s port = true) ∧ (q ≠ 0))
    ∧ (∃ (s : State) (port : Nat), (port < 2) ∧ (portUp s port = true) ∧ ((portOf s port).paused = true))
    ∧ (∃ (s : State) (port : Nat), (port < 2) ∧ (portsRun s = true) ∧ (s.evt.staging = false ∧ (∀ e ∈ s.evt.evs.head?,
      e.code ≠ 2818) ∧ ∀ p ∈ s.cnt.cfg, cfgSelects p.2 15 [0] 0 = false)) :=
  ⟨⟨dn (netSt peer1) 1, 0, by decide +kernel⟩,
    ⟨netSt peer1, 0, by decide +kernel⟩,
    ⟨z8, 0, by decide +kernel⟩,
    ⟨netSt peer1, 0, by decide +kernel⟩,
    ⟨netSt peer1, 0, nth ([(portOf (netSt peer1) 0).ip]) 0, by decide +kernel⟩,
    ⟨netSt peer1, 0, 0x00000000000000000000000000000006#128, by decide +kernel⟩,
    ⟨netSt peer1, 0, 1, by decide +kernel⟩,
    ⟨pa (netSt peer1), 0, by decide +kernel⟩,
    ⟨netSt peer1, 0, by decide +kernel⟩⟩

end B

namespace C

def rs (s : State) : State := { s with sys := { s.sys with state := .restoring } }

def hd (d : Nat) : Bytes := le 8 d ++ le 48 7

def z9 : State := inb (message 1 1 1 (hd 49))

def z10 : State := inb (message 1 2 1 (le 8 5)) { peer1 with offer := some (5, 6) }

def z11 : State := inb (message 1 3 1 (le 8 1))

def z12 : State := rs (inb (message 1 4 1 (le 8 1 ++ le 8 41)))

def z13 : State := inb (message 3 2 1 (le 8 0x77 ++ le 8 5 ++ [0]))

def z14 : State := inb (message 4 1 1 (le 8 6)) { peer1 with timeOwed := [(5, 6)] }

def z15 : State := inb (message 4 2 1 (le 8 6 ++ le 8 10 ++ le 8 12 ++ [2, 1] ++ zeros 6 ++ le 8 50)) { peer1 with timeReq := some (6, 7) }

def z16 : State := inb (message 4 2 1 (le 8 6 ++ le 8 10 ++ le 8 12 ++ [3, 1] ++ zeros 6 ++ le 8 50)) { peer1 with timeReq := some (6, 7) }

/-- Every clause of PeerMessages has a case that meets its hypotheses. -/
theorem witness_PeerMessages :
    (∃ (s : State) (i : Nat) (p : Peer) (m : Bytes), (Delivered s i 1 1 p m))
    ∧ (∃ (s : State) (i : Nat) (p : Peer) (m : Bytes), (Delivered s i 1 2 p m))
    ∧ (∃ (s : State) (i : Nat) (p : Peer) (m : Bytes), (Delivered s i 1 3 p m))
    ∧ (∃ (s : State) (i : Nat) (p : Peer) (m : Bytes), (Delivered s i 1 4 p m))
    ∧ (∃ (s : State) (i : Nat) (p : Peer) (m : Bytes), (Delivered s i 3 1 p m))
    ∧ (∃ (s : State) (i : Nat) (p : Peer) (m : Bytes) (e : Nat × Work), (Delivered s i 3 2 p m)
      ∧ (List.find? (fun e => e.1 == i && BitVec.toNat (ownerOf s (e.2.func s)).id == rd (List.drop 8 m) 0 8) s.keys.sends = some e)
      ∧ (ringTakes (ringOf s e.2.ring) e.2.gen = true))
    ∧ (∃ (s : State) (i : Nat) (p : Peer) (m : Bytes), (Delivered s i 4 1 p m))
    ∧ (∃ (s : State) (i : Nat) (p : Peer) (req t2 : Nat) (rest : List (Nat × Nat)), (portsRun s = true)
      ∧ (peerOf s i = some p) ∧ (p.timeOwed = (req, t2) :: rest))
    ∧ (∃ (s : State) (i : Nat) (p : Peer), (portsRun s = true) ∧ (peerOf s i = some p) ∧ (timePeer p = true)
      ∧ (p.cur.isSome = true))
    ∧ (∃ (s : State) (i : Nat) (p : Peer) (m : Bytes) (t1 : Nat), (Delivered s i 4 2 p m)
      ∧ (rd (List.drop 8 m) 24 1 = 2) ∧ (rd (List.drop 8 m) 25 1 ≠ 4) ∧ (p.timeReq = some (rd (List.drop 8 m) 0 8,
      t1)))
    ∧ (∃ (s : State) (i : Nat) (p : Peer) (m : Bytes), (Delivered s i 4 2 p m)
      ∧ (rd (List.drop 8 m) 24 1 ≠ 2 ∨ rd (List.drop 8 m) 25 1 = 4 ∨ Option.map (fun x => x.1) p.timeReq ≠ some (rd (List.drop 8 m) 0 8))) :=
  ⟨⟨z9, 2, the (peerOf z9 2), the (List.find? (fun m => rd m 0 1 == 1 && rd m 1 1 == 1) (the (peerOf z9 2)).inbox),
    ⟨by decide +kernel, the_eq, the_eq⟩⟩,
    ⟨z10, 2, the (peerOf z10 2),
      the (List.find? (fun m => rd m 0 1 == 1 && rd m 1 1 == 2) (the (peerOf z10 2)).inbox), ⟨by decide +kernel,
      the_eq, the_eq⟩⟩,
    ⟨z11, 2, the (peerOf z11 2),
      the (List.find? (fun m => rd m 0 1 == 1 && rd m 1 1 == 3) (the (peerOf z11 2)).inbox), ⟨by decide +kernel,
      the_eq, the_eq⟩⟩,
    ⟨z12, 2, the (peerOf z12 2),
      the (List.find? (fun m => rd m 0 1 == 1 && rd m 1 1 == 4) (the (peerOf z12 2)).inbox), ⟨by decide +kernel,
      the_eq, the_eq⟩⟩,
    ⟨inb (lockMsg 0x77), 2, the (peerOf (inb (lockMsg 0x77)) 2),
      the (List.find? (fun m => rd m 0 1 == 3 && rd m 1 1 == 1) (the (peerOf (inb (lockMsg 0x77)) 2)).inbox),
      ⟨by decide +kernel, the_eq, the_eq⟩⟩,
    ⟨z13, 2, the (peerOf z13 2),
      the (List.find? (fun m => rd m 0 1 == 3 && rd m 1 1 == 2) (the (peerOf z13 2)).inbox),
      the (List.find? (fun e => e.1 == 2 && BitVec.toNat (ownerOf z13 (e.2.func z13)).id == rd (List.drop 8 (the (List.find? (fun m => rd m 0 1 == 3 && rd m 1 1 == 2) (the (peerOf z13 2)).inbox))) 0 8) z13.keys.sends),
      ⟨by decide +kernel, the_eq, the_eq⟩, the_eq, by decide +kernel⟩,
    ⟨z14, 2, the (peerOf z14 2),
      the (List.find? (fun m => rd m 0 1 == 4 && rd m 1 1 == 1) (the (peerOf z14 2)).inbox), ⟨by decide +kernel,
      the_eq, the_eq⟩⟩,
    ⟨z14, 2, the (peerOf z14 2), nth (ofHd (the (peerOf z14 2)).timeOwed fun v => [v.1]) 0,
      nth (ofHd (the (peerOf z14 2)).timeOwed fun v => [v.2]) 0, tl1 (the (peerOf z14 2)).timeOwed, by decide +kernel,
      the_eq, by decide +kernel⟩,
    ⟨z9, 2, the (peerOf z9 2), by decide +kernel, the_eq, by decide +kernel⟩,
    ⟨z15, 2, the (peerOf z15 2),
      the (List.find? (fun m => rd m 0 1 == 4 && rd m 1 1 == 2) (the (peerOf z15 2)).inbox),
      nth (ofOpt (the (peerOf z15 2)).timeReq fun v => [v.2]) 0, ⟨by decide +kernel, the_eq, the_eq⟩,
      by decide +kernel⟩,
    ⟨z16, 2, the (peerOf z16 2),
      the (List.find? (fun m => rd m 0 1 == 4 && rd m 1 1 == 2) (the (peerOf z16 2)).inbox), ⟨by decide +kernel,
      the_eq, the_eq⟩, by decide +kernel⟩⟩

end C

namespace D

def cl (s : State) : State := { s with dep := s.dep }

def z17 : State := peerWk 0x80 [1, 2, 3] peer1

def z18 : State := peerWk 0x80 (addBody 3 1 (le 4 5)) peer1

def z19 : State := peerWk 0x80 (addBody 2 1 (cert1 0x99)) peer1

def z20 : State := peerWk 0x80 (addBody 3 1 (cert1 0x99)) peer1

def z21 : State := peerWk 0x82 (addBody 2 3 []) { peer1 with state := 4 }

def z22 : State := peerWk 0x84 [2] { peer1 with hs := some (hs1 1 9 0) }

/-- Every clause of PeerCommands has a case that meets its hypotheses. -/
theorem witness_PeerCommands :
    (∃ (s : State) (id : WorkId) (w : Work), (Waits s id 128 w) ∧ (peerFormOk w.input = false))
    ∧ (∃ (s : State) (id : WorkId) (w : Work), (Waits s id 128 w) ∧ (peerFormOk w.input = true)
      ∧ (certOk s (List.drop 80 w.input) = false))
    ∧ ((∀ k p m g, Config.verify k p m g = true) → ∃ (s : State) (id : WorkId) (w : Work), (Waits s id 128 w)
      ∧ (peerFormOk w.input = true) ∧ (certOk s (List.drop 80 w.input) = true)
      ∧ (BitVec.ofNat 64 (rd (List.drop 80 w.input) 8 8) = s.otp.deviceId ∨ (peerIndex s (BitVec.ofNat 64 (rd (List.drop 80 w.input) 8 8))).isSome = true ∨ (∃ a ∈ s.vm.adopted,
      a.2.2 = BitVec.ofNat 64 (rd (List.drop 80 w.input) 8 8)) ∨ (peerOf s (rd w.input 0 2)).isSome = true))
    ∧ ((∀ k p m g, Config.verify k p m g = true) → ∃ (s : State) (id : WorkId) (w : Work), (Waits s id 128 w)
      ∧ (peerFormOk w.input = true) ∧ (certOk s (List.drop 80 w.input) = true)
      ∧ (¬(BitVec.ofNat 64 (rd (List.drop 80 w.input) 8 8) = s.otp.deviceId ∨ (peerIndex s (BitVec.ofNat 64 (rd (List.drop 80 w.input) 8 8))).isSome = true ∨ (∃ a ∈ s.vm.adopted,
      a.2.2 = BitVec.ofNat 64 (rd (List.drop 80 w.input) 8 8)) ∨ (peerOf s (rd w.input 0 2)).isSome = true)))
    ∧ (∃ (s : State) (id : WorkId) (w : Work), (peerOf s (rd w.input 0 2) = none) ∧ (Waits s id 129 w))
    ∧ (∃ (s : State) (id : WorkId) (w : Work), (peerOf s (rd w.input 0 2) = none) ∧ (Waits s id 130 w))
    ∧ (∃ (s : State) (id : WorkId) (w : Work), (peerOf s (rd w.input 0 2) = none) ∧ (Waits s id 131 w))
    ∧ (∃ (s : State) (id : WorkId) (w : Work), (peerOf s (rd w.input 0 2) = none) ∧ (Waits s id 132 w))
    ∧ (∃ (s : State) (id : WorkId) (w : Work), (peerOf s (rd w.input 0 2) = none) ∧ (Waits s id 133 w))
    ∧ (∃ (s : State) (id : WorkId) (w : Work) (p : Peer), (peerOf s (rd w.input 0 2) = some p) ∧ (Waits s id 129 w))
    ∧ (∃ (s : State) (id : WorkId) (w : Work) (p : Peer), (peerOf s (rd w.input 0 2) = some p) ∧ (Waits s id 130 w)
      ∧ (peerFormOk w.input = false))
    ∧ (∃ (s : State) (id : WorkId) (w : Work) (p : Peer), (peerOf s (rd w.input 0 2) = some p) ∧ (Waits s id 130 w)
      ∧ (peerFormOk w.input = true))
    ∧ (∃ (s : State) (id : WorkId) (w : Work) (p : Peer), (peerOf s (rd w.input 0 2) = some p) ∧ (Waits s id 131 w))
    ∧ (∃ (s : State) (id : WorkId) (w : Work) (p : Peer), (peerOf s (rd w.input 0 2) = some p) ∧ (Waits s id 132 w)
      ∧ (p.hs.isSome = true))
    ∧ (∃ (s : State) (id : WorkId) (w : Work) (p : Peer), (peerOf s (rd w.input 0 2) = some p) ∧ (Waits s id 132 w)
      ∧ (mayStart s p = true))
    ∧ (∃ (s : State) (id : WorkId) (w : Work) (p : Peer), (peerOf s (rd w.input 0 2) = some p) ∧ (Waits s id 133 w)
      ∧ (p.cur = none))
    ∧ (∃ (s : State) (id : WorkId) (w : Work) (p : Peer), (peerOf s (rd w.input 0 2) = some p) ∧ (Waits s id 133 w)
      ∧ (p.cur.isSome = true)) :=
  ⟨⟨z17, wid 6, w1 z17, waits_head, by decide +kernel⟩,
    ⟨z18, wid 6, w1 z18, waits_head, by decide +kernel⟩,
    (fun h => ⟨z19, wid 6, w1 z19, waits_head, by decide +kernel, by simp only [certOk, vendorOk, h]; decide +kernel,
      by decide +kernel⟩),
    (fun h => ⟨z20, wid 6, w1 z20, waits_head, by decide +kernel, by simp only [certOk, vendorOk, h]; decide +kernel,
      by decide +kernel⟩),
    ⟨peerWk 0x81 [9] peer1, wid 6, w1 (peerWk 0x81 [9] peer1), by decide +kernel, waits_head⟩,
    ⟨peerWk 0x82 [9] peer1, wid 6, w1 (peerWk 0x82 [9] peer1), by decide +kernel, waits_head⟩,
    ⟨peerWk 0x83 [9] peer1, wid 6, w1 (peerWk 0x83 [9] peer1), by decide +kernel, waits_head⟩,
    ⟨peerWk 0x84 [9] peer1, wid 6, w1 (peerWk 0x84 [9] peer1), by decide +kernel, waits_head⟩,
    ⟨peerWk 0x85 [9] peer1, wid 6, w1 (peerWk 0x85 [9] peer1), by decide +kernel, waits_head⟩,
    ⟨peerWk 0x81 [2] peer1, wid 6, w1 (peerWk 0x81 [2] peer1),
      the (peerOf (peerWk 0x81 [2] peer1) (rd (w1 (peerWk 0x81 [2] peer1)).input 0 2)), the_eq, waits_head⟩,
    ⟨peerWk 0x82 [2] peer1, wid 6, w1 (peerWk 0x82 [2] peer1),
      the (peerOf (peerWk 0x82 [2] peer1) (rd (w1 (peerWk 0x82 [2] peer1)).input 0 2)), the_eq, waits_head,
      by decide +kernel⟩,
    ⟨z21, wid 6, w1 z21, the (peerOf z21 (rd (w1 z21).input 0 2)), the_eq, waits_head, by decide +kernel⟩,
    ⟨peerWk 0x83 [2] peer1, wid 6, w1 (peerWk 0x83 [2] peer1),
      the (peerOf (peerWk 0x83 [2] peer1) (rd (w1 (peerWk 0x83 [2] peer1)).input 0 2)), the_eq, waits_head⟩,
    ⟨z22, wid 6, w1 z22, the (peerOf z22 (rd (w1 z22).input 0 2)), the_eq, waits_head, by decide +kernel⟩,
    ⟨peerWk 0x84 [2] peer1, wid 6, w1 (peerWk 0x84 [2] peer1),
      the (peerOf (peerWk 0x84 [2] peer1) (rd (w1 (peerWk 0x84 [2] peer1)).input 0 2)), the_eq, waits_head,
      by decide +kernel⟩,
    ⟨peerWk 0x85 [2] idle1, wid 6, w1 (peerWk 0x85 [2] idle1),
      the (peerOf (peerWk 0x85 [2] idle1) (rd (w1 (peerWk 0x85 [2] idle1)).input 0 2)), the_eq, waits_head,
      by decide +kernel⟩,
    ⟨peerWk 0x85 [2] peer1, wid 6, w1 (peerWk 0x85 [2] peer1),
      the (peerOf (peerWk 0x85 [2] peer1) (rd (w1 (peerWk 0x85 [2] peer1)).input 0 2)), the_eq, waits_head,
      by decide +kernel⟩⟩

end D

end Link

namespace Store

theorem error_none {w : List Nat} : errorSymbols w (received [] w) = [] := by simp [errorSymbols, received]

theorem error_flip {line : Bytes} {d b : Nat}
    (h : (List.range 40).filter (· == (symbolBit d b).1) = [(symbolBit d b).1] := by decide +kernel) :
    errorSymbols (codeword line) (received [(d, b)] (codeword line)) = [(symbolBit d b).1] := by
  rw [← h]
  unfold errorSymbols
  refine List.filter_congr fun i hi => ?_
  have hw : (codeword line).length = 40 := by simp [codeword]
  have hi : i < 40 := List.mem_range.1 hi
  simp only [received, List.foldl_cons, List.foldl_nil]
  by_cases e : i = (symbolBit d b).1
  · have : (codeword line)[i].xor (2 ^ (symbolBit d b).2) ≠ (codeword line)[i] := by
      intro x
      have y : ((codeword line)[i] ^^^ ((codeword line)[i] ^^^ 2 ^ (symbolBit d b).2)) = (codeword line)[i] ^^^ (codeword line)[i] :=
        congrArg _ x
      rw [← Nat.xor_assoc, Nat.xor_self, Nat.zero_xor] at y
      exact absurd y (Nat.pos_iff_ne_zero.1 (Nat.two_pow_pos _))
    simp only [← e, beq_self_eq_true, bne_iff_ne, ne_eq]
    simp [List.getD_eq_getElem?_getD, hw, hi]
    exact fun x => this x.symm
  · simp [List.getD_eq_getElem?_getD, e, Ne.symm e]

namespace A

def vd (st : Nat) : Bytes := message 2 2 1 (le 8 90 ++ le 8 8 ++ le 8 st ++ List.replicate 32 5)

def ad (dev ix o : Nat) : State := let s := acc 6 0x74 (le 8 dev ++ [BitVec.ofNat 8 ix, BitVec.ofNat 8 o] ++ zeros 6); { s with vm := { s.vm with adopted := [(1, 5, 0x66)] } }

def z1 : State := inb (message 2 1 3 (zeros 96)) { peer1 with cur := some (sess 9) }

/-- Every clause of RoutedClaimsAndAdopt has a case that meets its hypotheses. -/
theorem witness_RoutedClaimsAndAdopt :
    (∃ (s : State) (i : Nat) (p : Peer), (portsRun s = true) ∧ (peerOf s i = some p) ∧ (p.cur.isSome = true)
      ∧ (List.take 127 (List.filter (fun c => c.peer == i && !c.sent) s.vm.claims) ≠ []))
    ∧ (∃ (s : State) (i : Nat) (p : Peer) (m : Bytes), (Delivered s i 2 1 p m) ∧ (s.sys.stableBusy = false)
      ∧ (undecided s + min 127 (rd m 2 2) ≤ 65536))
    ∧ (∃ (s : State) (i : Nat) (p : Peer) (m : Bytes) (c : RoutedClaim), (Delivered s i 2 2 p m) ∧ (rd m 2 2 = 1)
      ∧ (List.find? (fun c => c.peer == i && c.sent && Option.map (fun x => x.seq) c.work.stamp == some (rd (List.drop 8 m) 0 8)) s.vm.claims = some c)
      ∧ (ringTakes (ringOf s c.work.ring) c.work.gen = true))
    ∧ (∃ (s : State) (q : Nat) (c : RoutedClaim),
      (List.find? (fun c => c.sent && Option.map (fun x => x.seq) c.work.stamp == some q) s.vm.claims = some c)
      ∧ (ringTakes (ringOf s c.work.ring) c.work.gen = true))
    ∧ (∃ (s : State) (id : WorkId) (w : Work) (st : Stamp) (k : Ticket) (g : Game) (b : Book), (Waits s id 17 w)
      ∧ (w.stamp = some st) ∧ (s.vm.stopped = false)
      ∧ ((claimAuth w (w.func s) (placeDie s (w.func s) (hTerminal w.src)) s).1 = none)
      ∧ (claimDev w.src = BitVec.toNat s.otp.deviceId) ∧ (ticketOf s (w.func s) 0 (claimSeq w.src) = some k)
      ∧ (findGame s (w.func s) k.game = some g) ∧ (cancelBook s g = some b))
    ∧ (∃ (s : State) (id : WorkId) (w : Work) (st : Stamp), (Waits s id 17 w) ∧ (w.stamp = some st)
      ∧ (s.vm.stopped = false) ∧ ((claimAuth w (w.func s) (placeDie s (w.func s) (hTerminal w.src)) s).1 = none)
      ∧ (nonceAdvances s (w.func s) (hTerminal w.src) (hTense w.src) (hCtr w.src) = true)
      ∧ ((terminalOf s (w.func s) (hTerminal w.src)).isSome = true) ∧ (¬claimDev w.src = BitVec.toNat s.otp.deviceId))
    ∧ (∃ (s : State) (id : WorkId) (w : Work) (st : Stamp), (Waits s id 17 w) ∧ (w.stamp = some st)
      ∧ (s.vm.stopped = false) ∧ ((claimAuth w (w.func s) (placeDie s (w.func s) (hTerminal w.src)) s).1 = none)
      ∧ (nonceAdvances s (w.func s) (hTerminal w.src) (hTense w.src) (hCtr w.src) = true)
      ∧ ((terminalOf s (w.func s) (hTerminal w.src)).isSome = true) ∧ (claimDev w.src = BitVec.toNat s.otp.deviceId)
      ∧ (ticketOf s (w.func s) 0 (claimSeq w.src) = none))
    ∧ (∃ (s : State) (id : WorkId) (w : Work) (st : Stamp) (k : Ticket) (g : Game), (Waits s id 17 w)
      ∧ (w.stamp = some st) ∧ (s.vm.stopped = false)
      ∧ ((claimAuth w (w.func s) (placeDie s (w.func s) (hTerminal w.src)) s).1 = none)
      ∧ (nonceAdvances s (w.func s) (hTerminal w.src) (hTense w.src) (hCtr w.src) = true)
      ∧ ((terminalOf s (w.func s) (hTerminal w.src)).isSome = true) ∧ (claimDev w.src = BitVec.toNat s.otp.deviceId)
      ∧ (ticketOf s (w.func s) 0 (claimSeq w.src) = some k) ∧ (findGame s (w.func s) k.game = some g)
      ∧ (cancelBook s g = none))
    ∧ (∃ (s : State) (id : WorkId) (w : Work) (a : Accord), (canNumber s = true) ∧ (Waits s id 116 w)
      ∧ (1 ≤ rd w.input 8 1) ∧ (rd w.input 8 1 ≤ 15) ∧ (HasAccord s w (rd w.input 9 1) 116 a)
      ∧ (rd w.input 0 8 ≠ BitVec.toNat s.otp.deviceId) ∧ (∀ x ∈ s.vm.adopted, BitVec.toNat x.2.2 ≠ rd w.input 0 8
      ∧ x.2.1 ≠ rd w.input 8 1) ∧ (peerRunning s (rd w.input 0 8) = false)) :=
  ⟨⟨z1, 2, the (peerOf z1 2), by decide +kernel, the_eq, by decide +kernel⟩,
    ⟨z1, 2, the (peerOf z1 2), the (List.find? (fun m => rd m 0 1 == 2 && rd m 1 1 == 1) (the (peerOf z1 2)).inbox),
      ⟨by decide +kernel, the_eq, the_eq⟩, by decide +kernel⟩,
    ⟨inb (vd 0), 2, the (peerOf (inb (vd 0)) 2),
      the (List.find? (fun m => rd m 0 1 == 2 && rd m 1 1 == 2) (the (peerOf (inb (vd 0)) 2)).inbox),
      the (List.find? (fun c => c.peer == 2 && c.sent && Option.map (fun x => x.seq) c.work.stamp == some (rd (List.drop 8 (the (List.find? (fun m => rd m 0 1 == 2 && rd m 1 1 == 2) (the (peerOf (inb (vd 0)) 2)).inbox))) 0 8)) (inb (vd 0)).vm.claims),
      ⟨by decide +kernel, the_eq, the_eq⟩, by decide +kernel, the_eq, by decide +kernel⟩,
    ⟨z1, 90, the (List.find? (fun c => c.sent && Option.map (fun x => x.seq) c.work.stamp == some 90) z1.vm.claims),
      the_eq, by decide +kernel⟩,
    ⟨canSt 1 55, wid 2, w1 (canSt 1 55), the (w1 (canSt 1 55)).stamp,
      the (ticketOf (canSt 1 55) ((w1 (canSt 1 55)).func (canSt 1 55)) 0 (claimSeq (w1 (canSt 1 55)).src)),
      the (findGame (canSt 1 55) ((w1 (canSt 1 55)).func (canSt 1 55)) (the (ticketOf (canSt 1 55) ((w1 (canSt 1 55)).func (canSt 1 55)) 0 (claimSeq (w1 (canSt 1 55)).src))).game),
      the (cancelBook (canSt 1 55) (the (findGame (canSt 1 55) ((w1 (canSt 1 55)).func (canSt 1 55)) (the (ticketOf (canSt 1 55) ((w1 (canSt 1 55)).func (canSt 1 55)) 0 (claimSeq (w1 (canSt 1 55)).src))).game))),
      waits_head, the_eq, by decide +kernel, claimAuth_good rfl, by decide +kernel, the_eq, the_eq, the_eq⟩,
    ⟨canDev 0x55, wid 2, w1 (canDev 0x55), the (w1 (canDev 0x55)).stamp, waits_head, the_eq, by decide +kernel,
      claimAuth_good rfl, by decide +kernel⟩,
    ⟨canSt 1 44, wid 2, w1 (canSt 1 44), the (w1 (canSt 1 44)).stamp, waits_head, the_eq, by decide +kernel,
      claimAuth_good rfl, by decide +kernel⟩,
    ⟨canSt 2 55, wid 2, w1 (canSt 2 55), the (w1 (canSt 2 55)).stamp,
      the (ticketOf (canSt 2 55) ((w1 (canSt 2 55)).func (canSt 2 55)) 0 (claimSeq (w1 (canSt 2 55)).src)),
      the (findGame (canSt 2 55) ((w1 (canSt 2 55)).func (canSt 2 55)) (the (ticketOf (canSt 2 55) ((w1 (canSt 2 55)).func (canSt 2 55)) 0 (claimSeq (w1 (canSt 2 55)).src))).game),
      waits_head, the_eq, by decide +kernel, claimAuth_good rfl, by decide +kernel, by decide +kernel,
      by decide +kernel, the_eq, the_eq, by decide +kernel⟩,
    ⟨ad 0x99 3 1, wid 6, w1 (ad 0x99 3 1), a1 (ad 0x99 3 1), by decide +kernel, waits_head, by decide +kernel,
      by decide +kernel, hasAccord_head, by decide +kernel⟩⟩

end A

namespace B

def vs (n : Nat) (rel : Bool) : State := let s := acc 2 0x13 []; { s with adm := { s.adm with owners := [(1, { own1 with relaying := rel, parts := [1, 1, 1, 1] }), (2, own1)] }, vm := { s.vm with partSel := 1, corrections := List.replicate n (1, 1, 1, 2, 10 ^ 11), tickets := [tkSt 2] }, rings := { s.rings with tbl := s.rings.tbl.tail!.tail! } }

def z2 : LineRead := ⟨1, 1, 1, [(0, 3), (4, 1), (8, 1), (12, 1), (16, 1)], none, none⟩

def z3 : State := { vs 3 true with vm := { (vs 3 true).vm with store := { (vs 3 true).vm.store with lines := [((vs 3 true).vm.patrol, ⟨[1], []⟩)] } } }

def z4 : LineRead := ⟨1, 1, 1, [], none, none⟩

def z5 : LineRead := ⟨1, 1, 1, [(0, 3)], none, none⟩

/-- Every clause of VaultUpkeep has a case that meets its hypotheses. -/
theorem witness_VaultUpkeep :
    (∃ (s : State) (r : LineRead), (portsRun s = true)
      ∧ (correctable (markedDevice s r.channel r.subch r.rank) (errorSymbols (codeword ((Option.map (fun x => x.cipher) ((heldLine r s.vm.patrol s.vm.store).lines.at? s.vm.patrol)).getD [])) (received r.flips (codeword ((Option.map (fun x => x.cipher) ((heldLine r s.vm.patrol s.vm.store).lines.at? s.vm.patrol)).getD [])))) = false))
    ∧ (∃ (s : State) (r : LineRead), (portsRun s = true)
      ∧ (correctable (markedDevice s r.channel r.subch r.rank) (errorSymbols (codeword ((Option.map (fun x => x.cipher) ((heldLine r s.vm.patrol s.vm.store).lines.at? s.vm.patrol)).getD [])) (received r.flips (codeword ((Option.map (fun x => x.cipher) ((heldLine r s.vm.patrol s.vm.store).lines.at? s.vm.patrol)).getD [])))) = true)
      ∧ (lineOk (heldLine r s.vm.patrol s.vm.store) s.vm.patrol = false))
    ∧ (∃ (s : State) (r : LineRead), (portsRun s = true)
      ∧ (errorSymbols (codeword ((Option.map (fun x => x.cipher) ((heldLine r s.vm.patrol s.vm.store).lines.at? s.vm.patrol)).getD [])) (received r.flips (codeword ((Option.map (fun x => x.cipher) ((heldLine r s.vm.patrol s.vm.store).lines.at? s.vm.patrol)).getD []))) = [])
      ∧ (lineOk (heldLine r s.vm.patrol s.vm.store) s.vm.patrol = true))
    ∧ (∃ (s : State) (r : LineRead), (portsRun s = true)
      ∧ (correctable (markedDevice s r.channel r.subch r.rank) (errorSymbols (codeword ((Option.map (fun x => x.cipher) ((heldLine r s.vm.patrol s.vm.store).lines.at? s.vm.patrol)).getD [])) (received r.flips (codeword ((Option.map (fun x => x.cipher) ((heldLine r s.vm.patrol s.vm.store).lines.at? s.vm.patrol)).getD [])))) = true)
      ∧ (lineOk (heldLine r s.vm.patrol s.vm.store) s.vm.patrol = true)
      ∧ (errorSymbols (codeword ((Option.map (fun x => x.cipher) ((heldLine r s.vm.patrol s.vm.store).lines.at? s.vm.patrol)).getD [])) (received r.flips (codeword ((Option.map (fun x => x.cipher) ((heldLine r s.vm.patrol s.vm.store).lines.at? s.vm.patrol)).getD []))) ≠ []))
    ∧ (∃ (s : State) (v : W64), (HostMayWrite s 327704) ∧ (s.vm.partSel ≠ 0)
      ∧ (partErr s s.vm.partSel (partFields v) ≠ 0))
    ∧ (∃ (s : State) (v : W64), (HostMayWrite s 327704) ∧ (s.vm.partSel ≠ 0)
      ∧ (partErr s s.vm.partSel (partFields v) = 0))
    ∧ (∃ (s : State) (o : Nat), (alive s = true) ∧ ((ownerOf s o).relaying = true))
    ∧ (∃ (s : State) (o : Nat), (alive s = true) ∧ ((ownerOf s o).relaying = false)) :=
  ⟨⟨vs 3 true, z2, by decide +kernel⟩,
    ⟨z3, ⟨1, 1, 1, [(4, 1)], none, none⟩, by decide +kernel,
      (congrArg (correctable _) error_flip).trans (by decide +kernel), by decide +kernel⟩,
    ⟨vs 3 true, z4, by decide +kernel, error_none, by decide +kernel⟩,
    ⟨vs 3 true, z5, by decide +kernel, (congrArg (correctable _) error_flip).trans (by decide +kernel),
      by decide +kernel, fun x => absurd ((Eq.symm error_flip).trans x) (by decide +kernel)⟩,
    ⟨vs 3 true, 0x0000000000000000#64, by decide +kernel⟩,
    ⟨vs 3 true, 0x0001000100010001#64, by decide +kernel⟩,
    ⟨vs 3 true, 1, by decide +kernel⟩,
    ⟨vs 3 true, 0, by decide +kernel⟩⟩

end B

namespace C

def need : Nat := 4096 + 4160 * snapshotChunks (tkt 0 true (wkOn 6 0x70 []))

def z6 : State := ckSt (wkIn 6 0x70 (le 8 5 ++ le 8 6 ++ le 8 0 ++ le 8 0)) id

def z7 : State := ckSt (wkIn 6 0x70 (le 8 5 ++ le 8 6 ++ le 8 (2 ^ 60) ++ le 8 (2 ^ 60))) id

def z8 : State := ckSt (wkIn 6 0x72 (le 8 4)) fun v => { v with ckptDone := some ⟨4, 2, 80, some 5⟩ }

def z9 : State := ckSt (wkIn 6 0x72 (le 8 4)) fun v => { v with ckptDone := some ⟨3, 2, 80, some 5⟩ }

def z10 : State := ckSt (wkIn 6 0x73 []) fun v => { v with regions := some ((1, 2), (3, 4)), ckptNow := true }

def z11 : State := ckSt (wkOn 6 0x71 []) (fun v => { v with regions := some ((0, 2 ^ 40), (2 ^ 41, 2 ^ 40)), ckptNow := true })

def z12 : State := ckSt (wkIn 6 0x70 (le 8 5 ++ le 8 6 ++ le 8 need ++ le 8 need)) id

def z13 : State := ckSt (wkIn 6 0x73 []) fun v => { v with ckptLast := 10 ^ 12 }

def z14 : State := ckSt (wkIn 6 0x73 []) fun v => { v with ckptRunning := some ⟨3, 2, 80, some 5⟩, regions := some ((1, 2), (3, 4)), waiters := [wkOn 6 0x71 [], wkOn 6 0x71 [1]] }

/-- Every clause of Checkpoints has a case that meets its hypotheses. -/
theorem witness_Checkpoints :
    (∃ (s : State) (id : WorkId) (w : Work), (Waits s id 112 w)
      ∧ (rd w.input 16 8 < 4096 + 4160 * snapshotChunks s ∨ rd w.input 24 8 < 4096 + 4160 * snapshotChunks s))
    ∧ (4096 + 4160 * snapshotChunks z7 ≤ 2 ^ 60 → ∃ (s : State) (id : WorkId) (w : Work), (Waits s id 112 w)
      ∧ (4096 + 4160 * snapshotChunks s ≤ rd w.input 16 8) ∧ (4096 + 4160 * snapshotChunks s ≤ rd w.input 24 8))
    ∧ (∃ (s : State) (id : WorkId) (w : Work), (Waits s id 113 w))
    ∧ (∃ (s : State) (id : WorkId) (w : Work) (c : Ckpt), (Waits s id 114 w) ∧ (s.vm.ckptDone = some c)
      ∧ (rd w.input 0 8 = c.epoch))
    ∧ (∃ (s : State) (id : WorkId) (w : Work), (Waits s id 114 w) ∧ (∀ c ∈ s.vm.ckptDone, rd w.input 0 8 ≠ c.epoch))
    ∧ (∃ (s : State) (id : WorkId) (w : Work), (Waits s id 115 w))
    ∧ (4096 + 4160 * snapshotChunks z11 ≤ 2 ^ 40 → ∃ (s : State) (n : Nat), (inService s = true)
      ∧ (s.dep.isOpen = true) ∧ (s.vm.ckptRunning = none) ∧ (ckptDue (advance n s) = true) ∧ (regionsFit s = true
      ∧ s.vm.epochWritten ≤ s.vm.epochAck))
    ∧ (∃ (s : State) (n : Nat), (inService s = true) ∧ (s.dep.isOpen = true) ∧ (s.vm.ckptRunning = none)
      ∧ (ckptDue (advance n s) = true) ∧ (¬(regionsFit s = true ∧ s.vm.epochWritten ≤ s.vm.epochAck)))
    ∧ (∃ (s : State) (n : Nat), (inService s = true) ∧ (s.dep.isOpen = true) ∧ (s.vm.ckptRunning = none)
      ∧ (ckptDue (advance n s) = false))
    ∧ (∃ (s : State) (c : Ckpt) (r0 r1 : Nat × Nat), (inService s = true) ∧ (s.vm.ckptRunning = some c)
      ∧ (s.vm.regions = some (r0, r1)) ∧ (c.head.isSome = true)) :=
  ⟨⟨z6, wid 6, w1 z6, waits_head, Or.inl (Nat.lt_of_lt_of_le (by decide +kernel : _ < 4096) (Nat.le_add_right _ _))⟩,
    (fun h => ⟨z7, wid 6, w1 z7, waits_head, Nat.le_trans h (by decide +kernel), Nat.le_trans h (by decide +kernel)⟩),
    ⟨ckSt (wkOn 6 0x71 []) id, wid 6, w1 (ckSt (wkOn 6 0x71 []) id), waits_head⟩,
    ⟨z8, wid 6, w1 z8, the z8.vm.ckptDone, waits_head, the_eq, by decide +kernel⟩,
    ⟨z9, wid 6, w1 z9, waits_head, by decide +kernel⟩,
    ⟨z10, wid 6, w1 z10, waits_head⟩,
    (fun h => ⟨z11, 0, by decide +kernel, by decide +kernel, by decide +kernel, by decide +kernel, ⟨decide_eq_true h,
      by decide +kernel⟩⟩),
    ⟨z12, 0, by decide +kernel⟩,
    ⟨z13, 0, by decide +kernel⟩,
    ⟨z14, the z14.vm.ckptRunning, nth (ofOpt z14.vm.regions fun v => [v.1]) 0,
      nth (ofOpt z14.vm.regions fun v => [v.2]) 0, by decide +kernel, the_eq, by decide +kernel⟩⟩

end C

namespace D

def pf (w : List FlashRec) : State := { up with sys := { up.sys with pwrFail := true }, flash := { up.flash with writing := w } }

def z15 : State := { loadSt (loadImg 2 0x55) with life := up.life }

def z16 : State := blank (loadSt (loadImg 2 0x56))

def z17 : State := blank ({ loadSt (loadImg 2 0x55) with adm := { (loadSt [1]).adm with owners := [(1, { own1 with parts := [2, 2, 0, 2] })] } })

def z18 : State := blank (loadSt (loadImg 1 0x55))

/-- Every clause of PowerFailAndLoads has a case that meets its hypotheses. -/
theorem witness_PowerFailAndLoads :
    (∃ (s : State), (s.sys.state ≠ DevState.off) ∧ (s.sys.pwrFail = false))
    ∧ (∃ (s : State), (s.sys.state ≠ DevState.off) ∧ (s.sys.pwrFail = true))
    ∧ (∃ (s : State), (inService s = true) ∧ (bulkVerifying s 4 = true) ∧ (s.vm.load = none)
      ∧ (loadFormOk s.bulk.data = false))
    ∧ (∃ (s : State), (inService s = true) ∧ (bulkVerifying s 4 = true) ∧ (s.vm.load = none)
      ∧ (loadFormOk s.bulk.data = true) ∧ (s.life.decided ≠ 0) ∧ (loadSigned s s.bulk.owner s.bulk.data = false))
    ∧ (∃ (s : State), (inService s = true) ∧ (bulkVerifying s 4 = true) ∧ (s.vm.load = none)
      ∧ (loadFormOk s.bulk.data = true) ∧ (s.life.decided = 0 ∨ loadSigned s s.bulk.owner s.bulk.data = true)
      ∧ (loadIssuer s s.bulk.owner s.bulk.data = none))
    ∧ (∃ (s : State) (x : Nat), (inService s = true) ∧ (bulkVerifying s 4 = true) ∧ (s.vm.load = none)
      ∧ (loadFormOk s.bulk.data = true) ∧ (s.life.decided = 0 ∨ loadSigned s s.bulk.owner s.bulk.data = true)
      ∧ (loadIssuer s s.bulk.owner s.bulk.data = some x) ∧ ((ownerOf s s.bulk.owner).enrolled ≠ 0)
      ∧ (BitVec.toNat (ownerOf s s.bulk.owner).id = rd s.bulk.data 8 8) ∧ (∀ k ∈ s.vm.tickets,
      ¬(k.owner = s.bulk.owner ∧ k.issuer = x)) ∧ (ascendingSeqs (loadEntries s.bulk.owner s.bulk.data) = true)
      ∧ (∀ k ∈ loadEntries s.bulk.owner s.bulk.data, k.state ≤ 4 ∧ k.issuer = 0 ∧ k.pending = false)
      ∧ (settleInsert s s.bulk.owner (List.map (fun k => ticketKey x k.seq) (loadEntries s.bulk.owner s.bulk.data)) = none))
    ∧ (∃ (s : State) (x : Nat), (inService s = true) ∧ (bulkVerifying s 4 = true) ∧ (s.vm.load = none)
      ∧ (loadFormOk s.bulk.data = true) ∧ (s.life.decided = 0 ∨ loadSigned s s.bulk.owner s.bulk.data = true)
      ∧ (loadIssuer s s.bulk.owner s.bulk.data = some x) ∧ ((ownerOf s s.bulk.owner).enrolled ≠ 0)
      ∧ (BitVec.toNat (ownerOf s s.bulk.owner).id = rd s.bulk.data 8 8) ∧ (∀ k ∈ s.vm.tickets,
      ¬(k.owner = s.bulk.owner ∧ k.issuer = x)) ∧ (ascendingSeqs (loadEntries s.bulk.owner s.bulk.data) = true)
      ∧ (∀ k ∈ loadEntries s.bulk.owner s.bulk.data, k.state ≤ 4 ∧ k.issuer = 0 ∧ k.pending = false)
      ∧ ((settleInsert s s.bulk.owner (List.map (fun k => ticketKey x k.seq) (loadEntries s.bulk.owner s.bulk.data))).isSome = true))
    ∧ (∃ (s : State) (o x : Nat) (d : Digest) (e : Nat), (inService s = true) ∧ (bulkVerifying s 4 = true)
      ∧ (canNumber s = true) ∧ (s.vm.load = some (o, x, d, e)) ∧ (s.vm.epochAck < e))
    ∧ (∃ (s : State) (o x : Nat) (d : Digest) (e : Nat), (inService s = true) ∧ (bulkVerifying s 4 = true)
      ∧ (canNumber s = true) ∧ (s.vm.load = some (o, x, d, e)) ∧ (e ≤ s.vm.epochAck)) :=
  ⟨⟨up, by decide +kernel⟩,
    ⟨pf [recordOf 2 0 0 0 0], by decide +kernel⟩,
    ⟨loadSt [1], by decide +kernel⟩,
    ⟨z15, by decide +kernel⟩,
    ⟨z16, by decide +kernel⟩,
    ⟨z17, the (loadIssuer z17 z17.bulk.owner z17.bulk.data), by decide +kernel, by decide +kernel, by decide +kernel,
      by decide +kernel, by decide +kernel, the_eq, by decide +kernel⟩,
    ⟨z18, the (loadIssuer z18 z18.bulk.owner z18.bulk.data), by decide +kernel, by decide +kernel, by decide +kernel,
      by decide +kernel, by decide +kernel, the_eq, by decide +kernel⟩,
    ⟨liveLoad 5, nth (ofOpt (liveLoad 5).vm.load fun v => [v.1]) 0,
      nth (ofOpt (liveLoad 5).vm.load fun v => [v.2.1]) 0, nth (ofOpt (liveLoad 5).vm.load fun v => [v.2.2.1]) 0,
      nth (ofOpt (liveLoad 5).vm.load fun v => [v.2.2.2]) 0, by decide +kernel⟩,
    ⟨liveLoad 4, nth (ofOpt (liveLoad 4).vm.load fun v => [v.1]) 0,
      nth (ofOpt (liveLoad 4).vm.load fun v => [v.2.1]) 0, nth (ofOpt (liveLoad 4).vm.load fun v => [v.2.2.1]) 0,
      nth (ofOpt (liveLoad 4).vm.load fun v => [v.2.2.2]) 0, by decide +kernel⟩⟩

end D

namespace E

def ab (t0 : Option Nat) (s : State) : State := { s with bulk := {}, sys := { s.sys with abandonAt := t0 } }

def z19 : State := { resSt [1] 0 with vm := { (resSt [1] 0).vm with restore := 4 } }

def z20 : State := ab (some (10 ^ 12)) (resSt [1] 0)

/-- Every clause of Restore has a case that meets its hypotheses. -/
theorem witness_Restore :
    (∃ (s : State), (s.sys.state = DevState.restoring) ∧ (s.sys.abandoned = false) ∧ (bulkVerifying s 5 = true)
      ∧ (s.vm.restore ≠ 4))
    ∧ (∃ (s : State), (s.sys.state = DevState.restoring) ∧ (s.sys.abandoned = false) ∧ (s.vm.restore = 4))
    ∧ (∃ (s : State) (key : W32), (s.sys.state = DevState.restoring) ∧ (s.sys.abandoned = false) ∧ (HostMayWrite s 36)
      ∧ (s.sys.inReset = false) ∧ (bulkBusy s = false) ∧ (key ≠ 1094864452))
    ∧ (∃ (s : State) (n : Nat) (key : W32), (s.sys.state = DevState.restoring) ∧ (s.sys.abandoned = false)
      ∧ (HostMayWrite s 36) ∧ (s.sys.inReset = false) ∧ (bulkBusy s = false) ∧ (key = 1094864452)
      ∧ (∀ t0 ∈ s.sys.abandonAt, t0 + 10 ^ 9 < (advance n s).clk.run))
    ∧ (∃ (s : State) (n : Nat) (key : W32), (s.sys.state = DevState.restoring) ∧ (s.sys.abandoned = false)
      ∧ (HostMayWrite s 36) ∧ (s.sys.inReset = false) ∧ (bulkBusy s = false) ∧ (key = 1094864452)
      ∧ (∃ t0 ∈ s.sys.abandonAt, (advance n s).clk.run ≤ t0 + 10 ^ 9)) :=
  ⟨⟨resSt [1] 0, by decide +kernel⟩,
    ⟨z19, by decide +kernel⟩,
    ⟨ab none (resSt [1] 0), 0x00000000#32, by decide +kernel⟩,
    ⟨ab none (resSt [1] 0), 0, nth ([1094864452]) 0, by decide +kernel⟩,
    ⟨z20, 0, nth ([1094864452]) 0, by decide +kernel⟩⟩

end E

namespace F

def fu (l : List FaultUnit) (p : Option Nat) (s : State) : State := { s with sys := { s.sys with faults := l }, adm := { s.adm with pausedAt := p } }

def z21 : State := fu [.die 1] (some 5) engSt

def z22 : State := fu [.die 1, .die 2] (some 5) engSt

def z23 : ThreadId := ⟨1, 0, 0, 0⟩

def z24 : State := { engSt with eng := { engSt.eng with underTest := [(1, ⟨1, 0, 5⟩), (2, e0)], rotation := [(1, 63), (3, 9)] } }

/-- Every clause of FaultHandling has a case that meets its hypotheses. -/
theorem witness_FaultHandling :
    (∃ (s : State) (t0 : Nat) (u : FaultUnit), (alive s = true) ∧ (s.sys.faults = [u]) ∧ (s.adm.pausedAt = some t0))
    ∧ (∃ (s : State) (u v : FaultUnit) (rest : List FaultUnit), (alive s = true) ∧ (s.sys.faults = u :: v :: rest))
    ∧ (∃ (s : State) (e : EngineId), (alive s = true) ∧ (engineThere s e = true) ∧ (e ∉ s.eng.quarantined))
    ∧ (∃ (s : State) (th : ThreadId) (x : Thread), (alive s = true) ∧ (threadOf s th = some x))
    ∧ (∃ (s : State) (k : Nat), (alive s = true) ∧ (inService s = true) ∧ (dieIn s.sys.inService k = true)
      ∧ (s.eng.underTest.at? k = none))
    ∧ (∃ (s : State) (k : Nat) (e : EngineId), (alive s = true) ∧ (s.eng.underTest.at? k = some e)
      ∧ (∀ x ∈ s.eng.threads, engineOf x.id ≠ e))
    ∧ (∃ (s : State) (k : Nat), (alive s = true) ∧ (inService s = true ∨ s.sys.state = DevState.restoring)
      ∧ (dieIn (presentDies s) k = true) ∧ (dieIn s.sys.lost k = false))
    ∧ (∃ (s : State), (alive s = true) ∧ (inService s = true) ∧ (s.sys.anchorFault = false)) :=
  ⟨⟨z21, the z21.adm.pausedAt, hd1 z21.sys.faults, by decide +kernel, by decide +kernel, the_eq⟩,
    ⟨z22, hd1 z22.sys.faults, nth z22.sys.faults 1, z22.sys.faults.drop 2, by decide +kernel⟩,
    ⟨engSt, e0, by decide +kernel⟩,
    ⟨engSt, z23, the (threadOf engSt z23), by decide +kernel, the_eq⟩,
    ⟨engSt, 1, by decide +kernel⟩,
    ⟨z24, 1, the (z24.eng.underTest.at? 1), by decide +kernel, the_eq, by decide +kernel⟩,
    ⟨engSt, 1, by decide +kernel⟩,
    ⟨engSt, by decide +kernel⟩⟩

end F

end Store

namespace Crypt

namespace A

def data : Bytes := List.replicate 40 5

def dual : W64 := aC + 512

def ql (s : State) : State := { s with lanes := { s.lanes with quarantined := [{ group := .vault, lane := 0 }], ctr := [(1, 2 ^ 40)] } }

def vl : List LaneId := (List.range 16).map fun k => { group := .vault, lane := k }

def qa (s : State) : State := { s with lanes := { s.lanes with quarantined := vl } }

def bz (q : List CipherOp) (s : State) : State := { s with lanes := { s.lanes with ops := vl.map fun l => cOp (wkOn 2 0x38 [7]) false l.lane, queue := q } }

def okp (op : Nat) : Bytes := kp (if op = 0x36 ∨ op = 0x37 then 16 else 0)

def okA (op : Nat) : Nat := if op = 0x38 then 2 else if op = 0x36 ∨ op = 0x37 then 1 else 0

def at1 (op : Nat) : W64 := if op = 0x36 ∨ op = 0x37 then aM else aC

def xt (s : State) : State := sealed { s with keys := { s.keys with slots := s.keys.slots.map fun p => (p.1, { p.2 with payload := List.replicate 16 8 ++ List.replicate 48 7 }) } }

def cs (op k : Nat) : State :=
  match k with
  | 0 => xt (ciphSt (wkP 2 op (okA op) (okp op) data) (at1 op))
  | 1 => xt (ciphSt (wkP 2 op (okA op) (zeros 4 ++ (okp op).drop 4) data) (at1 op))
  | 2 => xt (ciphSt (wkP 2 op 9 (okp op) data) (at1 op))
  | 3 => xt (ciphSt (wkP 2 op (okA op) (okp op) data) (at1 op + 512))
  | 4 => xt (qa (ciphSt (wkP 2 op (okA op) (okp op) data) (at1 op)))
  | 5 => bz [] (xt (ciphSt (wkP 2 op (okA op) (okp op) data) (at1 op)))
  | 6 => bz [cOp (wkOn 2 0x38 [9]) false 0] (xt (ciphSt (wkP 2 op (okA op) (okp op) data) (at1 op)))
  | 7 => xt (ciphSt (wkP 2 op 9 (okp op) data) (at1 op + 512))
  | 8 => bz [] (xt (ciphSt (wkP 2 op (okA op) (okp op) data) (at1 op + 512)))
  | _ => ql (xt (ciphSt (wkP 2 op (okA op) (okp op) data) (at1 op)))

/-- Every clause of CipherCommands has a case that meets its hypotheses. -/
theorem witness_CipherCommands :
    (∃ (s : State) (id : WorkId) (w : Work) (k : Option KeyView), ((Waits s id 48 w)
      ∧ (48 = 56 ∨ checkKey (w.func s) (cKey w) s = s ∧ keyLineBad s (w.func s) (cKey w) = false)
      ∧ cipherKey s (w.func s) w = .inr k ∧ (∀ v ∈ k, aDual v.attr = false)
      ∧ cipherParamsOk w ((Option.map (fun x => x.key) k).getD []) = true ∧ vaultLanes s ≠ []))
    ∧ (∃ (s : State) (id : WorkId) (w : Work) (k : Option KeyView), ((Waits s id 49 w)
      ∧ (49 = 56 ∨ checkKey (w.func s) (cKey w) s = s ∧ keyLineBad s (w.func s) (cKey w) = false)
      ∧ cipherKey s (w.func s) w = .inr k ∧ (∀ v ∈ k, aDual v.attr = false)
      ∧ cipherParamsOk w ((Option.map (fun x => x.key) k).getD []) = true ∧ vaultLanes s ≠ []))
    ∧ (∃ (s : State) (id : WorkId) (w : Work) (k : Option KeyView), ((Waits s id 50 w)
      ∧ (50 = 56 ∨ checkKey (w.func s) (cKey w) s = s ∧ keyLineBad s (w.func s) (cKey w) = false)
      ∧ cipherKey s (w.func s) w = .inr k ∧ (∀ v ∈ k, aDual v.attr = false)
      ∧ cipherParamsOk w ((Option.map (fun x => x.key) k).getD []) = true ∧ vaultLanes s ≠ []))
    ∧ (∃ (s : State) (id : WorkId) (w : Work) (k : Option KeyView), ((Waits s id 51 w)
      ∧ (51 = 56 ∨ checkKey (w.func s) (cKey w) s = s ∧ keyLineBad s (w.func s) (cKey w) = false)
      ∧ cipherKey s (w.func s) w = .inr k ∧ (∀ v ∈ k, aDual v.attr = false)
      ∧ cipherParamsOk w ((Option.map (fun x => x.key) k).getD []) = true ∧ vaultLanes s ≠ []))
    ∧ (∃ (s : State) (id : WorkId) (w : Work) (k : Option KeyView), ((Waits s id 52 w)
      ∧ (52 = 56 ∨ checkKey (w.func s) (cKey w) s = s ∧ keyLineBad s (w.func s) (cKey w) = false)
      ∧ cipherKey s (w.func s) w = .inr k ∧ (∀ v ∈ k, aDual v.attr = false)
      ∧ cipherParamsOk w ((Option.map (fun x => x.key) k).getD []) = true ∧ vaultLanes s ≠ []))
    ∧ (∃ (s : State) (id : WorkId) (w : Work) (k : Option KeyView), ((Waits s id 53 w)
      ∧ (53 = 56 ∨ checkKey (w.func s) (cKey w) s = s ∧ keyLineBad s (w.func s) (cKey w) = false)
      ∧ cipherKey s (w.func s) w = .inr k ∧ (∀ v ∈ k, aDual v.attr = false)
      ∧ cipherParamsOk w ((Option.map (fun x => x.key) k).getD []) = true ∧ vaultLanes s ≠ []))
    ∧ (∃ (s : State) (id : WorkId) (w : Work) (k : Option KeyView), ((Waits s id 54 w)
      ∧ (54 = 56 ∨ checkKey (w.func s) (cKey w) s = s ∧ keyLineBad s (w.func s) (cKey w) = false)
      ∧ cipherKey s (w.func s) w = .inr k ∧ (∀ v ∈ k, aDual v.attr = false)
      ∧ cipherParamsOk w ((Option.map (fun x => x.key) k).getD []) = true ∧ vaultLanes s ≠ []))
    ∧ (∃ (s : State) (id : WorkId) (w : Work) (k : Option KeyView), ((Waits s id 55 w)
      ∧ (55 = 56 ∨ checkKey (w.func s) (cKey w) s = s ∧ keyLineBad s (w.func s) (cKey w) = false)
      ∧ cipherKey s (w.func s) w = .inr k ∧ (∀ v ∈ k, aDual v.attr = false)
      ∧ cipherParamsOk w ((Option.map (fun x => x.key) k).getD []) = true ∧ vaultLanes s ≠ []))
    ∧ (∃ (s : State) (id : WorkId) (w : Work) (k : Option KeyView), ((Waits s id 56 w)
      ∧ (56 = 56 ∨ checkKey (w.func s) (cKey w) s = s ∧ keyLineBad s (w.func s) (cKey w) = false)
      ∧ cipherKey s (w.func s) w = .inr k ∧ (∀ v ∈ k, aDual v.attr = false)
      ∧ cipherParamsOk w ((Option.map (fun x => x.key) k).getD []) = true ∧ vaultLanes s ≠ []))
    ∧ (∃ (s : State) (id : WorkId) (w : Work) (st : Status), (Waits s id 48 w)
      ∧ (48 = 56 ∨ checkKey (w.func s) (cKey w) s = s ∧ keyLineBad s (w.func s) (cKey w) = false)
      ∧ (cipherKey s (w.func s) w = .inl st))
    ∧ (∃ (s : State) (id : WorkId) (w : Work) (k : Option KeyView), (Waits s id 48 w)
      ∧ (48 = 56 ∨ checkKey (w.func s) (cKey w) s = s ∧ keyLineBad s (w.func s) (cKey w) = false)
      ∧ (cipherKey s (w.func s) w = .inr k) ∧ (∀ v ∈ k, aDual v.attr = false)
      ∧ (cipherParamsOk w ((Option.map (fun x => x.key) k).getD []) = false))
    ∧ (∃ (s : State) (id : WorkId) (w : Work) (k : Option KeyView), (Waits s id 48 w)
      ∧ (48 = 56 ∨ checkKey (w.func s) (cKey w) s = s ∧ keyLineBad s (w.func s) (cKey w) = false)
      ∧ (cipherKey s (w.func s) w = .inr k) ∧ (∀ v ∈ k, aDual v.attr = false)
      ∧ (cipherParamsOk w ((Option.map (fun x => x.key) k).getD []) = true) ∧ (vaultLanes s = []))
    ∧ (∃ (s : State) (id : WorkId) (w : Work) (k : Option KeyView) (v : KeyView) (a : Accord), (Waits s id 48 w)
      ∧ (48 = 56 ∨ checkKey (w.func s) (cKey w) s = s ∧ keyLineBad s (w.func s) (cKey w) = false)
      ∧ (cipherKey s (w.func s) w = .inr k) ∧ (k = some v) ∧ (aDual v.attr = true) ∧ (canNumber s = true)
      ∧ (HasAccord s w (w.func s) 48 a) ∧ (cipherParamsOk w v.key = true) ∧ (vaultLanes s ≠ []))
    ∧ (∃ (s : State) (id : WorkId) (w : Work) (k : Option KeyView) (v : KeyView) (a : Accord), (Waits s id 48 w)
      ∧ (48 = 56 ∨ checkKey (w.func s) (cKey w) s = s ∧ keyLineBad s (w.func s) (cKey w) = false)
      ∧ (cipherKey s (w.func s) w = .inr k) ∧ (k = some v) ∧ (aDual v.attr = true) ∧ (canNumber s = true)
      ∧ (HasAccord s w (w.func s) 48 a) ∧ (cipherParamsOk w v.key = false)) :=
  ⟨⟨cs 48 0, wid 2, w1 (cs 48 0), inr1 (cipherKey (cs 48 0) ((w1 (cs 48 0)).func (cs 48 0)) (w1 (cs 48 0))),
    ⟨waits_head, Or.inr ⟨(checkKey_sealed rfl), by decide +kernel⟩, inr_eq,
    by decide +kernel⟩⟩,
    ⟨cs 49 0, wid 2, w1 (cs 49 0), inr1 (cipherKey (cs 49 0) ((w1 (cs 49 0)).func (cs 49 0)) (w1 (cs 49 0))),
      ⟨waits_head, Or.inr ⟨(checkKey_sealed rfl), by decide +kernel⟩, inr_eq,
      by decide +kernel⟩⟩,
    ⟨cs 50 0, wid 2, w1 (cs 50 0), inr1 (cipherKey (cs 50 0) ((w1 (cs 50 0)).func (cs 50 0)) (w1 (cs 50 0))),
      ⟨waits_head, Or.inr ⟨(checkKey_sealed rfl), by decide +kernel⟩, inr_eq,
      by decide +kernel⟩⟩,
    ⟨cs 51 0, wid 2, w1 (cs 51 0), inr1 (cipherKey (cs 51 0) ((w1 (cs 51 0)).func (cs 51 0)) (w1 (cs 51 0))),
      ⟨waits_head, Or.inr ⟨(checkKey_sealed rfl), by decide +kernel⟩, inr_eq,
      by decide +kernel⟩⟩,
    ⟨cs 52 0, wid 2, w1 (cs 52 0), inr1 (cipherKey (cs 52 0) ((w1 (cs 52 0)).func (cs 52 0)) (w1 (cs 52 0))),
      ⟨waits_head, Or.inr ⟨(checkKey_sealed rfl), by decide +kernel⟩, inr_eq,
      by decide +kernel⟩⟩,
    ⟨cs 53 0, wid 2, w1 (cs 53 0), inr1 (cipherKey (cs 53 0) ((w1 (cs 53 0)).func (cs 53 0)) (w1 (cs 53 0))),
      ⟨waits_head, Or.inr ⟨(checkKey_sealed rfl), by decide +kernel⟩, inr_eq,
      by decide +kernel⟩⟩,
    ⟨cs 54 0, wid 2, w1 (cs 54 0), inr1 (cipherKey (cs 54 0) ((w1 (cs 54 0)).func (cs 54 0)) (w1 (cs 54 0))),
      ⟨waits_head, Or.inr ⟨(checkKey_sealed rfl), by decide +kernel⟩, inr_eq,
      by decide +kernel⟩⟩,
    ⟨cs 55 0, wid 2, w1 (cs 55 0), inr1 (cipherKey (cs 55 0) ((w1 (cs 55 0)).func (cs 55 0)) (w1 (cs 55 0))),
      ⟨waits_head, Or.inr ⟨(checkKey_sealed rfl), by decide +kernel⟩, inr_eq,
      by decide +kernel⟩⟩,
    ⟨cs 56 0, wid 2, w1 (cs 56 0), inr1 (cipherKey (cs 56 0) ((w1 (cs 56 0)).func (cs 56 0)) (w1 (cs 56 0))),
      ⟨waits_head, Or.inr ⟨(checkKey_sealed rfl), by decide +kernel⟩, inr_eq,
      by decide +kernel⟩⟩,
    ⟨cs 48 1, wid 2, w1 (cs 48 1), inl1 (cipherKey (cs 48 1) ((w1 (cs 48 1)).func (cs 48 1)) (w1 (cs 48 1))),
      waits_head, Or.inr ⟨(checkKey_sealed rfl), by decide +kernel⟩,
      by decide +kernel⟩,
    ⟨cs 48 2, wid 2, w1 (cs 48 2), inr1 (cipherKey (cs 48 2) ((w1 (cs 48 2)).func (cs 48 2)) (w1 (cs 48 2))),
      waits_head, Or.inr ⟨(checkKey_sealed rfl), by decide +kernel⟩, inr_eq,
      by decide +kernel⟩,
    ⟨cs 48 4, wid 2, w1 (cs 48 4), inr1 (cipherKey (cs 48 4) ((w1 (cs 48 4)).func (cs 48 4)) (w1 (cs 48 4))),
      waits_head, Or.inr ⟨(checkKey_sealed rfl), by decide +kernel⟩, inr_eq,
      by decide +kernel⟩,
    ⟨cs 48 3, wid 2, w1 (cs 48 3), inr1 (cipherKey (cs 48 3) ((w1 (cs 48 3)).func (cs 48 3)) (w1 (cs 48 3))),
      the (inr1 (cipherKey (cs 48 3) ((w1 (cs 48 3)).func (cs 48 3)) (w1 (cs 48 3)))), a1 (cs 48 3), waits_head,
      Or.inr ⟨(checkKey_sealed rfl), by decide +kernel⟩, inr_eq, the_eq,
      by decide +kernel, by decide +kernel, hasAccord_head, by decide +kernel⟩,
    ⟨cs 48 7, wid 2, w1 (cs 48 7), inr1 (cipherKey (cs 48 7) ((w1 (cs 48 7)).func (cs 48 7)) (w1 (cs 48 7))),
      the (inr1 (cipherKey (cs 48 7) ((w1 (cs 48 7)).func (cs 48 7)) (w1 (cs 48 7)))), a1 (cs 48 7), waits_head,
      Or.inr ⟨(checkKey_sealed rfl), by decide +kernel⟩, inr_eq, the_eq,
      by decide +kernel, by decide +kernel, hasAccord_head, by decide +kernel⟩⟩

end A

namespace B

def pp (key hash rec_ ctx : Nat) (attr : W64) : Bytes := le 4 key ++ [0, BitVec.ofNat 8 hash, BitVec.ofNat 8 rec_, BitVec.ofNat 8 ctx] ++ le 8 attr.toNat

def ab (ring idx tag : Nat) : Bytes := zeros 16 ++ le 2 ring ++ le 2 idx ++ le 4 tag

def q01 (s : State) : State := { s with pk := { s.pk with quarantined := [0, 1] } }

def sg : State := pkKeySt (wkP 2 0x40 1 (pp h65 1 0 0 0) (zeros 32)) []

def ops7 : List Nat := [0x40, 0x41, 0x42, 0x43, 0x44, 0x45, 0x47]

def goodW (op : Nat) : Work := match op with
  | 0x40 => wkP 2 0x40 1 (pp h65 1 0 0 0) (zeros 32)
  | 0x41 => wkP 2 0x41 1 (pp 0 1 0 0 0) (zeros (65 + 64 + 32))
  | 0x42 => wkP 2 0x42 1 (pp 0 0 0 0 (mkAttr 34 1 verbSign 0)) []
  | 0x43 => wkP 2 0x43 1 (pp (4096 + 66) 0 0 0 (mkAttr 32 1 verbCipher 0)) (zeros 65)
  | 0x44 => wkP 2 0x44 0x28 (pp 0 0 0 0 (mkAttr 32 1 verbCipher 0)) (zeros 1184)
  | 0x45 => wkP 2 0x45 4 (pp 0 0 0 0 0) (p256 0)
  | _ => wkP 2 0x47 1 (pp h65 0 0 0 0) []

def ps (op k : Nat) : State :=
  match k with
  | 0 => pkKeySt (goodW op) []
  | 1 => sealed { pkKeySt (goodW op) [] with keys := { up.keys with slots := [] }, pk := { up.pk with curves := if op = 0x45 then (List.range 17).map fun i => ⟨i, 2, [BitVec.ofNat 8 i]⟩ else [] } }
  | 2 => pkKeySt { goodW op with src := [1, 2] } []
  | 3 => sealed { pkKeySt (goodW op) [] with rng := {} }
  | 4 => sealed (q01 (pkKeySt (goodW op) []))
  | 5 => pkKeySt { goodW op with ring := 6 } []
  | 7 => let s := pkKeySt { goodW op with desc := if op = 0x42 ∨ op = 0x43 ∨ op = 0x44 then (goodW op).desc ||| BitVec.ofNat 512 (512 * 2 ^ (256 + 64)) else (goodW op).desc } []
         sealed { s with keys := { s.keys with slots := s.keys.slots.map fun p => (p.1, { p.2 with attr := if p.1 = 64 then p.2.attr else p.2.attr ||| 512 }) } }
  | 8 => let s := pkKeySt (goodW op) []
         { s with pk := { s.pk with queue := [pOp (wkOn 2 0x40 [9]) false 0] } }
  | 9 => let s := pkKeySt (goodW op) []
         { s with pk := { s.pk with ops := (List.range 16).flatMap fun e => [{ pOp (wkOn 2 0x40 [9]) false e with running := true }, pOp (wkOn 2 0x40 [10]) false e, pOp (wkOn 2 0x40 [11]) false e, pOp (wkOn 2 0x40 [12]) false e, pOp (wkOn 2 0x40 [13]) false e, pOp (wkOn 2 0x40 [14]) false e, pOp (wkOn 2 0x40 [15]) false e, pOp (wkOn 2 0x40 [16]) false e, pOp (wkOn 2 0x40 [17]) false e] } }
  | _ => pkKeySt { goodW op with desc := (goodW op).desc ||| BitVec.ofNat 512 (0x33 * 2 ^ 224) } []

/-- Every clause of PkCommands has a case that meets its hypotheses. -/
theorem witness_PkCommands :
    (∃ (s : State) (id : WorkId) (w : Work) (k : Option KeyView), ((Waits s id 64 w)
      ∧ (readsKey 64 = false ∨ checkKey (w.func s) (kKey w) s = s ∧ keyLineBad s (w.func s) (kKey w) = false)
      ∧ pkKey s (w.func s) w = .inr k ∧ pkDual w k = false ∧ pkParamsOk s (w.func s) w = true
      ∧ (needsRandom w = false ∨ canDraw s = true) ∧ pkAllowed s 64 ≠ []))
    ∧ (∃ (s : State) (id : WorkId) (w : Work) (k : Option KeyView), ((Waits s id 65 w)
      ∧ (readsKey 65 = false ∨ checkKey (w.func s) (kKey w) s = s ∧ keyLineBad s (w.func s) (kKey w) = false)
      ∧ pkKey s (w.func s) w = .inr k ∧ pkDual w k = false ∧ pkParamsOk s (w.func s) w = true
      ∧ (needsRandom w = false ∨ canDraw s = true) ∧ pkAllowed s 65 ≠ []))
    ∧ (∃ (s : State) (id : WorkId) (w : Work) (k : Option KeyView), ((Waits s id 66 w)
      ∧ (readsKey 66 = false ∨ checkKey (w.func s) (kKey w) s = s ∧ keyLineBad s (w.func s) (kKey w) = false)
      ∧ pkKey s (w.func s) w = .inr k ∧ pkDual w k = false ∧ pkParamsOk s (w.func s) w = true
      ∧ (needsRandom w = false ∨ canDraw s = true) ∧ pkAllowed s 66 ≠ []))
    ∧ (∃ (s : State) (id : WorkId) (w : Work) (k : Option KeyView), ((Waits s id 67 w)
      ∧ (readsKey 67 = false ∨ checkKey (w.func s) (kKey w) s = s ∧ keyLineBad s (w.func s) (kKey w) = false)
      ∧ pkKey s (w.func s) w = .inr k ∧ pkDual w k = false ∧ pkParamsOk s (w.func s) w = true
      ∧ (needsRandom w = false ∨ canDraw s = true) ∧ pkAllowed s 67 ≠ []))
    ∧ (∃ (s : State) (id : WorkId) (w : Work) (k : Option KeyView), ((Waits s id 68 w)
      ∧ (readsKey 68 = false ∨ checkKey (w.func s) (kKey w) s = s ∧ keyLineBad s (w.func s) (kKey w) = false)
      ∧ pkKey s (w.func s) w = .inr k ∧ pkDual w k = false ∧ pkParamsOk s (w.func s) w = true
      ∧ (needsRandom w = false ∨ canDraw s = true) ∧ pkAllowed s 68 ≠ []))
    ∧ (∃ (s : State) (id : WorkId) (w : Work) (k : Option KeyView), ((Waits s id 69 w)
      ∧ (readsKey 69 = false ∨ checkKey (w.func s) (kKey w) s = s ∧ keyLineBad s (w.func s) (kKey w) = false)
      ∧ pkKey s (w.func s) w = .inr k ∧ pkDual w k = false ∧ pkParamsOk s (w.func s) w = true
      ∧ (needsRandom w = false ∨ canDraw s = true) ∧ pkAllowed s 69 ≠ []))
    ∧ (∃ (s : State) (id : WorkId) (w : Work) (k : Option KeyView), ((Waits s id 71 w)
      ∧ (readsKey 71 = false ∨ checkKey (w.func s) (kKey w) s = s ∧ keyLineBad s (w.func s) (kKey w) = false)
      ∧ pkKey s (w.func s) w = .inr k ∧ pkDual w k = false ∧ pkParamsOk s (w.func s) w = true
      ∧ (needsRandom w = false ∨ canDraw s = true) ∧ pkAllowed s 71 ≠ []))
    ∧ (∃ (s : State) (id : WorkId) (w : Work) (st : Status), (Waits s id 64 w)
      ∧ (readsKey 64 = false ∨ checkKey (w.func s) (kKey w) s = s ∧ keyLineBad s (w.func s) (kKey w) = false)
      ∧ (pkKey s (w.func s) w = .inl st))
    ∧ (∃ (s : State) (id : WorkId) (w : Work) (k : Option KeyView), (Waits s id 64 w)
      ∧ (readsKey 64 = false ∨ checkKey (w.func s) (kKey w) s = s ∧ keyLineBad s (w.func s) (kKey w) = false)
      ∧ (pkKey s (w.func s) w = .inr k) ∧ (pkDual w k = false) ∧ (pkParamsOk s (w.func s) w = false))
    ∧ (∃ (s : State) (id : WorkId) (w : Work) (k : Option KeyView), (Waits s id 64 w)
      ∧ (readsKey 64 = false ∨ checkKey (w.func s) (kKey w) s = s ∧ keyLineBad s (w.func s) (kKey w) = false)
      ∧ (pkKey s (w.func s) w = .inr k) ∧ (pkDual w k = false) ∧ (pkParamsOk s (w.func s) w = true)
      ∧ (needsRandom w = true) ∧ (canDraw s = false))
    ∧ (∃ (s : State) (id : WorkId) (w : Work) (k : Option KeyView), (Waits s id 64 w)
      ∧ (readsKey 64 = false ∨ checkKey (w.func s) (kKey w) s = s ∧ keyLineBad s (w.func s) (kKey w) = false)
      ∧ (pkKey s (w.func s) w = .inr k) ∧ (pkDual w k = false) ∧ (pkParamsOk s (w.func s) w = true)
      ∧ (needsRandom w = false ∨ canDraw s = true) ∧ (64 ≠ 65) ∧ (pkAllowed s 64 = []))
    ∧ (∃ (s : State) (id : WorkId) (w : Work) (k : Option KeyView) (a : Accord), (Waits s id 64 w)
      ∧ (readsKey 64 = false ∨ checkKey (w.func s) (kKey w) s = s ∧ keyLineBad s (w.func s) (kKey w) = false)
      ∧ (pkKey s (w.func s) w = .inr k) ∧ (pkDual w k = true) ∧ (canNumber s = true) ∧ (HasAccord s w (w.func s) 64 a)
      ∧ (pkParamsOk s (w.func s) w = true) ∧ (needsRandom w = false ∨ canDraw s = true) ∧ (pkAllowed s 64 ≠ [])) :=
  ⟨⟨ps 64 0, wid 2, w1 (ps 64 0), inr1 (pkKey (ps 64 0) ((w1 (ps 64 0)).func (ps 64 0)) (w1 (ps 64 0))), ⟨waits_head,
    Or.inr ⟨(checkKey_sealed rfl), by decide +kernel⟩, inr_eq,
    by decide +kernel⟩⟩,
    ⟨ps 65 0, wid 2, w1 (ps 65 0), inr1 (pkKey (ps 65 0) ((w1 (ps 65 0)).func (ps 65 0)) (w1 (ps 65 0))), ⟨waits_head,
      Or.inr ⟨(checkKey_sealed rfl), by decide +kernel⟩, inr_eq,
      by decide +kernel⟩⟩,
    ⟨ps 66 0, wid 2, w1 (ps 66 0), inr1 (pkKey (ps 66 0) ((w1 (ps 66 0)).func (ps 66 0)) (w1 (ps 66 0))), ⟨waits_head,
      Or.inr ⟨(checkKey_sealed rfl), by decide +kernel⟩, inr_eq,
      by decide +kernel⟩⟩,
    ⟨ps 67 0, wid 2, w1 (ps 67 0), inr1 (pkKey (ps 67 0) ((w1 (ps 67 0)).func (ps 67 0)) (w1 (ps 67 0))), ⟨waits_head,
      Or.inr ⟨(checkKey_sealed rfl), by decide +kernel⟩, inr_eq,
      by decide +kernel⟩⟩,
    ⟨ps 68 0, wid 2, w1 (ps 68 0), inr1 (pkKey (ps 68 0) ((w1 (ps 68 0)).func (ps 68 0)) (w1 (ps 68 0))), ⟨waits_head,
      Or.inr ⟨(checkKey_sealed rfl), by decide +kernel⟩, inr_eq,
      by decide +kernel⟩⟩,
    ⟨ps 69 0, wid 2, w1 (ps 69 0), inr1 (pkKey (ps 69 0) ((w1 (ps 69 0)).func (ps 69 0)) (w1 (ps 69 0))), ⟨waits_head,
      Or.inr ⟨(checkKey_sealed rfl), by decide +kernel⟩, inr_eq,
      by decide +kernel⟩⟩,
    ⟨ps 71 0, wid 2, w1 (ps 71 0), inr1 (pkKey (ps 71 0) ((w1 (ps 71 0)).func (ps 71 0)) (w1 (ps 71 0))), ⟨waits_head,
      Or.inr ⟨(checkKey_sealed rfl), by decide +kernel⟩, inr_eq,
      by decide +kernel⟩⟩,
    ⟨ps 64 1, wid 2, w1 (ps 64 1), inl1 (pkKey (ps 64 1) ((w1 (ps 64 1)).func (ps 64 1)) (w1 (ps 64 1))), waits_head,
      Or.inr ⟨(checkKey_sealed rfl), by decide +kernel⟩, by decide +kernel⟩,
    ⟨ps 64 2, wid 2, w1 (ps 64 2), inr1 (pkKey (ps 64 2) ((w1 (ps 64 2)).func (ps 64 2)) (w1 (ps 64 2))), waits_head,
      Or.inr ⟨(checkKey_sealed rfl), by decide +kernel⟩, inr_eq,
      by decide +kernel⟩,
    ⟨ps 64 3, wid 2, w1 (ps 64 3), inr1 (pkKey (ps 64 3) ((w1 (ps 64 3)).func (ps 64 3)) (w1 (ps 64 3))), waits_head,
      Or.inr ⟨(checkKey_sealed rfl), by decide +kernel⟩, inr_eq,
      by decide +kernel⟩,
    ⟨ps 64 4, wid 2, w1 (ps 64 4), inr1 (pkKey (ps 64 4) ((w1 (ps 64 4)).func (ps 64 4)) (w1 (ps 64 4))), waits_head,
      Or.inr ⟨(checkKey_sealed rfl), by decide +kernel⟩, inr_eq,
      by decide +kernel⟩,
    ⟨ps 64 7, wid 2, w1 (ps 64 7), inr1 (pkKey (ps 64 7) ((w1 (ps 64 7)).func (ps 64 7)) (w1 (ps 64 7))),
      a1 (ps 64 7), waits_head, Or.inr ⟨(checkKey_sealed rfl),
      by decide +kernel⟩, inr_eq, by decide +kernel, by decide +kernel, hasAccord_head, by decide +kernel⟩⟩

end B

namespace C

def pRun (w : Work) (f : Bool) (e : Nat) : PkOp := { pOp w f e with running := true }

def w37 (b : Bytes) : Work := wkP 2 0x37 1 (kp 16) b

def w31 (b : Bytes) : Work := wkP 2 0x31 0 (kp 0) b

def b5 : Bytes := List.replicate 24 5

def utp (s : State) (e : Option Nat) (q : List Nat) : State := { s with pk := { s.pk with underTest := e, quarantined := q } }

def utl (s : State) (u : Tbl LaneId) (q : List LaneId) : State := { s with lanes := { s.lanes with underTest := u, quarantined := q, rotation := [(0, 1), (1, 2)] } }

def pv (b : Bytes) : PkOp := pRun (wkP 2 0x41 1 (B.pp 0 1 0 0 0) b) false 2

def z1 : State := laneSt [cOp (w37 (b5 ++ macOf (w37 []) (List.replicate 32 8) b5)) false 1]

def z2 : State := laneSt [cOp (w37 [1, 2]) true 1]

def z3 : State := laneSt [cOp (wkP 2 0x38 2 (kp 0) b5) false 1]

def z4 : State := laneSt [cOp (w31 (b5 ++ le 16 (Config.gcmTag (List.replicate 32 8) (zeros 12) (b5.take 1) (b5.drop 1)).toNat)) false 0]

def z5 : State := laneSt [cOp (w31 [1, 2]) false 0]

def z6 : State := laneSt [cOp (w37 (b5 ++ zeros 16)) false 1]

def z7 : LaneId := ⟨.vault, 1⟩

def z8 : State := utl (laneSt []) [(0, ⟨.vault, 1⟩)] [⟨.vault, 1⟩]

def z9 : State := { pkSt [pRun (wkP 2 0x40 1 (B.pp h65 1 0 0 0) (zeros 32)) false 0] with rng := {} }

def z10 : State := pkSt [pv (0xEE :: zeros 160)]

def z11 : State := pkSt [pv ((zeros 161).set 128 0xED)]

def z12 : State := pkSt [{ pRun (wkP 2 0x40 1 (B.pp h65 1 0 0 0) (zeros 32)) false 0 with key := [1, 0, 0xEE] ++ zeros 61 }]

def z13 : State := pkSt [pRun (wkP 2 0x40 0x20 (B.pp h65 0 0 0 0) (zeros 32)) false 0]

def z14 : State := pkSt [{ pRun (wkP 2 0x40 1 (B.pp h65 1 0 0 0) (zeros 32)) false 0 with key := [0xEE] ++ zeros 63 }]

def z15 : State := pkSt [pRun (wkP 2 0x45 4 (B.pp 0 0 0 0 0) (zeros 5)) false 0]

def z16 : State := pkSt [pRun (wkP 2 0x45 4 (B.pp 0 0 0 0 0) (p256 0)) false 0]

def z17 : State := utp (pkSt []) (some 0) []

/-- Every clause of LaneAndPkEvents has a case that meets its hypotheses. -/
theorem witness_LaneAndPkEvents :
    (∃ (s : State) (id : WorkId) (c : CipherOp), (alive s = true)
      ∧ (List.find? (fun c => c.work.ring == id.ring && c.work.idx == id.idx) s.lanes.ops = some c)
      ∧ (∀ x ∈ s.lanes.queue, x.work ≠ c.work) ∧ (ringTakes (ringOf s c.work.ring) c.work.gen = true)
      ∧ (dOp c.work.desc = 55)
      ∧ (macOf c.work c.key (List.take (List.length c.work.input - cMacLen c.work) c.work.input) = List.drop (List.length c.work.input - cMacLen c.work) c.work.input))
    ∧ (∃ (s : State) (id : WorkId) (c : CipherOp), (alive s = true)
      ∧ (List.find? (fun c => c.work.ring == id.ring && c.work.idx == id.idx) s.lanes.ops = some c)
      ∧ (∀ x ∈ s.lanes.queue, x.work ≠ c.work) ∧ (ringTakes (ringOf s c.work.ring) c.work.gen = true)
      ∧ (dOp c.work.desc = 55)
      ∧ (macOf c.work c.key (List.take (List.length c.work.input - cMacLen c.work) c.work.input) ≠ List.drop (List.length c.work.input - cMacLen c.work) c.work.input))
    ∧ (∃ (s : State) (id : WorkId) (c : CipherOp), (alive s = true)
      ∧ (List.find? (fun c => c.work.ring == id.ring && c.work.idx == id.idx) s.lanes.ops = some c)
      ∧ (∀ x ∈ s.lanes.queue, x.work ≠ c.work) ∧ (ringTakes (ringOf s c.work.ring) c.work.gen = true)
      ∧ (dOp c.work.desc = 56) ∧ (cAlg c.work = 2))
    ∧ (∃ (s : State) (id : WorkId) (c : CipherOp), (alive s = true)
      ∧ (List.find? (fun c => c.work.ring == id.ring && c.work.idx == id.idx) s.lanes.ops = some c)
      ∧ (∀ x ∈ s.lanes.queue, x.work ≠ c.work) ∧ (ringTakes (ringOf s c.work.ring) c.work.gen = true)
      ∧ (dOp c.work.desc = 49)
      ∧ ((gcmOpen c.key (List.take 12 (cIv c.work)) (List.take (cAad c.work) c.work.input) (List.take ((List.drop (cAad c.work) c.work.input).length - 16) (List.drop (cAad c.work) c.work.input)) (List.drop ((List.drop (cAad c.work) c.work.input).length - 16) (List.drop (cAad c.work) c.work.input))).2 = true))
    ∧ (∃ (s : State) (id : WorkId) (c : CipherOp), (alive s = true)
      ∧ (List.find? (fun c => c.work.ring == id.ring && c.work.idx == id.idx) s.lanes.ops = some c)
      ∧ (∀ x ∈ s.lanes.queue, x.work ≠ c.work) ∧ (ringTakes (ringOf s c.work.ring) c.work.gen = true)
      ∧ (dOp c.work.desc = 49)
      ∧ ((gcmOpen c.key (List.take 12 (cIv c.work)) (List.take (cAad c.work) c.work.input) (List.take ((List.drop (cAad c.work) c.work.input).length - 16) (List.drop (cAad c.work) c.work.input)) (List.drop ((List.drop (cAad c.work) c.work.input).length - 16) (List.drop (cAad c.work) c.work.input))).2 = false))
    ∧ (∃ (s : State) (l : LaneId) (c : CipherOp), (alive s = true) ∧ (laneThere s l = true)
      ∧ (l ∉ s.lanes.quarantined) ∧ (l.group = LaneGroup.vault)
      ∧ (List.filter (fun c => c.lane == l) s.lanes.ops = [c]) ∧ (∀ x ∈ s.lanes.queue, x.work ≠ c.work))
    ∧ (∃ (s : State) (g : LaneGroup), (alive s = true) ∧ (s.sys.firmwareUp = true) ∧ (groupThere s g = true)
      ∧ (s.lanes.underTest.at? (groupIdx g) = none))
    ∧ (∃ (s : State) (g : LaneGroup) (l : LaneId), (alive s = true) ∧ (s.lanes.underTest.at? (groupIdx g) = some l)
      ∧ (∀ c ∈ s.lanes.ops, c.lane ≠ l))
    ∧ (∃ (s : State) (id : WorkId) (c : PkOp), (alive s = true)
      ∧ (List.find? (fun c => c.running && c.work.ring == id.ring && c.work.idx == id.idx) s.pk.ops = some c)
      ∧ (ringTakes (ringOf s c.work.ring) c.work.gen = true) ∧ (needsRandom c.work = true) ∧ (canDraw s = false))
    ∧ ((∀ k b, Config.valid k b = false) → ∃ (s : State) (id : WorkId) (c : PkOp), (alive s = true)
      ∧ (List.find? (fun c => c.running && c.work.ring == id.ring && c.work.idx == id.idx) s.pk.ops = some c)
      ∧ (ringTakes (ringOf s c.work.ring) c.work.gen = true) ∧ (dOp c.work.desc = 65)
      ∧ (¬(Config.valid (validPub (kAlg c.work)) (onCurve s c (List.take (pubLen s c.owner (kPset c.work) (kVar c.work)) c.work.input)) = true
      ∧ Config.valid (validSig (kAlg c.work)) (onCurve s c (slice c.work.input (pubLen s c.owner (kPset c.work) (kVar c.work)) (sigLen s c.owner (kPset c.work) (kVar c.work)))) = true)))
    ∧ ((∀ k b, Config.valid k b = true) ∧ (∀ k p m g, Config.verify k p m g = true)
      → ∃ (s : State) (id : WorkId) (c : PkOp), (alive s = true)
      ∧ (List.find? (fun c => c.running && c.work.ring == id.ring && c.work.idx == id.idx) s.pk.ops = some c)
      ∧ (ringTakes (ringOf s c.work.ring) c.work.gen = true) ∧ (dOp c.work.desc = 65)
      ∧ (Config.valid (validPub (kAlg c.work)) (onCurve s c (List.take (pubLen s c.owner (kPset c.work) (kVar c.work)) c.work.input)) = true
      ∧ Config.valid (validSig (kAlg c.work)) (onCurve s c (slice c.work.input (pubLen s c.owner (kPset c.work) (kVar c.work)) (sigLen s c.owner (kPset c.work) (kVar c.work)))) = true)
      ∧ (Config.verify (pkScheme c.work) (onCurve s c (List.take (pubLen s c.owner (kPset c.work) (kVar c.work)) c.work.input)) (pkMessage s c) (slice c.work.input (pubLen s c.owner (kPset c.work) (kVar c.work)) (sigLen s c.owner (kPset c.work) (kVar c.work))) = true))
    ∧ ((∀ k b, Config.valid k b = true) ∧ (∀ k p m g, Config.verify k p m g = false)
      → ∃ (s : State) (id : WorkId) (c : PkOp), (alive s = true)
      ∧ (List.find? (fun c => c.running && c.work.ring == id.ring && c.work.idx == id.idx) s.pk.ops = some c)
      ∧ (ringTakes (ringOf s c.work.ring) c.work.gen = true) ∧ (dOp c.work.desc = 65)
      ∧ (Config.valid (validPub (kAlg c.work)) (onCurve s c (List.take (pubLen s c.owner (kPset c.work) (kVar c.work)) c.work.input)) = true
      ∧ Config.valid (validSig (kAlg c.work)) (onCurve s c (slice c.work.input (pubLen s c.owner (kPset c.work) (kVar c.work)) (sigLen s c.owner (kPset c.work) (kVar c.work)))) = true)
      ∧ (Config.verify (pkScheme c.work) (onCurve s c (List.take (pubLen s c.owner (kPset c.work) (kVar c.work)) c.work.input)) (pkMessage s c) (slice c.work.input (pubLen s c.owner (kPset c.work) (kVar c.work)) (sigLen s c.owner (kPset c.work) (kVar c.work))) = false))
    ∧ ((∀ k b, Config.valid k b = false) → ∃ (s : State) (id : WorkId) (c : PkOp), (alive s = true)
      ∧ (List.find? (fun c => c.running && c.work.ring == id.ring && c.work.idx == id.idx) s.pk.ops = some c)
      ∧ (ringTakes (ringOf s c.work.ring) c.work.gen = true) ∧ (dOp c.work.desc = 64)
      ∧ (needsRandom c.work = false ∨ canDraw s = true)
      ∧ (Config.valid (validPriv (kAlg c.work)) (pkMaterial s c) = false))
    ∧ ((∀ k b, Config.valid k b = true) → ∃ (s : State) (id : WorkId) (n : Nat) (c : PkOp), (alive s = true)
      ∧ (List.find? (fun c => c.running && c.work.ring == id.ring && c.work.idx == id.idx) s.pk.ops = some c)
      ∧ (ringTakes (ringOf s c.work.ring) c.work.gen = true) ∧ (dOp c.work.desc = 64)
      ∧ (needsRandom c.work = false ∨ canDraw s = true)
      ∧ (Config.valid (validPriv (kAlg c.work)) (pkMaterial s c) = true) ∧ (isMldsa (kPset c.work) = true)
      ∧ (1000 ≤ n))
    ∧ ((∀ k b, Config.valid k b = true) → ∃ (s : State) (id : WorkId) (n : Nat) (c : PkOp), (alive s = true)
      ∧ (List.find? (fun c => c.running && c.work.ring == id.ring && c.work.idx == id.idx) s.pk.ops = some c)
      ∧ (ringTakes (ringOf s c.work.ring) c.work.gen = true) ∧ (dOp c.work.desc = 64)
      ∧ (needsRandom c.work = false ∨ canDraw s = true)
      ∧ (Config.valid (validPriv (kAlg c.work)) (pkMaterial s c) = true)
      ∧ (isMldsa (kPset c.work) = false ∨ n < 1000))
    ∧ (∃ (s : State) (id : WorkId) (c : PkOp), (alive s = true)
      ∧ (List.find? (fun c => c.running && c.work.ring == id.ring && c.work.idx == id.idx) s.pk.ops = some c)
      ∧ (ringTakes (ringOf s c.work.ring) c.work.gen = true) ∧ (dOp c.work.desc = 69) ∧ (curveErr c.work.input ≠ 0))
    ∧ ((∀ k b, Config.valid k b = true) → ∃ (s : State) (id : WorkId) (c : PkOp) (i : Nat), (alive s = true)
      ∧ (List.find? (fun c => c.running && c.work.ring == id.ring && c.work.idx == id.idx) s.pk.ops = some c)
      ∧ (ringTakes (ringOf s c.work.ring) c.work.gen = true) ∧ (dOp c.work.desc = 69) ∧ (curveErr c.work.input = 0)
      ∧ (curveIndex s c.owner c.work.input = some i))
    ∧ (∃ (s : State) (e : Nat), (alive s = true) ∧ (e ∈ pkEngines s) ∧ (e ∉ s.pk.quarantined)
      ∧ (dieIn s.sys.lost (e / 2) = false) ∧ (s.pk.aborts = []))
    ∧ (∃ (s : State), (alive s = true) ∧ (s.sys.firmwareUp = true) ∧ (s.pk.underTest = none))
    ∧ (∃ (s : State) (e : Nat), (alive s = true) ∧ (s.pk.underTest = some e) ∧ (∀ c ∈ s.pk.ops, c.engine ≠ e)) :=
  ⟨⟨z1, wid 2, cOp (w37 (b5 ++ macOf (w37 []) (List.replicate 32 8) b5)) false 1, by decide +kernel, find_single rfl,
    by decide +kernel, by decide +kernel, by decide +kernel, mac_good (if_neg (by decide +kernel)) (macOf_desc rfl)⟩,
    ⟨z2, wid 2, the (List.find? (fun c => c.work.ring == (wid 2).ring && c.work.idx == (wid 2).idx) z2.lanes.ops),
      by decide +kernel, the_eq, by decide +kernel, by decide +kernel, by decide +kernel, ne_of_length⟩,
    ⟨z3, wid 2, the (List.find? (fun c => c.work.ring == (wid 2).ring && c.work.idx == (wid 2).idx) z3.lanes.ops),
      by decide +kernel, the_eq, by decide +kernel⟩,
    ⟨z4, wid 2,
      cOp (w31 (b5 ++ le 16 (Config.gcmTag (List.replicate 32 8) (zeros 12) (b5.take 1) (b5.drop 1)).toNat)) false 0,
      by decide +kernel, find_single rfl, by decide +kernel, by decide +kernel, by decide +kernel,
      gcm_good (if_neg (by decide +kernel))⟩,
    ⟨z5, wid 2, the (List.find? (fun c => c.work.ring == (wid 2).ring && c.work.idx == (wid 2).idx) z5.lanes.ops),
      by decide +kernel, the_eq, by decide +kernel, by decide +kernel, by decide +kernel,
      Bool.eq_false_iff.2 gcm_bad⟩,
    ⟨z6, z7, hd1 (List.filter (fun c => c.lane == z7) z6.lanes.ops), by decide +kernel⟩,
    ⟨z6, .vault, by decide +kernel⟩,
    ⟨z8, .vault, the (z8.lanes.underTest.at? (groupIdx .vault)), by decide +kernel, the_eq, by decide +kernel⟩,
    ⟨z9, wid 2,
      the (List.find? (fun c => c.running && c.work.ring == (wid 2).ring && c.work.idx == (wid 2).idx) z9.pk.ops),
      by decide +kernel, the_eq, by decide +kernel⟩,
    (fun h => ⟨z10, wid 2,
      the (List.find? (fun c => c.running && c.work.ring == (wid 2).ring && c.work.idx == (wid 2).idx) z10.pk.ops),
      by decide +kernel, the_eq, by decide +kernel, by decide +kernel,
      fun x => Bool.noConfusion ((h _ _).symm.trans x.1)⟩),
    (fun h => ⟨pkSt [pv (zeros 161)], wid 2,
      the (List.find? (fun c => c.running && c.work.ring == (wid 2).ring && c.work.idx == (wid 2).idx) (pkSt [pv (zeros 161)]).pk.ops),
      by decide +kernel, the_eq, by decide +kernel, by decide +kernel, ⟨h.1 _ _, h.1 _ _⟩, h.2 _ _ _ _⟩),
    (fun h => ⟨z11, wid 2,
      the (List.find? (fun c => c.running && c.work.ring == (wid 2).ring && c.work.idx == (wid 2).idx) z11.pk.ops),
      by decide +kernel, the_eq, by decide +kernel, by decide +kernel, ⟨h.1 _ _, h.1 _ _⟩, h.2 _ _ _ _⟩),
    (fun h => ⟨z12, wid 2,
      the (List.find? (fun c => c.running && c.work.ring == (wid 2).ring && c.work.idx == (wid 2).idx) z12.pk.ops),
      by decide +kernel, the_eq, by decide +kernel, by decide +kernel, by decide +kernel, h _ _⟩),
    (fun h => ⟨z13, wid 2, 1000,
      the (List.find? (fun c => c.running && c.work.ring == (wid 2).ring && c.work.idx == (wid 2).idx) z13.pk.ops),
      by decide +kernel, the_eq, by decide +kernel, by decide +kernel, by decide +kernel, h _ _, by decide +kernel⟩),
    (fun h => ⟨z14, wid 2, 0,
      the (List.find? (fun c => c.running && c.work.ring == (wid 2).ring && c.work.idx == (wid 2).idx) z14.pk.ops),
      by decide +kernel, the_eq, by decide +kernel, by decide +kernel, by decide +kernel, h _ _, by decide +kernel⟩),
    ⟨z15, wid 2,
      the (List.find? (fun c => c.running && c.work.ring == (wid 2).ring && c.work.idx == (wid 2).idx) z15.pk.ops),
      by decide +kernel, the_eq, by decide +kernel⟩,
    (fun h => ⟨z16, wid 2,
      the (List.find? (fun c => c.running && c.work.ring == (wid 2).ring && c.work.idx == (wid 2).idx) z16.pk.ops),
      the (curveIndex z16 (the (List.find? (fun c => c.running && c.work.ring == (wid 2).ring && c.work.idx == (wid 2).idx) z16.pk.ops)).owner (the (List.find? (fun c => c.running && c.work.ring == (wid 2).ring && c.work.idx == (wid 2).idx) z16.pk.ops)).work.input),
      by decide +kernel, the_eq, by decide +kernel, by decide +kernel,
      by unfold curveErr; simp only [h]; decide +kernel, the_eq⟩),
    ⟨z6, nth (pkEngines z6) 0, by decide +kernel⟩,
    ⟨z6, by decide +kernel⟩,
    ⟨z17, the z17.pk.underTest, by decide +kernel, the_eq, by decide +kernel⟩⟩

end C

namespace D

def r0 : Rng := { ready := true }

def wr (n : Nat) : State := { rngSt r0 with adm := { up.adm with work := [wkP 2 0x20 0 [] [] n] } }

def z18 : State := rngSt { r0 with halted := true }

def z19 : State := rngSt { r0 with firstAlarm := [(3, 10 ^ 11)], draws := [dr1 none] }

def z20 : State := rngSt { r0 with stretching := true, pool := 2, requests := 2 ^ 24 }

def z21 : State := rngSt { r0 with pool := 8, requests := 2 ^ 16 }

def z22 : State := rngSt { r0 with requests := 2 ^ 16 }

def z23 : State := rngSt { r0 with failed := true, heldReads := 1 }

def z24 : State := { wr 5 with rng := {} }

/-- Every clause of Generator has a case that meets its hypotheses. -/
theorem witness_Generator :
    (∃ (s : State), (rngRuns s = true) ∧ (s.rng.failed = false) ∧ (s.rng.ready = false))
    ∧ (∃ (s : State), (rngRuns s = true) ∧ (s.rng.failed = false) ∧ (s.rng.ready = true) ∧ (s.rng.halted = true))
    ∧ (∃ (s : State), (rngRuns s = true) ∧ (s.rng.failed = false) ∧ (s.rng.ready = true) ∧ (s.rng.halted = false)
      ∧ (drawWaits s = true) ∧ (s.rng.pool = 0))
    ∧ (∃ (s : State), (rngRuns s = true) ∧ (s.rng.failed = false) ∧ (s.rng.ready = true) ∧ (s.rng.halted = false)
      ∧ (drawWaits s = false ∨ 0 < s.rng.pool) ∧ (s.rng.stretching = true))
    ∧ (∃ (s : State), (rngRuns s = true) ∧ (s.rng.failed = false) ∧ (s.rng.ready = true) ∧ (s.rng.halted = false)
      ∧ (drawWaits s = false ∨ 0 < s.rng.pool) ∧ (s.rng.stretching = false))
    ∧ (∃ (s : State), (rngRuns s = true) ∧ (s.rng.failed = false) ∧ (s.rng.ready = true) ∧ (2 ^ 16 ≤ s.rng.requests)
      ∧ (s.rng.stretching = false) ∧ (s.rng.halted = false) ∧ (0 < s.rng.pool))
    ∧ (∃ (s : State), (rngRuns s = true) ∧ (s.rng.failed = false) ∧ (s.rng.ready = true) ∧ (2 ^ 16 ≤ s.rng.requests)
      ∧ (s.rng.stretching = false) ∧ (s.rng.halted = false) ∧ (s.rng.pool = 0))
    ∧ (∃ (s : State), (rngRuns s = true) ∧ (s.rng.failed = false) ∧ (s.rng.ready = true) ∧ (2 ^ 24 ≤ s.rng.requests)
      ∧ (s.rng.halted = false))
    ∧ (∃ (s : State) (src : Nat), (rngRuns s = true) ∧ (s.rng.failed = false) ∧ (src < 4) ∧ (s.rng.ready = true)
      ∧ (recentAlarm s src = false))
    ∧ (∃ (s : State) (src : Nat), (rngRuns s = true) ∧ (s.rng.failed = false) ∧ (src < 4)
      ∧ (s.rng.ready = false ∨ recentAlarm s src = true))
    ∧ (∃ (s : State), (hostOpen s = true ∧ grants (ruleOf s (barSlot 458760)) 3 BoxKind.read = true
      ∧ heldGate s = false) ∧ (canDraw s = true))
    ∧ (∃ (s : State), (hostOpen s = true ∧ grants (ruleOf s (barSlot 458760)) 3 BoxKind.read = true
      ∧ heldGate s = false) ∧ (s.rng.failed = true))
    ∧ (∃ (s : State), (hostOpen s = true ∧ grants (ruleOf s (barSlot 458760)) 3 BoxKind.read = true
      ∧ heldGate s = false) ∧ (canDraw s = false) ∧ (s.rng.failed = false))
    ∧ (∃ (s : State), (alive s = true) ∧ (0 < s.rng.heldReads))
    ∧ (∃ (s : State) (id : WorkId) (w : Work), (Waits s id 32 w) ∧ (dDstLen w.desc = 0 ∨ 65536 < dDstLen w.desc))
    ∧ (∃ (s : State) (id : WorkId) (w : Work), (Waits s id 32 w) ∧ (1 ≤ dDstLen w.desc) ∧ (dDstLen w.desc ≤ 65536)
      ∧ (canDraw s = false))
    ∧ (∃ (s : State) (id : WorkId) (w : Work), (Waits s id 32 w) ∧ (1 ≤ dDstLen w.desc) ∧ (dDstLen w.desc ≤ 65536)
      ∧ (canDraw s = true)) :=
  ⟨⟨rngSt {}, by decide +kernel⟩,
    ⟨z18, by decide +kernel⟩,
    ⟨z19, by decide +kernel⟩,
    ⟨z20, by decide +kernel⟩,
    ⟨rngSt r0, by decide +kernel⟩,
    ⟨z21, by decide +kernel⟩,
    ⟨z22, by decide +kernel⟩,
    ⟨z20, by decide +kernel⟩,
    ⟨rngSt r0, 0, by decide +kernel⟩,
    ⟨rngSt {}, 0, by decide +kernel⟩,
    ⟨rngSt r0, by decide +kernel⟩,
    ⟨z23, by decide +kernel⟩,
    ⟨rngSt {}, by decide +kernel⟩,
    ⟨rngSt { heldReads := 3 }, by decide +kernel⟩,
    ⟨wr 0, wid 2, w1 (wr 0), waits_head, by decide +kernel⟩,
    ⟨z24, wid 2, w1 z24, waits_head, by decide +kernel⟩,
    ⟨wr 1, wid 2, w1 (wr 1), waits_head, by decide +kernel⟩⟩

end D

namespace E

def rv (r : Rng) (w : Work) : State := { rngSt r with adm := { up.adm with work := [w], durSeq := some 80 }, dep := { up.dep with durable := some 2 } }

def wf (n : Nat) (d : Nat) : Work := wkP 2 0x22 0 [] (le 8 n) d

def z25 : State := drawSt (drawSpec 1 1 30 6 1 0 9) 64

def z26 : State := drawSt (drawSpec 1 1 30 31 1 0 9) 4096

def z27 : State := drawSt (drawSpec 1 1 30 6 1 0 8) 4096

def z28 : State := drawSt (drawSpec 1 1 30 6 1 0 3) 4096

def z29 : State := { drawSt (drawSpec 1 1 30 6 1 0 0) 4096 with rng := { failed := true } }

def z30 : State := drawSt (drawSpec 1 1 30 6 1 0 9) 4096

def z31 : State := rv { D.r0 with draws := [dr1 none], drawSeeds := 1, pool := 8 } (wf 1 5)

def z32 : State := rv { D.r0 with draws := [dr1 (some dcm)] } (wf 1 5)

def z33 : State := rv { D.r0 with revealed := [(1, 70, [1, 2, 3])] } (wf 70 3)

/-- Every clause of CertifiedDraws has a case that meets its hypotheses. -/
theorem witness_CertifiedDraws :
    (∃ (s : State) (id : WorkId) (w : Work), (canNumber s = true) ∧ (Waits s id 33 w) ∧ (1 ≤ spMode w.input)
      ∧ (spMode w.input ≤ 3) ∧ (dDstLen w.desc < 64 + 8 * spCount w.input))
    ∧ (∃ (s : State) (id : WorkId) (w : Work), (canNumber s = true) ∧ (Waits s id 33 w)
      ∧ (spMode w.input < 1 ∨ 3 < spMode w.input ∨ 64 + 8 * spCount w.input ≤ dDstLen w.desc)
      ∧ (specOk w.input = false))
    ∧ (∃ (s : State) (id : WorkId) (w : Work), (canNumber s = true) ∧ (Waits s id 33 w)
      ∧ (spMode w.input < 1 ∨ 3 < spMode w.input ∨ 64 + 8 * spCount w.input ≤ dDstLen w.desc)
      ∧ (specOk w.input = true) ∧ (spGame w.input ≠ 0) ∧ (findGame s (w.func s) (spGame w.input) = none))
    ∧ (∃ (s : State) (id : WorkId) (w : Work), (canNumber s = true) ∧ (Waits s id 33 w)
      ∧ (spMode w.input < 1 ∨ 3 < spMode w.input ∨ 64 + 8 * spCount w.input ≤ dDstLen w.desc)
      ∧ (specOk w.input = true) ∧ (spGame w.input = 0 ∨ (findGame s (w.func s) (spGame w.input)).isSome = true)
      ∧ (drawRefused s (w.func s) w.input = true))
    ∧ (∃ (s : State) (id : WorkId) (w : Work), (canNumber s = true) ∧ (Waits s id 33 w)
      ∧ (spMode w.input < 1 ∨ 3 < spMode w.input ∨ 64 + 8 * spCount w.input ≤ dDstLen w.desc)
      ∧ (specOk w.input = true) ∧ (spGame w.input = 0 ∨ (findGame s (w.func s) (spGame w.input)).isSome = true)
      ∧ (drawRefused s (w.func s) w.input = false) ∧ (s.rng.failed = true))
    ∧ (∃ (s : State) (id : WorkId) (w : Work) (a : Accord), (canNumber s = true) ∧ (Waits s id 33 w)
      ∧ (spMode w.input < 1 ∨ 3 < spMode w.input ∨ 64 + 8 * spCount w.input ≤ dDstLen w.desc)
      ∧ (specOk w.input = true) ∧ (spGame w.input = 0 ∨ (findGame s (w.func s) (spGame w.input)).isSome = true)
      ∧ (drawRefused s (w.func s) w.input = false) ∧ (s.rng.failed = false) ∧ (HasAccord s w (w.func s) 33 a))
    ∧ (∃ (s : State) (d : DrawRec), (inService s = true) ∧ (s.rng.ready = true) ∧ (s.rng.failed = false)
      ∧ (0 < s.rng.pool + s.rng.drawSeeds) ∧ (canNumber s = true)
      ∧ (List.find? (fun d => d.commit.isNone) s.rng.draws = some d))
    ∧ (∃ (s : State) (d : DrawRec) (c : DrawCommit), (inService s = true)
      ∧ (List.findSome? (fun d => Option.map (fun c => (d,
      c)) (Option.filter (revealReady s) d.commit)) s.rng.draws = some (d, c))
      ∧ (ringTakes (ringOf s d.work.ring) d.work.gen = true))
    ∧ (∃ (s : State), (inService s = true) ∧ (∀ d ∈ s.rng.draws, ∀ c ∈ d.commit, revealReady s c = false))
    ∧ (∃ (s : State) (id : WorkId) (w : Work) (b : Bytes), (Waits s id 34 w)
      ∧ (List.find? (fun r => r.1 == w.func s && r.2.1 == rd w.input 0 8) s.rng.revealed = some (w.func s,
      rd w.input 0 8, b)) ∧ (List.length b ≤ dDstLen w.desc))
    ∧ (∃ (s : State) (id : WorkId) (w : Work), (Waits s id 34 w) ∧ (∀ r ∈ s.rng.revealed, ¬(r.1 = w.func s
      ∧ r.2.1 = rd w.input 0 8))) :=
  ⟨⟨z25, wid 2, w1 z25, by decide +kernel, waits_head, by decide +kernel⟩,
    ⟨z26, wid 2, w1 z26, by decide +kernel, waits_head, by decide +kernel⟩,
    ⟨z27, wid 2, w1 z27, by decide +kernel, waits_head, by decide +kernel⟩,
    ⟨z28, wid 2, w1 z28, by decide +kernel, waits_head, by decide +kernel⟩,
    ⟨z29, wid 2, w1 z29, by decide +kernel, waits_head, by decide +kernel⟩,
    ⟨z30, wid 2, w1 z30, a1 z30, by decide +kernel, waits_head, by decide +kernel, by decide +kernel,
      by decide +kernel, by decide +kernel, by decide +kernel, hasAccord_head⟩,
    ⟨z31, the (List.find? (fun d => d.commit.isNone) z31.rng.draws), by decide +kernel, by decide +kernel,
      by decide +kernel, by decide +kernel, by decide +kernel, the_eq⟩,
    ⟨z32, (the (List.findSome? (fun x => Option.map (fun y => (x,
      y)) (Option.filter (revealReady z32) x.commit)) z32.rng.draws)).1,
      (the (List.findSome? (fun x => Option.map (fun y => (x,
      y)) (Option.filter (revealReady z32) x.commit)) z32.rng.draws)).2, by decide +kernel,
      the_eq (h := by decide +kernel), by decide +kernel⟩,
    ⟨z30, by decide +kernel⟩,
    ⟨z33, wid 2, w1 z33,
      nth (ofOpt (List.find? (fun r => r.1 == (w1 z33).func z33 && r.2.1 == rd (w1 z33).input 0 8) z33.rng.revealed) fun v => [v.2.2]) 0,
      waits_head, by decide +kernel⟩,
    ⟨z31, wid 2, w1 z31, waits_head, by decide +kernel⟩⟩

/-- Every clause of DrawOutcomes has a case that meets its hypotheses. -/
theorem witness_DrawOutcomes :
    (∃ (base : Nat) (b : Bytes) (l : List Nat) (salt : Bytes) (n x : Nat), (specOk b = true)
      ∧ (drawOutcome base b = some (l, salt, n)) ∧ (spMode b = 3) ∧ (x ∈ l))
    ∧ (∃ (base : Nat) (b : Bytes) (l : List Nat) (salt : Bytes) (n x : Nat), (specOk b = true)
      ∧ (drawOutcome base b = some (l, salt, n)) ∧ (spMode b = 1 ∨ spMode b = 2) ∧ (x ∈ l))
    ∧ (∃ (base : Nat) (b : Bytes) (l : List Nat) (salt : Bytes) (n : Nat), (specOk b = true)
      ∧ (drawOutcome base b = some (l, salt, n)) ∧ (spMode b = 1) ∧ (spSort b = true)) :=
  ⟨⟨0, drawSpec 3 0 0 7 10 10 9, (the (drawOutcome 0 (drawSpec 3 0 0 7 10 10 9))).1,
    (the (drawOutcome 0 (drawSpec 3 0 0 7 10 10 9))).2.1, (the (drawOutcome 0 (drawSpec 3 0 0 7 10 10 9))).2.2,
    nth ((the (drawOutcome 0 (drawSpec 3 0 0 7 10 10 9))).1) 0, by decide +kernel, the_eq (h := by decide +kernel),
    by decide +kernel⟩,
    ⟨0, drawSpec 1 1 1 1 5 0 9, (the (drawOutcome 0 (drawSpec 1 1 1 1 5 0 9))).1,
      (the (drawOutcome 0 (drawSpec 1 1 1 1 5 0 9))).2.1, (the (drawOutcome 0 (drawSpec 1 1 1 1 5 0 9))).2.2,
      nth ((the (drawOutcome 0 (drawSpec 1 1 1 1 5 0 9))).1) 0, by decide +kernel, the_eq (h := by decide +kernel),
      by decide +kernel⟩,
    ⟨0, drawSpec 1 1 1 1 5 0 9, (the (drawOutcome 0 (drawSpec 1 1 1 1 5 0 9))).1,
      (the (drawOutcome 0 (drawSpec 1 1 1 1 5 0 9))).2.1, (the (drawOutcome 0 (drawSpec 1 1 1 1 5 0 9))).2.2,
      by decide +kernel, the_eq (h := by decide +kernel), by decide +kernel⟩⟩

end E

end Crypt

namespace CryptB

namespace B

def pp (key hash rec_ ctx : Nat) (attr : W64) : Bytes := le 4 key ++ [0, BitVec.ofNat 8 hash, BitVec.ofNat 8 rec_, BitVec.ofNat 8 ctx] ++ le 8 attr.toNat

def ab (ring idx tag : Nat) : Bytes := zeros 16 ++ le 2 ring ++ le 2 idx ++ le 4 tag

def q01 (s : State) : State := { s with pk := { s.pk with quarantined := [0, 1] } }

def sg : State := pkKeySt (wkP 2 0x40 1 (pp h65 1 0 0 0) (zeros 32)) []

def ops7 : List Nat := [0x40, 0x41, 0x42, 0x43, 0x44, 0x45, 0x47]

def goodW (op : Nat) : Work := match op with
  | 0x40 => wkP 2 0x40 1 (pp h65 1 0 0 0) (zeros 32)
  | 0x41 => wkP 2 0x41 1 (pp 0 1 0 0 0) (zeros (65 + 64 + 32))
  | 0x42 => wkP 2 0x42 1 (pp 0 0 0 0 (mkAttr 34 1 verbSign 0)) []
  | 0x43 => wkP 2 0x43 1 (pp (4096 + 66) 0 0 0 (mkAttr 32 1 verbCipher 0)) (zeros 65)
  | 0x44 => wkP 2 0x44 0x28 (pp 0 0 0 0 (mkAttr 32 1 verbCipher 0)) (zeros 1184)
  | 0x45 => wkP 2 0x45 4 (pp 0 0 0 0 0) (p256 0)
  | _ => wkP 2 0x47 1 (pp h65 0 0 0 0) []

def ps (op k : Nat) : State :=
  match k with
  | 0 => pkKeySt (goodW op) []
  | 1 => { pkKeySt (goodW op) [] with keys := { up.keys with slots := [] }, pk := { up.pk with curves := if op = 0x45 then (List.range 17).map fun i => ⟨i, 2, [BitVec.ofNat 8 i]⟩ else [] } }
  | 2 => pkKeySt { goodW op with src := [1, 2] } []
  | 3 => { pkKeySt (goodW op) [] with rng := {} }
  | 4 => q01 (pkKeySt (goodW op) [])
  | 5 => pkKeySt { goodW op with ring := 6 } []
  | 7 => let s := pkKeySt { goodW op with desc := if op = 0x42 ∨ op = 0x43 ∨ op = 0x44 then (goodW op).desc ||| BitVec.ofNat 512 (512 * 2 ^ (256 + 64)) else (goodW op).desc } []
         sealed { s with keys := { s.keys with slots := s.keys.slots.map fun p => (p.1, { p.2 with attr := if p.1 = 64 then p.2.attr else p.2.attr ||| 512 }) } }
  | 8 => let s := pkKeySt (goodW op) []
         { s with pk := { s.pk with queue := [pOp (wkOn 2 0x40 [9]) false 0] } }
  | 9 => let s := pkKeySt (goodW op) []
         { s with pk := { s.pk with ops := (List.range 16).flatMap fun e => [{ pOp (wkOn 2 0x40 [9]) false e with running := true }, pOp (wkOn 2 0x40 [10]) false e, pOp (wkOn 2 0x40 [11]) false e, pOp (wkOn 2 0x40 [12]) false e, pOp (wkOn 2 0x40 [13]) false e, pOp (wkOn 2 0x40 [14]) false e, pOp (wkOn 2 0x40 [15]) false e, pOp (wkOn 2 0x40 [16]) false e, pOp (wkOn 2 0x40 [17]) false e] } }
  | _ => pkKeySt { goodW op with desc := (goodW op).desc ||| BitVec.ofNat 512 (0x33 * 2 ^ 224) } []

def li (s : State) : State := { s with rings := { s.rings with tbl := s.rings.tbl.map fun p => (p.1, { p.2 with localIdx := p.1 }) } }

def abT : PkOp := pOp { wkP 2 0x40 1 [] [] with idx := 4 } false 0

def abS (ops queue : List PkOp) : State :=
  let s := li (pkKeySt { wkP 2 0x46 0 (ab 2 4 5) [] with idx := 9 } [])
  { s with pk := { s.pk with ops := ops, queue := queue } }

def z1 : State := li { pkKeySt { wkP 2 0x46 0 (ab 2 4 5) [] with idx := 9 } [] with pk := { up.pk with ops := [pOp { wkP 2 0x40 1 [] [] with idx := 4 } false 0] } }

def z2 : WorkId := ⟨2, 9⟩

def z3 : State := abS [abT, { pOp (wkOn 2 0x40 [9]) false 0 with running := true }] []

def z4 : State := li (pkKeySt { wkP 2 0x46 0 (ab 2 4 5) [] with idx := 9 } [{ wkP 2 0x40 1 [] [] with idx := 4 }])

/-- Every clause of PkCommands has a case that meets its hypotheses. -/
theorem witness_PkCommands_abort :
    (∃ (s : State) (id : WorkId) (w : Work) (c : PkOp), (Waits s id 70 w)
      ∧ (List.find? (fun c => abortNames s w c.work) s.pk.ops = some c)
      ∧ (ringTakes (ringOf s c.work.ring) c.work.gen = true) ∧ (c.running = true ∨ pkIdle s c.engine = true))
    ∧ (∃ (s : State) (id : WorkId) (w : Work) (c : PkOp), (Waits s id 70 w)
      ∧ (List.find? (fun c => abortNames s w c.work) s.pk.ops = some c)
      ∧ (ringTakes (ringOf s c.work.ring) c.work.gen = true) ∧ (c.running = false) ∧ (pkIdle s c.engine = false))
    ∧ (∃ (s : State) (id : WorkId) (w : Work) (c : PkOp), (Waits s id 70 w) ∧ (∀ x ∈ s.pk.ops,
      abortNames s w x.work = false) ∧ (List.find? (fun c => abortNames s w c.work) s.pk.queue = some c)
      ∧ (ringTakes (ringOf s c.work.ring) c.work.gen = true))
    ∧ (∃ (s : State) (id : WorkId) (w x : Work), (Waits s id 70 w) ∧ (∀ c ∈ s.pk.ops ++ s.pk.queue,
      abortNames s w c.work = false) ∧ (List.find? (abortNames s w) s.adm.work = some x)
      ∧ (ringTakes (ringOf s x.ring) x.gen = true))
    ∧ (∃ (s : State) (id : WorkId) (w : Work), (Waits s id 70 w) ∧ (∀ c ∈ s.pk.ops ++ s.pk.queue,
      abortNames s w c.work = false) ∧ (∀ x ∈ s.adm.work, abortNames s w x = false)) :=
  ⟨⟨z1, z2, w1 z1, the (List.find? (fun c => abortNames z1 (w1 z1) c.work) z1.pk.ops), waits_head, the_eq,
    by decide +kernel⟩,
    ⟨z3, z2, w1 z3, the (List.find? (fun c => abortNames z3 (w1 z3) c.work) z3.pk.ops), waits_head, the_eq,
      by decide +kernel⟩,
    ⟨abS [] [abT], z2, w1 (abS [] [abT]),
      the (List.find? (fun c => abortNames (abS [] [abT]) (w1 (abS [] [abT])) c.work) (abS [] [abT]).pk.queue),
      waits_head, by decide +kernel, the_eq, by decide +kernel⟩,
    ⟨z4, z2, w1 z4, the (List.find? (abortNames z4 (w1 z4)) z4.adm.work), waits_head, by decide +kernel, the_eq,
      by decide +kernel⟩,
    ⟨abS [] [], z2, w1 (abS [] []), waits_head, by decide +kernel⟩⟩

end B

end CryptB

namespace Bus

def cardA : Card := { powered := true, state := 3, identified := true, id := card1, validUntil := 2 ^ 39, commits := 5, pinTries := 3 }

def cardB : Card := { cardA with id := List.replicate 16 2 }

def busSt (bus : List (Nat × CardStep)) (phase : Nat) (cs : Tbl Card) : State := { up with cards := { bus := bus, phase := phase, slots := cs } }

def txr (u : Bool) : TxnRec := { card := card1, txn := 7, slot := 2, commits := 5, header := none, unconfirmed := u }

namespace A

def z1 : State := { busSt [] 0 [] with cards := { slotEn := 0xFE } }

def z2 : State := busSt [(3, .fetch)] 1 [(3, cardA)]

def z3 : State := busSt [(3, .sendVdd)] 0 [(3, { powered := true })]

def z4 : State := busSt [(3, .allSendId)] 0 [(3, { powered := true, state := 1 })]

def z5 : State := busSt [(3, .sendLife)] 0 [(3, cardA)]

def z6 : State := busSt [(3, .switchMode 0 2)] 2 [(3, cardA)]

def z7 : State := busSt [(3, .shareWrite 7 2 [])] 2 [(3, cardA)]

/-- Every clause of CardBus has a case that meets its hypotheses. -/
theorem witness_CardBus :
    (∃ (s : State) (n : Nat), (s.cards.ops = []) ∧ (n < 8) ∧ (s.cards.slots.at? n = none) ∧ (busOn s = true)
      ∧ (s.cards.slotEn.getLsbD n = true) ∧ (s.cards.bus = []))
    ∧ (∃ (s : State) (n : Nat), (s.cards.ops = []) ∧ (n < 8) ∧ (s.cards.slots.at? n = none)
      ∧ (busOn s = false ∨ s.cards.slotEn.getLsbD n = false))
    ∧ (∃ (s : State) (n : Nat), (s.cards.ops = []) ∧ ((s.cards.slots.at? n).isSome = true))
    ∧ (∃ (s : State) (n : Nat) (p : W32) (rest : List (Nat × CardStep)), (s.cards.ops = []) ∧ (busOn s = true
      ∧ s.cards.bus = (n, CardStep.sendVdd) :: rest ∧ s.cards.phase = 0 ∧ s.cards.blocks = [] ∧ s.sys.pwrFail = false)
      ∧ (BitVec.getLsbD p 31 = true) ∧ (rest = []))
    ∧ (∃ (s : State) (n : Nat) (p : W32) (rest : List (Nat × CardStep)), (s.cards.ops = []) ∧ (busOn s = true
      ∧ s.cards.bus = (n, CardStep.sendVdd) :: rest ∧ s.cards.phase = 0 ∧ s.cards.blocks = [] ∧ s.sys.pwrFail = false)
      ∧ (BitVec.getLsbD p 31 = false))
    ∧ (∃ (s : State) (n : Nat) (p : BitVec 120), (s.cards.ops = []) ∧ (busOn s = true ∧ s.cards.bus = [(n,
      CardStep.allSendId)] ∧ s.cards.phase = 0 ∧ s.cards.blocks = [] ∧ s.sys.pwrFail = false)
      ∧ (slotWith s (cardIdOf p) = none))
    ∧ (∃ (s : State) (n : Nat), (s.cards.ops = []) ∧ (busOn s = true ∧ s.cards.bus = [(n, CardStep.sendLife)]
      ∧ s.cards.phase = 0 ∧ s.cards.blocks = [] ∧ s.sys.pwrFail = false) ∧ ((cardOf s n).identified = true)
      ∧ (s.cards.regiven = none))
    ∧ (∃ (s : State) (n : Nat) (st : CardStep) (rest : List (Nat × CardStep)), (s.cards.ops = []) ∧ (∃ width,
      st = CardStep.switchMode 0 width) ∧ (busOn s = true ∧ s.cards.bus = (n, st) :: rest ∧ s.cards.phase = 2
      ∧ s.cards.blocks = [] ∧ s.sys.pwrFail = false) ∧ (s.cards.repeated = false))
    ∧ (∃ (s : State) (n speed width : Nat), (s.cards.ops = []) ∧ (busOn s = true ∧ s.cards.bus = [(n,
      CardStep.switchMode speed width)] ∧ s.cards.phase = 2 ∧ s.cards.blocks = [] ∧ s.sys.pwrFail = false))
    ∧ (∃ (s : State) (n txn place : Nat) (b : Bytes), (s.cards.ops = []) ∧ (busOn s = true ∧ s.cards.bus = [(n,
      CardStep.shareWrite txn place b)] ∧ s.cards.phase = 2 ∧ s.cards.blocks = [] ∧ s.sys.pwrFail = false)) :=
  ⟨⟨busSt [] 0 [], 0, by decide +kernel⟩,
    ⟨z1, 0, by decide +kernel⟩,
    ⟨z2, nth (ofHd z2.cards.bus fun v => [v.1]) 0, by decide +kernel⟩,
    ⟨z3, nth (ofHd z3.cards.bus fun v => [v.1]) 0, 4294967295, tl1 z3.cards.bus, by decide +kernel⟩,
    ⟨z3, nth (ofHd z3.cards.bus fun v => [v.1]) 0, 0, tl1 z3.cards.bus, by decide +kernel⟩,
    ⟨z4, nth (ofHd z4.cards.bus fun v => [v.1]) 0, 0, by decide +kernel⟩,
    ⟨z5, nth (ofHd z5.cards.bus fun v => [v.1]) 0, by decide +kernel⟩,
    ⟨z6, nth (ofHd z6.cards.bus fun v => [v.1]) 0, nth (ofHd z6.cards.bus fun v => [v.2]) 0, tl1 z6.cards.bus,
      by decide +kernel, ⟨2, by decide +kernel⟩, by decide +kernel⟩,
    ⟨z6, nth (ofHd z6.cards.bus fun v => [v.1]) 0, 0, 2, by decide +kernel⟩,
    ⟨z7, nth (ofHd z7.cards.bus fun v => [v.1]) 0, 7, 2, [], by decide +kernel⟩⟩

end A

end Bus

namespace Cards

def cardA : Card := { powered := true, state := 3, identified := true, id := card1, validUntil := 2 ^ 39, commits := 5, pinTries := 3 }

def cardB : Card := { cardA with id := List.replicate 16 2 }

def busSt (bus : List (Nat × CardStep)) (phase : Nat) (cs : Tbl Card) : State := { up with cards := { bus := bus, phase := phase, slots := cs } }

def txr (u : Bool) : TxnRec := { card := card1, txn := 7, slot := 2, commits := 5, header := none, unconfirmed := u }

def addBody (acc : Nat) (card sig : Bytes) : Bytes := le 2 acc ++ zeros 14 ++ card ++ sig

def acAdd (card sig : Bytes) (ring : Nat := 2) : State :=
  let s := acc ring 0x5B (addBody 7 card sig)
  { s with cards := { s.cards with slots := [(3, cardA)] }, keys := { s.keys with accords := s.keys.accords.map fun x => { x with signers := [], body := own1.officials } } }

def wc (op : Nat) : Work := wkOn 2 op [1]

def part1 (stage : Nat) : CardPart := { slot := 3, card := card1, stage := stage, header := [], share := [], place := 2 }

def opc (t : CardTask) (op stage : Nat) : CardOp := { task := t, work := wc op, owner := 1, deadline := 2 * 10 ^ 12, parts := [part1 stage], kcv := [], setNo := 3 }

def opSt (t : CardTask) (op stage : Nat) (bus : List (Nat × CardStep)) (phase : Nat) (c : Card := cardA) : State :=
  let s := acAdd card1 (zeros 64)
  { s with cards := { s.cards with bus := bus, phase := phase, slots := [(3, c)], ops := [opc t op stage], records := [txr false] } }

namespace A

def z1 : State := { acAdd card1 (List.replicate 64 3) with cards := {} }

def z2 : State := { acAdd card1 (zeros 64) with cards := {} }

def z3 : State := { acAdd card1 (zeros 64) with keys := {} }

def z4 : State := opSt (.sign 7) 0x5B 3 [] 0 { cardA with identified := false }

def z5 : State := opSt (.sign 7) 0x5B 3 [] 0

def z6 : State := opSt (.sign 7) 0x5B 4 [(3, .fetch)] 1

def z7 : State := opSt .shareOut 0x75 4 [(3, .shareWrite 7 2 [])] 1

/-- Every clause of CardOps has a case that meets its hypotheses. -/
theorem witness_CardOps :
    (∃ (s : State) (id : WorkId) (w : Work) (a : Accord), (Waits s id 91 w)
      ∧ (accordFor s (w.func s) (rd w.input 0 2) = some a) ∧ (allZero w.input 2 14 = true)
      ∧ ((cardKeyFor s a (slice w.input 16 16)).isSome = true) ∧ (allZero w.input 32 64 = false)
      ∧ (slotWith s (slice w.input 16 16) = none))
    ∧ (∃ (s : State) (id : WorkId) (w : Work) (a : Accord), (Waits s id 91 w)
      ∧ (accordFor s (w.func s) (rd w.input 0 2) = some a) ∧ (allZero w.input 2 14 = true)
      ∧ ((cardKeyFor s a (slice w.input 16 16)).isSome = true) ∧ (allZero w.input 32 64 = true)
      ∧ (slotWith s (slice w.input 16 16) = none))
    ∧ (∃ (s : State) (n : Nat) (id : WorkId) (w : Work) (a : Accord), (Waits s id 91 w)
      ∧ (accordFor s (w.func s) (rd w.input 0 2) = some a) ∧ (allZero w.input 2 14 = true)
      ∧ ((cardKeyFor s a (slice w.input 16 16)).isSome = true) ∧ (allZero w.input 32 64 = true)
      ∧ (slotWith s (slice w.input 16 16) = some n) ∧ ((cardOf s n).identified = true)
      ∧ ((cardOf s n).id = slice w.input 16 16) ∧ (cardExpired s (cardOf s n) = false)
      ∧ ((cardOf s n).pinBlocked = false) ∧ (s.cards.ops = []) ∧ (s.cards.bus = []))
    ∧ (∃ (s : State) (id : WorkId) (w : Work), (Waits s id 91 w) ∧ (accordFor s (w.func s) (rd w.input 0 2) = none))
    ∧ (∃ (s : State) (n : Nat) (o : CardOp) (p : CardPart) (no : Nat), (busOn s = true) ∧ (s.cards.ops = [o])
      ∧ (o.task = CardTask.sign no) ∧ (o.parts = [p]) ∧ (partOn s n = some (o, p))
      ∧ (ringTakes (ringOf s o.work.ring) o.work.gen = true) ∧ ((cardOf s n).identified = false))
    ∧ (∃ (s : State) (n : Nat) (o : CardOp) (p : CardPart) (no : Nat), (busOn s = true) ∧ (s.cards.ops = [o])
      ∧ (o.task = CardTask.sign no) ∧ (o.parts = [p]) ∧ (partOn s n = some (o, p))
      ∧ (ringTakes (ringOf s o.work.ring) o.work.gen = true) ∧ ((cardOf s n).identified = true)
      ∧ ((cardOf s n).id = p.card) ∧ (p.stage = 3) ∧ (s.cards.bus = []))
    ∧ (∃ (s : State) (n : Nat) (o : CardOp) (p : CardPart) (no : Nat) (a : Accord), (busOn s = true)
      ∧ (s.cards.ops = [o]) ∧ (o.task = CardTask.sign no) ∧ (o.parts = [p]) ∧ (partOn s n = some (o, p))
      ∧ (ringTakes (ringOf s o.work.ring) o.work.gen = true) ∧ (s.cards.bus = [(n, CardStep.fetch)])
      ∧ (s.cards.phase = 1) ∧ (List.find? (fun x => x.no == no) s.keys.accords = some a)
      ∧ (cardExpired s (cardOf s n) = false))
    ∧ (∃ (s : State) (n : Nat) (o : CardOp) (p : CardPart) (txn place : Nat) (b : Bytes) (rest : List (Nat × CardStep)),
      (busOn s = true) ∧ (s.cards.ops = [o]) ∧ (∀ (no : Nat), o.task ≠ CardTask.sign no) ∧ (canNumber s = true)
      ∧ (s.adm.ends = []) ∧ (ringTakes (ringOf s o.work.ring) o.work.gen = true) ∧ (partOn s n = some (o, p))
      ∧ ((s.cards.slots.at? n).isSome = true) ∧ ((cardOf s n).identified = true) ∧ (s.cards.bus = (n,
      CardStep.shareWrite txn place b) :: rest) ∧ (s.cards.phase ≠ 0)) :=
  ⟨⟨z1, wid 2, w1 z1, a1 z1, waits_head, accordFor_head, by decide +kernel⟩,
    ⟨z2, wid 2, w1 z2, a1 z2, waits_head, accordFor_head, by decide +kernel⟩,
    ⟨acAdd card1 (zeros 64), 3, wid 2, w1 (acAdd card1 (zeros 64)), a1 (acAdd card1 (zeros 64)), waits_head,
      accordFor_head, by decide +kernel⟩,
    ⟨z3, wid 2,
      the (List.find? (fun x => x.ring == (wid 2).ring && x.idx == (wid 2).idx && dOp x.desc == 91) z3.adm.work),
      by decide +kernel⟩,
    ⟨z4, 3, hd1 z4.cards.ops, hd1 (hd1 z4.cards.ops).parts, 7, by decide +kernel⟩,
    ⟨z5, 3, hd1 z5.cards.ops, hd1 (hd1 z5.cards.ops).parts, 7, by decide +kernel⟩,
    ⟨z6, nth (ofHd z6.cards.bus fun v => [v.1]) 0, hd1 z6.cards.ops, hd1 (hd1 z6.cards.ops).parts, 7,
      the (List.find? (fun x => x.no == 7) z6.keys.accords), by decide +kernel, by decide +kernel, by decide +kernel,
      by decide +kernel, by decide +kernel, by decide +kernel, by decide +kernel, by decide +kernel, the_eq,
      by decide +kernel⟩,
    ⟨z7, nth (ofHd z7.cards.bus fun v => [v.1]) 0, hd1 z7.cards.ops,
      nth (ofOpt (partOn z7 (nth (ofHd z7.cards.bus fun v => [v.1]) 0)) fun v => [v.2]) 0, 7, 2, [], tl1 z7.cards.bus,
      by decide +kernel, by decide +kernel, notSign, by decide +kernel⟩⟩

end A

end Cards

namespace Shares

def card2 : Bytes := List.replicate 16 2

def cardA : Card := { powered := true, state := 3, identified := true, id := card1, validUntil := 2 ^ 39, commits := 5, pinTries := 3 }

def cardB : Card := { cardA with id := card2 }

def own2c : Owner := { own1 with officials := own1.officials ++ [{ card := card2, pub := List.replicate 65 3 }] }

def soB (h : Nat) : Bytes := [1, 2, 2, 0] ++ le 4 h ++ card1 ++ card2

def siB : Bytes := [1, 2] ++ zeros 6 ++ le 8 5 ++ le 8 6 ++ le 8 (mkAttr 32 1 verbTransport 0).toNat ++ card1 ++ card2

def rsB : Bytes := [1] ++ zeros 7 ++ le 8 5 ++ le 8 6 ++ card1 ++ card2

def seB : Bytes := [1] ++ zeros 7 ++ le 8 5 ++ le 8 6 ++ card1

def cer (op : Nat) (b : Bytes) (cs : Tbl Card := [(3, cardA), (4, cardB)]) : State :=
  let s := acc 6 op b
  sealed { s with cards := { s.cards with slots := cs }, adm := { s.adm with owners := [(1, own2c)] }, keys := { s.keys with slots := [(64, slot64), (65, { payload := List.replicate 64 8, attr := (mkAttr 32 1 verbTransport 0) ||| 0x100, gen := 1, state := 1 })] } }

namespace A

def z1 : State := cer 0x75 (soB h65) [(3, cardA)]

/-- Every clause of ShareCommands has a case that meets its hypotheses. -/
theorem witness_ShareCommands :
    (∃ (s : State) (id : WorkId) (w : Work) (k : KeyView) (st : Status), (canNumber s = true) ∧ (1 ≤ rd w.input 0 1)
      ∧ (rd w.input 0 1 ≤ 63) ∧ (Waits s id 117 w) ∧ (2 ≤ rd w.input 1 1) ∧ (rd w.input 1 1 ≤ rd w.input 2 1)
      ∧ (rd w.input 2 1 ≤ 8) ∧ (rd w.input 3 1 = 0) ∧ (List.length w.input = 8 + 16 * rd w.input 2 1)
      ∧ (distinct (bodyCards w.input 8 (rd w.input 2 1)) = true) ∧ (checkKey (rd w.input 0 1) (rd w.input 4 4) s = s)
      ∧ (usableKey s (rd w.input 0 1) (rd w.input 4 4) = some k) ∧ (aVerb k.attr = verbTransport)
      ∧ (aExport k.attr = true) ∧ (cardsErr s (rd w.input 0 1) (List.map (fun c => (c, true, true,
      true)) (bodyCards w.input 8 (rd w.input 2 1))) = some st))
    ∧ (∃ (s : State) (id : WorkId) (w : Work) (a : Accord) (k : KeyView), (canNumber s = true) ∧ (1 ≤ rd w.input 0 1)
      ∧ (rd w.input 0 1 ≤ 63) ∧ (Waits s id 117 w) ∧ (2 ≤ rd w.input 1 1) ∧ (rd w.input 1 1 ≤ rd w.input 2 1)
      ∧ (rd w.input 2 1 ≤ 8) ∧ (rd w.input 3 1 = 0) ∧ (List.length w.input = 8 + 16 * rd w.input 2 1)
      ∧ (distinct (bodyCards w.input 8 (rd w.input 2 1)) = true) ∧ (checkKey (rd w.input 0 1) (rd w.input 4 4) s = s)
      ∧ (usableKey s (rd w.input 0 1) (rd w.input 4 4) = some k) ∧ (aVerb k.attr = verbTransport)
      ∧ (aExport k.attr = true) ∧ (cardsErr s (rd w.input 0 1) (List.map (fun c => (c, true, true,
      true)) (bodyCards w.input 8 (rd w.input 2 1))) = none) ∧ (s.cards.ops = [] ∧ s.cards.bus = []
      ∧ ∀ x ∈ bodyCards w.input 8 (rd w.input 2 1), ∀ (n : Nat), slotWith s x = some n
      → (cardOf s n).identified = true ∧ (cardOf s n).id = x) ∧ (HasAccord s w (rd w.input 0 1) 117 a))
    ∧ (∃ (s : State) (id : WorkId) (w : Work) (st : Status), (canNumber s = true) ∧ (1 ≤ rd w.input 0 1)
      ∧ (rd w.input 0 1 ≤ 63) ∧ (Waits s id 118 w) ∧ (2 ≤ rd w.input 1 1) ∧ (rd w.input 1 1 ≤ 8)
      ∧ (allZero w.input 2 6 = true) ∧ (List.length w.input = 32 + 16 * rd w.input 1 1)
      ∧ (distinct (bodyCards w.input 32 (rd w.input 1 1)) = true)
      ∧ (aVerb (BitVec.ofNat 64 (rd w.input 24 8)) = verbTransport) ∧ (aKlen (BitVec.ofNat 64 (rd w.input 24 8)) = 32)
      ∧ (aOwner (BitVec.ofNat 64 (rd w.input 24 8)) = rd w.input 0 1)
      ∧ (ownerSlots s (rd w.input 0 1) < (ownerOf s (rd w.input 0 1)).quota)
      ∧ (cardsErr s (rd w.input 0 1) (List.map (fun c => (c, false, false,
      true)) (bodyCards w.input 32 (rd w.input 1 1))) = some st))
    ∧ (∃ (s : State) (id : WorkId) (w : Work) (a : Accord), (canNumber s = true) ∧ (1 ≤ rd w.input 0 1)
      ∧ (rd w.input 0 1 ≤ 63) ∧ (Waits s id 118 w) ∧ (2 ≤ rd w.input 1 1) ∧ (rd w.input 1 1 ≤ 8)
      ∧ (allZero w.input 2 6 = true) ∧ (List.length w.input = 32 + 16 * rd w.input 1 1)
      ∧ (distinct (bodyCards w.input 32 (rd w.input 1 1)) = true)
      ∧ (aVerb (BitVec.ofNat 64 (rd w.input 24 8)) = verbTransport) ∧ (aKlen (BitVec.ofNat 64 (rd w.input 24 8)) = 32)
      ∧ (aOwner (BitVec.ofNat 64 (rd w.input 24 8)) = rd w.input 0 1)
      ∧ (ownerSlots s (rd w.input 0 1) < (ownerOf s (rd w.input 0 1)).quota)
      ∧ (cardsErr s (rd w.input 0 1) (List.map (fun c => (c, false, false,
      true)) (bodyCards w.input 32 (rd w.input 1 1))) = none) ∧ (s.cards.ops = [] ∧ s.cards.bus = []
      ∧ ∀ x ∈ bodyCards w.input 32 (rd w.input 1 1), ∀ (n : Nat), slotWith s x = some n
      → (cardOf s n).identified = true ∧ (cardOf s n).id = x) ∧ (HasAccord s w (rd w.input 0 1) 118 a))
    ∧ (∃ (s : State) (id : WorkId) (w : Work) (st : Status), (canNumber s = true) ∧ (1 ≤ rd w.input 0 1)
      ∧ (rd w.input 0 1 ≤ 63) ∧ (Waits s id 119 w) ∧ (allZero w.input 1 7 = true) ∧ (List.length w.input = 56)
      ∧ (slice w.input 24 16 ≠ slice w.input 40 16) ∧ (cardsErr s (rd w.input 0 1) [(slice w.input 24 16, true, false,
      false), (slice w.input 40 16, true, true, true)] = some st))
    ∧ (∃ (s : State) (id : WorkId) (w : Work) (a : Accord), (canNumber s = true) ∧ (1 ≤ rd w.input 0 1)
      ∧ (rd w.input 0 1 ≤ 63) ∧ (Waits s id 119 w) ∧ (allZero w.input 1 7 = true) ∧ (List.length w.input = 56)
      ∧ (slice w.input 24 16 ≠ slice w.input 40 16) ∧ (cardsErr s (rd w.input 0 1) [(slice w.input 24 16, true, false,
      false), (slice w.input 40 16, true, true, true)] = none) ∧ (s.cards.ops = [] ∧ s.cards.bus = []
      ∧ ∀ x ∈ [slice w.input 24 16, slice w.input 40 16], ∀ (n : Nat), slotWith s x = some n
      → (cardOf s n).identified = true ∧ (cardOf s n).id = x) ∧ (HasAccord s w (rd w.input 0 1) 119 a))
    ∧ (∃ (s : State) (id : WorkId) (w : Work) (st : Status), (canNumber s = true) ∧ (1 ≤ rd w.input 0 1)
      ∧ (rd w.input 0 1 ≤ 63) ∧ (Waits s id 120 w) ∧ (allZero w.input 1 7 = true) ∧ (List.length w.input = 40)
      ∧ (cardsErr s (rd w.input 0 1) [(slice w.input 24 16, true, false, true)] = some st))
    ∧ (∃ (s : State) (id : WorkId) (w : Work) (a : Accord), (canNumber s = true) ∧ (1 ≤ rd w.input 0 1)
      ∧ (rd w.input 0 1 ≤ 63) ∧ (Waits s id 120 w) ∧ (allZero w.input 1 7 = true) ∧ (List.length w.input = 40)
      ∧ (cardsErr s (rd w.input 0 1) [(slice w.input 24 16, true, false, true)] = none) ∧ (s.cards.ops = []
      ∧ s.cards.bus = [] ∧ ∀ x ∈ [slice w.input 24 16], ∀ (n : Nat), slotWith s x = some n
      → (cardOf s n).identified = true ∧ (cardOf s n).id = x) ∧ (HasAccord s w (rd w.input 0 1) 120 a)) :=
  ⟨⟨z1, wid 6, w1 z1, the (usableKey z1 (rd (w1 z1).input 0 1) (rd (w1 z1).input 4 4)),
    the (cardsErr z1 (rd (w1 z1).input 0 1) (List.map (fun c => (c, true, true,
    true)) (bodyCards (w1 z1).input 8 (rd (w1 z1).input 2 1)))), by decide +kernel, by decide +kernel,
    by decide +kernel, waits_head, by decide +kernel, by decide +kernel, by decide +kernel, by decide +kernel,
    by decide +kernel, by decide +kernel, (checkKey_sealed rfl), the_eq,
    by decide +kernel, by decide +kernel, the_eq⟩,
    ⟨cer 0x75 (soB h65), wid 6, w1 (cer 0x75 (soB h65)), a1 (cer 0x75 (soB h65)),
      the (usableKey (cer 0x75 (soB h65)) (rd (w1 (cer 0x75 (soB h65))).input 0 1) (rd (w1 (cer 0x75 (soB h65))).input 4 4)),
      by decide +kernel, by decide +kernel, by decide +kernel, waits_head, by decide +kernel, by decide +kernel,
      by decide +kernel, by decide +kernel, by decide +kernel, by decide +kernel,
      (checkKey_sealed rfl), the_eq, by decide +kernel, by decide +kernel,
      by decide +kernel, by decide +kernel, hasAccord_head⟩,
    ⟨cer 0x76 siB [], wid 6, w1 (cer 0x76 siB []),
      the (cardsErr (cer 0x76 siB []) (rd (w1 (cer 0x76 siB [])).input 0 1) (List.map (fun c => (c, false, false,
      true)) (bodyCards (w1 (cer 0x76 siB [])).input 32 (rd (w1 (cer 0x76 siB [])).input 1 1)))), by decide +kernel,
      by decide +kernel, by decide +kernel, waits_head, by decide +kernel, by decide +kernel, by decide +kernel,
      by decide +kernel, by decide +kernel, by decide +kernel, by decide +kernel, by decide +kernel,
      by decide +kernel, the_eq⟩,
    ⟨cer 0x76 siB, wid 6, w1 (cer 0x76 siB), a1 (cer 0x76 siB), by decide +kernel, by decide +kernel,
      by decide +kernel, waits_head, by decide +kernel, by decide +kernel, by decide +kernel, by decide +kernel,
      by decide +kernel, by decide +kernel, by decide +kernel, by decide +kernel, by decide +kernel,
      by decide +kernel, by decide +kernel, hasAccord_head⟩,
    ⟨cer 0x77 rsB [], wid 6, w1 (cer 0x77 rsB []),
      the (cardsErr (cer 0x77 rsB []) (rd (w1 (cer 0x77 rsB [])).input 0 1) [(slice (w1 (cer 0x77 rsB [])).input 24 16,
      true, false, false), (slice (w1 (cer 0x77 rsB [])).input 40 16, true, true, true)]), by decide +kernel,
      by decide +kernel, by decide +kernel, waits_head, by decide +kernel, by decide +kernel, by decide +kernel,
      the_eq⟩,
    ⟨cer 0x77 rsB, wid 6, w1 (cer 0x77 rsB), a1 (cer 0x77 rsB), by decide +kernel, by decide +kernel,
      by decide +kernel, waits_head, by decide +kernel, by decide +kernel, by decide +kernel, by decide +kernel,
      by decide +kernel, hasAccord_head⟩,
    ⟨cer 0x78 seB [], wid 6, w1 (cer 0x78 seB []),
      the (cardsErr (cer 0x78 seB []) (rd (w1 (cer 0x78 seB [])).input 0 1) [(slice (w1 (cer 0x78 seB [])).input 24 16,
      true, false, true)]), by decide +kernel, by decide +kernel, by decide +kernel, waits_head, by decide +kernel,
      by decide +kernel, the_eq⟩,
    ⟨cer 0x78 seB, wid 6, w1 (cer 0x78 seB), a1 (cer 0x78 seB), by decide +kernel, by decide +kernel,
      by decide +kernel, waits_head, by decide +kernel, by decide +kernel, by decide +kernel, by decide +kernel,
      hasAccord_head⟩⟩

end A

end Shares

namespace Life

theorem token_ok {s : State} {p : Nat} {c k r : Bytes} (hv : ∀ k p m g, Config.verify k p m g = true)
    (hk : k = ascii "SOLNY AUTH TOKEN" ++ (digestBytes (sha c) ++ r))
    (h : s.life.challenge = some c
      ∧ ¬(rd c 56 1 ≠ p ∨ slice k 0 16 ≠ ascii "SOLNY AUTH TOKEN" ∨ rd k 64 8 ≠ s.otp.deviceId.toNat
        ∨ rd k 72 1 ≠ rd c 56 1 ∨ rd k 73 1 ≠ rd c 57 1) ∧ rd k 76 1 < 4 ∧ revoked s 1 (rd k 76 1) = false := by decide +kernel) :
    tokenErr s p k = 0 := by
  obtain ⟨h1, h2, h3, h4⟩ := h
  have hd : slice k 16 48 = digestBytes (sha c) := by rw [hk]; exact slice_mid (by decide) (by simp [digestBytes])
  have hs : vendorOk s 1 (rd k 76 1) "SOLNY ZILZIL" (slice k 0 128) (slice k 128 96) (slice k 224 4627) = true := by
    unfold vendorOk; rw [hv, hv, h4]; simp [h3]
  have h5 : ¬(rd c 56 1 ≠ p ∨ slice k 0 16 ≠ ascii "SOLNY AUTH TOKEN" ∨ slice k 16 48 ≠ digestBytes (sha c)
      ∨ rd k 64 8 ≠ s.otp.deviceId.toNat ∨ rd k 72 1 ≠ rd c 56 1 ∨ rd k 73 1 ≠ rd c 57 1) := by
    rw [hd]; simpa using h2
  unfold tokenErr
  rw [h1]
  simp only [if_neg h5, hs, Bool.not_true, Bool.false_eq_true, if_false]

/-- A DEVICE_CERT body of this device. -/
def certBody : Bytes :=
  (le 4 0x49444331 ++ le 2 1 ++ zeros 2 ++ le 8 up.otp.deviceId.toNat ++ zeros 16)
    ++ (le 97 (Config.public algP384 (identityKey up)) ++ (le 1952 (Config.public algMldsa65 (identityKey up)) ++ zeros (7 + 96 + 4627)))

def certSt : State := withWk (wkP 6 0x79 0 [1] certBody)

theorem cert_own (h : ∀ k p m g, Config.verify k p m g = true) : ownCert certSt (w1 certSt).src = true := by
  have e1 : slice certBody 32 97 = le 97 (Config.public algP384 (identityKey up)) := slice_mid (by decide +kernel) (by simp)
  have e2 : slice certBody 129 1952 = le 1952 (Config.public algMldsa65 (identityKey up)) := by
    unfold certBody; rw [← List.append_assoc]; exact slice_mid (by simp) (by simp)
  have e3 : certOk certSt certBody = true ∧ (rd certBody 8 8 == up.otp.deviceId.toNat) = true := by
    unfold certOk vendorOk; rw [h, h]; decide +kernel
  change (certOk certSt certBody && rd certBody 8 8 == up.otp.deviceId.toNat
    && slice certBody 32 97 == le 97 (Config.public algP384 (identityKey up))
    && slice certBody 129 1952 == le 1952 (Config.public algMldsa65 (identityKey up))) = true
  rw [e1, e2, e3.1, e3.2]; simp

def wp (op : Nat) (params src : Bytes) : Work := if src.isEmpty then { wkIn 6 op params with ring := 6 } else wkP 6 op 0 params src

def chS (p t : Nat) : Bytes := challengeBytes (List.replicate 32 9) p t up

def tok (p t scope gen : Nat) (sig : Byte := 1) : Bytes := ascii "SOLNY AUTH TOKEN" ++ (digestBytes (sha (chS p t)) ++ (le 8 up.otp.deviceId.toNat ++ [BitVec.ofNat 8 p, BitVec.ofNat 8 t, BitVec.ofNat 8 scope, 0, BitVec.ofNat 8 gen] ++ zeros 51 ++ [sig] ++ List.replicate (95 + 4627) 1))

def st (w : Work) (l : Life) : State := { acc 6 (dOp w.desc) w.input with adm := { up.adm with work := [w] }, life := { l with decided := 2 } }

def st' (w : Work) (l : Life) (d : Nat) : State := { st w l with life := { l with decided := d } }

def quiet (s : State) : State := { s with rings := { s.rings with tbl := [(6, ringOn 2 0), (2, ringOn 2 1)] } }

def noOwn (s : State) : State := quiet { s with adm := { s.adm with owners := [] } }

def lcB (n : Nat) (t : Bytes) : Bytes := [BitVec.ofNat 8 n, 0] ++ le 2 7 ++ zeros 124 ++ t

def ckB (c : Nat) : Bytes := [BitVec.ofNat 8 c, 1] ++ zeros 6 ++ (if c = 2 then zeros 2696 else List.replicate 97 4 ++ zeros 7 ++ List.replicate 2592 5)

namespace A

def ch (p t : Nat) : Life := { challenge := some (chS p t) }

def z1 : State := st (wp 0x79 [0] []) { cert := some [1, 2] }

def z2 : State := st (wp 0x7B [] (tok 1 0 1 1)) {}

def z3 : State := st (wp 0x7B [] (tok 1 0 1 1)) { ch 1 0 with deny := true }

def z4 : State := st (wp 0x7B [] (tok 1 0 1 1)) (ch 1 0)

def z5 : State := noOwn (st' (wp 0x7C [] (lcB 0 (tok 2 3 0 1))) {} 2)

def z6 : State := noOwn (st' (wp 0x7C [] (lcB 0 (tok 2 1 0 1))) (ch 2 1) 1)

def z7 : State := st' (wp 0x7C [] (lcB 0 (tok 2 3 0 1))) (ch 2 3) 2

def z8 : State := noOwn (st' (wp 0x7C [] (lcB 0 (tok 2 3 0 1))) (ch 2 3) 2)

def z9 : State := st (wp 0x7D [] (ckB 0)) {}

def z10 : State := { (st (wp 0x79 [0] []) {}) with life := { ch 1 0 with settling := true, pendingTo := 2 } }

def z11 : EngineId := ⟨1, 2, 0⟩

/-- Every clause of LifeCycleCommands has a case that meets its hypotheses. -/
theorem witness_LifeCycleCommands :
    (∃ (s : State) (id : WorkId) (w : Work) (c : Bytes), (Waits s id 121 w) ∧ (certMode w = 0)
      ∧ (s.life.cert = some c))
    ∧ (∃ (s : State) (id : WorkId) (w : Work), (Waits s id 121 w) ∧ (certMode w = 0) ∧ (s.life.cert = none))
    ∧ ((∀ k p m g, Config.verify k p m g = true) → ∃ (s : State) (id : WorkId) (w : Work), (Waits s id 121 w)
      ∧ (certMode w = 1) ∧ (List.length w.src = certLen) ∧ (ownCert s w.src = true))
    ∧ (∃ (s : State) (id : WorkId) (w : Work), (Waits s id 121 w) ∧ (certMode w = 1)
      ∧ (List.length w.src ≠ certLen ∨ ownCert s w.src = false))
    ∧ (∃ (s : State) (id : WorkId) (w : Work), (Waits s id 122 w) ∧ (rd w.input 0 1 = 0 ∨ 2 < rd w.input 0 1))
    ∧ (∃ (s : State) (id : WorkId) (w : Work), (Waits s id 122 w) ∧ (1 ≤ rd w.input 0 1) ∧ (rd w.input 0 1 ≤ 2)
      ∧ (canDraw s = true))
    ∧ (∃ (s : State) (id : WorkId) (w : Work), (Waits s id 123 w) ∧ (tokenErr s 1 w.src ≠ 0))
    ∧ ((∀ k p m g, Config.verify k p m g = true) → ∃ (s : State) (id : WorkId) (w : Work), (Waits s id 123 w)
      ∧ (tokenErr s 1 w.src = 0) ∧ (debugPolicy s ≠ 0))
    ∧ ((∀ k p m g, Config.verify k p m g = true) → ∃ (s : State) (id : WorkId) (w : Work), (Waits s id 123 w)
      ∧ (tokenErr s 1 w.src = 0) ∧ (debugPolicy s = 0))
    ∧ (∃ (s : State) (id : WorkId) (w : Work), (canNumber s = true) ∧ (Waits s id 124 w)
      ∧ (tokenErr s 2 (List.drop 128 w.src) ≠ 0))
    ∧ ((∀ k p m g, Config.verify k p m g = true) → ∃ (s : State) (id : WorkId) (w : Work), (canNumber s = true)
      ∧ (Waits s id 124 w) ∧ (tokenErr s 2 (List.drop 128 w.src) = 0)
      ∧ (targetOk s (rd (List.drop 128 w.src) 73 1) = false))
    ∧ ((∀ k p m g, Config.verify k p m g = true) → ∃ (s : State) (id : WorkId) (w : Work), (canNumber s = true)
      ∧ (Waits s id 124 w) ∧ (tokenErr s 2 (List.drop 128 w.src) = 0)
      ∧ (targetOk s (rd (List.drop 128 w.src) 73 1) = true) ∧ (transitionBusy s = true))
    ∧ ((∀ k p m g, Config.verify k p m g = true) → ∃ (s : State) (id : WorkId) (w : Work), (canNumber s = true)
      ∧ (Waits s id 124 w) ∧ (tokenErr s 2 (List.drop 128 w.src) = 0)
      ∧ (targetOk s (rd (List.drop 128 w.src) 73 1) = true) ∧ (transitionBusy s = false)
      ∧ (rd (List.drop 128 w.src) 73 1 = 2 → canDraw s = true) ∧ (rd (List.drop 128 w.src) 73 1 = 3
      → enrolledOwners s = []))
    ∧ (∃ (s : State) (id : WorkId) (w : Work) (a : Accord), (canNumber s = true) ∧ (Waits s id 125 w)
      ∧ (codeKeyFormOk w.src = true) ∧ (1 ≤ rd w.src 1 1) ∧ (rd w.src 1 1 ≤ 63)
      ∧ ((ownerOf s (rd w.src 1 1)).enrolled ≠ 0) ∧ (regulatorMissing s w.src = false)
      ∧ (HasAccord s w (rd w.src 1 1) 125 a))
    ∧ (∃ (s : State) (c : Bytes), (s.life.challenge = some c))
    ∧ (∃ (s : State), (alive s = true) ∧ (s.life.settling = true))
    ∧ (∃ (s : State), (s.sys.state ≠ DevState.off))
    ∧ (∃ (s : State), (¬(alive s = true ∧ s.life.scope.getLsbD 0 = true)))
    ∧ (∃ (s : State), (¬(alive s = true ∧ s.life.scope.getLsbD 1 = true))) :=
  ⟨⟨z1, wid 6, w1 z1, the z1.life.cert, waits_head, by decide +kernel, the_eq⟩,
    ⟨st (wp 0x79 [0] []) {}, wid 6, w1 (st (wp 0x79 [0] []) {}), waits_head, by decide +kernel⟩,
    (fun h => ⟨certSt, wid 6, w1 certSt, waits_head, by decide +kernel, by decide +kernel, cert_own h⟩),
    ⟨st (wp 0x79 [1] []) {}, wid 6, w1 (st (wp 0x79 [1] []) {}), waits_head, by decide +kernel⟩,
    ⟨st (wp 0x7A [0] []) {}, wid 6, w1 (st (wp 0x7A [0] []) {}), waits_head, by decide +kernel⟩,
    ⟨st (wp 0x7A [1] []) {}, wid 6, w1 (st (wp 0x7A [1] []) {}), waits_head, by decide +kernel⟩,
    ⟨z2, wid 6, w1 z2, waits_head, by decide +kernel⟩,
    (fun h => ⟨z3, wid 6, w1 z3, waits_head, token_ok h rfl, by decide +kernel⟩),
    (fun h => ⟨z4, wid 6, w1 z4, waits_head, token_ok h rfl, by decide +kernel⟩),
    ⟨z5, wid 6, w1 z5, by decide +kernel, waits_head, by decide +kernel⟩,
    (fun h => ⟨z6, wid 6, w1 z6, by decide +kernel, waits_head, token_ok h drop_front, by decide +kernel⟩),
    (fun h => ⟨z7, wid 6, w1 z7, by decide +kernel, waits_head, token_ok h drop_front, by decide +kernel⟩),
    (fun h => ⟨z8, wid 6, w1 z8, by decide +kernel, waits_head, token_ok h drop_front, by decide +kernel⟩),
    ⟨z9, wid 6, w1 z9, a1 z9, by decide +kernel, waits_head, by decide +kernel, by decide +kernel, by decide +kernel,
      by decide +kernel, by decide +kernel, hasAccord_head⟩,
    ⟨z4, the z4.life.challenge, the_eq⟩,
    ⟨z10, by decide +kernel⟩,
    ⟨st (wp 0x79 [0] []) {}, by decide +kernel⟩,
    ⟨st (wp 0x79 [0] []) {}, by decide +kernel⟩,
    ⟨st (wp 0x79 [0] []) {}, by decide +kernel⟩⟩

end A

end Life

namespace Alerts

def loops0 : List (Nat × Nat × Nat) := (1, 3, 5) :: (2, 4, 6) :: List.replicate 14 (0, 0, 0)

def enrR : MeshRec := { caseMask := 3, count := 4, loops := loops0, mac := [] }

def enB (m : Nat) (mask : Nat) : Bytes := [1, BitVec.ofNat 8 m] ++ zeros 14 ++ [BitVec.ofNat 8 mask]

def te (b : Bytes) : State := { acc 6 0x7E b with adm := { up.adm with work := [{ wkIn 6 0x7E b with ring := 6 }], owners := [] } }

def tw (t : Tamper) : State := { te (enB 1 3) with tamper := t }

def tz : Tamper := { enr := some enrR }

def uv (f : Option Nat) : State := { tw { frozen := f, enr := some enrR } with sys := { up.sys with inReset := true } }

namespace A

def z1 : SourceSample := ⟨20, .outsideOper, .outsideAbs, 5, 6⟩

def z2 : State := tw { tz with misses := [(0, 2)], split := 0xFFFFFFFF_FFFFFFFF, policy := [(20, 5), (0, 8), (1, 4), (48, 4), (21, 5)] }

def z3 : State := { tw tz with sys := { up.sys with pwrFail := true } }

def z4 : State := { uv (some 21) with tamper := { (uv (some 21)).tamper with policy := [(21, 5)] } }

/-- Every clause of TamperLogic has a case that meets its hypotheses. -/
theorem witness_TamperLogic :
    (∃ (s : State) (x : SourceSample), (alive s = true) ∧ (x.src ≤ 48) ∧ (sourceUsed s x.src = true))
    ∧ (∃ (s : State) (loop cls : Nat), (alive s = true) ∧ (loop < 16) ∧ (cls < 8) ∧ ((loopOf s loop).1 ≠ 0)
      ∧ (cls = (loopOf s loop).2.1))
    ∧ (∃ (s : State) (loop cls : Nat), (alive s = true) ∧ (loop < 16) ∧ (cls < 8) ∧ ((loopOf s loop).1 ≠ 0)
      ∧ (cls ≠ (loopOf s loop).2.1))
    ∧ (∃ (s : State) (src : Nat), (alive s = true) ∧ (isEnvironmental src = true)
      ∧ (BitVec.getLsbD s.tamper.split src = true))
    ∧ (∃ (s : State) (id : WorkId) (meas : List LoopMeasure) (open4 : BitVec 4) (w : Work), (Waits s id 126 w)
      ∧ (∀ n < 16, enrolMode w.input n ≤ 2) ∧ (enrolMask w.input ≤ 15) ∧ (∀ p ∈ s.adm.owners, p.2.enrolled = 0)
      ∧ (enrolErr w.input meas open4 ≠ 0))
    ∧ (∃ (s : State) (id : WorkId) (meas : List LoopMeasure) (open4 : BitVec 4) (w : Work), (Waits s id 126 w)
      ∧ (∀ n < 16, enrolMode w.input n ≤ 2) ∧ (enrolMask w.input ≤ 15) ∧ (∀ p ∈ s.adm.owners, p.2.enrolled = 0)
      ∧ (enrolErr w.input meas open4 = 0))
    ∧ (∃ (s : State) (src : Nat) (warned : Bool), (alive s = true) ∧ (isRail src = true) ∧ (sourceUsed s src = true)
      ∧ (s.sys.pwrFail = true) ∧ (warned = true))
    ∧ (∃ (s : State) (src : Nat) (warned : Bool), (alive s = true) ∧ (isRail src = true) ∧ (sourceUsed s src = true)
      ∧ (s.sys.pwrFail = false ∨ warned = false))
    ∧ (∃ (s : State) (src : Nat), (s.sys.state ≠ DevState.off) ∧ (s.tamper.frozen = some src) ∧ (isRail src = true)
      ∧ (classOf s src false = 3))
    ∧ (∃ (s : State) (src : Nat), (s.sys.state ≠ DevState.off) ∧ (s.tamper.frozen = some src) ∧ (isRail src = true)
      ∧ (classOf s src false ≠ 3))
    ∧ (∃ (s : State) (reg : Nat) (v : W32), (reg < 8) ∧ (HostMayWrite s (720936 + 4 * reg)) ∧ (policyErr s reg v ≠ 0))
    ∧ (∃ (s : State) (reg : Nat) (v : W32), (reg < 8) ∧ (HostMayWrite s (720936 + 4 * reg)) ∧ (policyErr s reg v = 0))
    ∧ (∃ (s : State), (HostMayWrite s 720900))
    ∧ (∃ (s : State), (hostOpen s = true) ∧ (grants (ruleOf s 11) 3 BoxKind.write = true)) :=
  ⟨⟨te (enB 1 3), z1, by decide +kernel⟩,
    ⟨tw tz, 0, nth ([(loopOf (tw tz) 0).2.1]) 0, by decide +kernel⟩,
    ⟨tw tz, 0, 0, by decide +kernel⟩,
    ⟨z2, 20, by decide +kernel⟩,
    ⟨te (enB 1 3), wid 6, [], 0, w1 (te (enB 1 3)), waits_head, by decide +kernel⟩,
    ⟨te (enB 1 3), wid 6, List.replicate 16 ⟨3, false, 7, 0⟩, 0, w1 (te (enB 1 3)), waits_head, by decide +kernel⟩,
    ⟨z3, 20, nth ([true]) 0, by decide +kernel⟩,
    ⟨te (enB 1 3), 20, nth ([true]) 0, by decide +kernel⟩,
    ⟨uv (some 20), the (uv (some 20)).tamper.frozen, by decide +kernel, the_eq, by decide +kernel⟩,
    ⟨z4, the z4.tamper.frozen, by decide +kernel, the_eq, by decide +kernel⟩,
    ⟨te (enB 1 3), 0, 4294967295, by decide +kernel⟩,
    ⟨te (enB 1 3), 0, 3435973836, by decide +kernel⟩,
    ⟨te (enB 1 3), by decide +kernel⟩,
    ⟨te (enB 1 3), by decide +kernel⟩⟩

end A

end Alerts

namespace Power

namespace A

def bs (k : Nat) : State := { up with sys := { up.sys with state := .booting, bootStep := k }, clk := { up.clk with upNs := 10 ^ 10 } }

def res (k : Nat) : State := { bs k with sys := { (bs k).sys with inReset := true, porst := k == 1, warmPin := k == 2 } }

def z1 : State := { up with sys := { up.sys with rails := false } }

def z2 : State := { bs 4 with sys := { (bs 4).sys with pwrFailHold := true } }

def z3 : StepReport := ⟨5, none, 0, []⟩

def z4 : State := { bs 2 with otp := { up.otp with pairsUsed := 2, pairsDone := 1 } }

def z5 : StepReport := ⟨5, some (7, 9), 0, []⟩

def z6 : StepReport := ⟨5, none, 2, []⟩

def z7 : State := { bs 14 with flash := { up.flash with counters := [{ type := 1, writeNo := 1, epoch := 4, departure := 5, sequence := 6, seqHigh := 10 ^ 6, depHigh := 10 ^ 6, head := 0, accordHigh := 10 ^ 6 }] } }

/-- Every clause of PowerAndStartup has a case that meets its hypotheses. -/
theorem witness_PowerAndStartup :
    (∃ (s : State), (s.sys.rails = false))
    ∧ (∃ (s : State), (s.sys.porst = true ∨ s.sys.warmPin = true) ∧ (s.sys.rails = true) ∧ (s.sys.inReset = true)
      ∧ (s.tamper.frozen = none))
    ∧ (∃ (s : State), (alive s = true) ∧ (s.sys.state = DevState.booting) ∧ (s.sys.pwrFailHold = true)
      ∧ (s.sys.pwrFail = false))
    ∧ (∃ (s : State), (stepCanEnd s = true) ∧ (s.sys.bootStep = 1))
    ∧ (∃ (s : State), (stepCanEnd s = true) ∧ (s.sys.bootStep = 2) ∧ (s.otp.pairsDone < s.otp.pairsUsed))
    ∧ (∃ (s : State), (stepCanEnd s = true) ∧ (s.sys.bootStep = 2) ∧ (s.otp.pairsUsed ≤ s.otp.pairsDone))
    ∧ (∃ (s : State) (r : StepReport), (stepCanEnd s = true) ∧ (s.sys.bootStep = 3) ∧ (r.failed = none)
      ∧ (intentOf s.life = none))
    ∧ (∃ (s : State) (r : StepReport), (stepCanEnd s = true) ∧ (s.sys.bootStep = 4) ∧ (r.failed.isSome = true))
    ∧ (∃ (s : State) (r : StepReport), (stepCanEnd s = true) ∧ (s.sys.bootStep = 4) ∧ (r.failed = none))
    ∧ (∃ (s : State), (stepCanEnd s = true) ∧ (s.sys.bootStep = 7))
    ∧ (∃ (s : State) (r : StepReport) (f : Nat × Nat), (stepCanEnd s = true) ∧ (r.failed = some f)
      ∧ (s.sys.bootStep = 8 ∨ s.sys.bootStep = 10 ∨ s.sys.bootStep = 12))
    ∧ (∃ (s : State) (r : StepReport), (stepCanEnd s = true) ∧ (s.sys.bootStep = 9)
      ∧ (r.dieFail &&& presentDies s ≠ 0) ∧ (r.dieFail &&& presentDies s ≠ presentDies s))
    ∧ (∃ (s : State), (stepCanEnd s = true) ∧ (s.sys.bootStep = 14) ∧ (s.evt.committed = true)
      ∧ (priorEpoch s = true))
    ∧ (∃ (s : State), (stepCanEnd s = true) ∧ (s.sys.bootStep = 14) ∧ (s.evt.committed = true)
      ∧ (priorEpoch s = false)) :=
  ⟨⟨z1, by decide +kernel⟩,
    ⟨res 1, by decide +kernel⟩,
    ⟨z2, by decide +kernel⟩,
    ⟨bs 1, by decide +kernel⟩,
    ⟨z4, by decide +kernel⟩,
    ⟨bs 2, by decide +kernel⟩,
    ⟨bs 3, z3, by decide +kernel⟩,
    ⟨bs 4, z5, by decide +kernel⟩,
    ⟨bs 4, z3, by decide +kernel⟩,
    ⟨bs 7, by decide +kernel⟩,
    ⟨bs 8, z5, the z5.failed, by decide +kernel, the_eq, by decide +kernel⟩,
    ⟨bs 9, z6, by decide +kernel⟩,
    ⟨z7, by decide +kernel⟩,
    ⟨bs 14, by decide +kernel⟩⟩

end A

end Power

namespace Diag

def sw (m : Nat) (pad : Byte := 0) : State := withWk { wkP 6 0x7F 0 [BitVec.ofNat 8 m, pad] [] with ring := 6 }

def quiet (s : State) : State := { s with adm := { s.adm with work := [] }, dep := { s.dep with isOpen := false } }

namespace A

def ev1 : State := { up with evt := { up.evt with head := 5, evs := [{ seq := 5, code := 0x0501, opNs := 1, tai := 1, arg := [1], rep := 0, dep := none, sub := 0, power := 1, owner := 0, carry := false, trunc := false, frozen := false }] } }

def busy (s : State) : State := { s with sys := { s.sys with stableBusy := true, stableDep := some 3 } }

def z1 : State := { sw 1 with sys := { up.sys with selftestWork := some (wkOn 6 0x7F [], 2) } }

def z2 : State := { sw 3 with sys := { up.sys with selftestWork := some (wkOn 6 0x7F [], 2) } }

def z3 : SelfTestReport := ⟨0, 0, none, 0⟩

def z4 : State := { busy (quiet up) with rings := {}, dep := { durable := some 3, number := 4 } }

def z5 : State := { up with sys := { up.sys with state := .stabled, prior := .degraded, waking := true, gated := 0x7F } }

/-- Every clause of DiagSelfTestAndStabled has a case that meets its hypotheses. -/
theorem witness_DiagSelfTestAndStabled :
    (∃ (s : State), (alive s = true) ∧ (s.sys.state = DevState.held))
    ∧ (∃ (s : State) (id : WorkId) (w : Work), (Waits s id 127 w) ∧ (testErr s w = none) ∧ (s.sys.selftestWork = none)
      ∧ (testMode w = 1))
    ∧ (∃ (s : State) (id : WorkId) (w : Work), (Waits s id 127 w) ∧ (testErr s w = none) ∧ (s.sys.selftestWork = none)
      ∧ (testMode w = 2))
    ∧ (∃ (s : State) (id : WorkId) (w : Work), (Waits s id 127 w) ∧ (testErr s w = none) ∧ (s.sys.selftestWork = none)
      ∧ (testMode w = 3))
    ∧ (∃ (s : State) (id : WorkId) (w : Work), (Waits s id 127 w) ∧ (testErr s w = none) ∧ (s.sys.selftestWork = none)
      ∧ (testMode w = 4))
    ∧ (∃ (s : State) (id : WorkId) (w : Work), (Waits s id 127 w) ∧ (testErr s w = none)
      ∧ (s.sys.selftestWork.isSome = true) ∧ (testMode w = 1))
    ∧ (∃ (s : State) (id : WorkId) (w : Work), (Waits s id 127 w) ∧ (testErr s w = none)
      ∧ (s.sys.selftestWork.isSome = true) ∧ (testMode w = 3))
    ∧ (∃ (s : State) (r : SelfTestReport) (w : Work) (m : Nat), (inService s = true) ∧ (s.sys.selftestWork = some (w,
      m)) ∧ (ringTakes (ringOf s w.ring) w.gen = true) ∧ (r.first = none) ∧ (r.dieFail &&& s.sys.inService = 0)
      ∧ (r.failed < 65536))
    ∧ (∃ (s : State), (HostMayWrite s 8) ∧ (s.sys.stableBusy = false) ∧ (stableErr s = 0))
    ∧ (∃ (s : State), (HostMayWrite s 8) ∧ (s.sys.stableBusy = false) ∧ (stableErr s ≠ 0))
    ∧ (∃ (s : State), (inService s = true) ∧ (s.sys.stableBusy = true) ∧ (nothingAdmitted s = true)
      ∧ (allDurable s = true))
    ∧ (∃ (s : State), (alive s = true) ∧ (s.sys.stableBusy = true))
    ∧ (∃ (s : State), (hostOpen s = true) ∧ (grants (ruleOf s 0) 3 BoxKind.write = true) ∧ (heldGate s = false)
      ∧ (s.sys.state = DevState.stabled))
    ∧ (∃ (s : State), (hostOpen s = true) ∧ (grants (ruleOf s 0) 3 BoxKind.write = true) ∧ (heldGate s = false)
      ∧ (s.sys.state ≠ DevState.stabled))
    ∧ (∃ (s : State) (failed : BitVec 7), (alive s = true) ∧ (s.sys.state = DevState.stabled) ∧ (s.sys.waking = true)
      ∧ (failed &&& s.sys.inService = 0)) :=
  ⟨⟨held (up), by decide +kernel⟩,
    ⟨sw 1, wid 6, w1 (sw 1), waits_head, by decide +kernel⟩,
    ⟨sw 2, wid 6, w1 (sw 2), waits_head, by decide +kernel⟩,
    ⟨sw 3, wid 6, w1 (sw 3), waits_head, by decide +kernel⟩,
    ⟨sw 4, wid 6, w1 (sw 4), waits_head, by decide +kernel⟩,
    ⟨z1, wid 6, w1 z1, waits_head, by decide +kernel⟩,
    ⟨z2, wid 6, w1 z2, waits_head, by decide +kernel⟩,
    ⟨z1, z3, nth (ofOpt z1.sys.selftestWork fun v => [v.1]) 0, nth (ofOpt z1.sys.selftestWork fun v => [v.2]) 0,
      by decide +kernel⟩,
    ⟨up, by decide +kernel⟩,
    ⟨selftest (up), by decide +kernel⟩,
    ⟨z4, by decide +kernel⟩,
    ⟨busy up, by decide +kernel⟩,
    ⟨z5, by decide +kernel⟩,
    ⟨up, by decide +kernel⟩,
    ⟨z5, 0, by decide +kernel⟩⟩

end A

end Diag

namespace Pack

namespace A

/-- Every clause of PackageCommands has a case that meets its hypotheses. -/
theorem witness_PackageCommands :
    (∃ (s : State) (ch : Nat), (alive s = true) ∧ (ch < 4) ∧ (s.vm.trained ≠ 0))
    ∧ (∃ (s : State) (k : Nat), (s.sys.rails = true) ∧ (dieIn (presentDies s) k = false))
    ∧ (∃ (s : State) (k : Nat), (s.sys.rails = true) ∧ (dieIn (presentDies s) k = true)) :=
  ⟨⟨up, 0, by decide +kernel⟩,
    ⟨up, 0, by decide +kernel⟩,
    ⟨up, 1, by decide +kernel⟩⟩

end A

end Pack

/-! ### Statements about every command -/

theorem within_self (v : BitVec 12) : within v v = true := by simp [within]

theorem witness_SignalBoxInvariant : ∃ s t : State, BoxInv s ∧ s.pending ≠ [] ∧ step s = .next t :=
  ⟨{ up with pending := [.operatingHeartbeat] }, _, ⟨fun _ => ⟨within_self _, rfl⟩, Nat.zero_le _⟩, by decide, rfl⟩

theorem witness_StepRunsFront : ∃ s : State, s.pending = [] := ⟨up, rfl⟩

theorem witness_Frame : ∃ (c : Instr) (s t : State) (p : Part), exec c s = .next t ∧ p ∉ footprint c :=
  ⟨.operatingHeartbeat, up, _, .keys, rfl, by decide⟩

theorem witness_OnlyResetLeavesZeroised :
    ∃ (c : Instr) (s t : State), s.sys.state = .zeroised ∧ restarts c = false ∧ exec c s = .next t :=
  ⟨.operatingHeartbeat, { up with sys := { up.sys with state := .zeroised } }, _, rfl, rfl, rfl⟩

/-! ### Well-formedness -/

def badThread : ThreadId := { die := 8, cluster := 0, engine := 0, thread := 0 }

def noOp : OpFields := { d := 0, a := 0, b := 0, mode := 0, imm := 0 }

def goodFrame : LinzenFrame :=
  { port := 0, ver := 1, type := 1, len := 0, srcId := 0, dstId := 0, session := 0, seq := 0, ack := 0, reservedZero := true,
    tagOk := true, body := [] }

def goodAccess : BoxAccess := { initiator := 0, pl := 0, kind := .read, posted := false, addr := 0, len := 8 }

def rdLine (channel subch rank : Nat) : LineRead :=
  { channel := channel, subch := subch, rank := rank, flips := [], cipher := none, ctrMac := none }

/-- One ill-formed command for each check. -/
theorem test_illFormed : (([.completionWrite 8192, .claim { ring := 8192, idx := 0 }, .claim { ring := 0, idx := 65536 }, .flrVf 64, .journalPost 0,
    .vectorUnmask 0 32, .dieLost 0, .engineFault { die := 1, cluster := 8, engine := 0 },
    .engineFault { die := 1, cluster := 0, engine := 8 }, .add badThread noOp,
    .add { badThread with die := 1, thread := 4 } noOp, .announceReceiptTimeout 2, .claimBatchSend 2048,
    .laneTestSlot (.die 0), .laneParityFault { group := .vault, lane := 16 } 0, .laneParityFault { group := .vault, lane := 0 } 4,
    .hash { ring := 0, idx := 0 } 4, .pkSign { ring := 0, idx := 0 } 16, .pkEngineFault 16 .parity, .rngAlarm 4 .repetition,
    .cardDetected 8, .configRequest (.enableVFs 64), .doorbell (.vfBar0 0) 0 0 true, .doorbell .pf0Bar2 8192 0 true,
    .readClear (.bar0 0x100000), .readClear (.bar2 0x20000), .readClear (.vfBar0 1 0x10000), .registerWrite (.msixMask 0 32) 0,
    .retrainSlot (.ddr 4), .retrainSlot (.junction 2), .patrolScrub (rdLine 4 0 0), .patrolScrub (rdLine 0 2 0), .patrolScrub (rdLine 0 0 2),
    .patrolScrub { rdLine 0 0 0 with flips := [(16, 0)] }, .patrolScrub { rdLine 0 0 0 with flips := [(0, 40)] },
    .patrolScrub { rdLine 0 0 0 with cipher := some [] }, .patrolScrub { rdLine 0 0 0 with ctrMac := some [] }, .ptpCorrectionWrite (.ingress 2) 0,
    .jtagAccess (.supervisorCore 4), .bulkWindowWrite 65536 [] 0, .rulebookSwitch 1 65536, .sweepEnd 1 (2 ^ 32),
    .hello { goodFrame with port := 2 }, .hello { goodFrame with ver := 256 }, .hello { goodFrame with type := 256 },
    .hello { goodFrame with len := 65536 }, .hello { goodFrame with srcId := 2 ^ 64 }, .hello { goodFrame with dstId := 2 ^ 64 },
    .hello { goodFrame with session := 2 ^ 32 }, .hello { goodFrame with seq := 2 ^ 64 }, .hello { goodFrame with ack := 2 ^ 64 },
    .signalBoxAccess { goodAccess with initiator := 16 }, .signalBoxAccess { goodAccess with pl := 4 },
    .signalBoxAccess { goodAccess with len := 0 }, .tamperCycle 0 [{ src := 53, bandA := .inside, bandB := .inside, readA := 0, readB := 0 }],
    .registerWrite (.msixEntry 64 0 true) 0, .registerWrite (.msixEntry 0 32 true) 0, .interlockHoldExpiry 64, .pauseFrame 2 0,
    .pauseFrame 0 65536, .meshMeasure 16 0, .meshMeasure 0 8, .tamperPolicyWrite 8 0, .sigboxRuleWrite 16 0 0, .sigboxRuleWrite 0 4 0,
    .sigboxFence 16, .dimmTempPoll 4 0, .smbTempEngineDie 0, .configRequest (.enableBusMaster 64), .railUndervoltage 53 false,
    .startupStepEnd 0 { ms := 0, failed := none, dieFail := 0, mesh := List.replicate 17 (0, 0, true) },
    .selfTestDone { tested := 0, failed := 1, first := none, dieFail := 0 }] : List Instr).all fun c => !c.wellFormed) = true := by decide +kernel

/-! ### Single commands -/

/-- The next state of a command. -/
def after (c : Instr) (s : State) : State := match exec c s with
  | .next t => t
  | _ => s

/-- Register r of the one thread of a state. -/
def regNow (s : State) (r : Nat) : Option W64 := (s.eng.threads.head?).map fun t => t.regs.toList.getD r 0

/-- g4 = 2^63 + 1, g5 = 2, g6 = 65, g7 = 0. -/
def opSt : State :=
  let t : Thread :=
    { id := { die := 1, cluster := 0, engine := 0, thread := 0 }, seq := 99, pc := 7, staged := [], ruleField := 0, record := []
      scratch := [], marks := 0
      regs := Vector.ofFn fun i => match i.val with
        | 4 => 0x8000000000000001
        | 5 => 2
        | 6 => 65
        | _ => 0 }
  { up with eng := { up.eng with threads := [t] } }

def opTh : ThreadId := { die := 1, cluster := 0, engine := 0, thread := 0 }

def abc (a b : BitVec 5) : OpFields := { d := 1, a := a, b := b, mode := 0, imm := 0 }

/-- The table of R130: the sum modulo 2^64, the saturated sum, the low half of a product, the quotient by zero, a shift
by b mod 64. -/
theorem test_arithmetic :
    regNow (after (.add opTh (abc 4 4)) opSt) 1 = some 2 ∧ regNow (after (.addsat opTh (abc 4 4)) opSt) 1 = some (BitVec.allOnes 64)
    ∧ regNow (after (.mulu opTh (abc 4 5)) opSt) 1 = some 2
      ∧ regNow (after (.divu opTh (abc 4 7)) opSt) 1 = some (BitVec.allOnes 64)
    ∧ regNow (after (.shl opTh (abc 4 6)) opSt) 1 = some 2 := by decide +kernel

/-- g0 reads 0 and ignores writes (R116). -/
theorem test_register_zero : regNow (after (.add opTh { abc 4 5 with d := 0 }) opSt) 0 = some 0 := by decide +kernel

/-- R189, R190: where beat 4 of DQ line 5 lies; up to four symbols are corrected, and with device 2 marked its four and
two more. -/
theorem test_correction : symbolBit 4 5 = (5, 1) ∧ correctable none [0, 9, 20, 39] = true ∧ correctable none [0, 1, 2, 3, 4] = false
    ∧ correctable (some 2) [8, 9, 10, 11, 0, 39] = true ∧ correctable (some 2) [8, 9, 10, 11, 0, 1,
      39] = false := by decide +kernel

/-- R29, R530: reset leaves the device OFF; the return of power ends internal reset. -/
theorem test_reset : State.reset.sys.state = .off ∧ (after (.powerGood 2) State.reset).sys.rails = true := by decide +kernel

end Sys2Proof.Tests
end

section
namespace Sys2Proof.Machine

/-! ### Reads of the RS-FEC counts (R7, R404) -/

/-- A host read that its slot's rule and the device state let through puts out the value read (R6, R464, R483). -/
theorem hostRead_of_mayRead {s : State} {off : Nat} (len : Nat) (f : State → Nat × State) (h : HostMayRead s off)
    (hwindow : off / 0x10000 ≠ 15) : hostRead off len f s = emit (.regData off (f s).1) (f s).2 := by
  obtain ⟨hopen, hgrant, hgate⟩ := h
  simp [hostRead, hopen, hgrant, hgate, hwindow]

/-- The offsets of JCT_FEC_CORR0-1 and JCT_FEC_UNCORR0-1 (R404). -/
def fecOffsets : List Nat := [0x900A0, 0x900A4, 0x900A8, 0x900AC]

theorem mem_fecOffsets {off : Nat} :
    off ∈ fecOffsets ↔ off = 0x900A0 ∨ off = 0x900A4 ∨ off = 0x900A8 ∨ off = 0x900AC := by
  simp [fecOffsets]

/-- A port that is up adds a free value to its count, which stops at the largest 32-bit value. -/
theorem regValue_countFec {s : State} {off : Nat} (hoff : off ∈ fecOffsets) (hup : portUp s (off / 4 % 2) = true) :
    regValue (countFec off s) off = sat32 (regValue s off + Config.freeNat s.free) := by
  rcases mem_fecOffsets.1 hoff with rfl | rfl | rfl | rfl
  all_goals
    simp only [Nat.reduceDiv, Nat.reduceMod] at hup
    simp [countFec, hup, freeNat, mapPort, regValue, jctReg]

/-- Neither counting nor clearing a count puts anything out. -/
theorem clearOnRead_countFec_out {s : State} {off : Nat} (hoff : off ∈ fecOffsets)
    (hup : portUp s (off / 4 % 2) = true) : (clearOnRead off (countFec off s)).out = s.out := by
  rcases mem_fecOffsets.1 hoff with rfl | rfl | rfl | rfl
  all_goals
    simp only [Nat.reduceDiv, Nat.reduceMod] at hup
    simp [countFec, hup, freeNat, mapPort, clearOnRead, clearMid]

/-- These offsets have no read of their own, and the only value that moves before their read is the count itself. -/
theorem readReg_fec {off : Nat} (hoff : off ∈ fecOffsets) (s : State) :
    readReg off s = (regValue (countFec off s) off, clearOnRead off (countFec off s)) := by
  rcases mem_fecOffsets.1 hoff with rfl | rfl | rfl | rfl <;> simp [readReg]

/-- A read of a count of a port that is up puts out the saturated sum of the count and a free value. -/
theorem doRead_fec_out {s : State} {off : Nat} (hoff : off ∈ fecOffsets) (hread : HostMayRead s off)
    (hup : portUp s (off / 4 % 2) = true) :
    (doRead (.bar0 off) s).out = .regData off (sat32 (regValue s off + Config.freeNat s.free)) :: s.out := by
  have hown : ownRead off = false ∧ off / 0x10000 ≠ 15 := by
    rcases mem_fecOffsets.1 hoff with rfl | rfl | rfl | rfl <;> decide
  simp [doRead, hown.1, hostRead_of_mayRead 8 (readReg off) hread hown.2, readReg_fec hoff,
    regValue_countFec hoff hup, clearOnRead_countFec_out hoff hup]

/-- The value put out is no less than the count exactly where the count fits its 32-bit field. -/
theorem le_sat32_add_iff (v k : Nat) : v ≤ sat32 (v + k) ↔ v < 2 ^ 32 := by
  unfold sat32; omega

/-- The bound in the third clause of `Obligations.RegisterAccess`, on a port that is up: the read finds at least the
count that the state holds exactly where that count fits its 32-bit field. -/
theorem readClear_fec_atLeast_iff {s : State} {off : Nat} (hoff : off ∈ fecOffsets) (hread : HostMayRead s off)
    (hup : portUp s (off / 4 % 2) = true) :
    Yields (.readClear (.bar0 off)) s (fun t => ∃ n, regValue s off ≤ n ∧ t.out = .regData off n :: s.out)
      ↔ regValue s off < 2 ^ 32 := by
  have hexec : exec (.readClear (.bar0 off)) s = .next (doRead (.bar0 off) s) := rfl
  simp [Yields, hexec, doRead_fec_out hoff hread hup, le_sat32_add_iff]

/-- A device in service with port 0 up and a corrected-codeword count of 2^32, one more than its field holds. -/
def overfullFec : State :=
  { sys := { state := .ready, inReset := false, firmwareUp := true }
    link := { perst := false, trained := true }
    jct := { port0 := { up := true, fecCorr := 2 ^ 32 } } }

theorem overfullFec_mayRead : HostMayRead overfullFec 0x900A0 := by decide +kernel

theorem overfullFec_portUp : portUp overfullFec 0 = true := by decide

theorem overfullFec_count : regValue overfullFec 0x900A0 = 2 ^ 32 := rfl

/-- Refutes O14: the state holds the RS-FEC counts as natural numbers, and the statement asks of every state that a read
finds at least the count. The count that a read finds stops at 2^32 - 1 (R404), so a state whose count is 2^32 is read
too low while its port is up. On a port that is up the bound holds exactly where the count is below 2^32
(`readClear_fec_atLeast_iff`). -/
theorem not_registerAccess : ¬ Obligations.RegisterAccess := by
  unfold Obligations.RegisterAccess
  intro h
  obtain ⟨-, -, hfec, -⟩ := h overfullFec
  have hoff : 0x900A0 ∈ fecOffsets := by decide
  obtain ⟨t, ht, -, hout⟩ := hfec 0x900A0 hoff overfullFec_mayRead
  have hfits := (readClear_fec_atLeast_iff hoff overfullFec_mayRead overfullFec_portUp).1 ⟨t, ht, hout⟩
  rw [overfullFec_count] at hfits
  exact absurd hfits (Nat.lt_irrefl _)

end Sys2Proof.Machine

end


section
namespace Sys2Proof.Machine

/-! ### What leaves the device state's part as it is (R28-R36)

One lemma for each operation that a command reaches in ZEROISED and that does not write State.sys; simp uses every one. -/

/-- A fold whose steps leave the device state's part alone leaves it alone. -/
theorem foldl_sys {α : Type} {f : State → α → State} (h : ∀ st x, (f st x).sys = st.sys) (l : List α) (s : State) :
    (l.foldl f s).sys = s.sys :=
  foldl_keeps (fun t => t.sys = s.sys) f (fun st x e => (h st x).trans e) l s rfl

@[simp] theorem when_sys {c : Bool} {f : State → State} {s : State} (hf : (f s).sys = s.sys) :
    (when c f s).sys = s.sys := by
  unfold when
  split <;> simp [hf]

/-! #### Shared operations -/

@[simp] theorem pick_sys {α : Type} (l : List α) (s : State) : (pick l s).2.sys = s.sys := by simp [pick]

/-! #### Vault memory as it is stored -/

@[simp] theorem noteFull_sys (o area : Nat) (s : State) : (noteFull o area s).sys = s.sys := by
  unfold noteFull
  split <;> simp

@[simp] theorem movedCounters_sys (o : Nat) (l : Places) (s : State) : (movedCounters o l s).sys = s.sys := by
  simp [movedCounters]

@[simp] theorem movedTickets_sys (o : Nat) (l : Places) (s : State) : (movedTickets o l s).sys = s.sys := by
  simp [movedTickets]

@[simp] theorem putTicket_sys (t : Ticket) (s : State) : (putTicket t s).sys = s.sys := by
  unfold putTicket
  dsimp only
  split <;> simp

@[simp] theorem putLimit_sys (c : LimitCtr) (s : State) : (putLimit c s).sys = s.sys := by
  unfold putLimit
  dsimp only
  split <;> simp

@[simp] theorem putTerminal_sys (t : Terminal) (s : State) : (putTerminal t s).sys = s.sys := by
  unfold putTerminal
  dsimp only
  split <;> simp

@[simp] theorem syncVault_sys (before after : State) : (syncVault before after).sys = after.sys := rfl

@[simp] theorem relayStore_sys (s : State) : (relayStore s).sys = s.sys := by simp [relayStore]

@[simp] theorem dropPending_sys (s : State) : (dropPending s).sys = s.sys := by simp [dropPending]

@[simp] theorem commitSet_sys (before after : State) : (commitSet before after).sys = after.sys := rfl

/-! #### The signal box -/

@[simp] theorem logViolation_sys (initiator pl slot addr len : Nat) (kind : BitVec 8) (s : State) :
    (logViolation initiator pl slot addr len kind s).sys = s.sys := by
  unfold logViolation
  dsimp only
  repeat' split
  all_goals simp

theorem hostWriteIn_sys {inHeld inStabled : Bool} {off len : Nat} {f : State → State} {s : State}
    (hf : (f s).sys = s.sys) : (hostWriteIn inHeld inStabled off len f s).sys = s.sys := by
  unfold hostWriteIn; split_ifs <;> simp [hf]

@[simp] theorem hostWrite_sys {off len : Nat} {f : State → State} {s : State} (hf : (f s).sys = s.sys) :
    (hostWrite off len f s).sys = s.sys := hostWriteIn_sys hf

@[simp] theorem hostRead_sys {off len : Nat} {f : State → Nat × State} {s : State} (hf : (f s).2.sys = s.sys) :
    (hostRead off len f s).sys = s.sys := by
  unfold hostRead; split_ifs <;> simp [hf]

@[simp] theorem doSignalBoxAccess_sys (a : BoxAccess) (s : State) : (doSignalBoxAccess a s).sys = s.sys :=
  foldl_sys (fun _ _ => by split <;> simp) _ _

@[simp] theorem doSigboxRuleWrite_sys (initiator pl : Nat) (v : W32) (s : State) :
    (doSigboxRuleWrite initiator pl v s).sys = s.sys := by
  unfold doSigboxRuleWrite
  dsimp only
  split <;> simp

@[simp] theorem boxRegWrite_sys {initiator pl off : Nat} {f : State → State} {s : State} (hf : (f s).sys = s.sys) :
    (boxRegWrite initiator pl off f s).sys = s.sys := by
  unfold boxRegWrite; split_ifs <;> simp [hf]

@[simp] theorem lockSlot_sys (initiator slot : Nat) (s : State) : (lockSlot initiator slot s).sys = s.sys := by
  unfold lockSlot
  split <;> simp

@[simp] theorem doSigboxLockWrite_sys (initiator : Nat) (bank : Fin 2) (v : W32) (s : State) :
    (doSigboxLockWrite initiator bank v s).sys = s.sys :=
  foldl_sys (fun _ _ => by split <;> simp) _ _

@[simp] theorem doSigboxFence_sys (initiator : Nat) (s : State) : (doSigboxFence initiator s).sys = s.sys := by
  simp [doSigboxFence]

@[simp] theorem doFenceComplete_sys (s : State) : (doFenceComplete s).sys = s.sys := by
  unfold doFenceComplete
  dsimp only
  repeat' split
  all_goals simp

/-! #### Rings and the PCIe link -/

@[simp] theorem fireVector_sys (func vec : Nat) (s : State) : (fireVector func vec s).sys = s.sys := by
  unfold fireVector
  dsimp only
  split <;> simp

@[simp] theorem notePending_sys (g : Nat) (s : State) : (notePending g s).sys = s.sys := by
  unfold notePending
  split <;> simp

@[simp] theorem noteCompletion_sys (func vec : Nat) (irq : Bool) (s : State) :
    (noteCompletion func vec irq s).sys = s.sys := by
  unfold noteCompletion
  dsimp only
  split <;> simp

@[simp] theorem doVectorUnmask_sys (func vec : Nat) (s : State) : (doVectorUnmask func vec s).sys = s.sys := by
  unfold doVectorUnmask
  dsimp only
  split <;> simp

@[simp] theorem countMarks_sys (owner : Nat) (m : BitVec 16) (s : State) : (countMarks owner m s).sys = s.sys :=
  foldl_sys (fun _ _ => by split <;> simp) _ _

@[simp] theorem settleStop_sys (r : Nat) (s : State) : (settleStop r s).sys = s.sys := by
  unfold settleStop
  dsimp only
  split <;> simp

@[simp] theorem dropItem_sys (seq : Nat) (s : State) : (dropItem seq s).sys = s.sys := by simp [dropItem]

@[simp] theorem doCompletionWrite_sys (r : Nat) (s : State) : (doCompletionWrite r s).sys = s.sys := by
  unfold doCompletionWrite
  dsimp only
  repeat' split
  all_goals simp

@[simp] theorem rejectDoorbell_sys (ring cause : Nat) (s : State) : (rejectDoorbell ring cause s).sys = s.sys := by
  simp only [rejectDoorbell]
  split_ifs <;> simp

@[simp] theorem ackLedger_sys (tail size n : Nat) (s : State) : (ackLedger tail size n s).sys = s.sys := by
  unfold ackLedger
  dsimp only
  split <;> simp

@[simp] theorem forgetPosted_sys (cls : Nat) (s : State) : (forgetPosted cls s).sys = s.sys := by
  unfold forgetPosted
  split <;> simp

@[simp] theorem spanResume_sys (s : State) : (spanResume s).sys = s.sys := by
  unfold spanResume
  split <;> simp

@[simp] theorem acceptDoorbell_sys (r idx : Nat) (s : State) : (acceptDoorbell r idx s).sys = s.sys := by
  unfold acceptDoorbell
  dsimp only
  split <;> simp

@[simp] theorem doDoorbell_sys (bar : DoorbellBar) (slot : Nat) (v : W32) (single : Bool) (s : State) :
    (doDoorbell bar slot v single s).sys = s.sys := by
  unfold doDoorbell
  dsimp only
  split <;> simp

@[simp] theorem dropFetched_sys (r : Nat) (s : State) : (dropFetched r s).sys = s.sys := by simp [dropFetched]

@[simp] theorem doRingConfigWrite_sys (r : RingReg) (v : W64) (s : State) : (doRingConfigWrite r v s).sys = s.sys := by
  simp [doRingConfigWrite]

@[simp] theorem doStart_sys (s : State) : (doStart s).sys = s.sys := by
  simp only [doStart]
  split_ifs <;> simp

@[simp] theorem doStop_sys (s : State) : (doStop s).sys = s.sys := by
  simp only [doStop]
  split_ifs <;> simp

@[simp] theorem doDelete_sys (s : State) : (doDelete s).sys = s.sys := by
  unfold doDelete
  dsimp only
  split <;> simp

@[simp] theorem discardEvent_sys (r : Nat) (s : State) : (discardEvent r s).sys = s.sys := by simp [discardEvent]

@[simp] theorem loseRing_sys (r : Nat) (s : State) : (loseRing r s).sys = s.sys := by simp [loseRing]

@[simp] theorem flrOne_sys (f : Nat) (s : State) : (flrOne f s).sys = s.sys := by
  unfold flrOne
  exact foldl_sys (fun _ _ => by simp) _ _

@[simp] theorem doVfDisable_sys (n : Nat) (s : State) : (doVfDisable n s).sys = s.sys := by
  unfold doVfDisable
  exact foldl_sys (fun _ _ => by simp) _ _

@[simp] theorem endBulk_sys (st : Status) (s : State) : (endBulk st s).sys = s.sys := by
  unfold endBulk
  split <;> simp

@[simp] theorem abortBulk_sys (s : State) : (abortBulk s).sys = s.sys := by
  simp [abortBulk]

@[simp] theorem doFlrPf0_sys (s : State) : (doFlrPf0 s).sys = s.sys := by simp [doFlrPf0]

@[simp] theorem doPerstNAssert_sys (s : State) : (doPerstNAssert s).sys = s.sys := by
  simp [doPerstNAssert]

@[simp] theorem doConfigRequest_sys (q : CfgRequest) (s : State) : (doConfigRequest q s).sys = s.sys := by
  unfold doConfigRequest
  dsimp only
  repeat' split
  all_goals simp

@[simp] theorem errorRing_sys (r : Nat) (s : State) : (errorRing r s).sys = s.sys := by simp [errorRing]

@[simp] theorem doBusMasterDisable_sys (f : Nat) (s : State) : (doBusMasterDisable f s).sys = s.sys := by
  unfold doBusMasterDisable
  exact foldl_sys (fun _ _ => by simp) _ _

/-! #### The bulk port -/

@[simp] theorem doBulkOpen_sys (v : W32) (s : State) : (doBulkOpen v s).sys = s.sys := by
  simp only [doBulkOpen]
  split_ifs <;> simp

@[simp] theorem doBulkWindowWrite_sys (off : Nat) (data : Bytes) (drained : Nat) (s : State) :
    (doBulkWindowWrite off data drained s).sys = s.sys := by
  simp only [doBulkWindowWrite]
  split_ifs <;> simp

@[simp] theorem doBulkClose_sys (s : State) : (doBulkClose s).sys = s.sys := by
  simp only [doBulkClose]
  split_ifs <;> simp

/-! #### The junction ports -/

@[simp] theorem mapPort_sys (p : Nat) (f : Port → Port) (s : State) : (mapPort p f s).sys = s.sys := by
  unfold mapPort
  split <;> simp

@[simp] theorem sendFrame_sys (p kind : Nat) (b : Bytes) (s : State) : (sendFrame p kind b s).sys = s.sys := by
  unfold sendFrame
  split <;> simp

@[simp] theorem doPtpCorrectionWrite_sys (r : PtpReg) (v : W32) (s : State) :
    (doPtpCorrectionWrite r v s).sys = s.sys := by
  unfold doPtpCorrectionWrite
  split
  · rfl
  · cases r with
    | domain => simp
    | _ => dsimp only; split <;> simp

/-! #### The Linzen network -/

@[simp] theorem setPeer_sys (i : Nat) (p : Peer) (s : State) : (setPeer i p s).sys = s.sys := by simp [setPeer]

@[simp] theorem mapPeer_sys (i : Nat) (f : Peer → Peer) (s : State) : (mapPeer i f s).sys = s.sys := by
  unfold mapPeer
  split <;> simp

@[simp] theorem putFrame_sys (p : Peer) (type : Nat) (f : Bytes) (s : State) : (putFrame p type f s).sys = s.sys := by
  unfold putFrame
  split <;> simp

@[simp] theorem sendSealed_sys (p : Peer) (x : Session) (type seq : Nat) (body : Bytes) (s : State) :
    (sendSealed p x type seq body s).sys = s.sys := by simp [sendSealed]

@[simp] theorem setSession_sys (i : Nat) (old : Bool) (x : Session) (s : State) :
    (setSession i old x s).sys = s.sys := by simp [setSession]

@[simp] theorem resend_sys (i : Nat) (old : Bool) (s : State) : (resend i old s).sys = s.sys := by
  unfold resend
  split
  · rfl
  · split
    · rfl
    · exact (foldl_sys (fun _ _ => by simp) _ _).trans (by simp)

@[simp] theorem dropSends_sys (i : Nat) (s : State) : (dropSends i s).sys = s.sys := by
  unfold dropSends
  exact foldl_sys (fun _ _ => by simp) _ _

@[simp] theorem dropRequests_sys (i : Nat) (s : State) : (dropRequests i s).sys = s.sys := by simp [dropRequests]

@[simp] theorem dropLinzenSource_sys (s : State) : (dropLinzenSource s).sys = s.sys := by
  unfold dropLinzenSource
  split <;> simp

@[simp] theorem loseSession_sys (i cause : Nat) (s : State) : (loseSession i cause s).sys = s.sys := by
  unfold loseSession
  dsimp only
  repeat' split
  all_goals simp

@[simp] theorem leavePort_sys (i port : Nat) (s : State) : (leavePort i port s).sys = s.sys := by
  unfold leavePort
  split
  · rfl
  · split_ifs <;> simp

@[simp] theorem doPortLinkChange_sys (port : Nat) (up : Bool) (s : State) : (doPortLinkChange port up s).sys = s.sys := by
  simp only [doPortLinkChange]
  split_ifs
  · rfl
  · simp
  · rfl
  · exact (foldl_sys (fun _ _ => by simp) _ _).trans (by simp)

@[simp] theorem doPortConfigWrite_sys (port : Nat) (v : W32) (s : State) :
    (doPortConfigWrite port v s).sys = s.sys := by
  simp only [doPortConfigWrite]
  split_ifs <;> simp

/-! #### The event recorder and the counters -/

@[simp] theorem doMirrorSearchEnd_sys (s : State) : (doMirrorSearchEnd s).sys = s.sys := by
  unfold doMirrorSearchEnd
  split <;> simp

@[simp] theorem mirrorPut_sys (e : Ev) (s : State) : (mirrorPut e s).sys = s.sys := by simp [mirrorPut]

@[simp] theorem doMirrorWrite_sys (good : Bool) (s : State) : (doMirrorWrite good s).sys = s.sys := by
  unfold doMirrorWrite
  dsimp only
  repeat' split
  all_goals simp

@[simp] theorem dumpSnapshot_sys (s : State) : (dumpSnapshot s).sys = s.sys := by
  simp only [dumpSnapshot]
  split_ifs <;> simp

@[simp] theorem countTime_sys (s : State) : (countTime s).sys = s.sys :=
  foldl_sys (fun _ _ => by dsimp only; split_ifs <;> simp) _ _

@[simp] theorem latchCounters_sys (dep : Option Nat) (s : State) : (latchCounters dep s).sys = s.sys := by
  simp [latchCounters]

@[simp] theorem snapAtTick_sys (dep : Nat) (s : State) : (snapAtTick dep s).sys = s.sys := by
  simp only [snapAtTick]
  split_ifs <;> simp

@[simp] theorem doSnapReq_sys (s : State) : (doSnapReq s).sys = s.sys := by
  unfold doSnapReq
  dsimp only
  split <;> simp

@[simp] theorem doCountersCfgWrite_sys (v : W32) (s : State) : (doCountersCfgWrite v s).sys = s.sys := by
  unfold doCountersCfgWrite
  dsimp only
  split <;> simp

@[simp] theorem doBwWindowEnd_sys (vals : List Nat) (s : State) : (doBwWindowEnd vals s).sys = s.sys := by
  simp [doBwWindowEnd]

/-! #### The departure unit -/

@[simp] theorem reanchor_sys (c cause : Nat) (s : State) : (reanchor c cause s).sys = s.sys := by simp [reanchor]

@[simp] theorem openNext_sys (actual sched : Nat) (s : State) : (openNext actual sched s).sys = s.sys := by
  simp only [openNext]
  split_ifs <;> simp

@[simp] theorem noteCause_sys (c : Nat) (s : State) : (noteCause c s).sys = s.sys := by
  unfold noteCause
  split <;> simp

@[simp] theorem moveSlot_sys (i j : Nat) (s : State) : (moveSlot i j s).sys = s.sys := by simp [moveSlot]

@[simp] theorem applyRollover_sys (s : State) : (applyRollover s).sys = s.sys := by
  unfold applyRollover
  split <;> simp

@[simp] theorem closeBlocks_sys (s : State) : (closeBlocks s).sys = s.sys := by
  unfold closeBlocks
  exact foldl_sys (fun _ _ => by simp) _ _

@[simp] theorem insertTick_sys (powerFail unwitnessed : Bool) (s : State) : (insertTick powerFail unwitnessed s).sys = s.sys := by
  simp only [insertTick]
  split_ifs <;> simp

@[simp] theorem tryTick_sys (s : State) : (tryTick s).sys = s.sys := by
  unfold tryTick
  repeat' split
  all_goals simp

@[simp] theorem doWitnessTimeout_sys (s : State) : (doWitnessTimeout s).sys = s.sys := by
  unfold doWitnessTimeout
  split <;> simp

@[simp] theorem backlogOnSigned_sys (s : State) : (backlogOnSigned s).sys = s.sys := by
  simp only [backlogOnSigned]
  split_ifs <;> simp

@[simp] theorem releaseRecord_sys (c : Closing) (s : State) : (releaseRecord c s).sys = s.sys := by
  simp only [releaseRecord]
  split_ifs <;> simp

@[simp] theorem doDepartPeriodWrite_sys (v : W32) (s : State) : (doDepartPeriodWrite v s).sys = s.sys := by
  unfold doDepartPeriodWrite
  dsimp only
  split <;> simp

@[simp] theorem doDepartWitnessWrite_sys (v : W32) (s : State) : (doDepartWitnessWrite v s).sys = s.sys := by
  simp only [doDepartWitnessWrite]
  split_ifs <;> simp

/-! #### The agreement ops -/

@[simp] theorem onWork_sys {id : ThreadId} {f : Thread → Item → Book → State → State} {s : State}
    (hf : ∀ th i b, (f th i b s).sys = s.sys) : (onWork id f s).sys = s.sys := by
  unfold onWork; repeat' split
  all_goals simp [hf]

@[simp] theorem endThread_sys (th : Thread) (e : EndOp) (kind : Nat) (s : State) :
    (endThread th e kind s).sys = s.sys := by simp [endThread]

@[simp] theorem recordOp_sys {id : ThreadId} {area : Nat} {key : Thread → Item → Nat}
    {f : Thread → Item → Book → State → State} {s : State} (hf : ∀ th i b, (f th i b s).sys = s.sys) :
    (recordOp id area key f s).sys = s.sys :=
  onWork_sys fun _ _ _ => by split <;> simp [hf]

@[simp] theorem rejectWith_sys (th : Thread) (reason kind : Nat) (s : State) :
    (rejectWith th reason kind s).sys = s.sys := by simp [rejectWith]

@[simp] theorem doWorkDispatch_sys (seq : Nat) (id : ThreadId) (s : State) :
    (doWorkDispatch seq id s).sys = s.sys := by
  unfold doWorkDispatch
  dsimp only
  repeat' split
  all_goals simp

@[simp] theorem checkedOp_sys (id : ThreadId) (f : Thread → Sum Nat Thread) (s : State) :
    (checkedOp id f s).sys = s.sys := by
  unfold checkedOp
  split
  · rfl
  · split <;> simp

@[simp] theorem doConst_sys (th : ThreadId) (o : OpFields) (s : State) : (doConst th o s).sys = s.sys :=
  onWork_sys fun _ _ _ => by split <;> simp

@[simp] theorem fieldOp_sys (th : ThreadId) (o : OpFields) (f : Thread → Book → SynField → Nat) (s : State) :
    (fieldOp th o f s).sys = s.sys :=
  onWork_sys fun _ _ _ => by split <;> simp

@[simp] theorem makeRoom_sys {α : Type} (l : List α) (s : State) : (makeRoom l s).2.sys = s.sys := by
  unfold makeRoom
  split <;> simp

@[simp] theorem cacheLookup_sys (die owner seq : Nat) (r : Bytes) (s : State) :
    (cacheLookup die owner seq r s).sys = s.sys := by
  unfold cacheLookup
  dsimp only
  split <;> simp

@[simp] theorem doAuth_sys (id : ThreadId) (s : State) : (doAuth id s).sys = s.sys :=
  recordOp_sys fun _ _ _ => by
    dsimp only
    split
    · simp
    · split <;> simp

@[simp] theorem doLimadd_sys (id : ThreadId) (o : OpFields) (s : State) : (doLimadd id o s).sys = s.sys :=
  recordOp_sys fun _ _ _ => by simp

@[simp] theorem doAccept_sys (id : ThreadId) (s : State) : (doAccept id s).sys = s.sys := by
  unfold doAccept
  split <;> simp

@[simp] theorem doReject_sys (id : ThreadId) (o : OpFields) (s : State) : (doReject id o s).sys = s.sys := by
  unfold doReject
  split <;> simp

/-! #### The settlement register -/

@[simp] theorem applyLimit_sys (o t : Nat) (id delta : Nat) (sub : Bool) (defLimit : Nat) (s : State) :
    (applyLimit o t id delta sub defLimit s).sys = s.sys := by
  unfold applyLimit
  split <;> simp

@[simp] theorem applyNonce_sys (o : Nat) (l : List Staged) (s : State) : (applyNonce o l s).sys = s.sys := by
  unfold applyNonce
  split <;> simp

@[simp] theorem sellTicket_sys (t : Ticket) (s : State) : (sellTicket t s).sys = s.sys := by
  unfold sellTicket
  dsimp only
  repeat' split
  all_goals simp

@[simp] theorem applyOthers_sys (i : Item) (l : List Staged) (s : State) : (applyOthers i l s).sys = s.sys :=
  foldl_sys (fun st x => by
    cases x with
    | ticketMove k => dsimp only; split <;> simp
    | _ => simp) _ _

@[simp] theorem deriveReceipt_sys (die : Option Nat) (owner seq : Nat) (r : Bytes) (s : State) :
    (deriveReceipt die owner seq r s).2.sys = s.sys := by
  unfold deriveReceipt
  dsimp only
  split <;> simp

@[simp] theorem receiptKey_sys (i : Item) (status : Status) (s : State) : (receiptKey i status s).2.sys = s.sys := by
  unfold receiptKey
  split
  · rfl
  · split
    · split <;> simp
    · simp

@[simp] theorem finishItem_sys (i : Item) (status : Status) (reason : Nat) (ruleField : W64) (marks : BitVec 16) (replay : Bytes) (s : State) :
    (finishItem i status reason ruleField marks replay s).sys = s.sys := by
  simp only [finishItem]
  split_ifs <;> simp

@[simp] theorem keep_sys (k : Kept) (s : State) : (keep k s).sys = s.sys := by simp [keep]

@[simp] theorem applyCommit_sys (i : Item) (e : EndOp) (l : List Staged) (s : State) :
    (applyCommit i e l s).2.sys = s.sys := by
  unfold applyCommit
  split
  · rfl
  · split
    · dsimp only; split <;> simp
    · dsimp only; split <;> simp
    · simp

@[simp] theorem doCommit_sys (seq : Nat) (s : State) : (doCommit seq s).sys = s.sys := by
  unfold doCommit
  dsimp only
  repeat' split
  all_goals simp

@[simp] theorem doSweepEnd_sys (o g : Nat) (s : State) : (doSweepEnd o g s).sys = s.sys := by
  unfold doSweepEnd
  split <;> simp

@[simp] theorem stageNonce_sys (owner : Nat) (r : Bytes) (s : State) : (stageNonce owner r s).2.sys = s.sys := by
  simp only [stageNonce]
  split_ifs <;> simp

@[simp] theorem claimNonce_sys (owner : Nat) (r : Bytes) (s : State) : (claimNonce owner r s).2.sys = s.sys := by
  have h := stageNonce_sys owner r s
  unfold claimNonce
  split <;> simp_all

@[simp] theorem claimUnreachable_sys (c : RoutedClaim) (s : State) : (claimUnreachable c s).sys = s.sys := by
  simp [claimUnreachable]

@[simp] theorem doClaimWaitTimeout_sys (q : Nat) (s : State) : (doClaimWaitTimeout q s).sys = s.sys := by
  unfold doClaimWaitTimeout
  split <;> simp

/-! #### Budgets and games -/

@[simp] theorem lowerBudgets_sys (old : Nat) (s : State) : (lowerBudgets old s).sys = s.sys := by
  simp only [lowerBudgets]
  split_ifs <;> simp

@[simp] theorem setGame_sys (g : Game) (s : State) : (setGame g s).sys = s.sys := by simp [setGame]

@[simp] theorem timeLost_sys (o : Nat) (s : State) : (timeLost o s).sys = s.sys := by
  simp only [timeLost]
  split
  · rfl
  · simp [foldl_sys]

@[simp] theorem timeLostAll_sys (s : State) : (timeLostAll s).sys = s.sys := by
  unfold timeLostAll
  split
  · rfl
  · exact foldl_sys (fun _ _ => by split <;> simp) _ _

@[simp] theorem setAdmErr_sys (e : Nat) (s : State) : (setAdmErr e s).sys = s.sys := by simp [setAdmErr]

@[simp] theorem doRingBudgetWrite_sys (v : W64) (s : State) : (doRingBudgetWrite v s).sys = s.sys := by
  simp only [doRingBudgetWrite]
  split_ifs <;> simp

@[simp] theorem doOwnerShareWrite_sys (v : W32) (s : State) : (doOwnerShareWrite v s).sys = s.sys := by
  unfold doOwnerShareWrite
  dsimp only
  split <;> simp

@[simp] theorem doTokenRefill_sys (r : Nat) (s : State) : (doTokenRefill r s).sys = s.sys := by
  unfold doTokenRefill
  dsimp only
  split <;> simp

/-! #### The station clock -/

@[simp] theorem setClock_sys (c : ClkState) (s : State) : (setClock c s).sys = s.sys := by
  unfold setClock
  dsimp only
  split <;> simp

@[simp] theorem loseClock_sys (s : State) : (loseClock s).sys = s.sys := by simp [loseClock]

@[simp] theorem discardReading_sys (code : Nat) (off : Int) (s : State) : (discardReading code off s).sys = s.sys := by
  simp [discardReading]

@[simp] theorem stepForward_sys (n : Nat) (s : State) : (stepForward n s).sys = s.sys := by simp [stepForward]

@[simp] theorem correct_sys (off : Int) (s : State) : (correct off s).sys = s.sys := by
  unfold correct
  split <;> simp

@[simp] theorem doPpsInEdge_sys (deviation : Int) (s : State) : (doPpsInEdge deviation s).sys = s.sys := by
  simp only [doPpsInEdge]
  split_ifs <;> simp

@[simp] theorem refuseTime_sys (s : State) : (refuseTime s).sys = s.sys := by simp [refuseTime]

@[simp] theorem lockClock_sys (a : TimeSrc) (s : State) : (lockClock a s).sys = s.sys := by
  unfold lockClock
  split <;> simp

@[simp] theorem acquire_sys (a : TimeSrc) (off : Int) (s : State) : (acquire a off s).sys = s.sys := by
  simp only [acquire]
  split_ifs <;> simp

@[simp] theorem doSourceAgreement_sys (a b : TimeSrc) (s : State) : (doSourceAgreement a b s).sys = s.sys := by
  unfold doSourceAgreement
  repeat' split
  all_goals simp

@[simp] theorem doSourceLossTimeout_sys (s : State) : (doSourceLossTimeout s).sys = s.sys := by
  unfold doSourceLossTimeout
  split <;> simp

@[simp] theorem doUncertaintyLimit_sys (s : State) : (doUncertaintyLimit s).sys = s.sys := by
  unfold doUncertaintyLimit
  dsimp only
  repeat' split
  all_goals simp

@[simp] theorem doClockMonitorFail_sys (s : State) : (doClockMonitorFail s).sys = s.sys := by
  simp [doClockMonitorFail]

@[simp] theorem doTimeNowRead_sys (s : State) : (doTimeNowRead s).2.sys = s.sys := by simp [doTimeNowRead]

@[simp] theorem doTimeAllowanceWrite_sys (r : AllowReg) (v : W32) (s : State) :
    (doTimeAllowanceWrite r v s).sys = s.sys := by
  unfold doTimeAllowanceWrite
  dsimp only
  repeat' split
  all_goals simp

/-! #### Services of Linzen -/

@[simp] theorem doInterlockHoldExpiry_sys (index : Nat) (s : State) : (doInterlockHoldExpiry index s).sys = s.sys := by
  unfold doInterlockHoldExpiry
  split <;> simp

/-! #### Key custody -/

@[simp] theorem writeSlot_sys (i : Nat) (attr : W64) (key : Bytes) (s : State) :
    (writeSlot i attr key s).sys = s.sys := by simp [writeSlot]

@[simp] theorem writeRecord_sys (o x : Nat) (attr : W64) (key : Bytes) (s : State) :
    (writeRecord o x attr key s).sys = s.sys := by simp [writeRecord]

theorem newKey_sys {o : Nat} {record : Bool} {attr : W64} {key : Bytes} {s t : State} {h : Nat}
    (hk : newKey o record attr key s = some (h, t)) : t.sys = s.sys := by
  unfold newKey at hk
  split_ifs at hk <;> simp at hk <;> obtain ⟨x, -, -, rfl⟩ := hk <;> simp

@[simp] theorem doCacheInvalidation_sys (o : Nat) (s : State) : (doCacheInvalidation o s).sys = s.sys := by
  unfold doCacheInvalidation
  dsimp only
  split <;> simp

/-! #### The counter area of user flash -/

@[simp] theorem putRecord_sys (r : FlashRec) (sh dh ah : Nat) (s : State) : (putRecord r sh dh ah s).sys = s.sys := by
  simp [putRecord]

@[simp] theorem skipSector_sys (s : State) : (skipSector s).sys = s.sys := by simp [skipSector]

@[simp] theorem beginRecord_sys (r : FlashRec) (s : State) : (beginRecord r s).sys = s.sys := by simp [beginRecord]

@[simp] theorem recordEffect_sys (r : FlashRec) (s : State) : (recordEffect r s).sys = s.sys := by
  unfold recordEffect
  dsimp only
  repeat' split
  all_goals simp

@[simp] theorem doFlashRecordWritten_sys (good : Bool) (s : State) : (doFlashRecordWritten good s).sys = s.sys := by
  unfold doFlashRecordWritten
  dsimp only
  repeat' split
  all_goals simp

/-! #### Key custody, continued -/

@[simp] theorem doKeysQuotaWrite_sys (v : W32) (s : State) : (doKeysQuotaWrite v s).sys = s.sys := by
  simp only [doKeysQuotaWrite]
  split_ifs <;> simp

@[simp] theorem doSlotScrub_sys (bad : List Nat) (s : State) : (doSlotScrub bad s).sys = s.sys := by
  simp [doSlotScrub, foldl_sys]

@[simp] theorem doSaltEraseDone_sys (s : State) : (doSaltEraseDone s).sys = s.sys := by simp [doSaltEraseDone]

@[simp] theorem doWrappedAreaErased_sys (s : State) : (doWrappedAreaErased s).sys = s.sys := by
  simp [doWrappedAreaErased]

/-! #### The life cycle -/

@[simp] theorem carryMirror_sys (target : Nat) (s : State) : (carryMirror target s).sys = s.sys := by
  unfold carryMirror
  dsimp only
  repeat' split
  all_goals simp

@[simp] theorem eraseUserFlash_sys (target : Nat) (s : State) : (eraseUserFlash target s).sys = s.sys := by
  simp [eraseUserFlash]

@[simp] theorem drawComponent_sys (resumed : Bool) (s : State) : (drawComponent resumed s).sys = s.sys := by
  simp only [drawComponent]
  split_ifs <;> simp

@[simp] theorem clearVault_sys (s : State) : (clearVault s).sys = s.sys := by simp [clearVault]

@[simp] theorem finishTransition_sys (resumed : Bool) (target : Nat) (s : State) :
    (finishTransition resumed target s).sys = s.sys := by
  simp only [finishTransition]
  split_ifs <;> simp

/-! #### Faults and tests -/

@[simp] theorem rePlace_sys (s : State) : (rePlace s).sys = s.sys := by
  unfold rePlace
  exact foldl_sys (fun _ _ => by simp) _ _

@[simp] theorem stopThreads_sys (p : ThreadId → Bool) (s : State) : (stopThreads p s).sys = s.sys := by
  simp [stopThreads]

@[simp] theorem toReserve_sys (e : EngineId) (seqs : List Nat) (s : State) : (toReserve e seqs s).sys = s.sys := by
  unfold toReserve
  exact foldl_sys (fun _ _ => by simp) _ _

@[simp] theorem spreadBuckets_sys (s : State) : (spreadBuckets s).sys = s.sys := by simp [spreadBuckets]

@[simp] theorem dealBuckets_sys (s : State) : (dealBuckets s).sys = s.sys := by simp [dealBuckets]

/-! #### The cipher lanes -/

@[simp] theorem vaultLane_sys (lane : Nat) (s : State) : (vaultLane lane s).2.sys = s.sys := by
  unfold vaultLane
  dsimp only
  split <;> simp

@[simp] theorem laneCipher_sys (c : CipherOp) (s : State) : (laneCipher c s).sys = s.sys := by
  have h := vaultLane_sys c.lane.lane s
  unfold laneCipher
  split
  · simp
  · split
    · simp_all
    · dsimp only; split <;> simp_all

@[simp] theorem settleLanes_sys (s : State) : (settleLanes s).sys = s.sys := by
  unfold settleLanes
  exact foldl_sys (fun _ _ => by simp) _ _

@[simp] theorem dropCipher_sys (c : CipherOp) (s : State) : (dropCipher c s).sys = s.sys := by simp [dropCipher]

@[simp] theorem doCipherOperationDone_sys (id : WorkId) (s : State) : (doCipherOperationDone id s).sys = s.sys := by
  unfold doCipherOperationDone
  split <;> simp

@[simp] theorem quarantineLane_sys (l : LaneId) (s : State) : (quarantineLane l s).sys = s.sys := by
  simp [quarantineLane]

@[simp] theorem faultCipher_sys (c : CipherOp) (s : State) : (faultCipher c s).sys = s.sys := by simp [faultCipher]

@[simp] theorem moveCipher_sys (relane : Nat) (c : CipherOp) (s : State) : (moveCipher relane c s).sys = s.sys := by
  unfold moveCipher
  split <;> simp

@[simp] theorem faultThread_sys (th : Thread) (s : State) : (faultThread th s).sys = s.sys := by simp [faultThread]

@[simp] theorem doDieLaneFault_sys (k : Nat) (s : State) : (doDieLaneFault k s).sys = s.sys := by
  unfold doDieLaneFault
  dsimp only
  repeat' split
  all_goals simp

@[simp] theorem doLaneTestSlot_sys (g : LaneGroup) (s : State) : (doLaneTestSlot g s).sys = s.sys := by
  simp only [doLaneTestSlot]
  split_ifs <;> simp

/-! #### The public-key engines -/

@[simp] theorem stagePk_sys (c : PkOp) (e : Nat) (s : State) : (stagePk c e s).sys = s.sys := by simp [stagePk]

@[simp] theorem placeList_sys : ∀ (l : List PkOp) (held : List Nat) (s : State), (placeList l held s).sys = s.sys
  | [], _, _ => rfl
  | c :: r, held, s => by
    simp only [placeList]
    repeat' split
    all_goals simp [placeList_sys r]

@[simp] theorem settlePk_sys (s : State) : (settlePk s).sys = s.sys := by
  unfold settlePk; split <;> simp

@[simp] theorem storeKey_sys (c : PkOp) (key tail : Bytes) (s : State) : (storeKey c key tail s).sys = s.sys := by
  unfold storeKey
  split
  · simp
  · rename_i hk; simp [newKey_sys hk]

@[simp] theorem endSign_sys (c : PkOp) (rounds : Nat) (s : State) : (endSign c rounds s).sys = s.sys := by
  simp only [endSign]
  split_ifs <;> simp

@[simp] theorem endVerify_sys (c : PkOp) (s : State) : (endVerify c s).sys = s.sys := by
  simp only [endVerify]
  split_ifs <;> simp

@[simp] theorem endKeygen_sys (c : PkOp) (s : State) : (endKeygen c s).sys = s.sys := by simp [endKeygen]

@[simp] theorem endDerive_sys (c : PkOp) (s : State) : (endDerive c s).sys = s.sys := by
  unfold endDerive
  dsimp only
  repeat' split
  all_goals simp

@[simp] theorem endEncaps_sys (c : PkOp) (s : State) : (endEncaps c s).sys = s.sys := by
  unfold endEncaps
  dsimp only
  split <;> simp

@[simp] theorem endPublic_sys (c : PkOp) (s : State) : (endPublic c s).sys = s.sys := by
  unfold endPublic
  dsimp only
  split <;> simp

@[simp] theorem endCurve_sys (c : PkOp) (s : State) : (endCurve c s).sys = s.sys := by
  unfold endCurve
  dsimp only
  repeat' split
  all_goals simp

@[simp] theorem dropPk_sys (c : PkOp) (s : State) : (dropPk c s).sys = s.sys := by simp [dropPk]

@[simp] theorem endPk_sys (c : PkOp) (rounds : Nat) (s : State) : (endPk c rounds s).sys = s.sys := by
  unfold endPk
  split
  · simp
  · split <;> simp

@[simp] theorem clearEngine_sys (e : Nat) (s : State) : (clearEngine e s).sys = s.sys := by simp [clearEngine]

@[simp] theorem endAbort_sys (c : PkOp) (w : Work) (s : State) : (endAbort c w s).sys = s.sys := by simp [endAbort]

@[simp] theorem endAborts_sys (e : Nat) (s : State) : (endAborts e s).sys = s.sys := by
  unfold endAborts
  exact foldl_sys (fun _ _ => by simp) _ _

@[simp] theorem doPkOperationDone_sys (id : WorkId) (rounds : Nat) (s : State) :
    (doPkOperationDone id rounds s).sys = s.sys := by
  unfold doPkOperationDone
  split <;> simp

@[simp] theorem quarantinePk_sys (e : Nat) (s : State) : (quarantinePk e s).sys = s.sys := by
  simp only [quarantinePk]
  split_ifs <;> simp

@[simp] theorem faultPk_sys (c : PkOp) (s : State) : (faultPk c s).sys = s.sys := by
  unfold faultPk
  split <;> simp

@[simp] theorem movePk_sys (e : Nat) (s : State) : (movePk e s).sys = s.sys := by
  unfold movePk
  split <;> simp

@[simp] theorem doPkTestSlot_sys (s : State) : (doPkTestSlot s).sys = s.sys := by
  simp only [doPkTestSlot]
  split_ifs <;> simp

@[simp] theorem doPkTestDone_sys (pass : Bool) (s : State) : (doPkTestDone pass s).sys = s.sys := by
  unfold doPkTestDone
  dsimp only
  repeat' split
  all_goals simp

@[simp] theorem signFault_sys (e : Nat) (a : SigAlg) (s : State) : (signFault e a s).sys = s.sys := by
  simp [signFault]

@[simp] theorem signedOn_sys (e : Nat) (s : State) : (signedOn e s).sys = s.sys := by simp [signedOn]

@[simp] theorem doDepartureSigned_sys (bad : Option SigAlg) (s : State) : (doDepartureSigned bad s).sys = s.sys := by
  unfold doDepartureSigned
  dsimp only
  repeat' split
  all_goals simp

/-! #### Rulebooks -/

@[simp] theorem doRulebookDrainEnd_sys (owner handle : Nat) (s : State) :
    (doRulebookDrainEnd owner handle s).sys = s.sys := by simp [doRulebookDrainEnd]

/-! #### Error correction, partitions and power fail -/

@[simp] theorem doVmemPartWrite_sys (v : W64) (s : State) : (doVmemPartWrite v s).sys = s.sys := by
  simp only [doVmemPartWrite]
  split_ifs <;> simp

@[simp] theorem doPartitionRelayEnd_sys (o : Nat) (s : State) : (doPartitionRelayEnd o s).sys = s.sys := by
  unfold doPartitionRelayEnd
  split <;> simp

/-! #### Tamper -/

@[simp] theorem recordFiring_sys (f : Firing) (sub : Nat) (s : State) : (recordFiring f sub s).sys = s.sys := by
  simp [recordFiring]

@[simp] theorem noteSample_sys (x : SourceSample) (s : State) : (noteSample x s).sys = s.sys := by
  simp only [noteSample]
  split_ifs <;> simp

@[simp] theorem refLost_sys (l : List Firing) (s : State) : (refLost l s).sys = s.sys := by
  unfold refLost
  split <;> simp

@[simp] theorem changePolicy_sys (src f : Nat) (s : State) : (changePolicy src f s).sys = s.sys := by
  unfold changePolicy
  dsimp only
  split <;> simp

@[simp] theorem doTamperPolicyWrite_sys (reg : Nat) (v : W32) (s : State) : (doTamperPolicyWrite reg v s).sys = s.sys := by
  simp only [doTamperPolicyWrite]
  split
  · simp
  · exact foldl_sys (fun _ _ => by simp) _ _

@[simp] theorem doTamperPolicyLock_sys (alertRecord : Bool) (s : State) :
    (doTamperPolicyLock alertRecord s).sys = s.sys := by
  unfold doTamperPolicyLock
  split <;> simp

@[simp] theorem clearFlag_sys (n : Nat) (s : State) : (clearFlag n s).sys = s.sys := by
  unfold clearFlag
  split <;> simp

@[simp] theorem doTamperFlagsClear_sys (v : W64) (s : State) : (doTamperFlagsClear v s).sys = s.sys :=
  foldl_sys (fun _ _ => by split <;> simp) _ _

/-! #### The generator -/

@[simp] theorem endOne_sys (e : Ending) (s : State) : (endOne e s).sys = s.sys := by
  unfold endOne
  dsimp only
  split <;> simp

@[simp] theorem drainList_sys : ∀ (l : List Ending) (s : State), (drainList l s).sys = s.sys
  | [], _ => rfl
  | e :: rest, s => by
    unfold drainList
    split <;> simp [drainList_sys rest]

@[simp] theorem drainEnds_sys (s : State) : (drainEnds s).sys = s.sys := by simp [drainEnds]

@[simp] theorem abortRead_sys (s : State) : (abortRead s).sys = s.sys := by simp [abortRead]

@[simp] theorem serveRead_sys (s : State) : (serveRead s).sys = s.sys := by simp [serveRead]

@[simp] theorem doRngDataRead_sys (s : State) : (doRngDataRead s).sys = s.sys := by
  simp only [doRngDataRead]
  split_ifs <;> simp

/-! #### The package -/

@[simp] theorem doDimmTempPoll_sys (ch : Nat) (temp : Int) (s : State) : (doDimmTempPoll ch temp s).sys = s.sys := by
  unfold doDimmTempPoll
  dsimp only
  repeat' split
  all_goals simp

/-! #### Register reads and writes -/

@[simp] theorem clearLow_sys (off : Nat) (s : State) : (clearLow off s).sys = s.sys := by
  unfold clearLow
  split <;> simp

@[simp] theorem clearMid_sys (off : Nat) (s : State) : (clearMid off s).sys = s.sys := by
  unfold clearMid
  split <;> simp

@[simp] theorem clearHigh_sys (off : Nat) (s : State) : (clearHigh off s).sys = s.sys := by
  unfold clearHigh
  split <;> simp

@[simp] theorem clearOnRead_sys (off : Nat) (s : State) : (clearOnRead off s).sys = s.sys := by
  simp only [clearOnRead]
  split_ifs <;> simp

@[simp] theorem rawSamples_sys (s : State) : (rawSamples s).2.sys = s.sys := by
  unfold rawSamples
  split <;> simp

@[simp] theorem consumedNow_sys (s : State) : (consumedNow s).2.sys = s.sys := by
  unfold consumedNow
  split <;> simp

@[simp] theorem countFec_sys (off : Nat) (s : State) : (countFec off s).sys = s.sys := by
  unfold countFec
  dsimp only
  split <;> simp

@[simp] theorem readReg_sys (off : Nat) (s : State) : (readReg off s).2.sys = s.sys := by
  simp only [readReg]
  split_ifs <;> simp

@[simp] theorem readWindow_sys (off v : Nat) (s : State) : (readWindow off v s).sys = s.sys := by simp [readWindow]

@[simp] theorem doRead_sys (a : ReadAddr) (s : State) : (doRead a s).sys = s.sys := by
  cases a <;> simp only [doRead] <;> split <;> simp

@[simp] theorem writeBulkCtl_sys (v : W64) (s : State) : (writeBulkCtl v s).sys = s.sys := by
  simp only [writeBulkCtl]
  split_ifs <;> simp

@[simp] theorem writeGlobal_sys (off : Nat) (v : W64) (s : State) : (writeGlobal off v s).sys = s.sys := by
  unfold writeGlobal
  split <;> simp

@[simp] theorem writeRingctl_sys (off : Nat) (v : W64) (s : State) : (writeRingctl off v s).sys = s.sys := by
  unfold writeRingctl
  split <;> simp

@[simp] theorem writeAdmit_sys (off : Nat) (v : W64) (s : State) : (writeAdmit off v s).sys = s.sys := by
  unfold writeAdmit
  split <;> simp

@[simp] theorem writeTime_sys (off : Nat) (v : W64) (s : State) : (writeTime off v s).sys = s.sys := by
  unfold writeTime
  dsimp only
  repeat' split
  all_goals simp

@[simp] theorem writeVmem_sys (off : Nat) (v : W64) (s : State) : (writeVmem off v s).sys = s.sys := by
  unfold writeVmem
  dsimp only
  repeat' split
  all_goals simp

@[simp] theorem writeIp_sys (p : Nat) (high : Bool) (v : W64) (s : State) : (writeIp p high v s).sys = s.sys := by
  simp [writeIp]

@[simp] theorem writeJct_sys (off : Nat) (v : W64) (s : State) : (writeJct off v s).sys = s.sys := by
  unfold writeJct
  dsimp only
  repeat' split
  all_goals simp

@[simp] theorem writeGuard_sys (off : Nat) (v : W64) (s : State) : (writeGuard off v s).sys = s.sys := by
  unfold writeGuard
  dsimp only
  repeat' split
  all_goals simp

@[simp] theorem writeCountersCtl_sys (v : W64) (s : State) : (writeCountersCtl v s).sys = s.sys := by
  unfold writeCountersCtl
  split <;> simp

@[simp] theorem writeCounters_sys (off : Nat) (v : W64) (s : State) : (writeCounters off v s).sys = s.sys := by
  unfold writeCounters
  split <;> simp

@[simp] theorem maskVector_sys (f vec : Nat) (s : State) : (maskVector f vec s).sys = s.sys := by simp [maskVector]

@[simp] theorem writeMsix_sys (f vec : Nat) (upper : Bool) (v : W64) (s : State) :
    (writeMsix f vec upper v s).sys = s.sys := by
  simp only [writeMsix]
  split_ifs <;> simp
/-! #### Wrappers of thread ops and answers -/

@[simp] theorem when_false (f : State → State) (s : State) : when false f s = s := rfl

@[simp] theorem branchOp_sys (th : ThreadId) (o : OpFields) (c : W64 → W64 → Bool) (s : State) :
    (branchOp th o c s).sys = s.sys := by simp [branchOp]

@[simp] theorem writeOp_sys (th : ThreadId) (o : OpFields) (f : Thread → W64) (s : State) :
    (writeOp th o f s).sys = s.sys := by simp [writeOp]

@[simp] theorem aluOp_sys (th : ThreadId) (o : OpFields) (f : W64 → W64 → W64) (s : State) :
    (aluOp th o f s).sys = s.sys := by simp [aluOp]

@[simp] theorem when_emit_sys (c : Bool) (o : Out) (s : State) : (when c (emit o) s).sys = s.sys := by
  unfold when; split <;> simp

/-! ### ZEROISED: what its guards shut out (R32)

Each guard that asks for service, start-up, the ports or the card bus is false in ZEROISED, so that an operation behind it
answers the state itself. -/

theorem zeroised_beq {d : DevState} (hd : .zeroised ≠ d) : (DevState.zeroised == d) = false := by simpa using hd

section
variable {s : State} (hz : s.sys.state = .zeroised)
include hz

theorem inService_zeroised : inService s = false := by simp [inService, hz]

theorem portsRun_zeroised : portsRun s = false := by simp [portsRun, inService, hz]

theorem outputsRun_zeroised : outputsRun s = false := by simp [outputsRun, inService, hz]

theorem busOn_zeroised : busOn s = false := by simp [busOn, inService, hz]

theorem rngRuns_zeroised : rngRuns s = false := by simp [rngRuns, hz]

theorem mayAdmit_zeroised : mayAdmit s = false := by simp [mayAdmit, inService, hz]

theorem portUp_zeroised (p : Nat) : portUp s p = false := by simp [portUp, portsRun_zeroised hz]

theorem ptpOn_zeroised (p : Nat) : ptpOn s p = false := by simp [ptpOn, portUp_zeroised hz]

theorem mayFetch_zeroised (r : Nat) : mayFetch s r = false := by simp [mayFetch, inService_zeroised hz]

theorem stepCanEnd_zeroised : stepCanEnd s = false := by simp [stepCanEnd, hz]

theorem outRing_zeroised (cls func : Nat) : outRing s cls func = none := by
  unfold outRing
  split <;> simp [outputsRun_zeroised hz]

theorem withWork_zeroised (id : WorkId) (op : Nat) (body : Work → State → State) : withWork id op body s = s := by
  simp [withWork, inService_zeroised hz]

theorem withSealedWork_zeroised (id : WorkId) (op : Nat) (body : Work → State → State) :
    withSealedWork id op body s = s := by
  simp [withSealedWork, withWork_zeroised hz]

theorem gameCommand_zeroised (op : Nat) (body : GameBody) (id : WorkId) : gameCommand op body id s = s :=
  withSealedWork_zeroised hz ..

theorem onFrame_zeroised (f : LinzenFrame) (type : Nat) (body : Nat → Peer → State → State) :
    onFrame f type body s = s := by
  simp [onFrame, portUp_zeroised hz]

theorem inMode_zeroised (accept : Bool) (body : Work → State → State) (id : WorkId) : inMode accept body id s = s := by
  simp [inMode, withSealedWork_zeroised hz]

theorem inCertMode_zeroised (m : Nat) (body : Work → State → State) (id : WorkId) : inCertMode m body id s = s := by
  simp [inCertMode, withWork_zeroised hz]

theorem selfTestRow_zeroised (m : Nat) (start : State → State) (id : WorkId) : selfTestRow m start id s = s := by
  simp [selfTestRow, withWork_zeroised hz]

theorem doJournalPost_zeroised (o : Nat) : doJournalPost o s = s := by
  simp [doJournalPost, outRing_zeroised hz]

theorem doLedgerPost_zeroised : doLedgerPost s = s := by
  simp [doLedgerPost, outRing_zeroised hz]

theorem settleService_zeroised : settleService s = s := by simp [settleService, hz]

theorem zeroise_zeroised (src : Nat) : zeroise src s = s := by simp [zeroise, hz]

theorem doRestoreAbandon_zeroised (key : W32) : doRestoreAbandon key s = s := by simp [doRestoreAbandon, hz]

theorem when_zeroised {c : Bool} {f : State → State} (hf : (f s).sys.state = .zeroised) :
    (when c f s).sys.state = .zeroised := by
  unfold when
  split
  · exact hf
  · exact hz

theorem hostWriteIn_zeroised {inHeld inStabled : Bool} {off len : Nat} {f : State → State}
    (hf : (f s).sys.state = .zeroised) : (hostWriteIn inHeld inStabled off len f s).sys.state = .zeroised := by
  unfold hostWriteIn
  split_ifs <;> simp [hz, hf]

/-! ### ZEROISED: the operations that write the device state's part (R27, R34-R36, R275, R445, R474)

None of them changes the state ZEROISED. -/

theorem setSlotEn_zeroised (v : BitVec 8) : (setSlotEn v s).sys = s.sys := by
  have h : busOn { s with cards := { s.cards with slotEn := v } } = false := busOn_zeroised hz
  simp [setSlotEn, h]

theorem writeCardConfig_zeroised (v : W64) : (writeCardConfig v s).sys = s.sys := by
  unfold writeCardConfig
  split
  · rfl
  · rw [setSlotEn_zeroised (by exact hz)]

theorem writeSelect_zeroised (off : Nat) (v : W64) : (writeSelect off v s).sys = s.sys := by
  unfold writeSelect
  split <;> simp [writeCardConfig_zeroised hz]

theorem writeReg_zeroised (off : Nat) (v : W64) : (writeReg off v s).sys = s.sys := by
  unfold writeReg
  split <;> simp [writeSelect_zeroised hz]

theorem doAdmissionStep_zeroised : (doAdmissionStep s).sys = s.sys := by
  have h : mayAdmit (tryTick (drainEnds s)) = false := mayAdmit_zeroised (by simpa using hz)
  simp [doAdmissionStep, h]

theorem recompute_zeroised (old : Nat) : (recompute old s).sys.state = .zeroised := by
  rw [recompute, settleService_zeroised (by simpa using hz)]
  simpa using hz

theorem removeDie_zeroised (k : Nat) : (removeDie k s).sys.state = .zeroised :=
  recompute_zeroised (by simpa using hz) _

theorem returnDie_zeroised (k : Nat) : (returnDie k s).sys.state = .zeroised := by
  simp only [returnDie]
  rw [settleService_zeroised (by simpa using hz)]
  simpa using hz

theorem strike_zeroised (u : FaultUnit) (b : Bool) : (strike u b s).sys.state = .zeroised := by
  unfold strike
  split <;> exact hz

theorem quarantineEngine_zeroised (e : EngineId) (cause : Nat) : (quarantineEngine e cause s).sys.state = .zeroised :=
  recompute_zeroised (by simpa using hz) _

theorem failEngine_zeroised (e : EngineId) (cause : Nat) : (failEngine e cause s).sys.state = .zeroised := by
  simp only [failEngine, toReserve_sys]
  exact quarantineEngine_zeroised (by simpa using strike_zeroised hz _ _) _ _

theorem doEngineFault_zeroised (e : EngineId) : (doEngineFault e s).sys.state = .zeroised := by
  unfold doEngineFault
  split
  · exact failEngine_zeroised hz _ _
  · exact hz

theorem doThreadOverrun_zeroised (id : ThreadId) : (doThreadOverrun id s).sys.state = .zeroised := by
  unfold doThreadOverrun
  split
  · exact hz
  · simpa using failEngine_zeroised hz _ _

theorem endEngineTest_zeroised (e : EngineId) (pass : Bool) : (endEngineTest e pass s).sys.state = .zeroised := by
  simp only [endEngineTest]
  split
  · exact quarantineEngine_zeroised (by exact hz) _ _
  · split
    · rw [settleService_zeroised (by simpa using hz)]
      simpa using hz
    · exact hz

theorem doEngineTestDone_zeroised (die : Nat) (pass : Bool) : (doEngineTestDone die pass s).sys.state = .zeroised := by
  unfold doEngineTestDone
  split
  · exact hz
  · split
    · exact hz
    · exact endEngineTest_zeroised hz _ _

theorem doFaultRecovered_zeroised : (doFaultRecovered s).sys.state = .zeroised := by
  simp only [doFaultRecovered]
  repeat' split
  all_goals simpa using hz

theorem anchorFail_zeroised (canPublish : Bool) : (anchorFail canPublish s).sys.state = .zeroised := by
  simp only [anchorFail]
  repeat' split
  all_goals simpa using hz

theorem overlapNow_zeroised (busy : Bool) : (overlapNow busy s).sys.state = .zeroised := by
  unfold overlapNow
  split <;> exact hz

theorem checkGroup_zeroised (g : LaneGroup) : (checkGroup g s).sys.state = .zeroised := by
  unfold checkGroup
  split
  · split
    · exact removeDie_zeroised (by simpa using hz) _
    · exact hz
  · split
    · exact anchorFail_zeroised (by simpa using hz) _
    · exact hz
  · exact hz

theorem endLaneTest_zeroised (l : LaneId) (pass : Bool) : (endLaneTest l pass s).sys.state = .zeroised := by
  simp only [endLaneTest]
  split
  · exact checkGroup_zeroised (by simpa using hz) _
  · split
    · simpa using hz
    · split
      · split
        · exact returnDie_zeroised (by simpa using hz) _
        · simpa using hz
      · simpa using hz

theorem doLaneTestDone_zeroised (g : LaneGroup) (pass : Bool) : (doLaneTestDone g pass s).sys.state = .zeroised := by
  unfold doLaneTestDone
  split
  · exact hz
  · split
    · exact hz
    · exact endLaneTest_zeroised hz _ _

theorem doLaneParityFault_zeroised (l : LaneId) (relane : Nat) : (doLaneParityFault l relane s).sys.state = .zeroised := by
  simp only [doLaneParityFault]
  split
  · exact hz
  · have h : ∀ b, (overlapNow b (event 0x0801 0 [(1, (laneCode l).1), (1, (laneCode l).2)] (quarantineLane l s))).sys.state
        = .zeroised := fun b => overlapNow_zeroised (by simpa using hz) b
    apply checkGroup_zeroised
    split <;> simpa using h _

theorem doPkEngineFault_zeroised (e : Nat) (cause : PkFault) : (doPkEngineFault e cause s).sys.state = .zeroised := by
  simp only [doPkEngineFault]
  split
  · exact hz
  · have h : ∀ b, (overlapNow b (event 0x0810 0 (engineArg e ++ [(1, pkFaultCode cause)]) s)).sys.state = .zeroised :=
      fun b => overlapNow_zeroised (by simpa using hz) b
    simp only [movePk_sys, quarantinePk_sys]
    split
    · split <;> simpa using h _
    · exact h _

theorem fireAll_zeroised (l : List Firing) : (fireAll l s).sys.state = .zeroised := by
  have h : ∀ l' : List (Firing × Nat), ((l'.foldl (fun st p => recordFiring p.1 p.2 st) s)).sys.state = .zeroised :=
    fun l' => by simpa [foldl_sys] using hz
  simp only [fireAll]
  split
  · rw [zeroise_zeroised (h _)]
    simp [h]
  · simp [h]

theorem raise_zeroised (src reading : Nat) : (raise src reading s).sys.state = .zeroised := fireAll_zeroised hz _

theorem doTamperCycle_zeroised (xs : List SourceSample) : (doTamperCycle xs s).sys.state = .zeroised := by
  have h : ∀ xs' : List SourceSample, (xs'.foldl (fun st x => noteSample x st) s).sys.state = .zeroised :=
    fun xs' => by simpa [foldl_sys] using hz
  simp only [doTamperCycle, refLost_sys]
  split
  · exact h _
  · exact fireAll_zeroised (h _) _

theorem doMeshMeasure_zeroised (loop cls : Nat) : (doMeshMeasure loop cls s).sys.state = .zeroised := by
  simp only [doMeshMeasure]
  split
  · exact hz
  · split
    · exact hz
    · split
      · exact fireAll_zeroised (by simpa using hz) _
      · exact hz

theorem doPwrFailNAssert_zeroised : (doPwrFailNAssert s).sys.state = .zeroised := by
  simp only [doPwrFailNAssert]
  split
  · simpa using hz
  · split <;> simpa using hz

theorem doPwrFailNDeassert_zeroised : (doPwrFailNDeassert s).sys.state = .zeroised := by
  simp only [doPwrFailNDeassert]
  split <;> simpa using hz

theorem stableRefused_zeroised (d : Nat) : (stableRefused d s).sys.state = .zeroised := by
  simpa [stableRefused] using hz

theorem doStable_zeroised : (doStable s).sys.state = .zeroised := by
  simp only [doStable]
  split
  · exact hz
  · split
    · exact stableRefused_zeroised hz _
    · exact hz

end
/-! ### ZEROISED: every command (R32) -/

/-- A command that is no restart and answers a next state leaves ZEROISED as it is: it either waits for something that
ZEROISED shuts out, or leaves the device state's part alone, or writes another field of it. -/
theorem exec_zeroised {c : Instr} {s t : State} (hz : s.sys.state = .zeroised) (hr : restarts c = false)
    (h : exec c s = .next t) : t.sys.state = .zeroised := by
  cases c
  case powerGood | powerLoss | resetAssert | resetRelease | railUndervoltage | railGlitchReturn | railLowTimeout =>
    cases hr
  case jtagAccess a =>
    have hs : t.sys = s.sys := by
      change execJtagAccess a s = .next t at h
      cases a <;> simp only [execJtagAccess] at h
      case boundaryScan => cases h; simp
      all_goals
        split at h <;> cases h
        rfl
    rw [hs, hz]
  case smbTempEngineDie k =>
    have hs : t.sys = s.sys := by
      change execSmbTempEngineDie k s = .next t at h
      simp only [execSmbTempEngineDie, smbAnswer] at h
      split at h
      · split at h <;> cases h <;> simp
      · cases h; simp
    rw [hs, hz]
  all_goals cases h
  -- the commands that write the device state's part
  case admissionStep =>
    exact when_zeroised hz (by rw [doAdmissionStep_zeroised (by simpa using hz)]; simpa using hz)
  case restoreAbandon =>
    exact when_zeroised hz (hostWriteIn_zeroised (by simpa using hz)
      (by rw [doRestoreAbandon_zeroised (by simpa using hz)]; simpa using hz))
  case engineFault => exact when_zeroised hz (doEngineFault_zeroised hz _)
  case threadOverrun => exact when_zeroised hz (doThreadOverrun_zeroised hz _)
  case engineTestDone => exact when_zeroised hz (doEngineTestDone_zeroised hz _ _)
  case faultRecovered => exact when_zeroised hz (doFaultRecovered_zeroised (by simpa using hz))
  case pwrFailNAssert => exact when_zeroised hz (doPwrFailNAssert_zeroised (by simpa using hz))
  case pwrFailNDeassert => exact when_zeroised hz (doPwrFailNDeassert_zeroised hz)
  case couplingAckTimeout => exact when_zeroised hz hz
  case laneParityFault => exact when_zeroised hz (doLaneParityFault_zeroised hz _ _)
  case laneTestDone => exact when_zeroised hz (doLaneTestDone_zeroised hz _ _)
  case pkEngineFault => exact when_zeroised hz (doPkEngineFault_zeroised hz _ _)
  case tamperCycle => exact when_zeroised hz (doTamperCycle_zeroised (by simpa using hz) _)
  case meshMeasure => exact when_zeroised hz (doMeshMeasure_zeroised hz _ _)
  case detectorSplit => exact when_zeroised hz (raise_zeroised hz _ _)
  case stable => exact hostWriteIn_zeroised hz (doStable_zeroised (by simpa using hz))
  case stabledEntryTimeout => exact when_zeroised hz (stableRefused_zeroised (by exact hz) _)
  case wake => exact hostWriteIn_zeroised hz (when_zeroised hz hz)
  -- register accesses and ops of a thread, whose own bodies leave it alone
  case registerWrite a v =>
    cases a with
    | bar0 off => exact (congrArg Sys.state (hostWrite_sys (writeReg_zeroised hz off v))).trans hz
    | _ => simp [hz]
  case ownerShareWrite => exact (congrArg Sys.state (hostWrite_sys (by split <;> simp))).trans hz
  case tamperFlagsClear => exact (congrArg Sys.state (hostWriteIn_sys (doTamperFlagsClear_sys _ s))).trans hz
  case rngDataRead =>
    split
    · simp [hz]
    · exact (congrArg Sys.state (hostRead_sys rfl)).trans hz
  case sigboxFence =>
    dsimp only
    split_ifs <;> simp [hz]
  case lookup | ctx => exact (congrArg Sys.state (onWork_sys fun _ _ _ => rfl)).trans hz
  case limget | tkget => exact (congrArg Sys.state (recordOp_sys fun _ _ _ => rfl)).trans hz
  case parse => exact (congrArg Sys.state (onWork_sys fun _ _ _ => by split <;> simp)).trans hz
  case diagEvents => exact (congrArg Sys.state (when_sys (foldl_sys (fun _ _ => by simp) _ _))).trans hz
  -- every other command is shut out in ZEROISED or leaves the device state's part alone
  all_goals
    simp [hz, zeroised_beq, inService_zeroised, portsRun_zeroised, outputsRun_zeroised, busOn_zeroised,
      rngRuns_zeroised, portUp_zeroised, ptpOn_zeroised, mayFetch_zeroised, stepCanEnd_zeroised, withWork_zeroised,
      withSealedWork_zeroised, gameCommand_zeroised, onFrame_zeroised, inMode_zeroised, inCertMode_zeroised,
      selfTestRow_zeroised, doJournalPost_zeroised, doLedgerPost_zeroised]

/-- Settles O60, by cases over the commands (`exec_zeroised`): what asks for service, start-up, a port or the card bus is
shut out in ZEROISED, `enterDev` never leaves it, and nothing else but a restart writes the state. -/
theorem onlyResetLeavesZeroised : Obligations.OnlyResetLeavesZeroised := by
  unfold Obligations.OnlyResetLeavesZeroised
  intro c s t hz hr h
  exact exec_zeroised hz hr h

end Sys2Proof.Machine
end


section
namespace Sys2Proof.Machine

/-! ### What happens to a ring when its function goes away (R75) -/

@[simp] theorem discardEvent_frame (r : Nat) (s : State) : (discardEvent r s).link = s.link
    ∧ (discardEvent r s).bulk = s.bulk ∧ (discardEvent r s).dep = s.dep := by simp [discardEvent]

@[simp] theorem dropFetched_frame (r : Nat) (s : State) : (dropFetched r s).link = s.link
    ∧ (dropFetched r s).bulk = s.bulk ∧ (dropFetched r s).dep = s.dep := by simp [dropFetched]

@[simp] theorem forgetPosted_frame (cls : Nat) (s : State) : (forgetPosted cls s).link = s.link
    ∧ (forgetPosted cls s).bulk = s.bulk ∧ (forgetPosted cls s).dep.isOpen = s.dep.isOpen := by
  unfold forgetPosted
  split <;> simp

@[simp] theorem ringOf_discardEvent (r q : Nat) (s : State) : ringOf (discardEvent r s) q = ringOf s q :=
  ringOf_congr (by simp [discardEvent]) q

@[simp] theorem ringOf_dropFetched (r q : Nat) (s : State) : ringOf (dropFetched r s) q = ringOf s q := rfl

@[simp] theorem ringOf_forgetPosted (cls q : Nat) (s : State) : ringOf (forgetPosted cls s) q = ringOf s q := by
  unfold forgetPosted
  split <;> rfl

/-- A lost ring is FREE and keeps only its incarnation count. -/
@[simp] theorem ringOf_loseRing_same (r : Nat) (s : State) :
    ringOf (loseRing r s) r = { gen := (ringOf s r).gen + 1 } := by
  simp [loseRing]

theorem ringOf_loseRing_other {r q : Nat} (s : State) (h : q ≠ r) : ringOf (loseRing r s) q = ringOf s q := by
  simp [loseRing, ringOf_setRing_other _ _ h]

@[simp] theorem ringOf_errorRing_same (r : Nat) (s : State) :
    ringOf (errorRing r s) r = { ringOf s r with state := .error, lastErr := 0x0B, fin := [] } := by
  simp [errorRing]

theorem ringOf_errorRing_other {r q : Nat} (s : State) (h : q ≠ r) : ringOf (errorRing r s) q = ringOf s q := by
  simp [errorRing, ringOf_mapRing_other _ _ h]

/-- What a fold over rings does to the ring q, where each step turns its own ring into one of which P holds and leaves the
others: a ring of the list ends with P, and any other ring is as it was. -/
theorem ringOf_foldl_mem {f : State → Nat → State} {P : Ring → Prop} {q : Nat} (hsame : ∀ st, P (ringOf (f st q) q))
    (hother : ∀ st r, q ≠ r → ringOf (f st r) q = ringOf st q) (l : List Nat) :
    ∀ s, P (ringOf s q) ∨ q ∈ l → P (ringOf (l.foldl f s) q) := by
  induction l with
  | nil => simp
  | cons r rest ih =>
    intro s h
    apply ih
    by_cases e : q = r
    · exact e ▸ .inl (hsame s)
    · rw [hother s r e]
      simpa [e] using h

theorem ringOf_foldl_not_mem {f : State → Nat → State} {q : Nat} (hother : ∀ st r, q ≠ r → ringOf (f st r) q = ringOf st q)
    (l : List Nat) : ∀ s, q ∉ l → ringOf (l.foldl f s) q = ringOf s q := by
  induction l with
  | nil => simp
  | cons r rest ih =>
    intro s h
    obtain ⟨hne, hrest⟩ := not_or.1 (List.mem_cons.not.1 h)
    exact (ih _ hrest).trans (hother s r hne)

/-! ### FLR of one function -/

/-- A ring that is found in the table, not FREE and of this function is among the function's rings. -/
theorem mem_ringsOf {s : State} {r : Nat} (h : (ringOf s r).state ≠ .free) : r ∈ ringsOf s (ringOf s r).func := by
  have hmem : ∀ t : Tbl Ring, (t.atD r {}).state ≠ .free → (r, t.atD r {}) ∈ t := by
    intro t
    induction t with
    | nil => intro h; exact absurd rfl h
    | cons e rest ih =>
      intro h
      by_cases hk : e.1 = r
      · simp [Tbl.atD, Tbl.at?, ← hk]
      · simp only [Tbl.atD, Tbl.at?, if_neg hk] at h ih ⊢
        exact List.mem_cons_of_mem _ (ih h)
  have := hmem s.rings.tbl h
  simp only [ringsOf, List.mem_map, List.mem_filter]
  exact ⟨_, ⟨this, by simpa [ringOf] using h⟩, rfl⟩

theorem ringOf_flrOne (f q : Nat) (s : State) :
    ringOf (flrOne f s) q = ringOf ((ringsOf s f).foldl (fun st r => loseRing r st) s) q := rfl

theorem flrOne_frees {f q : Nat} {s : State} (h : q ∈ ringsOf s f) : (ringOf (flrOne f s) q).state = .free := by
  rw [ringOf_flrOne]
  exact ringOf_foldl_mem (P := fun x => x.state = .free) (by simp) (fun st _ hne => ringOf_loseRing_other st hne) _ s (.inr h)

theorem flrOne_other {f q : Nat} {s : State} (h : q ∉ ringsOf s f) : ringOf (flrOne f s) q = ringOf s q := by
  rw [ringOf_flrOne]
  exact ringOf_foldl_not_mem (fun st _ hne => ringOf_loseRing_other st hne) _ s h

/-- FLR of functions one after another frees every ring of theirs. -/
theorem foldl_flrOne_frees {q : Nat} (l : List Nat) : ∀ s : State, (ringOf s q).state = .free ∨ (ringOf s q).func ∈ l →
    (ringOf (l.foldl (fun st f => flrOne f st) s) q).state = .free := by
  induction l with
  | nil => simp
  | cons f rest ih =>
    intro s h
    apply ih
    by_cases hm : q ∈ ringsOf s f
    · exact .inl (flrOne_frees hm)
    · rw [flrOne_other hm]
      by_cases hfree : (ringOf s q).state = .free
      · exact .inl hfree
      · have hne : (ringOf s q).func ≠ f := fun e => hm (e ▸ mem_ringsOf hfree)
        exact .inr (by simpa [hfree, hne] using h)

/-- FLR of functions frees a ring or leaves it as it was. -/
theorem foldl_flrOne_free_or_same (q : Nat) (l : List Nat) : ∀ s : State,
    (ringOf (l.foldl (fun st f => flrOne f st) s) q).state = .free
      ∨ ringOf (l.foldl (fun st f => flrOne f st) s) q = ringOf s q := by
  induction l with
  | nil => exact fun _ => .inr rfl
  | cons f rest ih =>
    intro s
    rcases ih (flrOne f s) with hfree | hsame
    · exact .inl hfree
    · by_cases hm : q ∈ ringsOf s f
      · exact .inl ((congrArg Ring.state hsame).trans (flrOne_frees hm))
      · exact .inr (hsame.trans (flrOne_other hm))

/-! #### What FLR leaves as it was -/

/-- The parts of the state that the loss of rings does not reach: the bulk session, the departure's being open, and of the
link all but the state of the functions. -/
structure SameBeyondRings (s t : State) : Prop where
  sys : t.sys = s.sys
  bulk : t.bulk = s.bulk
  isOpen : t.dep.isOpen = s.dep.isOpen

theorem SameBeyondRings.refl (s : State) : SameBeyondRings s s := ⟨rfl, rfl, rfl⟩

theorem SameBeyondRings.trans {s t u : State} (h : SameBeyondRings s t) (k : SameBeyondRings t u) : SameBeyondRings s u :=
  ⟨k.sys.trans h.sys, k.bulk.trans h.bulk, k.isOpen.trans h.isOpen⟩

theorem SameBeyondRings.foldl {α : Type} {f : State → α → State} (h : ∀ st x, SameBeyondRings st (f st x)) (l : List α)
    (s : State) : SameBeyondRings s (l.foldl f s) :=
  foldl_keeps (SameBeyondRings s) f (fun st x e => e.trans (h st x)) l s (.refl s)

theorem loseRing_sameBeyondRings (r : Nat) (s : State) : SameBeyondRings s (loseRing r s) := by
  constructor <;> simp [loseRing]

@[simp] theorem loseRing_link (r : Nat) (s : State) : (loseRing r s).link = s.link := by
  simp [loseRing]

theorem flrOne_sameBeyondRings (f : Nat) (s : State) : SameBeyondRings s (flrOne f s) := by
  obtain ⟨hsys, hbulk, hopen⟩ := SameBeyondRings.foldl (fun st r => loseRing_sameBeyondRings r st) (ringsOf s f) s
  exact ⟨hsys, hbulk, hopen⟩

theorem foldl_loseRing_link (l : List Nat) (s : State) : (l.foldl (fun st r => loseRing r st) s).link = s.link :=
  foldl_keeps (fun t => t.link = s.link) _ (fun st r e => by simpa using e) l s rfl

@[simp] theorem flrOne_numVFs (f : Nat) (s : State) : (flrOne f s).link.numVFs = s.link.numVFs := by
  simp [flrOne, foldl_loseRing_link]

/-- A cleared bit of a mask of functions reads 0. -/
theorem getLsbD_clear_same (m : BitVec 64) (f : Nat) : (m &&& ~~~((1 : BitVec 64) <<< f)).getLsbD f = false := by
  by_cases h : f < 64 <;> simp [h, BitVec.getLsbD_shiftLeft]

@[simp] theorem flrOne_bme (f : Nat) (s : State) : (flrOne f s).link.bme.getLsbD f = false := getLsbD_clear_same _ _

/-! ### A smaller NumVFs, FLR of PF0 and PERST_N -/

/-- The functions that a NumVFs of n leaves out. -/
theorem mem_gone {n m f : Nat} : f ∈ (List.range (m + 1)).filter (fun f => decide (n < f)) ↔ n < f ∧ f ≤ m := by
  simp [and_comm]

theorem doVfDisable_sameBeyondRings (n : Nat) (s : State) : SameBeyondRings s (doVfDisable n s) := by
  obtain ⟨hsys, hbulk, hopen⟩ := SameBeyondRings.foldl (fun st f => flrOne_sameBeyondRings f st)
    ((List.range (s.link.numVFs + 1)).filter fun f => decide (n < f)) s
  exact ⟨hsys, hbulk, hopen⟩

@[simp] theorem doVfDisable_numVFs (n : Nat) (s : State) : (doVfDisable n s).link.numVFs = min n s.link.numVFs := by
  have h : ∀ l : List Nat, (l.foldl (fun st f => flrOne f st) s).link.numVFs = s.link.numVFs := fun l =>
    foldl_keeps (fun t => t.link.numVFs = s.link.numVFs) _ (fun st f e => by simpa using e) l s rfl
  simp [doVfDisable, h]

theorem ringOf_doVfDisable (n q : Nat) (s : State) : ringOf (doVfDisable n s) q
    = ringOf (((List.range (s.link.numVFs + 1)).filter fun f => decide (n < f)).foldl (fun st f => flrOne f st) s) q := rfl

theorem doVfDisable_frees {n q : Nat} {s : State} (h : n < (ringOf s q).func) (hm : (ringOf s q).func ≤ s.link.numVFs) :
    (ringOf (doVfDisable n s) q).state = .free := by
  rw [ringOf_doVfDisable]
  exact foldl_flrOne_frees _ s (.inr (mem_gone.2 ⟨h, hm⟩))

@[simp] theorem abortBulk_frame (s : State) : (abortBulk s).rings = s.rings ∧ (abortBulk s).link = s.link
    ∧ (abortBulk s).dep = s.dep := by
  simp only [abortBulk, endBulk, dropPending, when]
  split
  · split <;> simp [syncVault]
  · simp

theorem abortBulk_fails {s : State} (h : bulkBusy s = true) :
    (abortBulk s).bulk.state = .failed ∧ (abortBulk s).bulk.result = 0x09 := by
  simp [abortBulk, when, h, endBulk, Status.code]

/-- FLR of PF0 frees the rings of every function. -/
theorem doFlrPf0_frees {q : Nat} {s : State} (h : (ringOf s q).func ≤ s.link.numVFs) :
    (ringOf (doFlrPf0 s) q).state = .free := by
  have habort : ringOf (doFlrPf0 s) q = ringOf (flrOne 0 (doVfDisable 0 s)) q := ringOf_congr (by simp [doFlrPf0]) q
  have hfirst : (ringOf (doVfDisable 0 s) q).state = .free ∨ (ringOf (doVfDisable 0 s) q).func ∈ [0] := by
    rcases Nat.eq_zero_or_pos (ringOf s q).func with hzero | hpos
    · rcases foldl_flrOne_free_or_same q _ s with hfree | hsame
      · exact .inl hfree
      · exact .inr (by rw [ringOf_doVfDisable, hsame, hzero]; simp)
    · exact .inl (doVfDisable_frees hpos h)
  rw [habort]
  exact foldl_flrOne_frees [0] _ hfirst

theorem doFlrPf0_numVFs (s : State) : (doFlrPf0 s).link.numVFs = 0 := by simp [doFlrPf0]

theorem doFlrPf0_isOpen (s : State) : (doFlrPf0 s).dep.isOpen = s.dep.isOpen := by
  simp [doFlrPf0, ((doVfDisable_sameBeyondRings 0 s).trans (flrOne_sameBeyondRings 0 _)).isOpen]

/-- A bulk session that runs ends ABORTED (R82). -/
theorem doFlrPf0_bulk {s : State} (h : bulkBusy s = true) :
    (doFlrPf0 s).bulk.state = .failed ∧ (doFlrPf0 s).bulk.result = 0x09 := by
  have hsame := ((doVfDisable_sameBeyondRings 0 s).trans (flrOne_sameBeyondRings 0 _)).bulk
  exact abortBulk_fails (by simpa [bulkBusy, hsame] using h)

/-! ### Bus Master Enable and configuration requests -/

theorem doBusMasterDisable_bme (f : Nat) (s : State) : (doBusMasterDisable f s).link.bme.getLsbD f = false :=
  getLsbD_clear_same _ _

theorem doBusMasterDisable_errors {f q : Nat} {s : State} (h : q ∈ ringsOf s f)
    (hl : (ringOf s q).state = .running ∨ (ringOf s q).state = .stopping) :
    (ringOf (doBusMasterDisable f s) q).state = .error ∧ (ringOf (doBusMasterDisable f s) q).lastErr = 0x0B :=
  ringOf_foldl_mem (f := fun st r => errorRing r st) (P := fun x => x.state = .error ∧ x.lastErr = 0x0B) (by simp)
    (fun st _ hne => ringOf_errorRing_other st hne) _ s (.inr (by simpa [h] using hl))

/-- A set bit of a mask of functions reads 1. -/
theorem getLsbD_set_same (m : BitVec 64) {f : Nat} (h : f ≤ 63) : (m ||| ((1 : BitVec 64) <<< f)).getLsbD f = true := by
  have : f < 64 := by omega
  simp [this]

theorem doConfigRequest_retry {q : CfgRequest} {s : State} (h : s.sys.firmwareUp = false) (hr : s.link.rom = false) :
    doConfigRequest q s = emit .cfgRetry s := by
  simp [doConfigRequest, h, hr]

section
variable {q : CfgRequest} {s : State} (h : s.sys.firmwareUp = true ∨ s.link.rom = true)
include h

theorem served : (!(s.sys.firmwareUp || s.link.rom)) = false := by
  rcases h with h | h <;> simp [h]

theorem doConfigRequest_out : (doConfigRequest q s).out = .cfgServed :: s.out := by
  simp only [doConfigRequest, served h]
  cases q with
  | other => rfl
  | enableVFs n => simp only [Bool.false_eq_true, if_false]; split <;> rfl
  | enableBusMaster f => simp only [Bool.false_eq_true, if_false]; split <;> rfl

theorem doConfigRequest_busMaster {f : Nat} (hf : f ≤ s.link.numVFs) (hb : f ≤ 63) :
    (doConfigRequest (.enableBusMaster f) s).link.bme.getLsbD f = true := by
  simpa [doConfigRequest, served h, funcOn, hf, hb] using getLsbD_set_same s.link.bme hb

theorem doConfigRequest_numVFs {n : Nat} (hh : heldGate s = false) (hn : n ≤ 63) (hv : s.link.numVFs ≤ n) :
    (doConfigRequest (.enableVFs n) s).link.numVFs = n := by
  have hh' : heldGate (emit .cfgServed s) = false := hh
  simp [doConfigRequest, served h, hh', Nat.not_lt.2 hn, Nat.not_lt.2 hv]

theorem doConfigRequest_held {n : Nat} (hh : heldGate s = true) :
    (doConfigRequest (.enableVFs n) s).link.numVFs = s.link.numVFs := by
  have hh' : heldGate (emit .cfgServed s) = true := hh
  simp [doConfigRequest, served h, hh']

end

/-! ### PCIe events -/

/-- A command behind a guard that holds answers its body's state. -/
theorem yields_when {c : Instr} {s : State} {b : Bool} {f : State → State} {P : State → Prop}
    (he : exec c s = .next (when b f s)) (hb : b = true) (h : P (f s)) : Yields c s P :=
  ⟨f s, by rw [he, hb]; rfl, h⟩

theorem exec_when {c : Instr} {s t : State} {b : Bool} {f : State → State} (he : exec c s = .next (when b f s)) (hb : b = true)
    (ht : f s = t) : exec c s = .next t := by
  rw [he, hb, ← ht]
  rfl

/-- PERST_N leaves the device state as it is, and NumVFs is 0 after it (R33). -/
theorem doPerstNAssert_spec {s : State} (h : s.sys.state ≠ .off) : (doPerstNAssert s).link.numVFs = 0
    ∧ ∀ q, (ringOf s q).func ≤ s.link.numVFs → (ringOf (doPerstNAssert s) q).state = .free := by
  have hw : when (s.sys.state != .off) doFlrPf0 s = doFlrPf0 s := by simp [when, h]
  refine ⟨?_, fun q hq => ?_⟩
  · simp [doPerstNAssert, hw, doFlrPf0_numVFs]
  · have : ringOf (doPerstNAssert s) q = ringOf (doFlrPf0 s) q := ringOf_congr (by simp [doPerstNAssert, hw]) q
    rw [this]
    exact doFlrPf0_frees hq

/-- Settles O24: rings of lost functions are freed one by one (`foldl_flrOne_frees`), and nothing on the way touches the
device state. -/
theorem pcieEvents : Obligations.PcieEvents := by
  unfold Obligations.PcieEvents
  intro s
  refine ⟨fun hoff => ?_, rfl, fun ha hp => ?_, fun ha hp hf => ?_, fun q ha hp ht => ⟨fun ⟨hf, hr⟩ => ?_, fun hs => ?_⟩,
    fun hh => ⟨fun f hf hon => ?_, fun n => ?_, ?_, fun f hon => ?_, fun ks => ?_⟩⟩
  · obtain ⟨hn, hfree⟩ := doPerstNAssert_spec hoff
    exact ⟨doPerstNAssert s, rfl, rfl, rfl, rfl, doPerstNAssert_sys s, hn, hfree⟩
  · exact exec_when rfl (by simp [ha, hp]) rfl
  · exact exec_when rfl (by simp [ha, hp, hf]) rfl
  · exact exec_when rfl (by simp [ha, hp, ht]) (doConfigRequest_retry hf hr)
  · exact yields_when rfl (by simp [ha, hp, ht]) ⟨doConfigRequest_out hs,
      fun f hq hf hb => hq ▸ doConfigRequest_busMaster hs hf hb,
      fun n hq hg hn hv => hq ▸ doConfigRequest_numVFs hs hg hn hv, fun n hq hg => hq ▸ doConfigRequest_held hs hg⟩
  · exact yields_when rfl (by simp [hh, hf, hon]) ⟨fun r hr => flrOne_frees hr, fun r hr => flrOne_other hr,
      flrOne_bme f s, flrOne_sys f s⟩
  · exact yields_when rfl hh ⟨doVfDisable_numVFs n s, doVfDisable_sys n s, fun r h hm => doVfDisable_frees h hm⟩
  · exact yields_when rfl hh ⟨doFlrPf0_sys s, doFlrPf0_isOpen s, doFlrPf0_bulk, fun r h => doFlrPf0_frees h⟩
  · exact yields_when rfl (by simp [hh, hon]) ⟨doBusMasterDisable_bme f s,
      fun r hr hl => doBusMasterDisable_errors hr hl⟩
  · exact exec_when rfl hh rfl

end Sys2Proof.Machine
end


section
namespace Sys2Proof.Machine

/-! ### What the close tick leaves as it was (R155-R160, R210) -/

@[simp] theorem mapOwner_nextSeq (o : Nat) (f : Owner → Owner) (s : State) :
    (mapOwner o f s).adm.nextSeq = s.adm.nextSeq := rfl

@[simp] theorem closeBlock_nextSeq (o : Nat) (s : State) : (closeBlock o s).adm.nextSeq = s.adm.nextSeq := by
  unfold closeBlock
  dsimp only
  split
  · rfl
  · repeat' split
    all_goals simp

/-- Closing the owners' blocks changes neither the departure nor the next number. -/
@[simp] theorem closeBlocks_frame (s : State) :
    (closeBlocks s).dep = s.dep ∧ (closeBlocks s).adm.nextSeq = s.adm.nextSeq ∧ (closeBlocks s).clk = s.clk :=
  foldl_keeps (fun t => t.dep = s.dep ∧ t.adm.nextSeq = s.adm.nextSeq ∧ t.clk = s.clk) _ (fun st p h => by simpa using h)
    _ _ ⟨rfl, rfl, rfl⟩

@[simp] theorem countTime_frame (s : State) : (countTime s).dep = s.dep ∧ (countTime s).adm = s.adm ∧ (countTime s).clk = s.clk :=
  foldl_keeps (fun t => t.dep = s.dep ∧ t.adm = s.adm ∧ t.clk = s.clk) _ (fun st p h => by
    dsimp only
    split_ifs <;> simpa using h) _ _ ⟨rfl, rfl, rfl⟩

@[simp] theorem dumpSnapshot_frame (s : State) :
    (dumpSnapshot s).dep = s.dep ∧ (dumpSnapshot s).adm = s.adm ∧ (dumpSnapshot s).clk = s.clk := by
  simp only [dumpSnapshot]
  split_ifs <;> simp

@[simp] theorem latchCounters_frame (n : Option Nat) (s : State) :
    (latchCounters n s).dep = s.dep ∧ (latchCounters n s).adm = s.adm ∧ (latchCounters n s).clk = s.clk := by
  simp [latchCounters]

@[simp] theorem snapAtTick_frame (n : Nat) (s : State) :
    (snapAtTick n s).dep = s.dep ∧ (snapAtTick n s).adm = s.adm ∧ (snapAtTick n s).clk = s.clk := by
  simp only [snapAtTick]
  split_ifs <;> simp

@[simp] theorem moveSlot_frame (i j : Nat) (s : State) : (moveSlot i j s).dep = s.dep ∧ (moveSlot i j s).adm = s.adm := by
  simp [moveSlot]

/-- A rollover changes the pair alone (R177). -/
@[simp] theorem applyRollover_frame (s : State) : (applyRollover s).dep.number = s.dep.number
    ∧ (applyRollover s).dep.isOpen = s.dep.isOpen ∧ (applyRollover s).dep.closing = s.dep.closing
    ∧ (applyRollover s).adm = s.adm := by
  unfold applyRollover
  split <;> simp

@[simp] theorem reanchor_frame (c cause : Nat) (s : State) : (reanchor c cause s).dep.number = s.dep.number
    ∧ (reanchor c cause s).dep.firstSeq = s.dep.firstSeq ∧ (reanchor c cause s).dep.isOpen = s.dep.isOpen
    ∧ (reanchor c cause s).dep.closing = s.dep.closing := by
  simp [reanchor]

/-- Departure n + 1 opens with the next number to be issued, whichever way it is scheduled (R159). -/
@[simp] theorem openNext_frame (actual sched : Nat) (s : State) :
    (openNext actual sched s).dep.number = s.dep.number + 1 ∧ (openNext actual sched s).dep.firstSeq = s.adm.nextSeq
    ∧ (openNext actual sched s).dep.isOpen = s.dep.isOpen ∧ (openNext actual sched s).dep.closing = s.dep.closing := by
  simp only [openNext]
  split_ifs <;> simp

/-! ### The close tick (R155, R157, R180) -/

/-- The time that a close on reading `run` carries: the target's within 10 ns of it, and otherwise the reading. -/
def closeTime (target run : Nat) : Nat := if target ≤ run ∧ run ≤ target + 10 then target else run

theorem closeTime_near {target run : Nat} (h : target ≤ run) (hn : run ≤ target + 10) : closeTime target run = target := by
  simp [closeTime, h, hn]

theorem closeTime_late {target run : Nat} (h : target + 10 < run) : closeTime target run = run := by
  unfold closeTime
  split
  · omega
  · rfl

theorem flagBit_other {k j : Nat} (b : Bool) (h : k < j) (hj : j < 16) : (flagBit k b).getLsbD j = false := by
  cases b
  · simp [flagBit]
  · have : j - k ≠ 0 := by omega
    simp [flagBit, hj, this]

theorem flagBit_same (b : Bool) : (flagBit 10 b).getLsbD 10 = b := by cases b <;> decide

/-- FLAGS bit 10 is UNWITNESSED (R171). -/
theorem closeFlags_unwitnessed (late : Nat) (powerFail unwitnessed : Bool) (s : State) :
    (closeFlags late powerFail unwitnessed s).getLsbD 10 = unwitnessed := by
  have hlow : ∀ k b, k < 10 → (flagBit k b).getLsbD 10 = false := fun k b hk => flagBit_other b hk (by decide)
  simp only [closeFlags, BitVec.getLsbD_or, flagBit_same]
  simp [-BitVec.getLsbD_eq_getElem, hlow]

/-- What a tick makes of the departure: n is closed with its last number, and n + 1 opens with the next one. -/
def Closes (s r : State) (unwitnessed : Bool) : Prop :=
  r.dep.number = s.dep.number + 1 ∧ r.dep.firstSeq = s.adm.nextSeq ∧ r.dep.isOpen = s.dep.isOpen
    ∧ ∃ c, r.dep.closing = s.dep.closing ++ [c] ∧ c.dep = s.dep.number ∧ c.firstSeq = s.dep.firstSeq
      ∧ c.lastSeq = s.adm.nextSeq - 1 ∧ c.flags.getLsbD 10 = unwitnessed
      ∧ c.actual = closeTime s.dep.target s.clk.run

/-- Events and counts after the tick do not touch the departure. -/
theorem Closes.congr {s r r' : State} {u : Bool} (h : Closes s r u) (e : r'.dep = r.dep) : Closes s r' u := by
  unfold Closes at h ⊢
  rwa [e]

@[simp] theorem mkClosing_frame (actual : Nat) (powerFail unwitnessed : Bool) (s : State) :
    (mkClosing actual powerFail unwitnessed s).dep = s.dep.number
    ∧ (mkClosing actual powerFail unwitnessed s).firstSeq = s.dep.firstSeq
    ∧ (mkClosing actual powerFail unwitnessed s).lastSeq = s.adm.nextSeq - 1
    ∧ (mkClosing actual powerFail unwitnessed s).actual = actual := ⟨rfl, rfl, rfl, rfl⟩

theorem insertTick_closes (powerFail unwitnessed : Bool) (s : State) :
    Closes s (insertTick powerFail unwitnessed s) unwitnessed := by
  unfold Closes
  simp only [insertTick, apply_ite State.dep, apply_ite State.adm, ite_self, event_frame, bump_frame, openNext_frame,
    applyRollover_frame, closeBlocks_frame, snapAtTick_frame, freezeNewest_frame]
  exact ⟨trivial, trivial, trivial, _, rfl, by simp, by simp, by simp,
    closeFlags_unwitnessed .., by simp [closeTime]⟩

@[simp] theorem noteCause_frame (c : Nat) (s : State) : (noteCause c s).dep.number = s.dep.number
    ∧ (noteCause c s).dep.firstSeq = s.dep.firstSeq ∧ (noteCause c s).dep.isOpen = s.dep.isOpen
    ∧ (noteCause c s).dep.closing = s.dep.closing ∧ (noteCause c s).dep.target = s.dep.target
    ∧ (noteCause c s).adm = s.adm ∧ (noteCause c s).clk = s.clk := by
  unfold noteCause
  split <;> simp

theorem mem_noteCause (c : Nat) (s : State) : c ∈ (noteCause c s).dep.causes := by
  unfold noteCause
  split
  next h => simpa using h
  next => simp

/-- A tick that is due and that nothing holds back is inserted. -/
theorem tryTick_inserts {s : State} (hd : tickDue s = true) (hp : s.adm.pausedAt = none) (hb : tickBlocked s = none)
    (hw : witnessOk s = true) : tryTick s = insertTick false false s := by
  simp [tryTick, hd, hp, hb, hw]

theorem tryTick_notDue {s : State} (hd : tickDue s = false) : tryTick s = s := by simp [tryTick, hd]

theorem tryTick_paused {s : State} (hd : tickDue s = true) (hp : s.adm.pausedAt.isSome = true) :
    tryTick s = noteCause 1 s := by
  simp [tryTick, hd, hp]

theorem tryTick_unwitnessed {s : State} (hd : tickDue s = true) (hp : s.adm.pausedAt = none) (hb : tickBlocked s = none)
    (hw : witnessOk s = false) : tryTick s = noteCause 4 s := by
  simp [tryTick, hd, hp, hb, hw]

theorem tickDue_iff {s : State} : tickDue s = true
    ↔ (s.dep.isOpen = true ∧ s.sys.anchorStopped = false) ∧ s.sys.state ≠ .stabled ∧ s.dep.target ≤ s.clk.run := by
  simp [tickDue, tickLive, and_assoc]

/-! ### Signing (R161, R175, R309) -/

@[simp] theorem pick_frame {α : Type} (l : List α) (s : State) :
    (pick l s).2.sys = s.sys ∧ (pick l s).2.link = s.link ∧ (pick l s).2.rings = s.rings ∧ (pick l s).2.bulk = s.bulk
     ∧ (pick l s).2.adm = s.adm ∧ (pick l s).2.clk = s.clk ∧ (pick l s).2.eng = s.eng ∧ (pick l s).2.dep = s.dep
     ∧ (pick l s).2.vm = s.vm ∧ (pick l s).2.keys = s.keys ∧ (pick l s).2.box = s.box ∧ (pick l s).2.evt = s.evt
     ∧ (pick l s).2.cnt = s.cnt ∧ (pick l s).2.flash = s.flash ∧ (pick l s).2.otp = s.otp
     ∧ (pick l s).2.lanes = s.lanes ∧ (pick l s).2.pk = s.pk ∧ (pick l s).2.life = s.life ∧ (pick l s).2.rng = s.rng
     ∧ (pick l s).2.cards = s.cards ∧ (pick l s).2.jct = s.jct ∧ (pick l s).2.tamper = s.tamper
     ∧ (pick l s).2.pkg = s.pkg ∧ (pick l s).2.out = s.out ∧ (pick l s).2.pending = s.pending := by
  simp [pick, freeNat]

/-- Of a list that is not empty, pick answers a member. -/
theorem pick_mem {α : Type} {l : List α} (s : State) (h : l ≠ []) : ∃ a ∈ l, (pick l s).1 = some a := by
  have hlt : Config.freeNat s.free % l.length < l.length := Nat.mod_lt _ (List.length_pos_iff.2 h)
  exact ⟨l[Config.freeNat s.free % l.length], List.getElem_mem hlt, by simp [pick, freeNat, hlt]⟩

/-- Placing, moving and ending operations of the public-key engines changes neither the departures nor which engines are
quarantined. -/
structure PkMoves (s t : State) : Prop where
  dep : t.dep = s.dep
  quarantined : t.pk.quarantined = s.pk.quarantined

theorem PkMoves.refl (s : State) : PkMoves s s := ⟨rfl, rfl⟩

theorem PkMoves.trans {s t u : State} (h : PkMoves s t) (k : PkMoves t u) : PkMoves s u :=
  ⟨k.dep.trans h.dep, k.quarantined.trans h.quarantined⟩

theorem PkMoves.foldl {α : Type} {f : State → α → State} (h : ∀ st x, PkMoves st (f st x)) (l : List α) (s : State) :
    PkMoves s (l.foldl f s) :=
  foldl_keeps (PkMoves s) f (fun st x e => e.trans (h st x)) l s (.refl s)

theorem clearEngine_pkMoves (e : Nat) (s : State) : PkMoves s (clearEngine e s) := ⟨rfl, rfl⟩

theorem finish_pkMoves (w : Work) (st : Status) (d : Nat) (b : Bytes) (s : State) : PkMoves s (finish w st d b s) :=
  ⟨by simp, by simp⟩

theorem placeList_pkMoves : ∀ (l : List PkOp) (held : List Nat) (s : State), PkMoves s (placeList l held s)
  | [], _, s => .refl s
  | c :: r, held, s => by
    simp only [placeList]
    split
    · exact (finish_pkMoves ..).trans (placeList_pkMoves r _ _)
    · split
      · refine .trans ?_ (placeList_pkMoves r _ _)
        split <;> exact ⟨by simp [stagePk], by simp [stagePk]⟩
      · refine .trans ?_ (placeList_pkMoves r _ _)
        split <;> exact ⟨by simp, by simp⟩

theorem settlePk_pkMoves (s : State) : PkMoves s (settlePk s) := by
  unfold settlePk
  split
  · exact .refl s
  · obtain ⟨hdep, hq⟩ := placeList_pkMoves s.pk.queue [] { s with pk := { s.pk with queue := [] } }
    exact ⟨hdep, hq⟩

theorem endAbort_pkMoves (c : PkOp) (w : Work) (s : State) : PkMoves s (endAbort c w s) :=
  ⟨by simp [endAbort, clearEngine, dropPk], by simp [endAbort, clearEngine, dropPk]⟩

theorem endAborts_pkMoves (e : Nat) (s : State) : PkMoves s (endAborts e s) := by
  have hfold := PkMoves.foldl (f := fun st (a : PkOp × Work) => endAbort a.1 a.2 st) (fun st a => endAbort_pkMoves a.1 a.2 st)
  simp only [endAborts]
  refine .trans ?_ (hfold _ _)
  exact ⟨rfl, rfl⟩

theorem faultPk_pkMoves (c : PkOp) (s : State) : PkMoves s (faultPk c s) := by
  unfold faultPk
  split
  · exact ⟨by simp [dropPk], by simp [dropPk]⟩
  · exact ⟨rfl, rfl⟩

theorem movePk_pkMoves (e : Nat) (s : State) : PkMoves s (movePk e s) := by
  simp only [movePk]
  refine .trans ?_ ((endAborts_pkMoves e _).trans ((clearEngine_pkMoves e _).trans (settlePk_pkMoves _)))
  split
  · exact faultPk_pkMoves _ s
  · exact .refl s

/-- What a quarantine makes of the public-key engines. -/
theorem quarantinePk_pk (e : Nat) (s : State) : (quarantinePk e s).pk = { s.pk with
    quarantined := if s.pk.quarantined.contains e then s.pk.quarantined else e :: s.pk.quarantined
    lens := s.pk.lens.del e
    underTest := if s.pk.underTest = some e then none else s.pk.underTest } := by
  simp only [quarantinePk, apply_ite State.pk, event_frame, ite_self]

@[simp] theorem quarantinePk_dep (e : Nat) (s : State) : (quarantinePk e s).dep = s.dep := by
  simp only [quarantinePk, apply_ite State.dep, event_frame, ite_self]

theorem mem_quarantinePk (e : Nat) (s : State) : e ∈ (quarantinePk e s).pk.quarantined := by
  rw [quarantinePk_pk]
  dsimp only
  split
  next h => simpa using h
  next => simp

/-- A failed signature quarantines the engine and leaves every departure as it was. -/
theorem signFault_spec (e : Nat) (a : SigAlg) (s : State) :
    e ∈ (signFault e a s).pk.quarantined ∧ (signFault e a s).dep = s.dep := by
  obtain ⟨hdep, hq⟩ := movePk_pkMoves e (quarantinePk e (event 0x0504 0 [(1, sigCode a)] s))
  exact ⟨hq ▸ mem_quarantinePk e _, by rw [signFault, hdep]; simp⟩

theorem signedOn_pkMoves (e : Nat) (s : State) : PkMoves s (signedOn e s) := ⟨rfl, rfl⟩

@[simp] theorem backlogOnSigned_frame (s : State) : (backlogOnSigned s).dep.closing = s.dep.closing
    ∧ (backlogOnSigned s).dep.signed = s.dep.signed ∧ (backlogOnSigned s).dep.head = s.dep.head := by
  simp only [backlogOnSigned, apply_ite State.dep, event_frame, ite_self]
  split_ifs <;> simp

/-- The signed record of the oldest closing departure joins those that wait for a LEDGER slot. -/
theorem releaseRecord_spec (c : Closing) (s : State) : (releaseRecord c s).dep.closing = s.dep.closing.drop 1
    ∧ ∃ g, (releaseRecord c s).dep.signed = s.dep.signed ++ [g] ∧ g.dep = c.dep ∧ g.lastSeq = c.lastSeq
      ∧ (releaseRecord c s).dep.head = g.head := by
  simp only [releaseRecord, backlogOnSigned_frame, apply_ite State.dep, apply_ite Prod.snd, closeBlocks_frame, event_frame,
    drawNat_frame, ite_self, apply_ite Dep.closing, apply_ite Dep.signed, apply_ite Dep.head]
  exact ⟨trivial, _, rfl, rfl, rfl, rfl⟩

@[simp] theorem readyToSign_advance (t : Nat) (s : State) : readyToSign (advance t s) = readyToSign s := by
  simp [readyToSign]

@[simp] theorem signers_advance (t : Nat) (s : State) : signers (advance t s) = signers s := by
  have hidle : pkIdle (advance t s) = pkIdle s := by funext e; simp [pkIdle]
  have hin : pkInService (advance t s) = pkInService s := by simp [pkInService]
  unfold signers
  rw [hin, hidle]

@[simp] theorem canSign_advance (t : Nat) (s : State) (c : Closing) : canSign (advance t s) c = canSign s c := by
  simp [canSign, pairHeld, pairFor, slotOf]

section
variable {s : State} {c : Closing} (hr : readyToSign s = some c) (hs : canSign s c = true)
include hr hs

/-- The record is signed on one of the engines that may sign, and both engines that took part are cleared for it. -/
theorem doDepartureSigned_signs (bad : Option SigAlg) : ∃ e ∈ signers s, ∃ s', PkMoves s s' ∧
    doDepartureSigned bad s = (match bad with
      | some a => signFault e a s'
      | none => settlePk (releaseRecord c s')) := by
  have hne : signers s ≠ [] := by
    intro h
    simp [canSign, h] at hs
  obtain ⟨e, he, hpick⟩ := pick_mem s hne
  refine ⟨e, he, ?_⟩
  simp only [doDepartureSigned, hr, hs, hpick]
  refine ⟨_, ?_, rfl⟩
  exact .trans (t := (pick _ (pick (signers s) s).2).2) ⟨by simp, by simp⟩
    ((signedOn_pkMoves _ _).trans (signedOn_pkMoves _ _))

theorem doDepartureSigned_good : (doDepartureSigned none s).dep.closing = s.dep.closing.drop 1
    ∧ ∃ g, (doDepartureSigned none s).dep.signed = s.dep.signed ++ [g] ∧ g.dep = c.dep ∧ g.lastSeq = c.lastSeq
      ∧ (doDepartureSigned none s).dep.head = g.head := by
  obtain ⟨e, -, s', hmoves, heq⟩ := doDepartureSigned_signs hr hs none
  rw [heq, (settlePk_pkMoves _).dep, ← hmoves.dep]
  exact releaseRecord_spec c s'

theorem doDepartureSigned_bad (a : SigAlg) : (∃ e ∈ signers s, e ∈ (doDepartureSigned (some a) s).pk.quarantined)
    ∧ (doDepartureSigned (some a) s).dep = s.dep := by
  obtain ⟨e, he, s', hmoves, heq⟩ := doDepartureSigned_signs hr hs (some a)
  obtain ⟨hq, hdep⟩ := signFault_spec e a s'
  rw [heq]
  exact ⟨⟨e, he, hq⟩, hdep.trans hmoves.dep⟩

end

/-! ### Departures -/

/-- The close of `Obligations.Departures`, from a tick at the advanced clock. -/
theorem Closes.of_advance {s r : State} {t : Nat} {u : Bool} (h : Closes (advance t s) r u)
    (hd : tickDue (advance t s) = true) :
    r.dep.number = s.dep.number + 1 ∧ r.dep.firstSeq = s.adm.nextSeq ∧ r.dep.isOpen = true
      ∧ ∃ c, r.dep.closing = s.dep.closing ++ [c] ∧ c.dep = s.dep.number ∧ c.firstSeq = s.dep.firstSeq
        ∧ c.lastSeq = s.adm.nextSeq - 1 ∧ c.flags.getLsbD 10 = u
        ∧ ((advance t s).clk.run ≤ s.dep.target + 10 → c.actual = s.dep.target)
        ∧ (s.dep.target + 10 < (advance t s).clk.run → c.actual = (advance t s).clk.run) := by
  obtain ⟨⟨hopen, -⟩, -, htarget⟩ := tickDue_iff.1 hd
  obtain ⟨hn, hf, ho, c, hc, hdep, hfirst, hlast, hflag, hact⟩ := h
  simp only [advance_frame] at *
  exact ⟨hn, hf, ho.trans hopen, c, hc, hdep, hfirst, hlast, hflag, fun h => hact.trans (closeTime_near htarget h),
    fun h => hact.trans (closeTime_late h)⟩

/-- A witness wait that has lasted its time ends in a tick (R180). -/
theorem doWitnessTimeout_inserts {s : State} (hd : tickDue s = true) (hp : s.adm.pausedAt = none)
    (hb : tickBlocked s = none) (hw : witnessOk s = false) (ht : s.dep.target + 1000 * s.dep.witWaitUs ≤ s.clk.run) :
    doWitnessTimeout s = insertTick false true (noteCause 4 s) := by
  simp [doWitnessTimeout, hd, hp, hb, hw, ht]

theorem doWitnessTimeout_early {s : State} (ht : s.clk.run < s.dep.target + 1000 * s.dep.witWaitUs) :
    doWitnessTimeout s = s := by
  simp [doWitnessTimeout, Nat.not_le.2 ht]

/-- Settles O28: the tick by `insertTick_closes`, the waits by what `tryTick` does in each, and the signature by
`releaseRecord_spec` and `signFault_spec`. -/
theorem departures : Obligations.Departures := by
  unfold Obligations.Departures
  intro s t ha
  refine ⟨fun ⟨hd, hp, hb⟩ hw => ?_, fun hd => ?_, fun hd hp => ?_, fun ⟨hd, hp, hb⟩ hw => ⟨?_, fun ht => ?_, fun ht => ?_⟩,
    fun c hr hs => ?_, fun c a hr hs => ?_⟩
  · refine yields_when rfl ha ?_
    rw [tryTick_inserts hd (by simpa using hp) hb hw]
    exact (insertTick_closes ..).of_advance hd
  · refine yields_when rfl ha ?_
    rw [tryTick_notDue hd]
    simp
  · refine yields_when rfl ha ?_
    rw [tryTick_paused hd (by simpa using hp)]
    exact ⟨by simp, mem_noteCause 1 _⟩
  · refine yields_when rfl ha ?_
    rw [tryTick_unwitnessed hd (by simpa using hp) hb hw]
    exact ⟨by simp, mem_noteCause 4 _⟩
  · refine yields_when rfl ha ?_
    rw [doWitnessTimeout_inserts hd (by simpa using hp) hb hw (by simpa using ht)]
    refine Closes.of_advance ?_ hd
    simpa [Closes] using insertTick_closes false true (noteCause 4 (advance t s))
  · refine yields_when rfl ha ?_
    rw [doWitnessTimeout_early (by simpa using ht)]
    simp
  · refine yields_when rfl ha ?_
    simpa using doDepartureSigned_good (s := advance t s) (by simpa using hr) (by simpa using hs)
  · refine yields_when rfl ha ?_
    obtain ⟨hq, hdep⟩ := doDepartureSigned_bad (s := advance t s) (by simpa using hr) (by simpa using hs) a
    simpa [hdep] using hq

end Sys2Proof.Machine
end

section
namespace Sys2Proof.Machine

/-! ### Completions and output bytes that have been handed over stay (R38, R59, R64) -/

/-- From s to t completions joined reorder buffers and bytes went out; a ring keeps everything else, and nothing is taken
back. -/
structure Grows (s t : State) : Prop where
  rings : ∀ r, ∃ l, ringOf t r = { ringOf s r with fin := (ringOf s r).fin ++ l }
  out : ∀ o ∈ s.out, o ∈ t.out

theorem Grows.of_eq {s t : State} (hr : t.rings = s.rings) (ho : t.out = s.out) : Grows s t :=
  ⟨fun r => ⟨[], by simp [ringOf_congr hr r]⟩, fun o h => ho ▸ h⟩

theorem Grows.refl (s : State) : Grows s s := .of_eq rfl rfl

theorem Grows.trans {s t u : State} (h : Grows s t) (k : Grows t u) : Grows s u := by
  refine ⟨fun r => ?_, fun o ho => k.out o (h.out o ho)⟩
  obtain ⟨l, hl⟩ := h.rings r
  obtain ⟨m, hm⟩ := k.rings r
  exact ⟨l ++ m, by simp [hm, hl]⟩

theorem deliver_grows (ring gen : Nat) (d : Done) (s : State) : Grows s (deliver ring gen d s) := by
  refine ⟨fun r => ?_, fun o h => by simpa using h⟩
  by_cases e : r = ring
  · subst e
    by_cases h : ringTakes (ringOf s r) gen = true
    · exact ⟨[d], deliver_fin d h⟩
    · exact ⟨[], by simp [deliver, h]⟩
  · exact ⟨[], by simp [deliver_other d s e]⟩

theorem writeDst_grows (w : Work) (b : Bytes) (s : State) : Grows s (writeDst w b s) := by
  refine ⟨fun r => ⟨[], by simp⟩, fun o h => ?_⟩
  unfold writeDst
  dsimp only
  split <;> simp [h]

theorem finishWith_grows (u : Bool) (w : Work) (st : Status) (d : Nat) (b : Bytes) (s : State) :
    Grows s (finishWith u w st d b s) := (writeDst_grows w b s).trans (deliver_grows ..)

theorem finish_grows (w : Work) (st : Status) (d : Nat) (b : Bytes) (s : State) : Grows s (finish w st d b s) :=
  finishWith_grows false w st d b s

theorem event_grows (code owner : Nat) (args : List (Nat × Nat)) (s : State) : Grows s (event code owner args s) :=
  .of_eq (by simp) (by simp)

theorem Grows.takes {s t : State} (h : Grows s t) (r gen : Nat) : ringTakes (ringOf t r) gen = ringTakes (ringOf s r) gen := by
  obtain ⟨l, hl⟩ := h.rings r
  rw [hl]
  rfl

theorem Completed.grows {s t : State} {w : Work} {st : Status} {d : Nat} {stamp : Option Stamp} (h : Completed s w st d stamp)
    (g : Grows s t) : Completed t w st d stamp := by
  obtain ⟨x, hx, hd⟩ := h
  obtain ⟨l, hl⟩ := g.rings w.ring
  exact ⟨x, by simp [hl, hx], hd⟩

theorem Wrote.grows {s t u : State} {w : Work} {b : Bytes} (h : Wrote s t w b) (g : Grows t u) : Wrote s u w b :=
  fun hb hm => g.out _ (h hb hm)

theorem wrote_nil (s t : State) (w : Work) : Wrote s t w [] := fun h => absurd rfl h

/-! ### The public-key engines place what waits (R308, R310) -/

/-- Two records of one operation, which may differ in the engine that holds it and in whether it runs. -/
def SameOp (x y : PkOp) : Prop := y = { x with engine := y.engine, running := y.running }

theorem SameOp.refl (x : PkOp) : SameOp x x := rfl

theorem SameOp.trans {x y z : PkOp} (h : SameOp x y) (k : SameOp y z) : SameOp x z := by
  unfold SameOp at h k ⊢
  rw [k, h]

theorem SameOp.fields {x y : PkOp} (h : SameOp x y) : y.work = x.work ∧ y.owner = x.owner ∧ y.key = x.key
    ∧ y.faulted = x.faulted := by
  unfold SameOp at h
  rw [h]
  exact ⟨rfl, rfl, rfl, rfl⟩

/-- What placing, moving and ending operations of the public-key engines leaves as it is. -/
structure PkKeeps (s t : State) : Prop where
  grows : Grows s t
  sys : t.sys = s.sys
  link : t.link = s.link
  adm : t.adm = s.adm
  eng : t.eng = s.eng
  vm : t.vm = s.vm
  keys : t.keys = s.keys
  otp : t.otp = s.otp
  lanes : t.lanes = s.lanes
  rng : t.rng = s.rng
  quarantined : t.pk.quarantined = s.pk.quarantined
  underTest : t.pk.underTest = s.pk.underTest
  curves : t.pk.curves = s.pk.curves

theorem PkKeeps.refl (s : State) : PkKeeps s s :=
  ⟨.refl s, rfl, rfl, rfl, rfl, rfl, rfl, rfl, rfl, rfl, rfl, rfl, rfl⟩

theorem PkKeeps.trans {s t u : State} (h : PkKeeps s t) (k : PkKeeps t u) : PkKeeps s u :=
  ⟨h.grows.trans k.grows, k.sys.trans h.sys, k.link.trans h.link, k.adm.trans h.adm, k.eng.trans h.eng, k.vm.trans h.vm,
    k.keys.trans h.keys, k.otp.trans h.otp, k.lanes.trans h.lanes, k.rng.trans h.rng, k.quarantined.trans h.quarantined,
    k.underTest.trans h.underTest, k.curves.trans h.curves⟩

theorem finish_pkKeeps (w : Work) (st : Status) (d : Nat) (b : Bytes) (s : State) : PkKeeps s (finish w st d b s) := by
  constructor <;> simp [finish_grows]

theorem event_pkKeeps (code owner : Nat) (args : List (Nat × Nat)) (s : State) : PkKeeps s (event code owner args s) := by
  constructor <;> simp [event_grows]

theorem pick_pkKeeps {α : Type} (l : List α) (s : State) : PkKeeps s (pick l s).2 := by
  constructor <;> simp [Grows.of_eq]

/-- A change of the operations that are held, that wait or are to be aborted, and of the operand memories. -/
theorem opsOf_pkKeeps (ops queue : List PkOp) (aborts : List (PkOp × Work)) (lens : Tbl Nat) (s : State) :
    PkKeeps s { s with pk := { s.pk with ops := ops, queue := queue, aborts := aborts, lens := lens } } :=
  ⟨.of_eq rfl rfl, rfl, rfl, rfl, rfl, rfl, rfl, rfl, rfl, rfl, rfl, rfl, rfl⟩

theorem PkKeeps.foldl {α : Type} {f : State → α → State} (h : ∀ st x, PkKeeps st (f st x)) (l : List α) (s : State) :
    PkKeeps s (l.foldl f s) :=
  foldl_keeps (PkKeeps s) f (fun st x e => e.trans (h st x)) l s (.refl s)

theorem PkKeeps.engines {s t : State} (h : PkKeeps s t) : pkEngines t = pkEngines s := by
  simp [pkEngines, presentDies, h.otp]

theorem PkKeeps.serves {s t : State} (h : PkKeeps s t) (e : Nat) : pkServes t e = pkServes s e := by
  simp [pkServes, h.engines, h.quarantined, h.underTest, h.sys]

theorem PkKeeps.allowed {s t : State} (h : PkKeeps s t) (op : Nat) : pkAllowed t op = pkAllowed s op := by
  have hf : pkServes t = pkServes s := funext h.serves
  simp [pkAllowed, h.engines, hf]

theorem pkAllowed_serves {s : State} {op e : Nat} (h : e ∈ pkAllowed s op) : pkServes s e = true := by
  unfold pkAllowed at h
  split at h <;> exact (List.mem_filter.1 h).2

theorem pkPlaces_allowed {s : State} {w : Work} {e : Nat} (h : e ∈ pkPlaces s w) : e ∈ pkAllowed s (dOp w.desc) := by
  unfold pkPlaces at h
  dsimp only at h
  split at h
  · exact (List.mem_filter.1 h).1
  · exact (List.mem_filter.1 (List.mem_filter.1 h).1).1

/-- The engine that placement takes for an operation is one of those that can take it. -/
theorem pick_some_mem {α : Type} {l : List α} {s : State} {a : α} (h : (pick l s).1 = some a) : a ∈ l :=
  List.mem_of_getElem? h

/-- Where the operations of t come from, when the list l was placed from s: one that is held was held before or is one
of l on an engine in service, one that waits did so before or is one of l, and one of l that an engine may run is held or
waits. -/
structure PlacedFrom (l : List PkOp) (s t : State) : Prop where
  keeps : PkKeeps s t
  aborts : t.pk.aborts = s.pk.aborts
  held : ∀ y ∈ t.pk.ops, y ∈ s.pk.ops ∨ pkServes s y.engine = true ∧ ∃ x ∈ l, SameOp x y
  waiting : ∀ y ∈ t.pk.queue, y ∈ s.pk.queue ∨ y ∈ l
  stillHeld : ∀ y ∈ s.pk.ops, y ∈ t.pk.ops
  stillWaiting : ∀ y ∈ s.pk.queue, y ∈ t.pk.queue
  placed : ∀ x ∈ l, pkAllowed s (dOp x.work.desc) ≠ [] → ∃ y ∈ t.pk.ops ++ t.pk.queue, SameOp x y

theorem PlacedFrom.nil (s : State) : PlacedFrom [] s s :=
  ⟨.refl s, rfl, fun _ h => .inl h, fun _ h => .inl h, fun _ h => h, fun _ h => h, by simp⟩

/-- The first of a list is placed, then the rest. -/
theorem PlacedFrom.cons {c : PkOp} {r : List PkOp} {s t u : State} (h : PlacedFrom [c] s t) (k : PlacedFrom r t u) :
    PlacedFrom (c :: r) s u where
  keeps := h.keeps.trans k.keeps
  aborts := k.aborts.trans h.aborts
  held y hy := by
    rcases k.held y hy with hy | ⟨he, x, hx, hs⟩
    · rcases h.held y hy with hy | ⟨he, x, hx, hs⟩
      · exact .inl hy
      · exact .inr ⟨he, x, by simp_all, hs⟩
    · exact .inr ⟨by rwa [← h.keeps.serves], x, List.mem_cons_of_mem _ hx, hs⟩
  waiting y hy := by
    rcases k.waiting y hy with hy | hy
    · rcases h.waiting y hy with hy | hy
      · exact .inl hy
      · exact .inr (by simp_all)
    · exact .inr (List.mem_cons_of_mem _ hy)
  stillHeld y hy := k.stillHeld y (h.stillHeld y hy)
  stillWaiting y hy := k.stillWaiting y (h.stillWaiting y hy)
  placed x hx ha := by
    rcases List.mem_cons.1 hx with rfl | hx
    · obtain ⟨y, hy, hs⟩ := h.placed x (List.mem_singleton.2 rfl) ha
      refine ⟨y, ?_, hs⟩
      rcases List.mem_append.1 hy with hy | hy
      · exact List.mem_append_left _ (k.stillHeld y hy)
      · exact List.mem_append_right _ (k.stillWaiting y hy)
    · exact k.placed x hx (by rwa [h.keeps.allowed])

/-- An operation that no engine may run ends. -/
theorem finish_placedFrom {c : PkOp} {s : State} (h : pkAllowed s (dOp c.work.desc) = []) :
    PlacedFrom [c] s (finish c.work .fault 0 [] s) :=
  ⟨finish_pkKeeps .., by simp, fun y hy => .inl (by simpa using hy), fun y hy => .inl (by simpa using hy), fun y hy => by simpa using hy,
    fun y hy => by simpa using hy, fun x hx ha => absurd h (by simp_all)⟩

theorem PlacedFrom.of_keeps {s s' t : State} {l : List PkOp} (k : PkKeeps s s') (hp : s'.pk = s.pk) (h : PlacedFrom l s' t) :
    PlacedFrom l s t :=
  ⟨k.trans h.keeps, h.aborts.trans (by rw [hp]), fun y hy => by simpa [hp, k.serves] using h.held y hy,
    fun y hy => by simpa [hp] using h.waiting y hy, fun y hy => h.stillHeld y (hp ▸ hy), fun y hy => h.stillWaiting y (hp ▸ hy),
    fun x hx ha => h.placed x hx (by rwa [k.allowed])⟩

theorem stagePk_placedFrom {c : PkOp} {e : Nat} {s : State} (he : pkServes s e = true) : PlacedFrom [c] s (stagePk c e s) :=
  ⟨opsOf_pkKeeps .., rfl, fun y hy => by
      rcases List.mem_append.1 hy with hy | hy
      · exact .inl hy
      · obtain rfl := List.mem_singleton.1 hy
        exact .inr ⟨he, c, by simp, rfl⟩,
    fun y hy => .inl hy, fun y hy => List.mem_append_left _ hy, fun y hy => hy,
    fun x hx _ => by
      obtain rfl := List.mem_singleton.1 hx
      exact ⟨{ x with engine := e, running := false }, by simp [stagePk], rfl⟩⟩

theorem wait_placedFrom (c : PkOp) (s : State) :
    PlacedFrom [c] s { s with pk := { s.pk with queue := s.pk.queue ++ [c] } } :=
  ⟨opsOf_pkKeeps .., rfl, fun y hy => .inl hy, fun y hy => by simpa using hy, fun y hy => hy, fun y hy => by simp [hy],
    fun x hx _ => ⟨x, by simp_all, .refl x⟩⟩

theorem placeList_placedFrom : ∀ (l : List PkOp) (held : List Nat) (s : State), PlacedFrom l s (placeList l held s)
  | [], _, s => .nil s
  | c :: r, held, s => by
    simp only [placeList]
    split
    next he => exact (finish_placedFrom (by simpa using he)).cons (placeList_placedFrom r _ _)
    · split
      next e hp =>
        refine .cons ?_ (placeList_placedFrom r _ _)
        split at hp <;> rename_i hc
        · have hm : c.engine ∈ pkPlaces s c.work := List.mem_of_mem_filter (List.contains_iff_mem.1 hc)
          obtain rfl : c.engine = e := by simpa using hp
          rw [if_pos hc]
          exact stagePk_placedFrom (pkAllowed_serves (pkPlaces_allowed hm))
        · have hm : e ∈ pkPlaces s c.work := List.mem_of_mem_filter (pick_some_mem hp)
          have hs := pkAllowed_serves (pkPlaces_allowed hm)
          rw [if_neg hc]
          exact .of_keeps (pick_pkKeeps _ s) (by simp) (stagePk_placedFrom (by rwa [(pick_pkKeeps _ s).serves]))
      next hp =>
        refine .cons ?_ (placeList_placedFrom r _ _)
        split at hp <;> rename_i hc
        · exact absurd hp (by simp)
        · rw [if_neg hc]
          exact .of_keeps (pick_pkKeeps _ s) (by simp) (wait_placedFrom c _)

/-- Starting operations changes only whether they run. -/
theorem mem_startHeld {y : PkOp} (l : List PkOp) : ∀ busy, y ∈ startHeld l busy →
    ∃ x ∈ l, x.engine = y.engine ∧ SameOp x y := by
  induction l with
  | nil => exact fun _ h => absurd h (List.not_mem_nil)
  | cons c r ih =>
    intro busy h
    simp only [startHeld] at h
    split at h <;> rcases List.mem_cons.1 h with rfl | h
    · exact ⟨y, List.mem_cons_self, rfl, .refl y⟩
    · obtain ⟨x, hx, he⟩ := ih _ h
      exact ⟨x, List.mem_cons_of_mem _ hx, he⟩
    · exact ⟨c, List.mem_cons_self, rfl, rfl⟩
    · obtain ⟨x, hx, he⟩ := ih _ h
      exact ⟨x, List.mem_cons_of_mem _ hx, he⟩

/-- Every operation that was held is still held, on its engine. -/
theorem startHeld_mem {x : PkOp} (l : List PkOp) : ∀ busy, x ∈ l →
    ∃ y ∈ startHeld l busy, y.engine = x.engine ∧ SameOp x y := by
  induction l with
  | nil => exact fun _ h => absurd h (List.not_mem_nil)
  | cons c r ih =>
    intro busy h
    simp only [startHeld]
    rcases List.mem_cons.1 h with rfl | h <;> split
    · exact ⟨x, List.mem_cons_self, rfl, .refl x⟩
    · exact ⟨{ x with running := true }, List.mem_cons_self, rfl, rfl⟩
    · obtain ⟨y, hy, he⟩ := ih busy h
      exact ⟨y, List.mem_cons_of_mem _ hy, he⟩
    · obtain ⟨y, hy, he⟩ := ih (c.engine :: busy) h
      exact ⟨y, List.mem_cons_of_mem _ hy, he⟩

/-- What a placement can do to the operations: one that is held was held on the same engine or is placed on an engine in
service, and one that waits did so before; one that an engine may run is held or waits. -/
structure Settles (s t : State) : Prop where
  keeps : PkKeeps s t
  aborts : t.pk.aborts = s.pk.aborts
  held : ∀ y ∈ t.pk.ops, (∃ x ∈ s.pk.ops, x.engine = y.engine ∧ SameOp x y)
    ∨ pkServes s y.engine = true ∧ ∃ x ∈ s.pk.queue, SameOp x y
  waiting : ∀ y ∈ t.pk.queue, y ∈ s.pk.queue
  stillHeld : ∀ x ∈ s.pk.ops, ∃ y ∈ t.pk.ops, SameOp x y
  placed : ∀ x ∈ s.pk.queue, pkAllowed s (dOp x.work.desc) ≠ [] → ∃ y ∈ t.pk.ops ++ t.pk.queue, SameOp x y

theorem settlePk_settles (s : State) : Settles s (settlePk s) := by
  unfold settlePk
  split
  · exact ⟨.refl s, rfl, fun y hy => .inl ⟨y, hy, rfl, .refl y⟩, fun y hy => hy, fun x hx => ⟨x, hx, .refl x⟩,
      fun x hx _ => ⟨x, List.mem_append_right _ hx, .refl x⟩⟩
  · have h0 : PkKeeps s { s with pk := { s.pk with queue := [] } } := opsOf_pkKeeps ..
    have h := placeList_placedFrom s.pk.queue [] { s with pk := { s.pk with queue := [] } }
    refine ⟨h0.trans (h.keeps.trans (opsOf_pkKeeps ..)), h.aborts, fun y hy => ?_, fun y hy => ?_, fun x hx => ?_, fun x hx ha => ?_⟩
    · obtain ⟨x, hx, he, hs⟩ := mem_startHeld _ _ hy
      rcases h.held x hx with hx | ⟨hv, z, hz, hzs⟩
      · exact .inl ⟨x, hx, he, hs⟩
      · exact .inr ⟨by rw [← he, ← h0.serves]; exact hv, z, hz, hzs.trans hs⟩
    · simpa using h.waiting y hy
    · obtain ⟨y, hy, -, hs⟩ := startHeld_mem _ _ (h.stillHeld x hx)
      exact ⟨y, hy, hs⟩
    · obtain ⟨y, hy, hs⟩ := h.placed x hx (by rwa [h0.allowed])
      rcases List.mem_append.1 hy with hy | hy
      · obtain ⟨z, hz, -, hzs⟩ := startHeld_mem _ _ hy
        exact ⟨z, List.mem_append_left _ hz, hs.trans hzs⟩
      · exact ⟨y, List.mem_append_right _ hy, hs⟩

theorem settlePk_pkKeeps (s : State) : PkKeeps s (settlePk s) := (settlePk_settles s).keeps

theorem clearEngine_pkKeeps (e : Nat) (s : State) : PkKeeps s (clearEngine e s) := opsOf_pkKeeps ..

theorem dropPk_pkKeeps (c : PkOp) (s : State) : PkKeeps s (dropPk c s) := opsOf_pkKeeps ..

theorem endAbort_pkKeeps (c : PkOp) (w : Work) (s : State) : PkKeeps s (endAbort c w s) :=
  (dropPk_pkKeeps c s).trans <| (clearEngine_pkKeeps ..).trans <| (event_pkKeeps ..).trans <|
    (finish_pkKeeps ..).trans (finish_pkKeeps ..)

theorem endAborts_pkKeeps (e : Nat) (s : State) : PkKeeps s (endAborts e s) :=
  (opsOf_pkKeeps s.pk.ops s.pk.queue _ s.pk.lens s).trans
    (PkKeeps.foldl (f := fun st (a : PkOp × Work) => endAbort a.1 a.2 st) (fun st a => endAbort_pkKeeps a.1 a.2 st) _ _)

theorem faultPk_pkKeeps (c : PkOp) (s : State) : PkKeeps s (faultPk c s) := by
  unfold faultPk
  split
  · exact (dropPk_pkKeeps c s).trans ((finish_pkKeeps ..).trans (event_pkKeeps ..))
  · exact opsOf_pkKeeps ..

theorem movePk_pkKeeps (e : Nat) (s : State) : PkKeeps s (movePk e s) := by
  simp only [movePk]
  refine .trans ?_ ((endAborts_pkKeeps e _).trans ((clearEngine_pkKeeps e _).trans (settlePk_pkKeeps _)))
  split
  · exact faultPk_pkKeeps _ s
  · exact .refl s

end Sys2Proof.Machine
end

section
namespace Sys2Proof.Machine

/-! ### What a change of capacity leaves as it is (R29, R97) -/

@[simp] theorem enterDev_sysFrame (d : DevState) (s : State) : (enterDev d s).sys.faults = s.sys.faults
    ∧ (enterDev d s).sys.overlap = s.sys.overlap ∧ (enterDev d s).sys.lost = s.sys.lost
    ∧ (enterDev d s).sys.inService = s.sys.inService ∧ (enterDev d s).sys.anchorFault = s.sys.anchorFault := by
  unfold enterDev
  split <;> simp

@[simp] theorem settleService_sysFrame (s : State) : (settleService s).sys.faults = s.sys.faults
    ∧ (settleService s).sys.overlap = s.sys.overlap ∧ (settleService s).sys.lost = s.sys.lost
    ∧ (settleService s).sys.inService = s.sys.inService ∧ (settleService s).sys.anchorFault = s.sys.anchorFault := by
  unfold settleService
  split_ifs <;> simp

@[simp] theorem settleService_frame (s : State) : (settleService s).eng = s.eng ∧ (settleService s).adm = s.adm
    ∧ (settleService s).vm = s.vm ∧ (settleService s).keys = s.keys ∧ (settleService s).pk = s.pk
    ∧ (settleService s).otp = s.otp ∧ (settleService s).lanes = s.lanes := by
  unfold settleService
  split_ifs <;> simp

@[simp] theorem lowerBudgets_frame (old : Nat) (s : State) : (lowerBudgets old s).eng = s.eng
    ∧ (lowerBudgets old s).vm = s.vm ∧ (lowerBudgets old s).keys = s.keys ∧ (lowerBudgets old s).pk = s.pk
    ∧ (lowerBudgets old s).otp = s.otp ∧ (lowerBudgets old s).lanes = s.lanes
    ∧ (lowerBudgets old s).adm.items = s.adm.items ∧ (lowerBudgets old s).adm.pausedAt = s.adm.pausedAt := by
  simp only [lowerBudgets]
  repeat' split
  all_goals simp

@[simp] theorem recompute_sysFrame (old : Nat) (s : State) : (recompute old s).sys.faults = s.sys.faults
    ∧ (recompute old s).sys.overlap = s.sys.overlap ∧ (recompute old s).sys.lost = s.sys.lost
    ∧ (recompute old s).sys.inService = s.sys.inService ∧ (recompute old s).sys.anchorFault = s.sys.anchorFault := by
  simp [recompute]

@[simp] theorem recompute_frame (old : Nat) (s : State) : (recompute old s).eng = s.eng
    ∧ (recompute old s).vm = s.vm ∧ (recompute old s).keys = s.keys ∧ (recompute old s).pk = s.pk
    ∧ (recompute old s).otp = s.otp ∧ (recompute old s).lanes = s.lanes
    ∧ (recompute old s).adm.items = s.adm.items ∧ (recompute old s).adm.pausedAt = s.adm.pausedAt := by
  simp [recompute]

/-! ### An engine fails (R35, R36, R118) -/

@[simp] theorem strike_frame (u : FaultUnit) (b : Bool) (s : State) : (strike u b s).eng = s.eng
    ∧ (strike u b s).vm = s.vm ∧ (strike u b s).keys = s.keys ∧ (strike u b s).pk = s.pk ∧ (strike u b s).otp = s.otp
    ∧ (strike u b s).lanes = s.lanes ∧ (strike u b s).adm.items = s.adm.items ∧ (strike u b s).sys.lost = s.sys.lost
    ∧ (strike u b s).sys.inService = s.sys.inService := by
  unfold strike
  split <;> simp

/-- A fault of a unit that held work is in force, pauses admission, and overlaps one that already was. -/
theorem strike_inForce (u : FaultUnit) (s : State) : (strike u true s).sys.faults = s.sys.faults ++ [u]
    ∧ (strike u true s).adm.pausedAt = some (s.adm.pausedAt.getD s.clk.run)
    ∧ (s.sys.faults ≠ [] → (strike u true s).sys.overlap = true) := by
  refine ⟨rfl, rfl, fun h => ?_⟩
  simp [strike, h]

@[simp] theorem stopThreads_frame (p : ThreadId → Bool) (s : State) :
    (stopThreads p s).eng = { s.eng with threads := s.eng.threads.filter fun t => !p t.id }
    ∧ (stopThreads p s).sys = s.sys ∧ (stopThreads p s).adm = s.adm ∧ (stopThreads p s).vm = s.vm
    ∧ (stopThreads p s).keys = s.keys ∧ (stopThreads p s).pk = s.pk ∧ (stopThreads p s).otp = s.otp := by
  simp [stopThreads]

@[simp] theorem quarantineEngine_eng (e : EngineId) (cause : Nat) (s : State) : (quarantineEngine e cause s).eng = { s.eng with
    quarantined := if s.eng.quarantined.contains e then s.eng.quarantined else e :: s.eng.quarantined
    underTest := s.eng.underTest.filter fun p => p.2 != e } := by
  simp [quarantineEngine]

@[simp] theorem quarantineEngine_frame (e : EngineId) (cause : Nat) (s : State) :
    (quarantineEngine e cause s).adm.items = s.adm.items ∧ (quarantineEngine e cause s).adm.pausedAt = s.adm.pausedAt
    ∧ (quarantineEngine e cause s).sys.faults = s.sys.faults ∧ (quarantineEngine e cause s).sys.overlap = s.sys.overlap := by
  simp [quarantineEngine]

theorem mem_quarantineEngine (e : EngineId) (cause : Nat) (s : State) : e ∈ (quarantineEngine e cause s).eng.quarantined := by
  rw [quarantineEngine_eng]
  dsimp only
  split
  next h => simpa using h
  next => simp

theorem not_underTest_quarantineEngine (e : EngineId) (cause : Nat) (s : State) :
    ∀ p ∈ (quarantineEngine e cause s).eng.underTest, p.2 ≠ e := by
  simp

/-- From s to t items may have been given to the reserve of their cluster, and nothing else has changed but those. -/
structure ToReserve (seqs : List Nat) (s t : State) : Prop where
  eng : t.eng = s.eng
  sys : t.sys = s.sys
  paused : t.adm.pausedAt = s.adm.pausedAt
  others : ∀ i ∈ s.adm.items, i.seq ∉ seqs → i ∈ t.adm.items
  items : ∀ i ∈ s.adm.items, ∃ j ∈ t.adm.items, j = { i with reserve := j.reserve }

theorem mapItem_toReserve (q : Nat) (r : Option EngineId) (s : State) :
    ToReserve [q] s (mapItem q (fun i => { i with reserve := r }) s) := by
  refine ⟨rfl, rfl, rfl, fun i hi hq => ?_, fun i hi => ?_⟩
  · exact List.mem_map.2 ⟨i, hi, if_neg (by simpa using hq)⟩
  · refine ⟨_, List.mem_map.2 ⟨i, hi, rfl⟩, ?_⟩
    split <;> rfl

theorem toReserve_toReserve (e : EngineId) (seqs : List Nat) : ∀ s, ToReserve seqs s (toReserve e seqs s) := by
  induction seqs with
  | nil => exact fun s => ⟨rfl, rfl, rfl, fun _ h _ => h, fun i h => ⟨i, h, rfl⟩⟩
  | cons q rest ih =>
    intro s
    have h := mapItem_toReserve q (reserveFor s e) s
    have k := ih (mapItem q (fun i => { i with reserve := reserveFor s e }) s)
    refine ⟨k.eng.trans h.eng, k.sys.trans h.sys, k.paused.trans h.paused, fun i hi hq => ?_, fun i hi => ?_⟩
    · obtain ⟨h1, h2⟩ := not_or.1 (mt List.mem_cons.2 hq)
      exact k.others i (h.others i hi (by simpa using h1)) h2
    · obtain ⟨j, hj, hji⟩ := h.items i hi
      obtain ⟨l, hl, hlj⟩ := k.items j hj
      exact ⟨l, hl, by rw [hlj, hji]⟩

/-- The engine e has failed between s and t: it is quarantined and runs nothing, the items that it ran are to be run again,
and where it held work its fault is in force. -/
def Failed (e : EngineId) (s t : State) : Prop :=
  e ∈ t.eng.quarantined ∧ (∀ x ∈ t.eng.threads, engineOf x.id ≠ e)
    ∧ (∀ i ∈ s.adm.items, (∀ x ∈ s.eng.threads, engineOf x.id = e → x.seq ≠ i.seq) → i ∈ t.adm.items)
    ∧ (∀ i ∈ s.adm.items, ∃ j ∈ t.adm.items, j = { i with reserve := j.reserve })
    ∧ ((∃ x ∈ s.eng.threads, engineOf x.id = e) → t.sys.faults = s.sys.faults ++ [.engine e]
        ∧ t.adm.pausedAt = some (s.adm.pausedAt.getD s.clk.run) ∧ (s.sys.faults ≠ [] → t.sys.overlap = true))

theorem failEngine_failed (e : EngineId) (cause : Nat) (s : State) : Failed e s (failEngine e cause s) := by
  simp only [failEngine]
  generalize hran : (s.eng.threads.filter fun t => engineOf t.id == e).map (·.seq) = ran
  have hmem (q : Nat) : q ∈ ran ↔ ∃ x ∈ s.eng.threads, engineOf x.id = e ∧ x.seq = q := by simp [← hran, and_assoc]
  obtain ⟨heng, hsys, hpause, hothers, hitems⟩ := toReserve_toReserve e ran
    (quarantineEngine e cause (stopThreads (fun t => engineOf t == e) (strike (.engine e) (!ran.isEmpty) s)))
  refine ⟨?_, ?_, fun i hi hx => ?_, fun i hi => ?_, fun ⟨x, hx, he⟩ => ?_⟩
  · rw [heng]
    exact mem_quarantineEngine ..
  · rw [heng]
    simp
  · refine hothers i (by simpa using hi) fun hq => ?_
    obtain ⟨x, hxm, hxe, hxs⟩ := (hmem i.seq).1 hq
    exact hx x hxm hxe hxs
  · exact hitems i (by simpa using hi)
  · have hne : ran ≠ [] := List.ne_nil_of_mem ((hmem x.seq).2 ⟨x, hx, he, rfl⟩)
    obtain ⟨hf, hp, ho⟩ := strike_inForce (.engine e) s
    rw [hsys, hpause]
    simp only [quarantineEngine_frame, stopThreads_frame, List.isEmpty_eq_false_iff.2 hne, Bool.not_false]
    exact ⟨hf, hp, ho⟩

theorem Failed.of_event {e : EngineId} {s t : State} (code owner : Nat) (args : List (Nat × Nat)) (h : Failed e s t) :
    Failed e s (event code owner args t) := by
  unfold Failed at h ⊢
  simpa only [event_frame] using h

/-! ### What the close tick leaves as it is (R155, R210) -/

/-- Of the admissions only the owners have changed, and of the lanes only their nonce counters: all that closing journal
blocks does to them. -/
structure JournalOnly (s t : State) : Prop where
  adm : t.adm = { s.adm with owners := t.adm.owners }
  lanes : t.lanes = { s.lanes with ctr := t.lanes.ctr }

theorem JournalOnly.of_eq {s t : State} (ha : t.adm = s.adm) (hl : t.lanes = s.lanes) : JournalOnly s t :=
  ⟨by rw [ha], by rw [hl]⟩

theorem JournalOnly.refl (s : State) : JournalOnly s s := .of_eq rfl rfl

theorem JournalOnly.trans {s t u : State} (h : JournalOnly s t) (k : JournalOnly t u) : JournalOnly s u :=
  ⟨by rw [k.adm, h.adm], by rw [k.lanes, h.lanes]⟩

theorem mapOwner_journalOnly (o : Nat) (f : Owner → Owner) (s : State) : JournalOnly s (mapOwner o f s) := ⟨rfl, rfl⟩

theorem vaultSeal_journalOnly (key : Bytes) (aad : Bytes → Bytes) (pt : Bytes) (s : State) :
    JournalOnly s (vaultSeal key aad pt s).2 := ⟨by simp, by simp [vaultSeal, classD]⟩

theorem closeBlock_journalOnly (o : Nat) (s : State) : JournalOnly s (closeBlock o s) := by
  unfold closeBlock
  dsimp only
  split
  · exact .refl s
  · refine .trans (.trans ?_ (vaultSeal_journalOnly ..)) (mapOwner_journalOnly ..)
    repeat' split
    all_goals exact .of_eq (by simp) (by simp)

theorem closeBlocks_journalOnly (s : State) : JournalOnly s (closeBlocks s) :=
  foldl_keeps (JournalOnly s) _ (fun st p h => h.trans (closeBlock_journalOnly p.1 st)) _ _ (.refl s)

@[simp] theorem closeBlocks_others (s : State) : (closeBlocks s).sys = s.sys ∧ (closeBlocks s).link = s.link
    ∧ (closeBlocks s).rings = s.rings ∧ (closeBlocks s).eng = s.eng ∧ (closeBlocks s).vm = s.vm
    ∧ (closeBlocks s).pk = s.pk ∧ (closeBlocks s).out = s.out :=
  foldl_keeps (fun t => t.sys = s.sys ∧ t.link = s.link ∧ t.rings = s.rings ∧ t.eng = s.eng ∧ t.vm = s.vm ∧ t.pk = s.pk
    ∧ t.out = s.out) _ (fun st p h => by simpa using h) _ _ ⟨rfl, rfl, rfl, rfl, rfl, rfl, rfl⟩

@[simp] theorem countTime_others (s : State) : (countTime s).sys = s.sys ∧ (countTime s).link = s.link
    ∧ (countTime s).rings = s.rings ∧ (countTime s).eng = s.eng ∧ (countTime s).vm = s.vm
    ∧ (countTime s).pk = s.pk ∧ (countTime s).out = s.out ∧ (countTime s).lanes = s.lanes :=
  foldl_keeps (fun t => t.sys = s.sys ∧ t.link = s.link ∧ t.rings = s.rings ∧ t.eng = s.eng ∧ t.vm = s.vm ∧ t.pk = s.pk
    ∧ t.out = s.out ∧ t.lanes = s.lanes) _ (fun st p h => by
      dsimp only
      split_ifs <;> simpa using h) _ _ ⟨rfl, rfl, rfl, rfl, rfl, rfl, rfl, rfl⟩

@[simp] theorem dumpSnapshot_others (s : State) : (dumpSnapshot s).sys = s.sys ∧ (dumpSnapshot s).link = s.link
    ∧ (dumpSnapshot s).rings = s.rings ∧ (dumpSnapshot s).eng = s.eng ∧ (dumpSnapshot s).vm = s.vm
    ∧ (dumpSnapshot s).pk = s.pk ∧ (dumpSnapshot s).lanes = s.lanes := by
  simp only [dumpSnapshot]
  split_ifs <;> simp

theorem mem_out_dumpSnapshot {o : Out} {s : State} (h : o ∈ s.out) : o ∈ (dumpSnapshot s).out := by
  simp only [dumpSnapshot]
  split_ifs <;> simp [emit, h]

@[simp] theorem latchCounters_others (n : Option Nat) (s : State) : (latchCounters n s).sys = s.sys
    ∧ (latchCounters n s).link = s.link ∧ (latchCounters n s).rings = s.rings ∧ (latchCounters n s).eng = s.eng
    ∧ (latchCounters n s).vm = s.vm ∧ (latchCounters n s).pk = s.pk ∧ (latchCounters n s).lanes = s.lanes := by
  simp [latchCounters]

theorem mem_out_latchCounters {o : Out} {s : State} (n : Option Nat) (h : o ∈ s.out) : o ∈ (latchCounters n s).out := by
  simp [latchCounters, emit, h]

@[simp] theorem snapAtTick_others (n : Nat) (s : State) : (snapAtTick n s).sys = s.sys ∧ (snapAtTick n s).link = s.link
    ∧ (snapAtTick n s).rings = s.rings ∧ (snapAtTick n s).eng = s.eng ∧ (snapAtTick n s).vm = s.vm
    ∧ (snapAtTick n s).pk = s.pk ∧ (snapAtTick n s).lanes = s.lanes := by
  simp only [snapAtTick]
  split_ifs <;> simp

theorem mem_out_snapAtTick {o : Out} {s : State} (n : Nat) (h : o ∈ s.out) : o ∈ (snapAtTick n s).out := by
  have hl := mem_out_latchCounters (some n) h
  simp only [snapAtTick]
  split_ifs
  · exact hl
  · exact hl
  · exact mem_out_dumpSnapshot hl

@[simp] theorem moveSlot_others (i j : Nat) (s : State) : (moveSlot i j s).sys = s.sys ∧ (moveSlot i j s).link = s.link
    ∧ (moveSlot i j s).rings = s.rings ∧ (moveSlot i j s).eng = s.eng ∧ (moveSlot i j s).vm = s.vm
    ∧ (moveSlot i j s).pk = s.pk ∧ (moveSlot i j s).lanes = s.lanes ∧ (moveSlot i j s).out = s.out := by
  simp [moveSlot]

@[simp] theorem applyRollover_others (s : State) : (applyRollover s).sys = s.sys ∧ (applyRollover s).link = s.link
    ∧ (applyRollover s).rings = s.rings ∧ (applyRollover s).eng = s.eng ∧ (applyRollover s).vm = s.vm
    ∧ (applyRollover s).pk = s.pk ∧ (applyRollover s).lanes = s.lanes ∧ (applyRollover s).out = s.out := by
  unfold applyRollover
  split <;> simp

@[simp] theorem openNext_others (actual sched : Nat) (s : State) : (openNext actual sched s).sys = s.sys
    ∧ (openNext actual sched s).link = s.link ∧ (openNext actual sched s).rings = s.rings
    ∧ (openNext actual sched s).adm = s.adm ∧ (openNext actual sched s).eng = s.eng ∧ (openNext actual sched s).vm = s.vm
    ∧ (openNext actual sched s).pk = s.pk ∧ (openNext actual sched s).lanes = s.lanes
    ∧ (openNext actual sched s).out = s.out := by
  simp only [openNext, reanchor]
  split_ifs <;> simp

@[simp] theorem insertTick_others (powerFail unwitnessed : Bool) (s : State) :
    (insertTick powerFail unwitnessed s).link = s.link ∧ (insertTick powerFail unwitnessed s).rings = s.rings
    ∧ (insertTick powerFail unwitnessed s).eng = s.eng ∧ (insertTick powerFail unwitnessed s).vm = s.vm
    ∧ (insertTick powerFail unwitnessed s).pk = s.pk := by
  simp only [insertTick, apply_ite State.link, apply_ite State.rings, apply_ite State.eng, apply_ite State.vm,
    apply_ite State.pk, ite_self, event_frame, bump_frame, openNext_others, applyRollover_others, closeBlocks_others,
    snapAtTick_others, freezeNewest_frame, and_self]

theorem insertTick_grows (powerFail unwitnessed : Bool) (s : State) : Grows s (insertTick powerFail unwitnessed s) := by
  refine ⟨fun r => ⟨[], by simp [ringOf]⟩, fun o h => ?_⟩
  simp only [insertTick, apply_ite State.out, ite_self, event_frame, bump_frame, openNext_others, applyRollover_others,
    closeBlocks_others]
  exact mem_out_snapAtTick _ (by simpa using h)

theorem insertTick_journalOnly (powerFail unwitnessed : Bool) (s : State) :
    JournalOnly s (insertTick powerFail unwitnessed s) := by
  have h := (JournalOnly.of_eq (s := s) (t := snapAtTick s.dep.number (freezeNewest s)) (by simp) (by simp)).trans
    (closeBlocks_journalOnly _)
  obtain ⟨hadm, hlanes⟩ := h
  constructor
  all_goals
    simp only [insertTick, apply_ite State.adm, apply_ite State.lanes, ite_self, event_frame, bump_frame, openNext_others,
      applyRollover_frame, applyRollover_others]
  · exact hadm
  · exact hlanes

@[simp] theorem noteCause_others (c : Nat) (s : State) : (noteCause c s).sys = s.sys ∧ (noteCause c s).adm = s.adm
    ∧ (noteCause c s).clk = s.clk ∧ (noteCause c s).lanes = s.lanes := by
  unfold noteCause
  split <;> simp

theorem tryTick_journalOnly (s : State) : JournalOnly s (tryTick s) := by
  unfold tryTick
  split
  · exact .refl s
  · split
    · exact .of_eq (by simp) (by simp)
    · split
      · exact .of_eq (by simp) (by simp)
      · split
        · exact insertTick_journalOnly ..
        · exact .of_eq (by simp) (by simp)

/-! ### The pause ends (R34, R36) -/

/-- The last fault in force ends: no overlap is left, and admission goes on after a pause of this length. -/
theorem doFaultRecovered_last {s : State} {u : FaultUnit} {t0 : Nat} (hf : s.sys.faults = [u]) (hp : s.adm.pausedAt = some t0) :
    (doFaultRecovered s).sys.faults = [] ∧ (doFaultRecovered s).sys.overlap = false
    ∧ (doFaultRecovered s).adm.pausedAt = none ∧ (doFaultRecovered s).adm.pauseLast = sat32 (s.clk.run - t0) := by
  simp only [doFaultRecovered, hf, hp, List.isEmpty_nil, Bool.not_true, Bool.false_eq_true, if_false]
  rw [(tryTick_journalOnly _).adm, tryTick_sys]
  split_ifs <;> simp

theorem doFaultRecovered_more {s : State} {u v : FaultUnit} {rest : List FaultUnit} (hf : s.sys.faults = u :: v :: rest) :
    (doFaultRecovered s).sys.faults = v :: rest ∧ (doFaultRecovered s).sys.overlap = s.sys.overlap
    ∧ (doFaultRecovered s).adm.pausedAt = s.adm.pausedAt := by
  simp [doFaultRecovered, hf]

end Sys2Proof.Machine
end

section
namespace Sys2Proof.Machine

/-! ### Engine tests (R149, R150) -/

/-- The cluster of the rotation's next engine rests in this pass, which does not start with that engine. -/
def restsAt (s : State) (k : Nat) : Prop :=
  (slotEngine s k).engine ≠ 0 ∧ 8 * k + (slotEngine s k).cluster ∈ s.eng.resting

@[simp] theorem startPass_frame (die : Nat) (e : EngineId) (s : State) :
    (startPass die e s).eng.underTest = s.eng.underTest
    ∧ (startPass die e s).eng.quarantined = s.eng.quarantined ∧ (startPass die e s).eng.rotation = s.eng.rotation := by
  unfold startPass
  split <;> exact ⟨rfl, rfl, rfl⟩

theorem startPass_resting (k : Nat) (s : State) :
    8 * k + (slotEngine s k).cluster ∈ (startPass k (slotEngine s k) s).eng.resting ↔ restsAt s k := by
  unfold startPass restsAt
  split
  next h => simp [h]
  next h => simp [h]

theorem doEngineTestSlot_rotation (k : Nat) (s : State) :
    (doEngineTestSlot k s).eng.rotation.atD k 0 = (s.eng.rotation.atD k 0 + 1) % 64 := by
  simp only [doEngineTestSlot]
  split_ifs <;> simp

/-- The slot is skipped while its cluster rests or holds a quarantined engine, and this engine is not that one; otherwise
the engine is put aside. -/
theorem doEngineTestSlot_underTest (k : Nat) (s : State) : ((slotEngine s k ∉ s.eng.quarantined
      ∧ (restsAt s k ∨ clusterBad s k (slotEngine s k).cluster = true)) →
        (doEngineTestSlot k s).eng.underTest = s.eng.underTest)
    ∧ (¬(slotEngine s k ∉ s.eng.quarantined ∧ (restsAt s k ∨ clusterBad s k (slotEngine s k).cluster = true)) →
        (doEngineTestSlot k s).eng.underTest = s.eng.underTest.put k (slotEngine s k)) := by
  have hr := startPass_resting k s
  simp only [doEngineTestSlot, apply_ite State.eng, apply_ite Eng.underTest, event_frame, ite_self, startPass_frame,
    clusterBad, Bool.and_eq_true, Bool.not_eq_true', List.contains_eq_mem, decide_eq_false_iff_not, decide_eq_true_eq]
  constructor
  · rintro ⟨hq, h⟩
    split_ifs with h1 h2
    · rfl
    · rfl
    · exact absurd (h.elim (fun h => h1 ⟨hr.2 h, hq⟩) fun h => h2 ⟨h, hq⟩) id
  · intro h
    rw [if_neg fun h1 => h ⟨h1.2, .inl (hr.1 h1.1)⟩, if_neg fun h2 => h ⟨h2.2, .inr h2.1⟩]

/-- An engine that passes its test is its cluster's reserve. -/
theorem endEngineTest_pass (e : EngineId) (s : State) : e ∉ (endEngineTest e true s).eng.quarantined
    ∧ (∀ p ∈ (endEngineTest e true s).eng.underTest, p.2 ≠ e)
    ∧ (endEngineTest e true s).eng.reserve.at? (8 * e.die + e.cluster) = some e.engine := by
  simp only [endEngineTest, Bool.not_true, Bool.false_eq_true, if_false, apply_ite State.eng, settleService_frame, event_frame,
    ite_self]
  simp

/-- One that fails it is quarantined. -/
theorem endEngineTest_fail (e : EngineId) (s : State) : e ∈ (endEngineTest e false s).eng.quarantined
    ∧ (∀ p ∈ (endEngineTest e false s).eng.underTest, p.2 ≠ e) ∧ (endEngineTest e false s).eng.reserve = s.eng.reserve := by
  simp only [endEngineTest, Bool.not_false, if_true]
  exact ⟨mem_quarantineEngine .., not_underTest_quarantineEngine e 1 _, by simp⟩

theorem doEngineTestDone_busy {k : Nat} {e : EngineId} {s : State} (hu : s.eng.underTest.at? k = some e)
    (h : ∃ x ∈ s.eng.threads, engineOf x.id = e) (pass : Bool) : doEngineTestDone k pass s = s := by
  obtain ⟨x, hx, he⟩ := h
  simp only [doEngineTestDone, hu]
  exact if_pos (List.any_eq_true.2 ⟨x, hx, by simp [he]⟩)

theorem doEngineTestDone_idle {k : Nat} {e : EngineId} {s : State} (hu : s.eng.underTest.at? k = some e)
    (h : ∀ x ∈ s.eng.threads, engineOf x.id ≠ e) (pass : Bool) : doEngineTestDone k pass s = endEngineTest e pass s := by
  simp only [doEngineTestDone, hu]
  exact if_neg (by simpa using h)

/-! ### A die is lost (R27, R275) -/

theorem dieIn_iff {m : BitVec 7} {k : Nat} : dieIn m k = true ↔ 1 ≤ k ∧ m.getLsbD (k - 1) = true := by simp [dieIn]

theorem dieIn_le {m : BitVec 7} {k : Nat} (h : dieIn m k = true) : 1 ≤ k ∧ k ≤ 7 := by
  obtain ⟨h1, h2⟩ := dieIn_iff.1 h
  have := BitVec.lt_of_getLsbD h2
  omega

theorem getLsbD_dieBit {k : Nat} (h : 1 ≤ k ∧ k ≤ 7) : (dieBit k).getLsbD (k - 1) = true := by
  obtain ⟨h1, h7⟩ := h
  interval_cases k <;> rfl

theorem dieIn_or_dieBit {m : BitVec 7} {k : Nat} (h : 1 ≤ k ∧ k ≤ 7) : dieIn (m ||| dieBit k) k = true := by
  simp [dieIn, getLsbD_dieBit h, h.1]

theorem dieIn_andNot_dieBit {m : BitVec 7} {k : Nat} (h : 1 ≤ k ∧ k ≤ 7) : dieIn (m &&& ~~~(dieBit k)) k = false := by
  simp [dieIn, getLsbD_dieBit h]

theorem dieIn_of_mem_diesOf {m : BitVec 7} {k : Nat} (h : k ∈ diesOf m) : dieIn m k = true := (List.mem_filter.1 h).2

/-- No bucket names a die that is not in placement. -/
theorem spreadBuckets_notIn {s : State} {k : Nat} (hk : dieIn s.sys.inService k = false) (h1 : 1 ≤ k) :
    k ∉ (spreadBuckets s).eng.buckets := by
  unfold spreadBuckets
  refine List.foldlRecOn (motive := fun acc : List Nat × Nat => k ∉ acc.1) _ _ List.not_mem_nil fun acc h b _ => ?_
  split
  next hb =>
    have hne : k ≠ b := fun e => by simp [← e, hk] at hb
    simp [h, hne]
  next =>
    have hne : k ≠ (diesOf s.sys.inService)[acc.2 % (diesOf s.sys.inService).length]?.getD 0 := fun e => by
      cases hg : (diesOf s.sys.inService)[acc.2 % (diesOf s.sys.inService).length]? with
      | none => rw [hg] at e; exact absurd (e ▸ h1) (by simp)
      | some d =>
        rw [hg, Option.getD_some] at e
        exact absurd (dieIn_of_mem_diesOf (List.mem_of_getElem? hg)) (by simp [← e, hk])
    simp [h, hne]

@[simp] theorem spreadBuckets_frame (s : State) : (spreadBuckets s).sys = s.sys
    ∧ (spreadBuckets s).eng.threads = s.eng.threads ∧ (spreadBuckets s).keys = s.keys ∧ (spreadBuckets s).vm = s.vm
    ∧ (spreadBuckets s).pk = s.pk ∧ (spreadBuckets s).otp = s.otp ∧ (spreadBuckets s).lanes = s.lanes := by
  simp [spreadBuckets]

@[simp] theorem rePlace_frame (s : State) : (rePlace s).eng = s.eng ∧ (rePlace s).keys = s.keys ∧ (rePlace s).vm = s.vm
    ∧ (rePlace s).pk = s.pk ∧ (rePlace s).otp = s.otp ∧ (rePlace s).lanes = s.lanes := by
  unfold rePlace
  exact foldl_keeps (fun t => t.eng = s.eng ∧ t.keys = s.keys ∧ t.vm = s.vm ∧ t.pk = s.pk ∧ t.otp = s.otp
    ∧ t.lanes = s.lanes) _ (fun st i h => by simpa [mapItem] using h) _ _ ⟨rfl, rfl, rfl, rfl, rfl, rfl⟩

@[simp] theorem removeDie_frame (k : Nat) (s : State) : (removeDie k s).eng.threads = s.eng.threads
    ∧ (removeDie k s).keys = s.keys ∧ (removeDie k s).vm = s.vm ∧ (removeDie k s).pk = s.pk
    ∧ (removeDie k s).otp = s.otp ∧ (removeDie k s).lanes = s.lanes ∧ (removeDie k s).sys.lost = s.sys.lost
    ∧ (removeDie k s).sys.inService = s.sys.inService &&& ~~~(dieBit k) := by
  simp [removeDie]

theorem removeDie_buckets {k : Nat} (s : State) (h : 1 ≤ k ∧ k ≤ 7) : ∀ b ∈ (removeDie k s).eng.buckets, b ≠ k := by
  rintro b hb rfl
  simp only [removeDie, recompute_frame, rePlace_frame] at hb
  exact spreadBuckets_notIn (dieIn_andNot_dieBit h) h.1 hb

/-- A die that was there is out of placement, with its threads and its cached keys. -/
theorem doDieLost_lost {k : Nat} {s : State} (hp : dieIn (presentDies s) k = true) (hl : dieIn s.sys.lost k = false) :
    dieIn (doDieLost k s).sys.lost k = true ∧ dieIn (doDieLost k s).sys.inService k = false
    ∧ (∀ x ∈ (doDieLost k s).eng.threads, x.id.die ≠ k) ∧ (∀ e ∈ (doDieLost k s).keys.cache, e.1 ≠ k)
    ∧ (∀ b ∈ (doDieLost k s).eng.buckets, b ≠ k) ∧ (doDieLost k s).vm = s.vm := by
  have hk := dieIn_le hp
  simp only [doDieLost, hp, hl, Bool.not_true, Bool.or_false, Bool.false_eq_true, if_false, event_frame]
  refine ⟨?_, ?_, ?_, ?_, removeDie_buckets _ hk, ?_⟩
  · simp [dieIn_or_dieBit hk]
  · simp [dieIn_andNot_dieBit hk]
  · simp
  · simp
  · simp

/-! ### Operations of an engine that is gone (R307, R310) -/

/-- The operations of t are those of s, or fewer: one that is held was held on the same engine. -/
structure OpsFrom (s t : State) : Prop where
  keeps : PkKeeps s t
  held : ∀ y ∈ t.pk.ops, ∃ x ∈ s.pk.ops, x.engine = y.engine ∧ x.work = y.work
  waiting : ∀ y ∈ t.pk.queue, ∃ x ∈ s.pk.ops ++ s.pk.queue, x.work = y.work

theorem OpsFrom.of_eq {s t : State} (k : PkKeeps s t) (ho : t.pk.ops = s.pk.ops) (hq : t.pk.queue = s.pk.queue) : OpsFrom s t :=
  ⟨k, fun y hy => ⟨y, ho ▸ hy, rfl, rfl⟩, fun y hy => ⟨y, List.mem_append_right _ (hq ▸ hy), rfl⟩⟩

theorem OpsFrom.trans {s t u : State} (h : OpsFrom s t) (k : OpsFrom t u) : OpsFrom s u := by
  refine ⟨h.keeps.trans k.keeps, fun y hy => ?_, fun y hy => ?_⟩
  · obtain ⟨x, hx, he, hw⟩ := k.held y hy
    obtain ⟨z, hz, he', hw'⟩ := h.held x hx
    exact ⟨z, hz, he'.trans he, hw'.trans hw⟩
  · obtain ⟨x, hx, hw⟩ := k.waiting y hy
    rcases List.mem_append.1 hx with hx | hx
    · obtain ⟨z, hz, -, hw'⟩ := h.held x hx
      exact ⟨z, List.mem_append_left _ hz, hw'.trans hw⟩
    · obtain ⟨z, hz, hw'⟩ := h.waiting x hx
      exact ⟨z, hz, hw'.trans hw⟩

theorem dropPk_opsFrom (c : PkOp) (s : State) : OpsFrom s (dropPk c s) :=
  ⟨dropPk_pkKeeps c s, fun y hy => ⟨y, List.mem_of_mem_filter hy, rfl, rfl⟩, fun y hy => ⟨y, List.mem_append_right _ hy, rfl⟩⟩

theorem clearEngine_opsFrom (e : Nat) (s : State) : OpsFrom s (clearEngine e s) := by
  refine ⟨clearEngine_pkKeeps e s, fun y hy => ⟨y, List.mem_of_mem_filter hy, rfl, rfl⟩, fun y hy => ?_⟩
  rcases List.mem_append.1 hy with hy | hy
  · obtain ⟨x, hx, rfl⟩ := List.mem_map.1 hy
    exact ⟨x, List.mem_append_left _ (List.mem_of_mem_filter hx), rfl⟩
  · exact ⟨y, List.mem_append_right _ hy, rfl⟩

theorem finish_opsFrom (w : Work) (st : Status) (d : Nat) (b : Bytes) (s : State) : OpsFrom s (finish w st d b s) :=
  .of_eq (finish_pkKeeps ..) (by simp) (by simp)

theorem event_opsFrom (code owner : Nat) (args : List (Nat × Nat)) (s : State) : OpsFrom s (event code owner args s) :=
  .of_eq (event_pkKeeps ..) (by simp) (by simp)

theorem endAbort_opsFrom (c : PkOp) (w : Work) (s : State) : OpsFrom s (endAbort c w s) :=
  (dropPk_opsFrom c s).trans <| (clearEngine_opsFrom ..).trans <| (event_opsFrom ..).trans <|
    (finish_opsFrom ..).trans (finish_opsFrom ..)

theorem endAborts_opsFrom (e : Nat) (s : State) : OpsFrom s (endAborts e s) :=
  foldl_keeps (OpsFrom s) _ (fun st a h => h.trans (endAbort_opsFrom a.1 a.2 st)) _ _
    (.of_eq (opsOf_pkKeeps s.pk.ops s.pk.queue _ s.pk.lens s) rfl rfl)

theorem faultPk_opsFrom (c : PkOp) (s : State) : OpsFrom s (faultPk c s) := by
  unfold faultPk
  split
  · exact (dropPk_opsFrom c s).trans ((finish_opsFrom ..).trans (event_opsFrom ..))
  · refine ⟨opsOf_pkKeeps .., fun y hy => ?_, fun y hy => ⟨y, List.mem_append_right _ hy, rfl⟩⟩
    obtain ⟨x, hx, rfl⟩ := List.mem_map.1 hy
    refine ⟨x, hx, ?_⟩
    split <;> exact ⟨rfl, rfl⟩

/-- What is held after the operations of an engine that is gone were moved: an operation that another engine held, or one
on an engine in service. -/
theorem movePk_held (e : Nat) (s : State) : ∀ y ∈ (movePk e s).pk.ops,
    (y.engine ≠ e ∧ ∃ x ∈ s.pk.ops, x.engine = y.engine) ∨ pkServes s y.engine = true := by
  intro y hy
  have hfrom : OpsFrom s (endAborts e (match (pkHolds s e).find? (·.running) with
      | some c => faultPk c s
      | none => s)) := by
    refine .trans ?_ (endAborts_opsFrom e _)
    split
    · exact faultPk_opsFrom _ s
    · exact .of_eq (.refl s) rfl rfl
  rcases (settlePk_settles _).held y hy with ⟨x, hx, he, -⟩ | ⟨hv, -⟩
  · obtain ⟨hm, hne⟩ := List.mem_filter.1 hx
    obtain ⟨z, hz, hez, -⟩ := hfrom.held x hm
    exact .inl ⟨by simpa [← he] using hne, z, hz, hez.trans he⟩
  · exact .inr (((hfrom.keeps.trans (clearEngine_pkKeeps e _)).serves y.engine).symm.trans hv)

theorem not_pkServes_lost {s : State} {e : Nat} (h : dieIn s.sys.lost (e / 2) = true) : pkServes s e = false := by
  simp [pkServes, h]

/-- The engines of a lost die hold nothing once they have been moved. -/
theorem loseDie_moved {k : Nat} {s : State} (hl : dieIn s.sys.lost k = true) :
    ∀ c ∈ (movePk (2 * k + 1) (movePk (2 * k) s)).pk.ops, c.engine / 2 ≠ k := by
  rintro c hc rfl
  have hserves := not_pkServes_lost hl
  have hk := movePk_pkKeeps (2 * (c.engine / 2)) s
  rcases movePk_held _ _ c hc with ⟨h1, x, hx, hxe⟩ | hv
  · rcases movePk_held _ s x hx with ⟨h0, -⟩ | hv
    · omega
    · rw [hxe, hserves] at hv
      exact absurd hv (by simp)
  · rw [hk.serves, hserves] at hv
    exact absurd hv (by simp)

/-- A die that was there is lost with everything on it. -/
theorem loseDie_lost {k : Nat} {s : State} (hp : dieIn (presentDies s) k = true) (hl : dieIn s.sys.lost k = false) :
    dieIn (loseDie k s).sys.lost k = true ∧ dieIn (loseDie k s).sys.inService k = false
    ∧ (∀ x ∈ (loseDie k s).eng.threads, x.id.die ≠ k) ∧ (∀ e ∈ (loseDie k s).keys.cache, e.1 ≠ k)
    ∧ (∀ b ∈ (loseDie k s).eng.buckets, b ≠ k) ∧ (∀ c ∈ (loseDie k s).pk.ops, c.engine / 2 ≠ k)
    ∧ (loseDie k s).vm = s.vm := by
  obtain ⟨hlost, hin, hth, hcache, hbuckets, hvm⟩ := doDieLost_lost hp hl
  have hk := (movePk_pkKeeps (2 * k) (doDieLost k s)).trans (movePk_pkKeeps (2 * k + 1) _)
  simp only [loseDie, hp, hl, Bool.not_false, Bool.and_self, if_true]
  rw [hk.sys, hk.eng, hk.keys, hk.vm]
  exact ⟨hlost, hin, hth, hcache, hbuckets, loseDie_moved hlost, hvm⟩

/-! ### The anchor (R36) -/

/-- Sales stop for good, and the open departure is closed where that can be done. -/
theorem anchorFail_stops {s : State} (pub : Bool) (h : s.sys.anchorFault = false) :
    (anchorFail pub s).sys.anchorFault = true ∧ (anchorFail pub s).sys.anchorStopped = true
    ∧ (anchorFail pub s).dep.number
      = s.dep.number + (if pub = true ∧ tickLive s = true ∧ tickBlocked s = none then 1 else 0) := by
  unfold anchorFail
  rw [if_neg (by simp [h])]
  dsimp only
  split
  next hc =>
    change (pub && tickLive s && (tickBlocked s).isNone) = true at hc
    exact ⟨by simp, rfl, by simpa [and_assoc, (insertTick_closes false false _).1] using hc⟩
  next hc =>
    change ¬(pub && tickLive s && (tickBlocked s).isNone) = true at hc
    exact ⟨rfl, rfl, by simpa [and_assoc] using hc⟩

theorem doAnchorFault_stops {s : State} (pub : Bool) (h : s.sys.anchorFault = false) :
    (doAnchorFault pub s).sys.anchorFault = true ∧ (doAnchorFault pub s).sys.anchorStopped = true
    ∧ (doAnchorFault pub s).dep.number
      = s.dep.number + (if pub = true ∧ tickLive s = true ∧ tickBlocked s = none then 1 else 0) := by
  simp only [doAnchorFault, h, Bool.false_eq_true, if_false, event_frame]
  exact anchorFail_stops (s := (freeNat s).2) pub h

/-- Settles O43, by a lemma for each event: an engine that fails (`failEngine_failed`), the test slots, a die that is lost
with its public-key engines (`loseDie_lost`), and the end of the pause. -/
theorem faultHandling : Obligations.FaultHandling := by
  unfold Obligations.FaultHandling
  intro s ha
  refine ⟨fun n t0 u hf hp => yields_when rfl ha (doFaultRecovered_last (by simpa using hf) (by simpa using hp)),
    fun n u v rest hf => yields_when rfl ha (by simpa using doFaultRecovered_more (s := advance n s) (by simpa using hf)),
    ⟨fun e he hq => yields_when rfl ha ?_, fun th x hx => yields_when rfl ha ?_⟩,
    fun k hs hd hu => yields_when rfl (by simp [hs, hd, hu]) ⟨doEngineTestSlot_rotation k s, fun h => ?_, fun h => ?_⟩,
    fun k e hu => ⟨fun hb pass => ?_, fun hi => ⟨yields_when rfl ha ?_, yields_when rfl ha ?_⟩⟩,
    fun k hs hp hl => yields_when rfl (by simpa using hs) (loseDie_lost hp hl),
    fun pub hs hf => yields_when rfl hs ?_, fun u => rfl⟩
  · rw [doEngineFault, if_pos (by simp [he, hq])]
    exact failEngine_failed e 2 s
  · simp only [doThreadOverrun, hx]
    exact (failEngine_failed (engineOf th) 3 s).of_event ..
  · rw [(doEngineTestSlot_underTest k s).1 h, hu]
  · rw [(doEngineTestSlot_underTest k s).2 ?_, Tbl.at?_put_same]
    rintro ⟨hq, hr⟩
    rcases h with h | ⟨h1, h2⟩
    · exact hq h
    · exact hr.elim h1 (by simp [h2])
  · exact exec_when rfl ha (doEngineTestDone_busy hu hb pass)
  · rw [doEngineTestDone_idle hu hi]
    exact endEngineTest_pass e s
  · rw [doEngineTestDone_idle hu hi]
    exact endEngineTest_fail e s
  · obtain ⟨h1, h2, h3⟩ := doAnchorFault_stops pub hf
    exact ⟨h1, h2, by simp [closeWork, h1], h3⟩

end Sys2Proof.Machine
end

section
namespace Sys2Proof.Machine

/-! ### A waiting item is taken (R54, R447) -/

/-- The state once the item has left the waiting list. -/
def taken (w : Work) (s : State) : State := { s with adm := { s.adm with work := s.adm.work.filter fun x => x != w } }

theorem withWork_taken {s : State} {id : WorkId} {op : Nat} {w : Work} (body : Work → State → State)
    (h : Waits s id op w) : withWork id op body s = body w (taken w s) := withWork_waits body h

/-- The item that is found is of the opcode that is asked for. -/
theorem Waits.opcode {s : State} {id : WorkId} {op : Nat} {w : Work} (h : Waits s id op w) : dOp w.desc = op := by
  obtain ⟨-, -, hf, -⟩ := h
  have hm := List.find?_some hf
  simp only [Bool.and_eq_true, beq_iff_eq] at hm
  exact hm.2

theorem not_mem_taken (w : Work) (s : State) : w ∉ (taken w s).adm.work := taken_not_mem w s.adm.work

/-! ### Keys are found, checked and used (R233, R242, R243) -/

/-- A handle that names a slot names one beyond the device's own. -/
theorem usableKey_slot {s : State} {o h i : Nat} {v : KeyView} (hk : usableKey s o h = some v) (hr : v.ref = .slot i) :
    64 ≤ i := by
  simp only [usableKey, findKey] at hk
  split at hk
  next k hf =>
    split at hf
    · split at hf
      next hc =>
        obtain rfl : _ = k := Option.some.inj hf
        split at hk
        · obtain rfl : _ = v := Option.some.inj hk
          obtain rfl : h % 4096 = i := by simpa using hr
          simp only [Bool.and_eq_true, decide_eq_true_eq] at hc
          exact hc.1.1.1.2
        · exact absurd hk (by simp)
      · exact absurd hf (by simp)
    · obtain ⟨r, -, rfl⟩ := Option.map_eq_some_iff.1 hf
      split at hk
      · obtain rfl : _ = v := Option.some.inj hk
        exact absurd hr (by simp)
      · exact absurd hk (by simp)
  · exact absurd hk (by simp)

/-- A slot whose check fails is marked FAILED, unless it is so already or is FREE. -/
theorem failSlot_same {i : Nat} {s : State} (h : failSlot i s = s) : (slotOf s i).state = 0 ∨ (slotOf s i).state = 3 := by
  by_contra hn
  simp only [failSlot, if_neg hn] at h
  have hs : slotOf (noteCheckFail (slotOf s i).owner ((slotOf s i).gen * 4096 + i) (setSlot i { slotOf s i with state := 3 } s)) i
      = slotOf (setSlot i { slotOf s i with state := 3 } s) i := by simp [slotOf, noteCheckFail]
  rw [h, slotOf_setSlot_same] at hs
  exact hn (.inr (by rw [hs]))

@[simp] theorem mapRecords_keyRecs (f : KeyRec → KeyRec) (s : State) :
    (mapRecords f s).vm.keyRecs = s.vm.keyRecs.map f := rfl

theorem failRecord_same {o x : Nat} {s : State} (h : failRecord o x s = s) {r : KeyRec}
    (hr : (s.vm.keyRecs.find? fun r => r.owner == o && r.index == x) = some r) : r.state = 0 ∨ r.state = 3 := by
  by_contra hn
  simp only [failRecord, hr, if_neg hn] at h
  have hv := congrArg (fun t : State => t.vm.keyRecs) h
  simp only [noteCheckFail_frame, mapRecords_keyRecs] at hv
  have hf := List.map_inj_left.1 (hv.trans (List.map_id _).symm) r (List.mem_of_find?_eq_some hr)
  rw [if_pos (List.find?_some (p := fun r : KeyRec => r.owner == o && r.index == x) hr)] at hf
  exact hn (.inr (congrArg KeyRec.state hf).symm)

/-- A key check that changes nothing changes nothing either where only other parts of the state differ. -/
theorem checkKey_stable {s t : State} {o h : Nat} (hc : checkKey o h s = s) (hk : t.keys = s.keys) (hv : t.vm = s.vm) :
    checkKey o h t = t := by
  have hslot (i : Nat) : slotOf t i = slotOf s i := by simp [slotOf, hk]
  have href : refOf t o h = refOf s o h := by simp [refOf, findKey, hslot, hv]
  have hcheck (r : KeyRec) : recordCheck t r = recordCheck s r := by simp [recordCheck, hslot]
  unfold checkKey at hc ⊢
  rw [href]
  split at hc
  next i _ =>
    have hsound : slotSound t i = slotSound s i := by simp [slotSound, slotCheck, hslot]
    unfold checkSlot at hc ⊢
    rw [hsound]
    split at hc
    next hs => rw [if_pos hs]
    next hs =>
      rw [if_neg hs, failSlot, if_pos (by rw [hslot]; exact failSlot_same hc)]
  next x _ =>
    simp only [hv, hcheck]
    split at hc
    next hs => rw [if_pos hs]
    next hs =>
      rw [if_neg hs, failRecord, hv]
      cases hr : s.vm.keyRecs.find? fun r => r.owner == o && r.index == x with
      | none => rfl
      | some r => exact if_pos (failRecord_same hc hr)
  · rfl

/-- One use of a key changes keys, stored records and the event log, and nothing else. -/
@[simp] theorem useKey_frame (v : KeyView) (s : State) : (useKey v s).sys = s.sys ∧ (useKey v s).link = s.link
    ∧ (useKey v s).rings = s.rings ∧ (useKey v s).adm = s.adm ∧ (useKey v s).clk = s.clk ∧ (useKey v s).dep = s.dep
    ∧ (useKey v s).otp = s.otp ∧ (useKey v s).lanes = s.lanes ∧ (useKey v s).pk = s.pk ∧ (useKey v s).rng = s.rng
    ∧ (useKey v s).out = s.out := by
  simp only [useKey]
  split
  · simp
  · repeat' split
    all_goals simp [mapRecords, syncVault]

theorem useSlot_other {i j : Nat} (s : State) (h : j ≠ i) : slotOf (useSlot i s) j = slotOf s j := by
  simp only [useSlot]
  split_ifs
  · rfl
  · simpa [slotOf] using slotOf_setSlot_other _ s h
  · exact slotOf_setSlot_other _ s h

theorem useKey_slotOf {v : KeyView} {j : Nat} (s : State) (h : ∀ i, v.ref = .slot i → j ≠ i) :
    slotOf (useKey v s) j = slotOf s j := by
  unfold useKey
  split
  next i hr => exact useSlot_other s (h i hr)
  next =>
    dsimp only
    split_ifs
    · rfl
    · simp [slotOf, mapRecords, syncVault]
    · simp [slotOf, mapRecords, syncVault]

@[simp] theorem useSlot_accords (i : Nat) (s : State) : (useSlot i s).keys.accords = s.keys.accords := by
  simp only [useSlot]
  split_ifs <;> simp [setSlot]

@[simp] theorem useKey_accords (v : KeyView) (s : State) : (useKey v s).keys.accords = s.keys.accords := by
  simp only [useKey]
  split
  · simp
  · split_ifs <;> simp [mapRecords, syncVault]

/-! ### A ceremony's leaf is sealed (R254, R372) -/

@[simp] theorem checkRoot_accords (o q : Nat) (s : State) : (checkRoot o q s).keys.accords = s.keys.accords := by
  simp only [checkRoot, checkSlot, failSlot, noteCheckFail, setSlot]
  split_ifs <;> simp

@[simp] theorem useRoot_accords (o q : Nat) (s : State) : (useRoot o q s).keys.accords = s.keys.accords := by
  simp only [useRoot]
  split_ifs <;> simp

@[simp] theorem mapOwner_accords (o : Nat) (f : Owner → Owner) (s : State) :
    (mapOwner o f s).keys.accords = s.keys.accords := rfl

@[simp] theorem closeBlock_accords (o : Nat) (s : State) : (closeBlock o s).keys.accords = s.keys.accords := by
  unfold closeBlock
  dsimp only
  split
  · rfl
  · repeat' split
    all_goals simp

@[simp] theorem addEntry_accords (o : Nat) (e : JEntry) (s : State) : (addEntry o e s).keys.accords = s.keys.accords := by
  simp only [addEntry]
  split <;> simp

theorem addEntry_journalOnly (o : Nat) (e : JEntry) (s : State) : JournalOnly s (addEntry o e s) := by
  simp only [addEntry]
  refine .trans ?_ (mapOwner_journalOnly ..)
  split
  · exact closeBlock_journalOnly o s
  · exact .refl s

@[simp] theorem flushJournal_accords (o : Nat) (s : State) : (flushJournal o s).keys.accords = s.keys.accords :=
  foldl_keeps (fun t => t.keys.accords = s.keys.accords) _ (fun st e h => by simpa using h) _ _ (by simp)

theorem flushJournal_journalOnly (o : Nat) (s : State) : JournalOnly s (flushJournal o s) :=
  foldl_keeps (JournalOnly s) _ (fun st e h => h.trans (addEntry_journalOnly o e st)) _ _ (mapOwner_journalOnly ..)

theorem event_journalOnly (code owner : Nat) (args : List (Nat × Nat)) (s : State) :
    JournalOnly s (event code owner args s) := .of_eq (by simp) (by simp)

theorem backlogCheck_journalOnly (o : Nat) (s : State) : JournalOnly s (backlogCheck o s) := by
  simp only [backlogCheck]
  split_ifs
  · exact (mapOwner_journalOnly ..).trans (event_journalOnly ..)
  · exact mapOwner_journalOnly ..
  · exact .refl s

/-- Sealing a leaf keeps the accords, the waiting items and the next number. -/
@[simp] theorem sealLeaf_keeps (st : Stamp) (l : Leaf) (replay : Bytes) (s : State) :
    (sealLeaf st l replay s).keys.accords = s.keys.accords ∧ (sealLeaf st l replay s).adm.work = s.adm.work
    ∧ (sealLeaf st l replay s).adm.nextSeq = s.adm.nextSeq := by
  have hj (u : State) := (flushJournal_journalOnly l.owner u).trans (backlogCheck_journalOnly l.owner _)
  simp only [sealLeaf]
  refine ⟨?_, ?_, ?_⟩
  · split <;> simp
  all_goals
    rw [(hj _).adm]
    split <;> simp [mapOwner, setOwner]

/-- A ceremony takes the next number, which its work item then carries. -/
theorem ceremonyOk_stamp (w : Work) (a : Accord) (handle : Nat) (s : State) :
    (ceremonyOk w a handle s).1 = { w with stamp := some (nextStamp s) } := rfl

@[simp] theorem ceremonyOk_frame (w : Work) (a : Accord) (h : Nat) (s : State) :
    (ceremonyOk w a h s).2.sys = s.sys ∧ (ceremonyOk w a h s).2.link = s.link ∧ (ceremonyOk w a h s).2.rings = s.rings
    ∧ (ceremonyOk w a h s).2.otp = s.otp ∧ (ceremonyOk w a h s).2.pk = s.pk ∧ (ceremonyOk w a h s).2.rng = s.rng
    ∧ (ceremonyOk w a h s).2.out = s.out ∧ (ceremonyOk w a h s).2.adm.work = s.adm.work
    ∧ (ceremonyOk w a h s).2.adm.nextSeq = s.adm.nextSeq + 1
    ∧ (ceremonyOk w a h s).2.keys.accords = s.keys.accords.filter fun x => x.no != a.no := by
  simp [ceremonyOk, ceremonyAs, stampWork, issue, dropAccord]

/-- An accord that passes still passes once the item has left the waiting list. -/
theorem accordCheck_taken {s : State} {w : Work} {id owner opcode : Nat} {d : Digest} {a : Accord}
    (h : accordCheck id owner opcode d s = .inr a) : accordCheck id owner opcode d (taken w s) = .inr a := by
  unfold accordCheck at h
  split at h
  · exact absurd h (by simp)
  next b hb =>
    dsimp only at h
    split at h
    · exact absurd h (by simp)
    next h2 =>
    split at h
    · exact absurd h (by simp)
    next h3 =>
    split at h
    · exact absurd h (by simp)
    next h4 =>
    split at h
    · exact absurd h (by simp)
    next h5 =>
    split at h
    · exact absurd h (by simp)
    next h6 =>
    obtain rfl := Sum.inr.inj h
    have hsigned : enoughSigned s b = true := by simpa using h5
    have hfresh : expired s b = false := by simpa using h6
    exact accordCheck_passes hb (not_not.1 h2) (not_not.1 h3) (not_not.1 h4) hsigned hfresh

end Sys2Proof.Machine
end

section
namespace Sys2Proof.Machine

/-! ### The start of a public-key command (R293, R308) -/

/-- What placement reads of a state: the engines, which of them serve, and what they hold. -/
theorem pkPlaces_congr {s t : State} (hp : t.pk = s.pk) (hs : t.sys = s.sys) (ho : t.otp = s.otp) (w : Work) :
    pkPlaces t w = pkPlaces s w ∧ pkAllowed t (dOp w.desc) = pkAllowed s (dOp w.desc) := by
  have hserves : pkServes t = pkServes s := by
    funext e
    simp [pkServes, pkEngines, presentDies, hp, hs, ho]
  have hroom : pkRoom t w = pkRoom s w := by
    funext e
    have hholds : pkHolds t e = pkHolds s e := by rw [pkHolds, hp, pkHolds]
    have habort : abortWaits t e = abortWaits s e := by rw [abortWaits, hp, abortWaits]
    simp only [pkRoom, hholds, habort, hp]
  have hallowed : pkAllowed t (dOp w.desc) = pkAllowed s (dOp w.desc) := by
    simp [pkAllowed, pkEngines, presentDies, ho, hserves]
  exact ⟨by simp [pkPlaces, hallowed, hroom, hp], hallowed⟩

/-- Whether a departure operation waits for an engine hangs on the departures, the engines and slots 5 and 6. -/
theorem signWaits_congr {s t : State} (hp : t.pk = s.pk) (hs : t.sys = s.sys) (hd : t.dep = s.dep) (ha : t.adm = s.adm)
    (h5 : slotOf t 5 = slotOf s 5) (h6 : slotOf t 6 = slotOf s 6) : signWaits t = signWaits s := by
  have hidle : pkIdle t = pkIdle s := by
    funext e
    simp [pkIdle, hp]
  have hin : pkInService t = pkInService s := by simp [pkInService, hp, hs]
  have hready : readyToSign t = readyToSign s := by simp [readyToSign, hd, ha]
  have hpair : pairHeld t = pairHeld s := by
    funext c
    simp [pairHeld, pairFor, hd, h5, h6]
  have hsign : signers t = signers s := by
    unfold signers
    rw [hin, hidle]
  unfold signWaits
  rw [hready, hpair, hsign, hin]

theorem pkRoom_noAbort {s : State} {w : Work} {e : Nat} (h : pkRoom s w e = true) : abortWaits s e = false := by
  simp only [pkRoom, Bool.and_eq_true] at h
  simpa using h.1

theorem pkPlaces_room {s : State} {w : Work} {e : Nat} (h : e ∈ pkPlaces s w) : pkRoom s w e = true := by
  unfold pkPlaces at h
  dsimp only at h
  split at h
  · exact (List.mem_filter.1 h).2
  · exact (List.mem_filter.1 (List.mem_filter.1 h).1).2

/-- Of the operations that are held, the first of an engine that is free starts. -/
theorem startHeld_starts {c : PkOp} (l : List PkOp) : ∀ busy, c.engine ∉ busy → (∀ x ∈ l, x.engine ≠ c.engine) →
    ∃ y ∈ startHeld (l ++ [c]) busy, y.engine = c.engine ∧ SameOp c y ∧ y.running = true := by
  induction l with
  | nil =>
    intro busy hb _
    by_cases hr : c.running = true
    · exact ⟨c, by simp [startHeld, hr], rfl, .refl c, hr⟩
    · exact ⟨{ c with running := true }, by simp [startHeld, hr, hb], rfl, rfl, rfl⟩
  | cons x r ih =>
    intro busy hb hl
    have hx := hl x List.mem_cons_self
    have hr : ∀ y ∈ r, y.engine ≠ c.engine := fun y hy => hl y (List.mem_cons_of_mem _ hy)
    simp only [List.cons_append, startHeld]
    split
    · obtain ⟨y, hy, h⟩ := ih busy hb hr
      exact ⟨y, List.mem_cons_of_mem _ hy, h⟩
    · obtain ⟨y, hy, h⟩ := ih (x.engine :: busy) (by simp [hb, Ne.symm hx]) hr
      exact ⟨y, List.mem_cons_of_mem _ hy, h⟩

/-- The last of the operations that are held stays so, and starts where its engine held nothing and is not busy. -/
theorem startHeld_last {c : PkOp} (l : List PkOp) (busy : List Nat) (hb : (∀ x ∈ l, x.engine ≠ c.engine) → c.engine ∉ busy) :
    ∃ y ∈ startHeld (l ++ [c]) busy, y.engine = c.engine ∧ SameOp c y
      ∧ ((∀ x ∈ l, x.engine ≠ c.engine) → y.running = true) := by
  by_cases hl : ∀ x ∈ l, x.engine ≠ c.engine
  · obtain ⟨y, hy, he, hs, hr⟩ := startHeld_starts l busy (hb hl) hl
    exact ⟨y, hy, he, hs, fun _ => hr⟩
  · obtain ⟨y, hy, he, hs⟩ := startHeld_mem (x := c) (l ++ [c]) busy (by simp)
    exact ⟨y, hy, he, hs, fun h => absurd h hl⟩

/-- The engines that run something or are to be cleared for an abort. -/
def busyEngines (ops : List PkOp) (aborts : List (PkOp × Work)) : List Nat :=
  (ops.filter (·.running)).map (·.engine) ++ aborts.map (·.1.engine)

theorem not_busyEngines {s : State} {c : PkOp} (hr : c.running = false) (ha : abortWaits s c.engine = false)
    (hl : ∀ x ∈ s.pk.ops, x.engine ≠ c.engine) : c.engine ∉ busyEngines (s.pk.ops ++ [c]) s.pk.aborts := by
  simp only [abortWaits, List.any_eq_false, beq_iff_eq] at ha
  simp only [busyEngines, List.mem_append, List.mem_map, List.mem_filter, List.mem_singleton, not_or]
  constructor
  · rintro ⟨x, ⟨hx | rfl, hxr⟩, he⟩
    · exact hl x hx he
    · simp [hr] at hxr
  · rintro ⟨a, ham, he⟩
    exact ha a ham he

/-- The engine that placement takes for the only operation that waits: the one it prefers, where that can take it. -/
theorem placeList_single {c : PkOp} {s : State} (ha : pkAllowed s (dOp c.work.desc) ≠ []) (hp : pkPlaces s c.work ≠ []) :
    ∃ e ∈ pkPlaces s c.work, (c.engine ∈ pkPlaces s c.work → e = c.engine)
      ∧ ∃ s', PkKeeps s s' ∧ s'.pk = s.pk ∧ placeList [c] [] s = stagePk c e s' := by
  have hfree : (pkPlaces s c.work).filter (fun e => !([] : List Nat).contains e) = pkPlaces s c.work := by simp
  have hne : (pkAllowed s (dOp c.work.desc)).isEmpty = false := List.isEmpty_eq_false_iff.2 ha
  simp only [placeList, hne, Bool.false_eq_true, if_false, hfree]
  by_cases hc : c.engine ∈ pkPlaces s c.work
  · exact ⟨c.engine, hc, fun _ => rfl, s, .refl s, rfl, by simp [hc]⟩
  · obtain ⟨e, he, hpick⟩ := pick_mem s hp
    exact ⟨e, he, fun h => absurd h hc, (pick (pkPlaces s c.work) s).2, pick_pkKeeps .., by simp, by simp [hc, hpick]⟩

theorem placeList_waits {c : PkOp} {s : State} (ha : pkAllowed s (dOp c.work.desc) ≠ []) (hp : pkPlaces s c.work = []) :
    c ∈ (placeList [c] [] s).pk.queue := by
  have hne : (pkAllowed s (dOp c.work.desc)).isEmpty = false := List.isEmpty_eq_false_iff.2 ha
  have hpick : (pick ([] : List Nat) s).1 = none := rfl
  simp [placeList, hne, hp, hpick]

section
variable {c : PkOp} {s : State} (e : Nat) (hq : s.pk.queue = []) (ha : pkAllowed s (dOp c.work.desc) ≠ [])
include hq ha

/-- Where nothing waits before it, an engine that can take the operation does, and starts it where it held nothing. -/
theorem startPk_held (hw : signWaits s = false) (hp : pkPlaces s c.work ≠ []) :
    ∃ x ∈ (startPk e c s).pk.ops, SameOp c x ∧ x.engine ∈ pkPlaces s c.work ∧ (e ∈ pkPlaces s c.work → x.engine = e)
      ∧ (startPk e c s).pk.lens.at? x.engine = some (pkShape c.work).1 ∧ (pkHolds s x.engine = [] → x.running = true) := by
  have hsame (q : List PkOp) : pkPlaces { s with pk := { s.pk with queue := q } } c.work = pkPlaces s c.work := rfl
  have hwaits (q : List PkOp) : signWaits { s with pk := { s.pk with queue := q } } = signWaits s := rfl
  obtain ⟨e', he', hpref, s', hk, hpk, hplace⟩ := placeList_single
    (c := { c with engine := e, running := false }) (s := { s with pk := { s.pk with queue := [] } }) ha hp
  simp only [startPk, settlePk, hwaits, hw, Bool.false_eq_true, if_false, hq, List.nil_append, hplace, stagePk, hpk]
  obtain ⟨y, hy, hye, hys, hyr⟩ := startHeld_last (c := { c with engine := e', running := false }) s.pk.ops
    (busyEngines _ s.pk.aborts) (not_busyEngines rfl (pkRoom_noAbort (pkPlaces_room he')))
  dsimp only at hye hyr
  refine ⟨y, hy, SameOp.trans (y := { c with engine := e', running := false }) rfl hys, hye ▸ he',
    fun h => hye.trans (hpref h), by simp [hye], fun h => hyr (by simpa [pkHolds, hye] using h)⟩

/-- Where a departure operation waits for an engine, or none can take it, it waits. -/
theorem startPk_waits (hw : signWaits s = true ∨ pkPlaces s c.work = []) :
    { c with engine := e, running := false } ∈ (startPk e c s).pk.queue := by
  have hwaits (q : List PkOp) : signWaits { s with pk := { s.pk with queue := q } } = signWaits s := rfl
  simp only [startPk, settlePk, hwaits, hq, List.nil_append]
  split
  · simp
  next h =>
    have hp := hw.resolve_left h
    exact placeList_waits (c := { c with engine := e, running := false }) (s := { s with pk := { s.pk with queue := [] } }) ha hp

end

/-- An operation that some engine may run is held or waits. -/
theorem startPk_admitted {c : PkOp} {s : State} (e : Nat) (ha : pkAllowed s (dOp c.work.desc) ≠ []) :
    ∃ x ∈ (startPk e c s).pk.ops ++ (startPk e c s).pk.queue, SameOp c x := by
  obtain ⟨x, hx, hs⟩ := (settlePk_settles { s with pk := { s.pk with
    queue := s.pk.queue ++ [{ c with engine := e, running := false }] } }).placed
      { c with engine := e, running := false } (by simp) ha
  exact ⟨x, hx, SameOp.trans (y := { c with engine := e, running := false }) rfl hs⟩

end Sys2Proof.Machine
end

section
namespace Sys2Proof.Machine

/-! ### What a public-key command comes to (R298) -/

/-- The status of the last orders of R298, which follow an accord: the parameters, the generator, the engines. -/
def pkRefusal (o : Nat) (w : Work) (s : State) : Option Status :=
  if !pkParamsOk s o w then some .paramInvalid
  else if needsRandom w && !canDraw s then some .rngUnavailable
  else if dOp w.desc ≠ 0x41 && (pkAllowed s 0x40).isEmpty then some .fault
  else none

/-- The operation of a command, before an engine holds it. -/
def pkOpOf (o : Nat) (k : Option KeyView) (w : Work) : PkOp :=
  { work := w, engine := 0, owner := o, key := (k.map (·.key)).getD [], handle := kKey w, faulted := false }

/-- One use of the key that the command reads, if it reads one. -/
def useRead (k : Option KeyView) (s : State) : State :=
  match k with
  | some v => useKey v s
  | none => s

/-- The command after every check: it is completed or queued. -/
def pkProceed (e : Nat) (o : Nat) (k : Option KeyView) (refused : Option Status) (w : Work) (s : State) : State :=
  match refused with
  | some st => finish w st 0 [] s
  | none => startPk e (pkOpOf o k w) (useRead k s)

/-- The key that a command reads passes its check, and its line is sound. -/
def PkSound (s : State) (w : Work) : Prop :=
  readsKey (dOp w.desc) = false ∨ checkKey (w.func s) (kKey w) s = s ∧ keyLineBad s (w.func s) (kKey w) = false

theorem PkSound.taken {s : State} {w : Work} (h : PkSound s w) : PkSound (taken w s) w :=
  h.imp_right fun ⟨hc, hl⟩ => ⟨checkKey_stable hc rfl rfl, hl⟩

/-- A command whose key is sound: orders 2 and 3 of R298 come first, then the accord of a DUAL key, whose ceremony takes the
next number before the key is used. -/
theorem doPk_sound {s : State} {w : Work} (e : Nat) (h : PkSound s w) : doPk e w s =
    match pkKey s (w.func s) w with
    | .inl st => finish w st 0 [] s
    | .inr k =>
      if pkDual w k then
        if !canNumber s then putBack w s
        else withAccord w (w.func s) (dOp w.desc) (fun a u =>
          match pkRefusal (w.func s) w u with
          | some st => finish w st 0 [] u
          | none => startPk e (pkOpOf (w.func s) k (ceremonyOk w a (kKey w) u).1) (useRead k (ceremonyOk w a (kKey w) u).2)) s
      else pkProceed e (w.func s) k (pkRefusal (w.func s) w s) w s := by
  have hs : (if readsKey (dOp w.desc) then checkKey (w.func s) (kKey w) s else s) = s := by
    rcases h with h | ⟨hc, -⟩
    · simp [h]
    · simp [hc]
  have hb : ¬(readsKey (dOp w.desc) && keyLineBad s (w.func s) (kKey w)) = true := by
    rcases h with h | ⟨-, hl⟩
    · simp [h]
    · simp [hl]
  unfold doPk
  dsimp only
  rw [hs, if_neg hb]
  rfl

theorem doPk_noKey {s : State} {w : Work} (e : Nat) {st : Status} (h : PkSound s w) (hk : pkKey s (w.func s) w = .inl st) :
    doPk e w s = finish w st 0 [] s := by
  rw [doPk_sound e h, hk]

theorem doPk_single {s : State} {w : Work} (e : Nat) {k : Option KeyView} (h : PkSound s w) (hk : pkKey s (w.func s) w = .inr k)
    (hd : pkDual w k = false) : doPk e w s = pkProceed e (w.func s) k (pkRefusal (w.func s) w s) w s := by
  rw [doPk_sound e h, hk]
  simp [hd]

theorem doPk_dual {s : State} {w : Work} (e : Nat) {k : Option KeyView} {a : Accord} (h : PkSound s w)
    (hk : pkKey s (w.func s) w = .inr k) (hd : pkDual w k = true) (hn : canNumber s = true)
    (ha : HasAccord s w (w.func s) (dOp w.desc) a) (hr : pkRefusal (w.func s) w s = none) :
    doPk e w s = startPk e (pkOpOf (w.func s) k { w with stamp := some (nextStamp s) })
      (useRead k (ceremonyOk w a (kKey w) s).2) := by
  have hacc : accordCheck w.accordId (w.func s) (dOp w.desc) (sha w.input) s = .inr a := ha
  rw [doPk_sound e h, hk]
  simp only [hd, hn, withAccord, hacc, hr, ceremonyOk_stamp, if_true, Bool.not_true, Bool.false_eq_true, if_false]

/-! ### The start of a command, in the words of the statement -/

/-- The operation of t is that of work item w, of this owner and with this key. -/
theorem sameOp_pkOpOf {o : Nat} {k : Option KeyView} {w : Work} {x : PkOp} (h : SameOp (pkOpOf o k w) x) :
    x.work = w ∧ x.owner = o ∧ x.faulted = false ∧ x.key = (k.map (·.key)).getD [] := by
  obtain ⟨hw, ho, hk, hf⟩ := h.fields
  exact ⟨hw, ho, hf, hk⟩

/-- What is done to the keys leaves placement as it is. -/
@[simp] theorem useRead_frame (k : Option KeyView) (s : State) : (useRead k s).sys = s.sys ∧ (useRead k s).link = s.link
    ∧ (useRead k s).rings = s.rings ∧ (useRead k s).adm = s.adm ∧ (useRead k s).dep = s.dep ∧ (useRead k s).otp = s.otp
    ∧ (useRead k s).pk = s.pk ∧ (useRead k s).keys.accords = s.keys.accords := by
  cases k <;> simp [useRead]

/-- A refusal is not an answer: where there is one, the condition of the refusal failed. -/
theorem of_ite_inl {α β : Type} {c : Prop} [Decidable c] {x : α} {y : α ⊕ β} {b : β}
    (h : (if c then .inl x else y) = .inr b) : y = .inr b := by
  split at h
  · exact absurd h (by simp)
  · exact h

/-- The key that a command reads is in none of the device's own slots. -/
theorem pkKey_slot {s : State} {o i : Nat} {w : Work} {k : Option KeyView} {v : KeyView} (h : pkKey s o w = .inr k)
    (hv : v ∈ k) (hr : v.ref = .slot i) : 64 ≤ i := by
  unfold pkKey at h
  dsimp only at h
  split at h
  · exact absurd h (by simp)
  next k' hk' =>
    obtain rfl : k' = k := Sum.inr.inj (of_ite_inl (of_ite_inl (of_ite_inl h)))
    split at hk'
    · obtain ⟨v', hv', rfl⟩ := Option.map_eq_some_iff.1 hk'
      obtain rfl : v' = v := by simpa using hv
      exact usableKey_slot hv' hr
    · obtain rfl : none = k' := by simpa using hk'
      exact absurd hv (by simp)

theorem useRead_deviceSlot {s : State} {o j : Nat} {w : Work} {k : Option KeyView} (h : pkKey s o w = .inr k) (u : State)
    (hj : j < 64) : slotOf (useRead k u) j = slotOf u j := by
  cases k with
  | none => rfl
  | some v => exact useKey_slotOf u fun i hr => by have := pkKey_slot h rfl hr; omega

theorem pkRefusal_none {o : Nat} {w : Work} {s : State} (hp : pkParamsOk s o w = true)
    (hr : needsRandom w = false ∨ canDraw s = true) (ha : pkAllowed s (dOp w.desc) ≠ []) : pkRefusal o w s = none := by
  have hrand : (needsRandom w && !canDraw s) = false := by rcases hr with h | h <;> simp [h]
  have hallowed : (decide (dOp w.desc ≠ 0x41) && (pkAllowed s 0x40).isEmpty) = false := by
    by_cases h : dOp w.desc = 0x41
    · simp [h]
    · have : pkAllowed s 0x40 = pkAllowed s (dOp w.desc) := by simp [pkAllowed, h]
      simp [this, ha]
  simp only [pkRefusal, hp, hrand, hallowed, Bool.not_true, Bool.false_eq_true, if_false]

/-- What a command that passes every check comes to, where no accord is asked for. -/
theorem doPk_starts {s : State} {w : Work} (e : Nat) {k : Option KeyView} (h : PkSound s w) (hk : pkKey s (w.func s) w = .inr k)
    (hd : pkDual w k = false) (hp : pkParamsOk s (w.func s) w = true) (hr : needsRandom w = false ∨ canDraw s = true)
    (ha : pkAllowed s (dOp w.desc) ≠ []) :
    doPk e w s = startPk e (pkOpOf (w.func s) k w) (useRead k s) := by
  rw [doPk_single e h hk hd, pkRefusal_none hp hr ha]
  rfl

end Sys2Proof.Machine
end

section
namespace Sys2Proof.Machine

/-! ### PK_ABORT (R307) -/

/-- The works of the operations of t are among those of s. -/
theorem OpsFrom.works {s t : State} (h : OpsFrom s t) : ∀ y ∈ t.pk.ops ++ t.pk.queue, ∃ x ∈ s.pk.ops ++ s.pk.queue, x.work = y.work := by
  intro y hy
  rcases List.mem_append.1 hy with hy | hy
  · obtain ⟨x, hx, -, hw⟩ := h.held y hy
    exact ⟨x, List.mem_append_left _ hx, hw⟩
  · exact h.waiting y hy

theorem Settles.works {s t : State} (h : Settles s t) : ∀ y ∈ t.pk.ops ++ t.pk.queue, ∃ x ∈ s.pk.ops ++ s.pk.queue, x.work = y.work := by
  intro y hy
  rcases List.mem_append.1 hy with hy | hy
  · rcases h.held y hy with ⟨x, hx, -, hs⟩ | ⟨-, x, hx, hs⟩
    · exact ⟨x, List.mem_append_left _ hx, hs.fields.1.symm⟩
    · exact ⟨x, List.mem_append_right _ hx, hs.fields.1.symm⟩
  · exact ⟨y, List.mem_append_right _ (h.waiting y hy), rfl⟩

/-- An operation that is dropped leaves none of its work item, where it was the only one of it. -/
theorem dropPk_gone {s t : State} {c : PkOp} (ho : OnlyPk s c)
    (h : ∀ y ∈ t.pk.ops ++ t.pk.queue, ∃ x ∈ (dropPk c s).pk.ops ++ (dropPk c s).pk.queue, x.work = y.work) :
    ∀ y ∈ t.pk.ops ++ t.pk.queue, y.work ≠ c.work := by
  intro y hy hw
  obtain ⟨x, hx, hxw⟩ := h y hy
  rcases List.mem_append.1 hx with hx | hx
  · obtain ⟨hm, hne⟩ := List.mem_filter.1 hx
    exact absurd (ho.1 x hm (hxw.trans hw)) (by simpa using hne)
  · exact ho.2.1 x hx (hxw.trans hw)

/-- The completions of an aborted command and of the PK_ABORT. -/
theorem finish_both {s : State} {x w : Work} (hx : ringTakes (ringOf s x.ring) x.gen = true)
    (hw : ringTakes (ringOf s w.ring) w.gen = true) :
    Completed (finish w .ok 0 [] (finish x .aborted 0 [] s)) x .aborted 0 x.stamp
    ∧ Completed (finish w .ok 0 [] (finish x .aborted 0 [] s)) w .ok 0 w.stamp :=
  ⟨(finish_completed .aborted 0 [] hx).grows (finish_grows ..),
    finish_completed .ok 0 [] (by rw [(finish_grows ..).takes, hw])⟩

theorem endAbort_both {s : State} {c : PkOp} {w : Work} (hx : ringTakes (ringOf s c.work.ring) c.work.gen = true)
    (hw : ringTakes (ringOf s w.ring) w.gen = true) :
    Completed (endAbort c w s) c.work .aborted 0 c.work.stamp ∧ Completed (endAbort c w s) w .ok 0 w.stamp :=
  finish_both (by simpa [ringOf, clearEngine, dropPk] using hx) (by simpa [ringOf, clearEngine, dropPk] using hw)

/-- Nothing of what is found by another opcode is lost when an item is taken. -/
theorem find_taken {s : State} {w : Work} {p : Work → Bool} (hp : p w = false) :
    (taken w s).adm.work.find? p = s.adm.work.find? p := by
  simp only [taken, List.find?_filter]
  congr 1
  funext x
  by_cases h : x = w <;> simp [h, hp]

/-- A PK_ABORT names no PK_ABORT. -/
theorem abortNames_self {s : State} {w x : Work} (h : dOp x.desc = 0x46) : abortNames s w x = false := by
  simp [abortNames, isPkOp, h]

/-- The abort of an operation that its engine does not run, while it runs another, waits. -/
theorem doPkAbort_waits {s : State} {w : Work} {c : PkOp} (hf : s.pk.ops.find? (fun c => abortNames s w c.work) = some c)
    (hr : c.running = false) (hi : pkIdle s c.engine = false) :
    doPkAbort w s = { s with pk := { s.pk with aborts := s.pk.aborts ++ [(c, w)] } } := by
  simp [doPkAbort, hf, hr, hi]

section
variable {s : State} {w : Work} (hw : ringTakes (ringOf s w.ring) w.gen = true)
include hw

/-- The abort of an operation that its engine can clear at once. -/
theorem doPkAbort_held {c : PkOp} (hf : s.pk.ops.find? (fun c => abortNames s w c.work) = some c)
    (hc : ringTakes (ringOf s c.work.ring) c.work.gen = true) (hr : c.running = true ∨ pkIdle s c.engine = true) :
    Completed (doPkAbort w s) w .ok 0 w.stamp ∧ (doPkAbort w s).adm = s.adm
    ∧ Completed (doPkAbort w s) c.work .aborted 0 c.work.stamp
    ∧ (OnlyPk s c → ∀ x ∈ (doPkAbort w s).pk.ops ++ (doPkAbort w s).pk.queue, x.work ≠ c.work) := by
  have hset := settlePk_settles (endAbort c w s)
  obtain ⟨h1, h2⟩ := endAbort_both (c := c) hc hw
  have hdrop : OpsFrom (dropPk c s) (endAbort c w s) :=
    (clearEngine_opsFrom c.engine _).trans <| (event_opsFrom ..).trans <| (finish_opsFrom ..).trans (finish_opsFrom ..)
  simp only [doPkAbort, hf]
  rw [if_pos (by simpa using hr)]
  refine ⟨h2.grows hset.keeps.grows, ?_, h1.grows hset.keeps.grows, fun ho => dropPk_gone ho fun y hy => ?_⟩
  · rw [hset.keeps.adm, (endAbort_pkKeeps c w s).adm]
  · obtain ⟨x, hx, hxy⟩ := hset.works y hy
    obtain ⟨z, hz, hzx⟩ := hdrop.works x hx
    exact ⟨z, hz, hzx.trans hxy⟩

theorem doPkAbort_queued {c : PkOp} (hn : ∀ x ∈ s.pk.ops, abortNames s w x.work = false)
    (hf : s.pk.queue.find? (fun c => abortNames s w c.work) = some c) (hc : ringTakes (ringOf s c.work.ring) c.work.gen = true) :
    Completed (doPkAbort w s) w .ok 0 w.stamp ∧ (doPkAbort w s).adm = s.adm
    ∧ Completed (doPkAbort w s) c.work .aborted 0 c.work.stamp := by
  have hnone : s.pk.ops.find? (fun c => abortNames s w c.work) = none := by simpa using hn
  simp only [doPkAbort, hnone, hf]
  have hset := settlePk_pkKeeps (finish w .ok 0 [] (finish c.work .aborted 0 []
    { s with pk := { s.pk with queue := s.pk.queue.filter fun x => x != c } }))
  obtain ⟨h1, h2⟩ := finish_both (s := { s with pk := { s.pk with queue := s.pk.queue.filter fun x => x != c } })
    (x := c.work) (w := w) hc hw
  exact ⟨h2.grows hset.grows, by rw [hset.adm]; simp, h1.grows hset.grows⟩

end

section
variable {s : State} {w : Work} (hn : ∀ c ∈ s.pk.ops ++ s.pk.queue, abortNames s w c.work = false)
include hn

theorem abort_unheld : s.pk.ops.find? (fun c => abortNames s w c.work) = none
    ∧ s.pk.queue.find? (fun c => abortNames s w c.work) = none :=
  ⟨by simpa using fun c hc => hn c (List.mem_append_left _ hc), by simpa using fun c hc => hn c (List.mem_append_right _ hc)⟩

/-- Without an operation that it names, PK_ABORT ends a command that waits for its admission. -/
theorem doPkAbort_waiting {x : Work} (hf : s.adm.work.find? (abortNames s w) = some x) : doPkAbort w s
    = finish w .ok 0 [] (finish x .aborted 0 [] { s with adm := { s.adm with work := s.adm.work.filter fun y => y != x } }) := by
  obtain ⟨ho, hq⟩ := abort_unheld hn
  simp only [doPkAbort, ho, hq, hf]

theorem doPkAbort_none (hf : s.adm.work.find? (abortNames s w) = none) : doPkAbort w s = finish w .notFound 0 [] s := by
  obtain ⟨ho, hq⟩ := abort_unheld hn
  simp only [doPkAbort, ho, hq, hf]

end

/-! ### The obligation -/

/-- A command that takes its item answers what the row's body makes of it. -/
theorem yields_work {c : Instr} {s : State} {id : WorkId} {op : Nat} {w : Work} {body : Work → State → State} {P : State → Prop}
    (he : exec c s = .next (withWork id op body s)) (h : Waits s id op w) (hp : P (body w (taken w s))) : Yields c s P :=
  ⟨body w (taken w s), by rw [he, withWork_taken body h], hp⟩

/-- The work item ends without output, with this status. -/
theorem endsWork_finish {c : Instr} {s : State} {id : WorkId} {op : Nat} {w : Work} {body : Work → State → State}
    {st : Status} {P : State → Prop} (he : exec c s = .next (withWork id op body s)) (h : Waits s id op w)
    (hb : body w (taken w s) = finish w st 0 [] (taken w s)) (hp : P (finish w st 0 [] (taken w s))) :
    EndsWork c s w st 0 [] P :=
  yields_work he h (hb ▸ ⟨finish_completed st 0 [] h.2.2.2, wrote_nil _ _ w, by simpa using not_mem_taken w s, hp⟩)

section
variable {s : State} {w : Work} {k : Option KeyView} (hk : pkKey s (w.func s) w = .inr k)
include hk

theorem signWaits_useRead : signWaits (useRead k (taken w s)) = signWaits s :=
  (signWaits_congr (t := useRead k (taken w s)) (s := taken w s) (by simp) (by simp) (by simp) (by simp)
    (useRead_deviceSlot hk _ (by decide)) (useRead_deviceSlot hk _ (by decide))).trans rfl

/-- What the start of a command leaves, in the words of the statement: it is held or waits, an engine that can take it
does so where nothing waits before it, and otherwise it waits. -/
theorem startPk_starts (e : Nat) (ha : pkAllowed s (dOp w.desc) ≠ []) :
    let t := startPk e (pkOpOf (w.func s) k w) (useRead k (taken w s))
    let is := fun (x : PkOp) => x.owner = w.func s ∧ x.faulted = false ∧ x.key = (k.map (·.key)).getD []
    w ∉ t.adm.work ∧ (∃ x ∈ t.pk.ops ++ t.pk.queue, x.work = w ∧ is x)
    ∧ (s.pk.queue = [] → signWaits s = false → pkPlaces s w ≠ [] → ∃ x ∈ t.pk.ops, x.work = w ∧ is x
        ∧ x.engine ∈ pkPlaces s w ∧ (e ∈ pkPlaces s w → x.engine = e)
        ∧ t.pk.lens.at? x.engine = some (pkShape w).1 ∧ (pkHolds s x.engine = [] → x.running = true))
    ∧ (s.pk.queue = [] → signWaits s = true ∨ pkPlaces s w = [] → ∃ x ∈ t.pk.queue, x.work = w ∧ is x) := by
  intro t is
  have hpk : (useRead k (taken w s)).pk = s.pk := by simp [taken]
  obtain ⟨hplaces, hallowed⟩ := pkPlaces_congr hpk (by simp [taken]) (by simp [taken]) w
  have ha' : pkAllowed (useRead k (taken w s)) (dOp (pkOpOf (w.func s) k w).work.desc) ≠ [] := hallowed ▸ ha
  have hholds (e : Nat) : pkHolds (useRead k (taken w s)) e = pkHolds s e := by rw [pkHolds, hpk, pkHolds]
  refine ⟨?_, ?_, fun hq hs hp => ?_, fun hq h => ?_⟩
  · have hadm : t.adm = (taken w s).adm := (settlePk_pkKeeps _).adm.trans (useRead_frame k _).2.2.2.1
    exact hadm ▸ not_mem_taken w s
  · obtain ⟨x, hx, hs⟩ := startPk_admitted e ha'
    exact ⟨x, hx, sameOp_pkOpOf hs⟩
  · obtain ⟨x, hx, hs, he, hpref, hlen, hrun⟩ := startPk_held e (hpk ▸ hq) ha' (signWaits_useRead hk ▸ hs) (hplaces ▸ hp)
    obtain ⟨h1, h2⟩ := sameOp_pkOpOf hs
    rw [hholds] at hrun
    change x.engine ∈ pkPlaces _ w at he
    change e ∈ pkPlaces _ w → _ at hpref
    rw [hplaces] at he hpref
    exact ⟨x, hx, h1, h2, he, hpref, hlen, hrun⟩
  · have hw : signWaits (useRead k (taken w s)) = true ∨ pkPlaces (useRead k (taken w s)) (pkOpOf (w.func s) k w).work = [] := by
      rw [signWaits_useRead hk]
      exact h.imp_right fun h => hplaces.trans h
    exact ⟨_, startPk_waits e (hpk ▸ hq) ha' hw, rfl, rfl, rfl, rfl⟩

end

/-- The same for a command that took an accord, whose ceremony numbered it. -/
theorem startPk_ceremony {s : State} {w : Work} (k : Option KeyView) (e : Nat) (a : Accord) (ha : pkAllowed s (dOp w.desc) ≠ []) :
    let t := startPk e (pkOpOf (w.func s) k { w with stamp := some (nextStamp s) })
      (useRead k (ceremonyOk w a (kKey w) (taken w s)).2)
    w ∉ t.adm.work ∧ (∀ x ∈ t.keys.accords, x.no ≠ a.no) ∧ t.adm.nextSeq = s.adm.nextSeq + 1
    ∧ ∃ x ∈ t.pk.ops ++ t.pk.queue, x.work = { w with stamp := some (nextStamp s) } ∧ x.owner = w.func s ∧ x.faulted = false
        ∧ x.key = (k.map (·.key)).getD [] := by
  intro t
  have hadm := (settlePk_pkKeeps { useRead k (ceremonyOk w a (kKey w) (taken w s)).2 with
    pk := { (useRead k (ceremonyOk w a (kKey w) (taken w s)).2).pk with
      queue := (useRead k (ceremonyOk w a (kKey w) (taken w s)).2).pk.queue
        ++ [{ pkOpOf (w.func s) k { w with stamp := some (nextStamp s) } with engine := e, running := false }] } })
  have hwork : t.adm = _ := hadm.adm
  have hkeys : t.keys = _ := hadm.keys
  obtain ⟨-, hallowed⟩ := pkPlaces_congr (s := s) (t := useRead k (ceremonyOk w a (kKey w) (taken w s)).2) (by simp [taken])
    (by simp [taken]) (by simp [taken]) w
  refine ⟨?_, ?_, ?_, ?_⟩
  · rw [hwork]
    simpa using not_mem_taken w s
  · rw [hkeys]
    simp
  · rw [hwork]
    simp [taken]
  · obtain ⟨x, hx, hs⟩ := startPk_admitted (c := pkOpOf (w.func s) k { w with stamp := some (nextStamp s) }) e (hallowed ▸ ha)
    exact ⟨x, hx, sameOp_pkOpOf hs⟩

/-! What the orders of R298 read is not in the list of waiting items. -/

@[simp] theorem func_taken (x w : Work) (s : State) : x.func (taken w s) = x.func s := rfl
@[simp] theorem pkKey_taken (o : Nat) (x w : Work) (s : State) : pkKey (taken w s) o x = pkKey s o x := rfl
@[simp] theorem pkParamsOk_taken (o : Nat) (x w : Work) (s : State) : pkParamsOk (taken w s) o x = pkParamsOk s o x := rfl
@[simp] theorem pkAllowed_taken (w : Work) (op : Nat) (s : State) : pkAllowed (taken w s) op = pkAllowed s op := rfl
@[simp] theorem canDraw_taken (w : Work) (s : State) : canDraw (taken w s) = canDraw s := rfl
@[simp] theorem canNumber_taken (w : Work) (s : State) : canNumber (taken w s) = canNumber s := rfl
@[simp] theorem abortNames_taken (x y w : Work) (s : State) : abortNames (taken w s) x y = abortNames s x y := rfl
@[simp] theorem nextStamp_taken (w : Work) (s : State) : nextStamp (taken w s) = nextStamp s := rfl
@[simp] theorem pkRefusal_taken (o : Nat) (x w : Work) (s : State) : pkRefusal o x (taken w s) = pkRefusal o x s := rfl

/-- Without an engine in service that may run it, a command but VERIFY ends with FAULT. -/
theorem pkRefusal_fault {o : Nat} {w : Work} {s : State} (hp : pkParamsOk s o w = true)
    (hr : needsRandom w = false ∨ canDraw s = true) (h41 : dOp w.desc ≠ 0x41) (ha : pkAllowed s (dOp w.desc) = []) :
    pkRefusal o w s = some .fault := by
  have hrand : (needsRandom w && !canDraw s) = false := by rcases hr with h | h <;> simp [h]
  have hanchor : pkAllowed s 0x40 = [] := by simpa [pkAllowed, h41] using ha
  simp [pkRefusal, hp, hrand, h41, hanchor]

/-- The commands of the public-key engines run the same body, each on the items of its opcode. -/
theorem exec_doPk (s : State) (id : WorkId) (e : Nat) (c : Instr) (op : Nat) (h : (c, op) ∈ [(.pkSign id e, 0x40), (.pkVerify id e, 0x41),
    (.pkKeygen id e, 0x42), (.pkDerive id e, 0x43), (.pkEncaps id e, 0x44), (.pkCurveLoad id e, 0x45), (.pkPublic id e, 0x47)]) :
    exec c s = .next (withWork id op (doPk e) s) := by
  simp only [List.mem_cons, Prod.mk.injEq, List.not_mem_nil, or_false] at h
  rcases h with ⟨rfl, rfl⟩ | ⟨rfl, rfl⟩ | ⟨rfl, rfl⟩ | ⟨rfl, rfl⟩ | ⟨rfl, rfl⟩ | ⟨rfl, rfl⟩ | ⟨rfl, rfl⟩ <;> rfl

section
variable {s : State} {id : WorkId} {w : Work} {e op : Nat} {c : Instr} (he : exec c s = .next (withWork id op (doPk e) s))
  (hw : Waits s id op w) (hs : PkSound s w)
include he hw hs

theorem pk_noKey {st : Status} (hk : pkKey s (w.func s) w = .inl st) :
    EndsWork c s w st 0 [] fun t => t.keys = s.keys ∧ t.pk = s.pk :=
  endsWork_finish he hw (doPk_noKey e hs.taken hk) ⟨by simp [taken], by simp [taken]⟩

theorem pk_refused {k : Option KeyView} {st : Status} (hk : pkKey s (w.func s) w = .inr k) (hd : pkDual w k = false)
    (hr : pkRefusal (w.func s) w s = some st) : EndsWork c s w st 0 [] fun t => t.keys = s.keys ∧ t.pk = s.pk := by
  refine endsWork_finish he hw ?_ ⟨by simp [taken], by simp [taken]⟩
  rw [doPk_single e hs.taken hk hd, func_taken, pkRefusal_taken, hr]
  rfl

theorem pk_ceremony {k : Option KeyView} {a : Accord} (hk : pkKey s (w.func s) w = .inr k) (hd : pkDual w k = true)
    (hn : canNumber s = true) (ha : HasAccord s w (w.func s) (dOp w.desc) a) (hr : pkRefusal (w.func s) w s = none)
    (hp : pkAllowed s (dOp w.desc) ≠ []) :
    Yields c s fun t => w ∉ t.adm.work ∧ (∀ x ∈ t.keys.accords, x.no ≠ a.no) ∧ t.adm.nextSeq = s.adm.nextSeq + 1
      ∧ ∃ x ∈ t.pk.ops ++ t.pk.queue, x.work = { w with stamp := some (nextStamp s) } ∧ x.owner = w.func s ∧ x.faulted = false
          ∧ x.key = (k.map (·.key)).getD [] := by
  refine yields_work he hw ?_
  rw [doPk_dual (s := taken w s) (k := k) (a := a) e hs.taken hk hd hn (accordCheck_taken ha) hr, func_taken, nextStamp_taken]
  exact startPk_ceremony k e a hp

end

/-- Settles O45: a command comes to what `doPk_sound` says after each order of R298, its start is what placement makes of it
(`startPk_starts`), and PK_ABORT ends what it names where it finds it. -/
theorem pkCommands : Obligations.PkCommands := by
  unfold Obligations.PkCommands
  intro s id w e o sound same drawn is starts
  have row (c : Instr) (op : Nat) (k : Option KeyView) (he : exec c s = .next (withWork id op (doPk e) s))
      (h : Waits s id op w ∧ sound op ∧ pkKey s o w = .inr k ∧ pkDual w k = false ∧ pkParamsOk s o w = true ∧ drawn
        ∧ pkAllowed s op ≠ []) : Yields c s (starts k) := by
    obtain ⟨hw, hs, hk, hd, hp, hr, ha⟩ := h
    obtain rfl := hw.opcode
    have hs : PkSound s w := hs
    have hk : pkKey s (w.func s) w = .inr k := hk
    refine yields_work he hw ?_
    rw [doPk_starts (s := taken w s) e hs.taken hk hd hp hr ha]
    exact startPk_starts hk e ha
  refine ⟨fun k => by
    intro ready
    exact ⟨row _ _ k rfl, row _ _ k rfl, row _ _ k rfl, row _ _ k rfl, row _ _ k rfl, row _ _ k rfl, row _ _ k rfl⟩,
    fun c op hc hw hs => ?_, fun hw => ?_⟩
  · have he := exec_doPk s id e c op hc
    obtain rfl := hw.opcode
    have hs : PkSound s w := hs
    refine ⟨fun st hk => pk_noKey he hw hs hk, fun k hk => ⟨fun hd => ⟨fun hp => ?_, fun hp hr hdraw => ?_, fun hp hr h41 ha => ?_⟩,
      fun a hd hn hacc hp hr ha => ?_⟩⟩
    · exact pk_refused he hw hs hk hd (by simp [pkRefusal, o, hp])
    · exact pk_refused he hw hs hk hd (by simp [pkRefusal, o, hp, hr, hdraw])
    · exact pk_refused he hw hs hk hd (pkRefusal_fault hp hr h41 ha)
    · exact pk_ceremony he hw hs hk hd hn hacc (pkRefusal_none hp hr ha) ha
  · have ends {P : State → Prop} (h : Completed (doPkAbort w (taken w s)) w .ok 0 w.stamp)
        (ha : w ∉ (doPkAbort w (taken w s)).adm.work) (hp : P (doPkAbort w (taken w s))) :
        EndsWork (.pkAbort id) s w .ok 0 [] P := yields_work rfl hw ⟨h, wrote_nil _ _ w, ha, hp⟩
    have htakes := hw.2.2.2
    refine ⟨fun c hf hc => ⟨fun hr => ?_, fun hr hi => yields_work rfl hw ?_⟩, fun c hn hf hc => ?_, fun x hn hf hx => ?_,
      fun hn hnone => ?_⟩
    · obtain ⟨h1, ha, h2, h3⟩ := doPkAbort_held (s := taken w s) htakes hf hc hr
      exact ends h1 (ha ▸ not_mem_taken w s) ⟨h2, h3⟩
    · rw [doPkAbort_waits (s := taken w s) hf hr hi]
      exact ⟨not_mem_taken w s, rfl⟩
    · obtain ⟨h1, ha, h2⟩ := doPkAbort_queued (s := taken w s) htakes hn hf hc
      exact ends h1 (ha ▸ not_mem_taken w s) h2
    · have hf' : (taken w s).adm.work.find? (abortNames (taken w s) w) = some x :=
        (find_taken (abortNames_self hw.opcode)).trans hf
      rw [doPkAbort_waiting (s := taken w s) hn hf'] at ends
      obtain ⟨h1, h2⟩ := finish_both (w := w) (s := { taken w s with adm := { (taken w s).adm with
        work := (taken w s).adm.work.filter fun y => y != x } }) hx htakes
      exact ends h2 (by simp [taken]) ⟨by simp, h1⟩
    · have hf : (taken w s).adm.work.find? (abortNames (taken w s) w) = none :=
        (find_taken (abortNames_self hw.opcode)).trans (List.find?_eq_none.2 fun x hx => by simp [hnone x hx])
      exact endsWork_finish rfl hw (doPkAbort_none (s := taken w s) hn hf) (by simp [taken])

end Sys2Proof.Machine
end

section
namespace Sys2Proof.Machine

/-! ### Completions with the UNTRUSTED_OUTPUT mark (R64) -/

theorem finishWith_completed {w : Work} {s : State} (u : Bool) (st : Status) (d : Nat) (b : Bytes)
    (h : ringTakes (ringOf s w.ring) w.gen = true) : Completed (finishWith u w st d b s) w st d w.stamp := by
  refine ⟨{ idx := w.idx, tag := dTag w.desc, status := st, detail := d, stamp := w.stamp, receipt := none
            untrusted := u, irq := dIrq w.desc }, ?_, rfl, rfl, rfl, rfl, rfl⟩
  unfold finishWith
  rw [deliver_fin _ (by simpa using h)]
  simp

theorem finishWith_wrote {w : Work} {s : State} (u : Bool) (st : Status) (d : Nat) (b : Bytes)
    (h : ringTakes (ringOf s w.ring) w.gen = true) : Wrote s (finishWith u w st d b s) w b := by
  intro hb hm
  have hb' : b.isEmpty = false := by simpa using hb
  unfold Work.func at hm
  unfold finishWith
  simp only [deliver_frame]
  simp [writeDst, hb', h, hm, Work.func]

/-! ### The cipher lanes place what waits (R285) -/

/-- Two records of one operation, which may differ in the lane that runs it and in its nonce. -/
def SameCipher (x y : CipherOp) : Prop := y = { x with lane := y.lane, nonce := y.nonce }

theorem SameCipher.fields {x y : CipherOp} (h : SameCipher x y) : y.work = x.work ∧ y.owner = x.owner ∧ y.key = x.key
    ∧ y.faulted = x.faulted := by
  unfold SameCipher at h
  rw [h]
  exact ⟨rfl, rfl, rfl, rfl⟩

/-- What placing, moving and ending operations of the lanes leaves as it is. -/
structure LaneKeeps (s t : State) : Prop where
  grows : Grows s t
  eng : t.eng = s.eng
  adm : t.adm = s.adm
  quarantined : t.lanes.quarantined = s.lanes.quarantined
  underTest : t.lanes.underTest = s.lanes.underTest

theorem LaneKeeps.refl (s : State) : LaneKeeps s s := ⟨.refl s, rfl, rfl, rfl, rfl⟩

theorem LaneKeeps.trans {s t u : State} (h : LaneKeeps s t) (k : LaneKeeps t u) : LaneKeeps s u :=
  ⟨h.grows.trans k.grows, k.eng.trans h.eng, k.adm.trans h.adm, k.quarantined.trans h.quarantined, k.underTest.trans h.underTest⟩

theorem finish_laneKeeps (w : Work) (st : Status) (d : Nat) (b : Bytes) (s : State) : LaneKeeps s (finish w st d b s) := by
  constructor <;> simp [finish_grows]

/-- A change of the operations that run or wait. -/
theorem opsOf_laneKeeps (ops queue : List CipherOp) (s : State) :
    LaneKeeps s { s with lanes := { s.lanes with ops := ops, queue := queue } } := ⟨.of_eq rfl rfl, rfl, rfl, rfl, rfl⟩

/-- Where the operations of t come from, when the list l was placed from s. -/
structure LanesFrom (l : List CipherOp) (s t : State) : Prop where
  keeps : LaneKeeps s t
  held : ∀ y ∈ t.lanes.ops, y ∈ s.lanes.ops ∨ ∃ x ∈ l, SameCipher x y
  stillHeld : ∀ y ∈ s.lanes.ops, y ∈ t.lanes.ops
  stillWaiting : ∀ y ∈ s.lanes.queue, y ∈ t.lanes.queue

theorem LanesFrom.cons {c : CipherOp} {r : List CipherOp} {s t u : State} (h : LanesFrom [c] s t) (k : LanesFrom r t u) :
    LanesFrom (c :: r) s u where
  keeps := h.keeps.trans k.keeps
  held y hy := by
    rcases k.held y hy with hy | ⟨x, hx, hs⟩
    · rcases h.held y hy with hy | ⟨x, hx, hs⟩
      · exact .inl hy
      · exact .inr ⟨x, by simp_all, hs⟩
    · exact .inr ⟨x, List.mem_cons_of_mem _ hx, hs⟩
  stillHeld y hy := k.stillHeld y (h.stillHeld y hy)
  stillWaiting y hy := k.stillWaiting y (h.stillWaiting y hy)

/-- The lane that placement takes is free, and there is one where any is. -/
theorem vaultLane_spec (k : Nat) (s : State) : (∀ l, (vaultLane k s).1 = some l → l ∈ freeLanes s)
    ∧ (freeLanes s ≠ [] → ∃ l, (vaultLane k s).1 = some l) ∧ LaneKeeps s (vaultLane k s).2
    ∧ (vaultLane k s).2.lanes = s.lanes := by
  unfold vaultLane
  dsimp only
  split
  next h => exact ⟨fun l hl => by simpa [← Option.some.inj hl] using h, fun _ => ⟨_, rfl⟩, .refl s, rfl⟩
  · exact ⟨fun l hl => pick_some_mem hl, fun h => (pick_mem s h).imp fun _ h => h.2,
      ⟨.of_eq (by simp) (by simp), by simp, by simp, by simp, by simp⟩, by simp⟩

@[simp] theorem classD_lanes (l : LaneId) (s : State) : (classD l s).2.lanes.ops = s.lanes.ops
    ∧ (classD l s).2.lanes.queue = s.lanes.queue ∧ (classD l s).2.lanes.quarantined = s.lanes.quarantined
    ∧ (classD l s).2.lanes.underTest = s.lanes.underTest := by
  simp [classD]

theorem classD_laneKeeps (l : LaneId) (s : State) : LaneKeeps s (classD l s).2 := by
  constructor <;> simp [Grows.of_eq]

/-- An operation is run on a free lane, where there is one. -/
theorem laneCipher_held {c : CipherOp} {s : State} (hf : freeLanes s ≠ []) : ∃ x, SameCipher c x ∧ x.lane ∈ freeLanes s
    ∧ (laneCipher c s).lanes.ops = s.lanes.ops ++ [x] ∧ (laneCipher c s).lanes.queue = s.lanes.queue
    ∧ LaneKeeps s (laneCipher c s) := by
  obtain ⟨hfree, hsome, hkeeps, hlanes⟩ := vaultLane_spec c.lane.lane s
  obtain ⟨l, hl⟩ := hsome hf
  have hv : (vaultLanes s).isEmpty = false := by
    have hm : l ∈ vaultLanes s := List.mem_of_mem_filter (hfree l hl)
    exact List.isEmpty_eq_false_iff.2 (List.ne_nil_of_mem hm)
  generalize hvl : vaultLane c.lane.lane s = p at hl hkeeps hlanes
  obtain ⟨o, s'⟩ := p
  obtain rfl : o = some l := hl
  change s'.lanes = s.lanes at hlanes
  simp only [laneCipher, hv, hvl, Bool.false_eq_true, if_false]
  split
  · refine ⟨{ c with lane := l, nonce := (classD l s').1 }, rfl, hfree l (by rw [hvl]), ?_, ?_,
      hkeeps.trans ((classD_laneKeeps l s').trans (opsOf_laneKeeps _ _ _))⟩
    · simp [hlanes]
    · simp [hlanes]
  · exact ⟨{ c with lane := l, nonce := [] }, rfl, hfree l (by rw [hvl]), by simp [hlanes], by simp [hlanes],
      hkeeps.trans (opsOf_laneKeeps _ _ _)⟩

/-- Without a free lane it waits. -/
theorem laneCipher_waits {c : CipherOp} {s : State} (hf : freeLanes s = []) (hv : vaultLanes s ≠ []) :
    (laneCipher c s).lanes.ops = s.lanes.ops ∧ (laneCipher c s).lanes.queue = s.lanes.queue ++ [c]
    ∧ LaneKeeps s (laneCipher c s) := by
  obtain ⟨-, -, hkeeps, hlanes⟩ := vaultLane_spec c.lane.lane s
  have hnone : (vaultLane c.lane.lane s).1 = none := by simp [vaultLane, hf, pick]
  generalize hvl : vaultLane c.lane.lane s = p at hnone hkeeps hlanes
  obtain ⟨o, s'⟩ := p
  obtain rfl : o = none := hnone
  change s'.lanes = s.lanes at hlanes
  simp only [laneCipher, hvl, List.isEmpty_eq_false_iff.2 hv, Bool.false_eq_true, if_false]
  exact ⟨by simp [hlanes], by simp [hlanes], hkeeps.trans (opsOf_laneKeeps _ _ _)⟩

theorem laneCipher_lanesFrom (c : CipherOp) (s : State) : LanesFrom [c] s (laneCipher c s) := by
  by_cases hf : freeLanes s = []
  · by_cases hv : vaultLanes s = []
    · simp only [laneCipher, hv, List.isEmpty_nil, if_true]
      exact ⟨finish_laneKeeps .., fun y hy => .inl (by simpa using hy), fun y hy => by simpa using hy, fun y hy => by simpa using hy⟩
    · obtain ⟨ho, hq, hk⟩ := laneCipher_waits (c := c) hf hv
      exact ⟨hk, fun y hy => .inl (ho ▸ hy), fun y hy => ho ▸ hy, fun y hy => by simp [hq, hy]⟩
  · obtain ⟨x, hx, -, ho, hq, hk⟩ := laneCipher_held (c := c) hf
    refine ⟨hk, fun y hy => ?_, fun y hy => by simp [ho, hy], fun y hy => hq ▸ hy⟩
    rw [ho] at hy
    rcases List.mem_append.1 hy with hy | hy
    · exact .inl hy
    · exact .inr ⟨c, List.mem_singleton.2 rfl, List.mem_singleton.1 hy ▸ hx⟩

theorem laneCiphers_lanesFrom (l : List CipherOp) : ∀ s, LanesFrom l s (l.foldl (fun st c => laneCipher c st) s) := by
  induction l with
  | nil => exact fun s => ⟨.refl s, fun _ h => .inl h, fun _ h => h, fun _ h => h⟩
  | cons c r ih => exact fun s => (laneCipher_lanesFrom c s).cons (ih _)

/-- The operations that waited are placed: what runs did so before, or waited. -/
theorem settleLanes_held (s : State) : LaneKeeps s (settleLanes s)
    ∧ (∀ y ∈ (settleLanes s).lanes.ops, y ∈ s.lanes.ops ∨ ∃ x ∈ s.lanes.queue, SameCipher x y) := by
  have h := laneCiphers_lanesFrom s.lanes.queue { s with lanes := { s.lanes with queue := [] } }
  exact ⟨(opsOf_laneKeeps s.lanes.ops [] s).trans h.keeps, h.held⟩

theorem settleLanes_laneKeeps (s : State) : LaneKeeps s (settleLanes s) := (settleLanes_held s).1

section
variable {c : CipherOp} {r : List CipherOp} {s : State} (hq : s.lanes.queue = c :: r)
include hq

/-- The first that waits is run, where a lane is free. -/
theorem settleLanes_first (hf : freeLanes s ≠ []) :
    ∃ x ∈ (settleLanes s).lanes.ops, SameCipher c x ∧ x.lane ∈ freeLanes s := by
  obtain ⟨x, hx, hl, ho, -, -⟩ := laneCipher_held (c := c) (s := { s with lanes := { s.lanes with queue := [] } }) hf
  have h := laneCiphers_lanesFrom r (laneCipher c { s with lanes := { s.lanes with queue := [] } })
  refine ⟨x, ?_, hx, hl⟩
  simp only [settleLanes, hq, List.foldl_cons]
  exact h.stillHeld x (by simp [ho])

/-- Otherwise it waits on. -/
theorem settleLanes_firstWaits (hf : freeLanes s = []) (hv : vaultLanes s ≠ []) : c ∈ (settleLanes s).lanes.queue := by
  obtain ⟨-, ho, -⟩ := laneCipher_waits (c := c) (s := { s with lanes := { s.lanes with queue := [] } }) hf hv
  have h := laneCiphers_lanesFrom r (laneCipher c { s with lanes := { s.lanes with queue := [] } })
  simp only [settleLanes, hq, List.foldl_cons]
  exact h.stillWaiting c (by simp [ho])

end

/-! ### An operation ends (R281, R285, R286) -/

/-- The lane's operation is done: its result is delivered, and it runs no more. -/
theorem doCipherOperationDone_ends {s : State} {id : WorkId} {c : CipherOp}
    (hf : s.lanes.ops.find? (fun c => c.work.ring == id.ring && c.work.idx == id.idx) = some c)
    (hq : ∀ x ∈ s.lanes.queue, x.work ≠ c.work) (ht : ringTakes (ringOf s c.work.ring) c.work.gen = true) :
    Completed (doCipherOperationDone id s) c.work (cipherEnd c).status (cipherEnd c).detail c.work.stamp
    ∧ Wrote s (doCipherOperationDone id s) c.work (cipherEnd c).out ∧ c ∉ (doCipherOperationDone id s).lanes.ops := by
  simp only [doCipherOperationDone, hf]
  have ht' : ringTakes (ringOf (dropCipher c s) c.work.ring) c.work.gen = true := ht
  obtain ⟨hkeeps, hheld⟩ := settleLanes_held (finishWith (cipherEnd c).untrusted c.work (cipherEnd c).status (cipherEnd c).detail
    (cipherEnd c).out (dropCipher c s))
  refine ⟨(finishWith_completed _ _ _ _ ht').grows hkeeps.grows, Wrote.grows (finishWith_wrote (s := dropCipher c s) _ _ _ _ ht') hkeeps.grows, fun hc => ?_⟩
  rcases hheld c hc with hc | ⟨x, hx, hs⟩
  · simp [dropCipher] at hc
  · exact hq x (by simpa [dropCipher] using hx) hs.fields.1.symm

section
variable {c : CipherOp}

/-- MAC_VERIFY: the MAC at the end of the input is that of what stands before it, or not (R286). -/
theorem cipherEnd_macVerify (h : dOp c.work.desc = 0x37) : cipherEnd c =
    if macOf c.work c.key (c.work.input.take (c.work.input.length - cMacLen c.work))
      = c.work.input.drop (c.work.input.length - cMacLen c.work) then {} else { status := .authFail, detail := 1 } := by
  simp [cipherEnd, h]

theorem cipherEnd_hash (h : dOp c.work.desc = 0x38) (ha : cAlg c.work = 2) :
    cipherEnd c = { out := digestBytes (Config.sha384 c.work.input) } := by
  simp [cipherEnd, h, hashOf, ha, sha]

/-- AEAD_DECRYPT: the plaintext goes out, marked where the tag does not verify (R286). -/
theorem cipherEnd_aeadDecrypt (h : dOp c.work.desc = 0x31) : cipherEnd c =
    (let m := c.work.input.drop (cAad c.work)
     let r := gcmOpen c.key ((cIv c.work).take 12) (c.work.input.take (cAad c.work)) (m.take (m.length - 16)) (m.drop (m.length - 16))
     if r.2 then { out := r.1 } else { status := .authFail, detail := 1, out := r.1, untrusted := true }) := by
  simp [cipherEnd, h]

end

end Sys2Proof.Machine
end

section
namespace Sys2Proof.Machine

/-! ### A lane's parity fault (R275, R287) -/

@[simp] theorem overlapNow_frame (b : Bool) (s : State) : (overlapNow b s).lanes = s.lanes ∧ (overlapNow b s).eng = s.eng
    ∧ (overlapNow b s).adm = s.adm ∧ (overlapNow b s).rings = s.rings ∧ (overlapNow b s).pk = s.pk
    ∧ (overlapNow b s).otp = s.otp ∧ (overlapNow b s).out = s.out ∧ (overlapNow b s).sys.lost = s.sys.lost := by
  unfold overlapNow
  split <;> simp

theorem mem_quarantineLane (l : LaneId) (s : State) : l ∈ (quarantineLane l s).lanes.quarantined := by
  unfold quarantineLane
  dsimp only
  split
  next h => simpa using h
  next => simp

/-- What an anchor fault leaves: closing the open departure is all that it does beyond the device's own record of it. -/
structure AnchorKeeps (s t : State) : Prop where
  journal : JournalOnly s t
  grows : Grows s t
  eng : t.eng = s.eng

theorem AnchorKeeps.withSys {s t : State} (h : AnchorKeeps s t) (y : Sys) : AnchorKeeps s { t with sys := y } :=
  ⟨⟨h.journal.adm, h.journal.lanes⟩, ⟨h.grows.rings, h.grows.out⟩, h.eng⟩

theorem insertTick_anchorKeeps {s t : State} (h : AnchorKeeps s t) : AnchorKeeps s (insertTick false false t) :=
  ⟨h.journal.trans (insertTick_journalOnly ..), h.grows.trans (insertTick_grows ..), by rw [← h.eng]; simp⟩

theorem anchorFail_keeps (pub : Bool) (s : State) : AnchorKeeps s (anchorFail pub s) := by
  have hs : AnchorKeeps s s := ⟨.refl s, .refl s, rfl⟩
  unfold anchorFail
  split
  · exact hs
  · refine .withSys ?_ _
    split
    · exact insertTick_anchorKeeps (hs.withSys _)
    · exact hs.withSys _

/-- Beyond its quarantine a group without enough lanes changes only nonce counters of the lanes, and no thread. -/
@[simp] theorem checkGroup_lanes (g : LaneGroup) (s : State) : (checkGroup g s).lanes.ops = s.lanes.ops
    ∧ (checkGroup g s).lanes.queue = s.lanes.queue ∧ (checkGroup g s).lanes.quarantined = s.lanes.quarantined
    ∧ (checkGroup g s).lanes.underTest = s.lanes.underTest ∧ (checkGroup g s).eng.threads = s.eng.threads := by
  cases g with
  | die k =>
    simp only [checkGroup]
    split <;> simp
  | junction => exact ⟨rfl, rfl, rfl, rfl, rfl⟩
  | vault =>
    simp only [checkGroup]
    split
    · obtain ⟨hj, -, heng⟩ := anchorFail_keeps true (event 0x0805 0 [] s)
      rw [hj.lanes, heng]
      simp
    · exact ⟨rfl, rfl, rfl, rfl, rfl⟩

theorem checkGroup_vault_grows (s : State) : Grows s (checkGroup .vault s) := by
  simp only [checkGroup]
  split
  · exact (event_grows ..).trans (anchorFail_keeps true _).grows
  · exact .refl s

theorem laneWork_die {s : State} {k : Nat} {th : Thread} (h : some (Sum.inl th) ∈ laneWork s k) : th.id.die = k := by
  simp [laneWork] at h
  exact h.2.1

/-- A fault of a die's lane touches no lane's operation, and no thread of another die. -/
theorem doDieLaneFault_others (k : Nat) (s : State) : (doDieLaneFault k s).lanes = s.lanes
    ∧ ∀ th ∈ s.eng.threads, th.id.die ≠ k → th ∈ (doDieLaneFault k s).eng.threads := by
  have hframe := pick_frame (laneWork s k) s
  generalize hp : pick (laneWork s k) s = p at hframe
  obtain ⟨o, s'⟩ := p
  have hmem {a : Option (Thread ⊕ Item)} (h : o = some a) : a ∈ laneWork s k := pick_some_mem (s := s) (by rw [hp, h])
  obtain ⟨heng, hlanes⟩ : s'.eng = s.eng ∧ s'.lanes = s.lanes := by simp_all
  simp only [doDieLaneFault, hp]
  split
  next x th =>
    have hth : th.id.die = k := laneWork_die (hmem rfl)
    have hne {x : Thread} (h : x.id.die ≠ k) : x.id ≠ th.id := fun e => h (by rw [e, hth])
    split
    · exact ⟨by simp [faultThread, mapItem, hlanes], fun x hx hd => by simp [faultThread, mapItem, heng, hx, hne hd]⟩
    · refine ⟨hlanes, fun x hx hd => List.mem_map.2 ⟨x, heng ▸ hx, ?_⟩⟩
      exact if_neg (by simpa using hne hd)
  next i =>
    split
    · exact ⟨by simp [hlanes], fun x hx _ => by simp [heng, hx]⟩
    · exact ⟨by simp [mapItem, hlanes], fun x hx _ => by simp [mapItem, heng, hx]⟩
  · exact ⟨hlanes, fun x hx _ => heng ▸ hx⟩

/-- An operation that lost its lane runs no more as it did: it ends, or waits first in the queue with its fault noted. -/
theorem moveCipher_lanes (k : Nat) (c : CipherOp) (s : State) :
    (moveCipher k c s).lanes.quarantined = s.lanes.quarantined ∧ (moveCipher k c s).lanes.underTest = s.lanes.underTest := by
  have hkeeps (u : State) := settleLanes_laneKeeps u
  simp only [moveCipher]
  split
  · exact ⟨(hkeeps _).quarantined.trans (by simp [faultCipher, dropCipher]), (hkeeps _).underTest.trans (by simp [faultCipher, dropCipher])⟩
  · exact ⟨(hkeeps _).quarantined, (hkeeps _).underTest⟩

section
variable {c : CipherOp} {s : State} (k : Nat)

theorem moveCipher_gone (hq : ∀ x ∈ s.lanes.queue, x.work ≠ c.work) : c ∉ (moveCipher k c s).lanes.ops := by
  simp only [moveCipher]
  split
  next hf =>
    intro hc
    rcases (settleLanes_held (faultCipher c (dropCipher c s))).2 c hc with hc | ⟨x, hx, hs⟩
    · simp [faultCipher, dropCipher] at hc
    · exact hq x (by simpa [faultCipher, dropCipher] using hx) hs.fields.1.symm
  next hf =>
    intro hc
    rcases (settleLanes_held _).2 c hc with hc | ⟨x, hx, hs⟩
    · simp [dropCipher] at hc
    · rcases List.mem_cons.1 hx with rfl | hx
      · exact hf hs.fields.2.2.2
      · exact hq x hx hs.fields.1.symm

/-- A second fault ends it. -/
theorem moveCipher_faulted (hf : c.faulted = true) (ht : ringTakes (ringOf s c.work.ring) c.work.gen = true) :
    Completed (moveCipher k c s) c.work .fault 0 c.work.stamp := by
  simp only [moveCipher, hf, if_true]
  refine Completed.grows ?_ (settleLanes_laneKeeps _).grows
  exact finish_completed .fault 0 _ (by simpa [ringOf, dropCipher] using ht)

/-- The operation as it is placed again. -/
def refaulted (k : Nat) (c : CipherOp) : CipherOp := { c with faulted := true, lane := { group := .vault, lane := k } }

theorem moveCipher_placed (hf : c.faulted = false) (hl : freeLanes (dropCipher c s) ≠ []) :
    ∃ x ∈ (moveCipher k c s).lanes.ops, SameCipher (refaulted k c) x ∧ x.lane ∈ freeLanes (dropCipher c s) := by
  simp only [moveCipher, hf, Bool.false_eq_true, if_false]
  exact settleLanes_first (c := refaulted k c) (s := { dropCipher c s with lanes := { (dropCipher c s).lanes with
    queue := refaulted k c :: (dropCipher c s).lanes.queue } }) rfl hl

theorem moveCipher_queued (hf : c.faulted = false) (hl : freeLanes (dropCipher c s) = []) (hv : vaultLanes s ≠ []) :
    refaulted k c ∈ (moveCipher k c s).lanes.queue := by
  simp only [moveCipher, hf, Bool.false_eq_true, if_false]
  exact settleLanes_firstWaits (c := refaulted k c) (s := { dropCipher c s with lanes := { (dropCipher c s).lanes with
    queue := refaulted k c :: (dropCipher c s).lanes.queue } }) rfl hl hv

end

/-- What a lane's fault leaves before its group is looked at: the lane is in quarantine, everything that ran still runs. -/
structure LaneLost (l : LaneId) (s u : State) : Prop where
  lanes : u.lanes = (quarantineLane l s).lanes
  eng : u.eng = s.eng
  rings : u.rings = s.rings

/-- A parity fault takes its lane out of service, and then moves what that lane ran. -/
theorem doLaneParityFault_lost {l : LaneId} {s : State} (k : Nat) (hl : laneThere s l = true) (hq : l ∉ s.lanes.quarantined) :
    ∃ u, LaneLost l s u ∧ doLaneParityFault l k s = checkGroup l.group
      (match l.group, s.lanes.ops.find? fun c => c.lane == l with
      | .die n, _ => doDieLaneFault n u
      | _, some c => moveCipher k c u
      | _, none => u) := by
  refine ⟨overlapNow (s.lanes.ops.find? fun c => c.lane == l).isSome
    (event 0x0801 0 [(1, (laneCode l).1), (1, (laneCode l).2)] (quarantineLane l s)), ⟨by simp, by simp [quarantineLane], by simp [quarantineLane]⟩, ?_⟩
  unfold doLaneParityFault
  exact if_neg (by simp [hl, hq])

theorem mem_vaultLanes {j : LaneId} {s : State} : j ∈ vaultLanes s ↔ (j ∈ [0, 1, 2, 3].map fun k => ({ group := .vault, lane := k } : LaneId))
    ∧ j ∉ s.lanes.quarantined ∧ ∀ p ∈ s.lanes.underTest, p.2 ≠ j := by
  unfold vaultLanes
  rw [List.mem_filter]
  simp

theorem mem_freeLanes {j : LaneId} {s : State} : j ∈ freeLanes s ↔ j ∈ vaultLanes s ∧ ∀ c ∈ s.lanes.ops, c.lane ≠ j := by
  unfold freeLanes
  rw [List.mem_filter]
  simp

section
variable {l j : LaneId} {s u : State} (h : LaneLost l s u) (hq : l ∉ s.lanes.quarantined)
include h hq

/-- After the loss of a lane those in service are the others that were. -/
theorem mem_vaultLanes_lost : j ∈ vaultLanes u ↔ j ∈ vaultLanes s ∧ j ≠ l := by
  rw [mem_vaultLanes, mem_vaultLanes, h.lanes]
  simp only [quarantineLane, List.contains_eq_mem, hq, decide_false, Bool.false_eq_true, if_false, List.mem_cons, not_or,
    List.mem_filter, bne_iff_ne]
  constructor
  · rintro ⟨hm, ⟨hne, hjq⟩, hu⟩
    exact ⟨⟨hm, hjq, fun p hp he => hu p ⟨hp, he ▸ hne⟩ he⟩, hne⟩
  · rintro ⟨⟨hm, hjq, hu⟩, hne⟩
    exact ⟨hm, ⟨hne, hjq⟩, fun p hp => hu p hp.1⟩

/-- Those that are free are the others that were, where the one that is dropped ran on the lost lane. -/
theorem mem_freeLanes_lost {c : CipherOp} (hc : c.lane = l) :
    j ∈ freeLanes (dropCipher c u) ↔ j ∈ freeLanes s ∧ j ≠ l := by
  have hops : u.lanes.ops = s.lanes.ops := by rw [h.lanes]; rfl
  have hv : vaultLanes (dropCipher c u) = vaultLanes u := rfl
  rw [mem_freeLanes, mem_freeLanes, hv, mem_vaultLanes_lost h hq]
  simp only [dropCipher, hops, List.mem_filter, bne_iff_ne]
  constructor
  · rintro ⟨⟨hm, hne⟩, ho⟩
    exact ⟨⟨hm, fun x hx => if e : x = c then e ▸ hc ▸ hne.symm else ho x ⟨hx, e⟩⟩, hne⟩
  · rintro ⟨⟨hm, ho⟩, hne⟩
    exact ⟨⟨hm, hne⟩, fun x hx => ho x hx.1⟩

end

/-- What a parity fault does to the lanes, whichever group's it is. -/
theorem doLaneParityFault_quarantines {l : LaneId} {s : State} (k : Nat) (hl : laneThere s l = true) (hq : l ∉ s.lanes.quarantined) :
    l ∈ (doLaneParityFault l k s).lanes.quarantined ∧ ∀ p ∈ (doLaneParityFault l k s).lanes.underTest, p.2 ≠ l := by
  obtain ⟨u, hu, he⟩ := doLaneParityFault_lost k hl hq
  have hul : l ∈ u.lanes.quarantined ∧ ∀ p ∈ u.lanes.underTest, p.2 ≠ l := by
    rw [hu.lanes]
    exact ⟨mem_quarantineLane l s, by simp [quarantineLane]⟩
  rw [he]
  simp only [checkGroup_lanes]
  split
  · rwa [(doDieLaneFault_others _ u).1]
  · obtain ⟨h1, h2⟩ := moveCipher_lanes k _ u
    rwa [h1, h2]
  · exact hul

theorem doLaneParityFault_die {l : LaneId} {s : State} {n : Nat} (k : Nat) (hl : laneThere s l = true) (hq : l ∉ s.lanes.quarantined)
    (hn : l.group = .die n) : (doLaneParityFault l k s).lanes.ops = s.lanes.ops
      ∧ ∀ th ∈ s.eng.threads, th.id.die ≠ n → th ∈ (doLaneParityFault l k s).eng.threads := by
  obtain ⟨u, hu, he⟩ := doLaneParityFault_lost k hl hq
  obtain ⟨h1, h2⟩ := doDieLaneFault_others n u
  rw [he, hn]
  simp only [checkGroup_lanes, h1, hu.lanes]
  exact ⟨rfl, hu.eng ▸ h2⟩

section
variable {l : LaneId} {s : State} {c : CipherOp} (k : Nat) (hl : laneThere s l = true) (hq : l ∉ s.lanes.quarantined)
  (hv : l.group = .vault) (hc : s.lanes.ops.filter (fun c => c.lane == l) = [c]) (hw : ∀ x ∈ s.lanes.queue, x.work ≠ c.work)
include hl hq hv hc

/-- A vault lane's fault moves the operation that it ran. -/
theorem doLaneParityFault_moves : c.lane = l ∧ ∃ u, LaneLost l s u ∧ doLaneParityFault l k s = checkGroup .vault (moveCipher k c u) := by
  obtain ⟨u, hu, he⟩ := doLaneParityFault_lost k hl hq
  have hf : s.lanes.ops.find? (fun c => c.lane == l) = some c := by rw [← List.head?_filter, hc]; rfl
  have hm : c ∈ s.lanes.ops.filter fun c => c.lane == l := hc ▸ List.mem_singleton.2 rfl
  exact ⟨by simpa using (List.mem_filter.1 hm).2, u, hu, by rw [he, hv, hf]⟩

include hw

theorem doLaneParityFault_gone : c ∉ (doLaneParityFault l k s).lanes.ops := by
  obtain ⟨-, u, hu, he⟩ := doLaneParityFault_moves k hl hq hv hc
  rw [he, (checkGroup_lanes _ _).1]
  exact moveCipher_gone k (by rw [hu.lanes]; exact hw)

omit hw

theorem doLaneParityFault_second (hf : c.faulted = true) (ht : ringTakes (ringOf s c.work.ring) c.work.gen = true) :
    Completed (doLaneParityFault l k s) c.work .fault 0 c.work.stamp := by
  obtain ⟨-, u, hu, he⟩ := doLaneParityFault_moves k hl hq hv hc
  rw [he]
  exact (moveCipher_faulted k hf (by rwa [ringOf_congr hu.rings])).grows (checkGroup_vault_grows _)

theorem doLaneParityFault_again (hf : c.faulted = false) (hj : ∃ j ∈ freeLanes s, j ≠ l) :
    ∃ x ∈ (doLaneParityFault l k s).lanes.ops, x.work = c.work ∧ x.key = c.key ∧ x.faulted = true ∧ x.lane ≠ l := by
  obtain ⟨hcl, u, hu, he⟩ := doLaneParityFault_moves k hl hq hv hc
  obtain ⟨j, hj⟩ := hj
  rw [he, (checkGroup_lanes _ _).1]
  obtain ⟨x, hx, hs, hxl⟩ := moveCipher_placed k hf (List.ne_nil_of_mem ((mem_freeLanes_lost hu hq hcl).2 hj))
  obtain ⟨hwk, -, hkey, hflt⟩ := hs.fields
  exact ⟨x, hx, hwk, hkey, hflt, ((mem_freeLanes_lost hu hq hcl).1 hxl).2⟩

theorem doLaneParityFault_later (hf : c.faulted = false) (hj : ∀ j ∈ freeLanes s, j = l) (hg : ∃ j ∈ vaultLanes s, j ≠ l) :
    ∃ x ∈ (doLaneParityFault l k s).lanes.queue, x.work = c.work ∧ x.key = c.key ∧ x.faulted = true := by
  obtain ⟨hcl, u, hu, he⟩ := doLaneParityFault_moves k hl hq hv hc
  obtain ⟨j, hg⟩ := hg
  have hnone : freeLanes (dropCipher c u) = [] := List.eq_nil_iff_forall_not_mem.2 fun i hi => by
    obtain ⟨h1, h2⟩ := (mem_freeLanes_lost hu hq hcl).1 hi
    exact h2 (hj i h1)
  rw [he, (checkGroup_lanes _ _).2.1]
  exact ⟨_, moveCipher_queued k hf hnone (List.ne_nil_of_mem ((mem_vaultLanes_lost hu hq).2 hg)), rfl, rfl, rfl⟩

end

/-! ### Lane tests (R288, R289) -/

/-- The group rests in this pass, which does not start with its next lane. -/
def groupRests (s : State) (g : LaneGroup) : Prop :=
  s.lanes.rotation.atD (groupIdx g) 0 ≠ 0 ∧ groupIdx g ∈ s.lanes.resting

/-- The lane of the rotation's next slot. -/
def slotLane (s : State) (g : LaneGroup) : LaneId := { group := g, lane := s.lanes.rotation.atD (groupIdx g) 0 }

theorem doLaneTestSlot_rotation (g : LaneGroup) (s : State) :
    (doLaneTestSlot g s).lanes.rotation.atD (groupIdx g) 0 = (s.lanes.rotation.atD (groupIdx g) 0 + 1) % groupSize g := by
  simp only [doLaneTestSlot]
  split_ifs <;> simp

/-- The slot is skipped while its group rests or holds a quarantined lane, and this lane is not that one; otherwise the lane
is put aside. -/
theorem doLaneTestSlot_underTest (g : LaneGroup) (s : State) :
    ((slotLane s g ∉ s.lanes.quarantined ∧ (groupRests s g ∨ groupBad s g = true)) →
      (doLaneTestSlot g s).lanes.underTest = s.lanes.underTest)
    ∧ (¬(slotLane s g ∉ s.lanes.quarantined ∧ (groupRests s g ∨ groupBad s g = true)) →
      (doLaneTestSlot g s).lanes.underTest = s.lanes.underTest.put (groupIdx g) (slotLane s g)) := by
  have hr : groupIdx g ∈ (if s.lanes.rotation.atD (groupIdx g) 0 = 0 then s.lanes.resting.filter fun x => x != groupIdx g
      else s.lanes.resting) ↔ groupRests s g := by
    unfold groupRests
    split
    next h => simp [h]
    next h => simp [h]
  have hl : ({ group := g, lane := s.lanes.rotation.atD (groupIdx g) 0 } : LaneId) = slotLane s g := rfl
  simp only [doLaneTestSlot, apply_ite State.lanes, apply_ite Lanes.underTest, event_frame, ite_self, groupBad,
    Bool.and_eq_true, Bool.not_eq_true', List.contains_eq_mem, decide_eq_false_iff_not, decide_eq_true_eq, hl]
  constructor
  · rintro ⟨hq, h | h⟩
    · exact if_pos ⟨hr.2 h, hq⟩
    · exact ite_eq_left_iff.2 fun _ => if_pos ⟨h, hq⟩
  · intro h
    rw [if_neg fun h1 => h ⟨h1.2, .inl (hr.1 h1.1)⟩, if_neg fun h2 => h ⟨h2.2, .inr h2.1⟩]

@[simp] theorem returnDie_lanes (k : Nat) (s : State) : (returnDie k s).lanes = s.lanes := by
  simp [returnDie, dealBuckets]

theorem settleLanes_tests (s : State) : (settleLanes s).lanes.quarantined = s.lanes.quarantined
    ∧ (settleLanes s).lanes.underTest = s.lanes.underTest :=
  ⟨(settleLanes_laneKeeps s).quarantined, (settleLanes_laneKeeps s).underTest⟩

/-- What is deleted is not found again among fewer entries. -/
theorem at?_filter_del {α : Type} (q : Nat × α → Bool) (i : Nat) (t : Tbl α) : Tbl.at? ((t.del i).filter q) i = none := by
  have h : (t.del i).filter q = Tbl.del (t.filter q) i := by simp [Tbl.del, List.filter_filter, Bool.and_comm]
  rw [h, Tbl.at?_del_same]

/-- A lane that passes its test is in service again. -/
theorem endLaneTest_pass (l : LaneId) (s : State) : l ∉ (endLaneTest l true s).lanes.quarantined
    ∧ (endLaneTest l true s).lanes.underTest.at? (groupIdx l.group) = none := by
  simp only [endLaneTest, Bool.not_true, Bool.false_eq_true, if_false]
  split
  next h =>
    obtain ⟨h1, h2⟩ := settleLanes_tests { s with lanes := { s.lanes with underTest := s.lanes.underTest.del (groupIdx l.group) } }
    rw [h1, h2]
    exact ⟨by simpa using h, by simp⟩
  next h =>
    obtain ⟨h1, h2⟩ := settleLanes_tests (event 0x0803 0 [] { s with lanes := { s.lanes with
      underTest := s.lanes.underTest.del (groupIdx l.group), quarantined := s.lanes.quarantined.filter fun x => x != l
      resting := groupIdx l.group :: s.lanes.resting } })
    split
    · rw [apply_ite State.lanes, returnDie_lanes, ite_self, h1, h2]
      simp
    · rw [h1, h2]
      simp

/-- One that fails it is quarantined. -/
theorem endLaneTest_fail (l : LaneId) (s : State) : l ∈ (endLaneTest l false s).lanes.quarantined
    ∧ (endLaneTest l false s).lanes.underTest.at? (groupIdx l.group) = none := by
  simp only [endLaneTest, Bool.not_false, if_true, checkGroup_lanes, event_frame]
  exact ⟨mem_quarantineLane l _, at?_filter_del _ _ _⟩

theorem doLaneTestDone_busy {g : LaneGroup} {l : LaneId} {s : State} (hu : s.lanes.underTest.at? (groupIdx g) = some l)
    (h : ∃ c ∈ s.lanes.ops, c.lane = l) (pass : Bool) : doLaneTestDone g pass s = s := by
  obtain ⟨x, hx, he⟩ := h
  simp only [doLaneTestDone, hu]
  exact if_pos (List.any_eq_true.2 ⟨x, hx, by simp [he]⟩)

theorem doLaneTestDone_idle {g : LaneGroup} {l : LaneId} {s : State} (hu : s.lanes.underTest.at? (groupIdx g) = some l)
    (h : ∀ c ∈ s.lanes.ops, c.lane ≠ l) (pass : Bool) : doLaneTestDone g pass s = endLaneTest l pass s := by
  simp only [doLaneTestDone, hu]
  exact if_neg (by simpa using h)

end Sys2Proof.Machine
end

section
namespace Sys2Proof.Machine

/-! ### What an operation of a public-key engine ends with (R296, R300-R306) -/

/-- An operation has ended between s and v: its completion and output are delivered, and the operations that are held or
wait are as before. -/
structure PkEnded (s v : State) (w : Work) (st : Status) (d : Nat) (out : Bytes) : Prop where
  completed : Completed v w st d w.stamp
  wrote : Wrote s v w out
  ops : v.pk.ops = s.pk.ops
  queue : v.pk.queue = s.pk.queue

theorem finish_pkEnded_of {s u : State} {w : Work} (st : Status) (d : Nat) (out : Bytes) (hr : u.rings = s.rings)
    (hl : u.link = s.link) (ho : u.pk.ops = s.pk.ops) (hq : u.pk.queue = s.pk.queue)
    (ht : ringTakes (ringOf s w.ring) w.gen = true) : PkEnded s (finish w st d out u) w st d out := by
  have hring := ringOf_congr hr w.ring
  have ht' : ringTakes (ringOf u w.ring) w.gen = true := by rwa [hring]
  have hfunc : w.func u = w.func s := by rw [Work.func, hring, Work.func]
  refine ⟨finish_completed st d out ht', fun hb hm => ?_, by simp [ho], by simp [hq]⟩
  rw [← hfunc] at hm ⊢
  exact finish_wrote st d out ht' hb (hl ▸ hm)

theorem finish_pkEnded {s : State} {w : Work} (st : Status) (d : Nat) (out : Bytes)
    (ht : ringTakes (ringOf s w.ring) w.gen = true) : PkEnded s (finish w st d out s) w st d out :=
  finish_pkEnded_of st d out rfl rfl rfl rfl ht

theorem PkEnded.event {s v : State} {w : Work} {st : Status} {d : Nat} {out : Bytes} (h : PkEnded s v w st d out)
    (code owner : Nat) (args : List (Nat × Nat)) : PkEnded s (event code owner args v) w st d out :=
  ⟨h.completed.grows (event_grows ..), h.wrote.grows (event_grows ..), by simp [h.ops], by simp [h.queue]⟩

/-- Settling what comes after the end of an operation leaves its completion, and holds no other operation of its item. -/
theorem doPkOperationDone_ends {s : State} {id : WorkId} {n : Nat} {c : PkOp} {st : Status} {d : Nat} {out : Bytes}
    (hf : s.pk.ops.find? (fun c => c.running && c.work.ring == id.ring && c.work.idx == id.idx) = some c)
    (h : PkEnded (dropPk c s) (endPk c n (dropPk c s)) c.work st d out) :
    Completed (doPkOperationDone id n s) c.work st d c.work.stamp ∧ Wrote s (doPkOperationDone id n s) c.work out
    ∧ (OnlyPk s c → ∀ x ∈ (doPkOperationDone id n s).pk.ops ++ (doPkOperationDone id n s).pk.queue, x.work ≠ c.work)
    ∧ PkKeeps (endPk c n (dropPk c s)) (doPkOperationDone id n s) := by
  have hab := endAborts_opsFrom c.engine (endPk c n (dropPk c s))
  have hset := settlePk_settles (endAborts c.engine (endPk c n (dropPk c s)))
  have hk := hab.keeps.trans hset.keeps
  simp only [doPkOperationDone, hf]
  refine ⟨h.completed.grows hk.grows, Wrote.grows (s := dropPk c s) h.wrote hk.grows, fun ho => dropPk_gone ho fun y hy => ?_, hk⟩
  obtain ⟨x, hx, hxy⟩ := hset.works y hy
  obtain ⟨z, hz, hzx⟩ := hab.works x hx
  rw [h.ops, h.queue] at hz
  exact ⟨z, hz, hzx.trans hxy⟩

section
variable {s : State} {c : PkOp} (n : Nat) (ht : ringTakes (ringOf s c.work.ring) c.work.gen = true)
include ht

/-- Without the generator an operation that draws ends so (R304). -/
theorem endPk_noGenerator (hr : needsRandom c.work = true) (hd : canDraw s = false) :
    PkEnded s (endPk c n s) c.work .rngUnavailable 0 [] ∧ (endPk c n s).keys = s.keys := by
  simp only [endPk, hr, hd, Bool.not_false, Bool.and_self, if_true]
  exact ⟨finish_pkEnded .rngUnavailable 0 [] ht, by simp⟩

omit ht in
theorem endPk_verify (h : dOp c.work.desc = 0x41) : endPk c n s = endVerify c s := by
  simp [endPk, needsRandom, h]

omit ht in
theorem endPk_curveLoad (h : dOp c.work.desc = 0x45) : endPk c n s = endCurve c s := by
  simp [endPk, needsRandom, h]

omit ht in
theorem endPk_sign (h : dOp c.work.desc = 0x40) (hd : needsRandom c.work = false ∨ canDraw s = true) :
    endPk c n s = endSign c n s := by
  have hdraw : (needsRandom c.work && !canDraw s) = false := by rcases hd with h | h <;> simp [h]
  simp [endPk, hdraw, h]

/-- A signature is checked for its form, then for what it says (R300). -/
theorem endVerify_ends : 
    let pub := onCurve s c (c.work.input.take (pubLen s c.owner (kPset c.work) (kVar c.work)))
    let sig := slice c.work.input (pubLen s c.owner (kPset c.work) (kVar c.work)) (sigLen s c.owner (kPset c.work) (kVar c.work))
    let formed := Config.valid (validPub (kAlg c.work)) pub = true ∧ Config.valid (validSig (kAlg c.work)) (onCurve s c sig) = true
    let ends := fun (st : Status) (d : Nat) => PkEnded s (endVerify c s) c.work st d [] ∧ (endVerify c s).keys = s.keys
    (¬formed → ends .paramInvalid 0)
    ∧ (formed → Config.verify (pkScheme c.work) pub (pkMessage s c) sig = true → ends .ok 0)
    ∧ (formed → Config.verify (pkScheme c.work) pub (pkMessage s c) sig = false → ends .authFail 1) := by
  intro pub sig formed ends
  have hform : (!Config.valid (validPub (kAlg c.work)) pub || !Config.valid (validSig (kAlg c.work)) (onCurve s c sig)) = true
      ↔ ¬formed := by
    simp only [formed, Bool.or_eq_true, Bool.not_eq_true', not_and_or, Bool.not_eq_true]
  have heq : endVerify c s = if ¬formed then finish c.work .paramInvalid 0 [] s
      else if Config.verify (pkScheme c.work) pub (pkMessage s c) sig then finish c.work .ok 0 [] s
      else finish c.work .authFail 1 [] s := if_congr hform rfl rfl
  have hfin (st : Status) (d : Nat) (h : endVerify c s = finish c.work st d [] s) : ends st d :=
    ⟨h ▸ finish_pkEnded st d [] ht, by simp [h]⟩
  refine ⟨fun hn => hfin _ _ ?_, fun hf hv => hfin _ _ ?_, fun hf hv => hfin _ _ ?_⟩
  · rw [heq, if_pos hn]
  · rw [heq, if_neg (not_not.2 hf), if_pos hv]
  · rw [heq, if_neg (not_not.2 hf), if_neg (by simp [hv])]

/-- A private key that is not valid signs nothing, an ML-DSA signature that exhausts its rounds fails, and any other is
of the message (R300, R301). -/
theorem endSign_ends :
    (Config.valid (validPriv (kAlg c.work)) (pkMaterial s c) = false →
      PkEnded s (endSign c n s) c.work .paramInvalid 0 [] ∧ (endSign c n s).keys = s.keys)
    ∧ (Config.valid (validPriv (kAlg c.work)) (pkMaterial s c) = true → isMldsa (kPset c.work) = true → 1000 ≤ n →
      PkEnded s (endSign c n s) c.work .fault 0 [] ∧ (endSign c n s).keys = s.keys)
    ∧ (Config.valid (validPriv (kAlg c.work)) (pkMaterial s c) = true → isMldsa (kPset c.work) = false ∨ n < 1000 →
      ∃ r, PkEnded s (endSign c n s) c.work .ok 0 (le (sigLen s c.owner (kPset c.work) (kVar c.work))
        (Config.sign (pkScheme c.work) (pkMaterial s c) (pkMessage s c) r)) ∧ (endSign c n s).keys = s.keys) := by
  refine ⟨fun hv => ?_, fun hv hm hn => ?_, fun hv hn => ?_⟩
  · simp only [endSign, hv, Bool.not_false, if_true]
    exact ⟨finish_pkEnded .paramInvalid 0 [] ht, by simp⟩
  · simp only [endSign, hv, hm, hn, Bool.not_true, Bool.false_eq_true, if_false, Bool.true_and, decide_true, if_true]
    exact ⟨(finish_pkEnded .fault 0 [] ht).event .., by simp⟩
  · have hr : ¬(isMldsa (kPset c.work) && decide (1000 ≤ n)) = true := by
      rcases hn with h | h
      · simp [h]
      · simp [h]
    simp only [endSign, hv, Bool.not_true, Bool.false_eq_true, if_false, if_neg hr]
    cases needsRandom c.work with
    | false => exact ⟨0, finish_pkEnded .ok 0 _ ht, by simp⟩
    | true =>
      exact ⟨(drawNat s).1, finish_pkEnded_of .ok 0 _ (by simp) (by simp) (by simp) (by simp) ht, by simp⟩

/-- The curve is held, in place of another of its index. -/
def curveHeld (v : Curve) (s : State) : State :=
  { s with pk := { s.pk with curves := v :: s.pk.curves.filter fun x => x.index != v.index } }

omit ht in
theorem curveHeld_frame (v : Curve) (s : State) : (curveHeld v s).rings = s.rings ∧ (curveHeld v s).link = s.link
    ∧ (curveHeld v s).pk.ops = s.pk.ops ∧ (curveHeld v s).pk.queue = s.pk.queue := ⟨rfl, rfl, rfl, rfl⟩

/-- A curve that passes every check is held at its index, and its command answers with both (R305, R306). -/
def heldCurve (c : PkOp) (i : Nat) (s : State) : State :=
  let v : Curve := { index := i, owner := c.owner, params := c.work.input }
  event 0x0816 c.owner [(1, c.owner), (1, i), (8, leNat v.tag)]
    (finish c.work .ok 0 (le 1 i ++ zeros 7 ++ v.tag) (curveHeld v s))

/-- A curve that fails a check of R305 is not held, and the check is named; one that passes all is held (R305, R306). -/
theorem endCurve_ends : (curveErr c.work.input ≠ 0 →
      PkEnded s (endCurve c s) c.work .paramInvalid (curveErr c.work.input) [] ∧ (endCurve c s).pk.curves = s.pk.curves)
    ∧ ∀ i, curveErr c.work.input = 0 → curveIndex s c.owner c.work.input = some i → ∃ out,
      PkEnded s (endCurve c s) c.work .ok 0 out
      ∧ { index := i, owner := c.owner, params := c.work.input } ∈ (endCurve c s).pk.curves := by
  refine ⟨fun he => ?_, fun i he hi => ?_⟩
  · simp only [endCurve, if_pos he]
    exact ⟨(finish_pkEnded .paramInvalid (curveErr c.work.input) [] ht).event .., by simp⟩
  · have hend : endCurve c s = heldCurve c i s := by simp only [endCurve, he, hi, ne_eq, not_true_eq_false, if_false, heldCurve, curveHeld]
    obtain ⟨hr, hl, ho, hq⟩ := curveHeld_frame { index := i, owner := c.owner, params := c.work.input } s
    rw [hend]
    exact ⟨_, (finish_pkEnded_of .ok 0 _ hr hl ho hq ht).event .., by simp [heldCurve, curveHeld]⟩

end

/-! ### A public-key engine fails (R310) -/

/-- What the fault of an engine leaves before its operations are moved: the engine is in quarantine. -/
theorem doPkEngineFault_quarantines {e : Nat} {s : State} (x : PkFault) (he : e ∈ pkEngines s) (hq : e ∉ s.pk.quarantined)
    (hd : dieIn s.sys.lost (e / 2) = false) : ∃ u, doPkEngineFault e x s = movePk e (quarantinePk e u)
      ∧ u.pk = s.pk ∧ u.rings = s.rings ∧ u.otp = s.otp ∧ u.sys.lost = s.sys.lost := by
  have hguard : ¬(!(pkEngines s).contains e || s.pk.quarantined.contains e || dieIn s.sys.lost (e / 2)) = true := by
    simp [he, hq, hd]
  unfold doPkEngineFault
  rw [if_neg hguard]
  dsimp only
  refine ⟨_, rfl, ?_⟩
  split
  · split <;> simp
  · simp

@[simp] theorem quarantinePk_frame (e : Nat) (s : State) : (quarantinePk e s).rings = s.rings
    ∧ (quarantinePk e s).otp = s.otp := by
  simp only [quarantinePk, apply_ite State.rings, apply_ite State.otp, event_frame, ite_self, and_self]

theorem pkServes_quarantined (e : Nat) (s : State) : pkServes (quarantinePk e s) e = false := by
  have h := mem_quarantinePk e s
  simp [pkServes, h]

/-- The other engines serve as before. -/
theorem pkAllowed_quarantinePk {e j op : Nat} {s u : State} (hp : u.pk = s.pk) (ho : u.otp = s.otp) (hl : u.sys.lost = s.sys.lost)
    (hj : j ∈ pkAllowed s op) (hne : j ≠ e) : j ∈ pkAllowed (quarantinePk e u) op := by
  have heng : pkEngines (quarantinePk e u) = pkEngines s := by simp [pkEngines, presentDies, ho]
  have hserves : pkServes s j = true → pkServes (quarantinePk e u) j = true := by
    intro h
    simp only [pkServes, Bool.and_eq_true, Bool.not_eq_true', bne_iff_ne, List.contains_eq_mem, decide_eq_true_eq,
      decide_eq_false_iff_not, heng, quarantinePk_pk, quarantinePk_sys, hp, hl] at h ⊢
    obtain ⟨⟨⟨hin, hq⟩, hu⟩, hd⟩ := h
    refine ⟨⟨⟨hin, ?_⟩, ?_⟩, hd⟩
    · split <;> simp [hq, hne]
    · split <;> simp [hu]
  unfold pkAllowed at hj ⊢
  rw [heng]
  split at hj <;> rename_i h
  · rw [if_pos h]
    exact List.mem_filter.2 ((List.mem_filter.1 hj).imp_right hserves)
  · rw [if_neg h]
    exact List.mem_filter.2 ((List.mem_filter.1 hj).imp_right hserves)

theorem endAborts_none {e : Nat} {s : State} (h : s.pk.aborts = []) : (endAborts e s).pk = s.pk := by
  simp only [endAborts, h, List.filter_nil, List.foldl_nil]
  rw [← h]

section
variable {e : Nat} {s u : State} {c : PkOp} (hc : (pkHolds s e).find? (·.running) = some c)
include hc

/-- The operation that the engine ran ends, where it had faulted before. -/
theorem movePk_second (hf : c.faulted = true) (ht : ringTakes (ringOf s c.work.ring) c.work.gen = true) :
    Completed (movePk e s) c.work .fault 0 c.work.stamp := by
  simp only [movePk, hc]
  have hk := (endAborts_pkKeeps e (faultPk c s)).trans ((clearEngine_pkKeeps e _).trans (settlePk_pkKeeps _))
  refine Completed.grows ?_ hk.grows
  simp only [faultPk, hf, if_true]
  exact (finish_completed (s := dropPk c s) .fault 0 [] ht).grows (event_grows ..)

/-- Otherwise it is placed again with its fault noted, where an engine may run it. -/
theorem movePk_again (hf : c.faulted = false) (ha : s.pk.aborts = []) (hp : pkAllowed s (dOp c.work.desc) ≠ []) :
    ∃ y ∈ (movePk e s).pk.ops ++ (movePk e s).pk.queue, y.work = c.work ∧ y.key = c.key ∧ y.faulted = true := by
  have hmem : c ∈ s.pk.ops ∧ c.engine = e := by simpa [pkHolds] using List.mem_of_find?_eq_some hc
  have hk := (faultPk_pkKeeps c s).trans ((endAborts_pkKeeps e _).trans (clearEngine_pkKeeps e _))
  have hpk : (endAborts e (faultPk c s)).pk = (faultPk c s).pk := endAborts_none (by simp [faultPk, hf, ha])
  have hq : { c with faulted := true, running := false } ∈ (clearEngine e (endAborts e (faultPk c s))).pk.queue := by
    refine List.mem_append_left _ (List.mem_map.2 ⟨{ c with faulted := true }, ?_, rfl⟩)
    rw [pkHolds, hpk, faultPk]
    simp only [hf, Bool.false_eq_true, if_false]
    refine List.mem_filter.2 ⟨List.mem_map.2 ⟨c, hmem.1, by simp⟩, by simp [hmem.2]⟩
  obtain ⟨y, hy, hs⟩ := (settlePk_settles (clearEngine e (endAborts e (faultPk c s)))).placed _ hq (by rw [hk.allowed]; exact hp)
  obtain ⟨hw, -, hkey, hflt⟩ := hs.fields
  simp only [movePk, hc]
  exact ⟨y, hy, hw, hkey, hflt⟩

end

/-! ### Public-key engine tests (R311) -/

/-- The engine of the rotation's next slot. -/
def slotPk (s : State) : Nat := (pkEngines s).getD (s.pk.rotation % (pkEngines s).length) 0

/-- The engines rest in this pass, which does not start with the next. -/
def pkRests (s : State) : Prop := s.pk.rotation % (pkEngines s).length ≠ 0 ∧ s.pk.resting = true

theorem doPkTestSlot_rotation (s : State) :
    (doPkTestSlot s).pk.rotation = (s.pk.rotation % (pkEngines s).length + 1) % (pkEngines s).length := by
  simp only [doPkTestSlot]
  split_ifs <;> simp

/-- The slot is skipped for an engine of a lost die, and while the engines rest or one of them is quarantined, unless it is
this one; otherwise the engine is put aside. -/
theorem doPkTestSlot_underTest (s : State) :
    ((dieIn s.sys.lost (slotPk s / 2) = true ∨ slotPk s ∉ s.pk.quarantined ∧ (pkRests s ∨ s.pk.quarantined ≠ [])) →
      (doPkTestSlot s).pk.underTest = s.pk.underTest)
    ∧ (¬(dieIn s.sys.lost (slotPk s / 2) = true ∨ slotPk s ∉ s.pk.quarantined ∧ (pkRests s ∨ s.pk.quarantined ≠ [])) →
      (doPkTestSlot s).pk.underTest = some (slotPk s)) := by
  have hr : (if s.pk.rotation % (pkEngines s).length = 0 then false else s.pk.resting) = true ↔ pkRests s := by
    unfold pkRests
    split
    next h => simp [h]
    next h => simp [h]
  have hl : (pkEngines s).getD (s.pk.rotation % (pkEngines s).length) 0 = slotPk s := rfl
  simp only [doPkTestSlot, apply_ite State.pk, apply_ite Pk.underTest, event_frame, ite_self, hl,
    Bool.and_eq_true, Bool.or_eq_true, Bool.not_eq_true', List.contains_eq_mem, decide_eq_false_iff_not, List.isEmpty_eq_false_iff]
  constructor
  · rintro (h | ⟨hq, h | h⟩)
    · exact if_pos (.inl h)
    · exact if_pos (.inr ⟨hr.2 h, hq⟩)
    · exact ite_eq_left_iff.2 fun _ => if_pos ⟨h, hq⟩
  · intro h
    rw [if_neg fun h1 => h (h1.imp_right fun h1 => ⟨h1.2, .inl (hr.1 h1.1)⟩), if_neg fun h2 => h (.inr ⟨h2.2, .inr h2.1⟩)]

theorem doPkTestDone_busy {e : Nat} {s : State} (hu : s.pk.underTest = some e) (h : ∃ c ∈ s.pk.ops, c.engine = e) (pass : Bool) :
    doPkTestDone pass s = s := by
  obtain ⟨x, hx, he⟩ := h
  simp only [doPkTestDone, hu]
  exact if_pos (List.any_eq_true.2 ⟨x, hx, by simp [he]⟩)

section
variable {e : Nat} {s : State} (hu : s.pk.underTest = some e) (h : ∀ c ∈ s.pk.ops, c.engine ≠ e)
include hu h

/-- An engine that passes its test serves again. -/
theorem doPkTestDone_pass : (doPkTestDone true s).pk.underTest = none ∧ e ∉ (doPkTestDone true s).pk.quarantined := by
  have hany : ¬(s.pk.ops.any fun c => c.engine == e) = true := by simpa using h
  simp only [doPkTestDone, hu, if_neg hany, Bool.not_true, Bool.false_eq_true, if_false]
  split
  next hq =>
    have hk := settlePk_pkKeeps (event 0x0812 0 [] { s with pk := { s.pk with
      underTest := none, lens := s.pk.lens.del e, quarantined := s.pk.quarantined.filter fun x => x != e, resting := true } })
    rw [hk.underTest, hk.quarantined]
    simp
  next hq =>
    have hk := settlePk_pkKeeps { s with pk := { s.pk with underTest := none, lens := s.pk.lens.del e } }
    rw [hk.underTest, hk.quarantined]
    exact ⟨rfl, by simpa using hq⟩

theorem doPkTestDone_fail : (doPkTestDone false s).pk.underTest = none ∧ e ∈ (doPkTestDone false s).pk.quarantined := by
  have hany : ¬(s.pk.ops.any fun c => c.engine == e) = true := by simpa using h
  simp only [doPkTestDone, hu, if_neg hany, Bool.not_false, if_true, event_frame]
  exact ⟨by simp [quarantinePk_pk], mem_quarantinePk e _⟩

end

end Sys2Proof.Machine
end

section
namespace Sys2Proof.Machine

/-- What a lane's operation delivers at its end, clause by clause of the statement. -/
theorem cipherDone_yields {s : State} {id : WorkId} {c : CipherOp} (ha : alive s = true)
    (hf : s.lanes.ops.find? (fun c => c.work.ring == id.ring && c.work.idx == id.idx) = some c)
    (hq : ∀ x ∈ s.lanes.queue, x.work ≠ c.work) (ht : ringTakes (ringOf s c.work.ring) c.work.gen = true) {e : CipherEnd}
    (he : cipherEnd c = e) : Yields (.cipherOperationDone id) s fun t =>
      Completed t c.work e.status e.detail c.work.stamp ∧ Wrote s t c.work e.out ∧ c ∉ t.lanes.ops :=
  yields_when rfl ha (he ▸ doCipherOperationDone_ends hf hq ht)

/-- A lane's test slot, in the words of the statement. -/
theorem laneSlot_yields {s : State} (ha : alive s = true) (g : LaneGroup) (hf : s.sys.firmwareUp = true)
    (hg : groupThere s g = true) (hu : s.lanes.underTest.at? (groupIdx g) = none) :
      Yields (.laneTestSlot g) s fun t =>
        t.lanes.rotation.atD (groupIdx g) 0 = (s.lanes.rotation.atD (groupIdx g) 0 + 1) % groupSize g
        ∧ (slotLane s g ∈ s.lanes.quarantined ∨ ¬groupRests s g ∧ groupBad s g = false →
            t.lanes.underTest.at? (groupIdx g) = some (slotLane s g))
        ∧ (slotLane s g ∉ s.lanes.quarantined ∧ (groupRests s g ∨ groupBad s g = true) →
            t.lanes.underTest.at? (groupIdx g) = none) := by
  refine yields_when rfl (by simp [ha, hf, hg, hu]) ⟨doLaneTestSlot_rotation g s, fun h => ?_, fun h => ?_⟩
  · rw [(doLaneTestSlot_underTest g s).2 ?_, Tbl.at?_put_same]
    rintro ⟨hq, hr⟩
    rcases h with h | ⟨h1, h2⟩
    · exact hq h
    · exact hr.elim h1 (by simp [h2])
  · rw [(doLaneTestSlot_underTest g s).1 h, hu]

/-- What the end of a public-key operation delivers. -/
theorem pkDone_yields {s : State} {id : WorkId} {n : Nat} {c : PkOp} {st : Status} {d : Nat} {out : Bytes} {P : State → Prop}
    (ha : alive s = true)
    (hf : s.pk.ops.find? (fun c => c.running && c.work.ring == id.ring && c.work.idx == id.idx) = some c)
    (h : PkEnded (dropPk c s) (endPk c n (dropPk c s)) c.work st d out) (hp : ∀ t, PkKeeps (endPk c n (dropPk c s)) t → P t) :
    Yields (.pkOperationDone id n) s fun t => Completed t c.work st d c.work.stamp ∧ Wrote s t c.work out
      ∧ (OnlyPk s c → ∀ x ∈ t.pk.ops ++ t.pk.queue, x.work ≠ c.work) ∧ P t := by
  obtain ⟨h1, h2, h3, hk⟩ := doPkOperationDone_ends hf h
  exact yields_when rfl ha ⟨h1, h2, h3, hp _ hk⟩

/-- The fault of a public-key engine, in the words of the statement. -/
theorem pkFault_yields {s : State} {e : Nat} (x : PkFault) (ha : alive s = true) (he : e ∈ pkEngines s)
    (hq : e ∉ s.pk.quarantined) (hd : dieIn s.sys.lost (e / 2) = false) (hab : s.pk.aborts = []) :
    Yields (.pkEngineFault e x) s fun t => e ∈ t.pk.quarantined ∧ (∀ c ∈ t.pk.ops, c.engine ≠ e)
      ∧ ∀ c, (pkHolds s e).find? (·.running) = some c →
        (c.faulted = true → ringTakes (ringOf s c.work.ring) c.work.gen = true → Completed t c.work .fault 0 c.work.stamp)
        ∧ (c.faulted = false → (∃ j ∈ pkAllowed s (dOp c.work.desc), j ≠ e) →
            ∃ y ∈ t.pk.ops ++ t.pk.queue, y.work = c.work ∧ y.key = c.key ∧ y.faulted = true) := by
  obtain ⟨u, hdo, hp, hr, ho, hl⟩ := doPkEngineFault_quarantines x he hq hd
  refine yields_when rfl ha ?_
  rw [hdo]
  refine ⟨?_, fun c hc => ?_, fun c hc => ?_⟩
  · rw [(movePk_pkKeeps e _).quarantined]
    exact mem_quarantinePk e u
  · rcases movePk_held e _ c hc with ⟨h, -⟩ | h
    · exact h
    · rintro rfl
      rw [pkServes_quarantined] at h
      exact absurd h (by simp)
  · have hops : (quarantinePk e u).pk.ops = s.pk.ops := by rw [quarantinePk_pk, hp]
    have haborts : (quarantinePk e u).pk.aborts = [] := by rw [quarantinePk_pk, hp, hab]
    have hc' : (pkHolds (quarantinePk e u) e).find? (·.running) = some c := by rwa [pkHolds, hops]
    refine ⟨fun hf ht => movePk_second hc' hf ?_, fun hf ⟨j, hj, hne⟩ => movePk_again hc' hf haborts ?_⟩
    · rwa [ringOf_congr (by simp [hr] : (quarantinePk e u).rings = s.rings)]
    · exact List.ne_nil_of_mem (pkAllowed_quarantinePk hp ho hl hj hne)

/-- Settles O46: the ends of operations by what `cipherEnd` and `endPk` deliver, the faults by where the operations go
(`moveCipher`, `movePk`), and the tests by what is put aside. -/
theorem laneAndPkEvents : Obligations.LaneAndPkEvents := by
  unfold Obligations.LaneAndPkEvents
  refine ⟨fun s ha => ⟨fun id c hf hq ht => ?_, fun l k hl hq => ⟨?_, fun c hv hc hw => ?_⟩, laneSlot_yields ha, fun g l hu =>
      ⟨fun hb pass => exec_when rfl ha (doLaneTestDone_busy hu hb pass), fun hi => ⟨yields_when rfl ha ?_, yields_when rfl ha ?_⟩⟩⟩,
    fun s ha => ⟨fun id n c hf ht => ?_, fun e x he hq hd hab => pkFault_yields x ha he hq hd hab, fun hfw hu => ?_, fun e hu =>
      ⟨fun hb pass => exec_when rfl ha (doPkTestDone_busy hu hb pass),
        fun hi => ⟨yields_when rfl ha (doPkTestDone_pass hu hi), yields_when rfl ha (doPkTestDone_fail hu hi)⟩⟩⟩⟩
  · have ends {e : CipherEnd} (he : cipherEnd c = e) := cipherDone_yields ha hf hq ht he
    refine ⟨ends rfl, fun h => ⟨fun hm => ?_, fun hm => ?_⟩, fun h hal => ends (cipherEnd_hash h hal), fun h => ⟨fun hr => ?_, fun hr => ?_⟩⟩
    · exact ends ((cipherEnd_macVerify h).trans (if_pos hm))
    · exact ends ((cipherEnd_macVerify h).trans (if_neg hm))
    · exact ends ((cipherEnd_aeadDecrypt h).trans (if_pos hr))
    · exact ends ((cipherEnd_aeadDecrypt h).trans (if_neg (Bool.eq_false_iff.1 hr)))
  · obtain ⟨h1, h2⟩ := doLaneParityFault_quarantines k hl hq
    exact yields_when rfl ha ⟨h1, h2, fun n hn => doLaneParityFault_die k hl hq hn⟩
  · exact yields_when rfl ha ⟨doLaneParityFault_gone k hl hq hv hc hw, doLaneParityFault_second k hl hq hv hc,
      doLaneParityFault_again k hl hq hv hc, doLaneParityFault_later k hl hq hv hc⟩
  · rw [doLaneTestDone_idle hu hi]
    exact endLaneTest_pass l s
  · rw [doLaneTestDone_idle hu hi]
    exact endLaneTest_fail l s
  · intro w ends keep pub sig formed draws
    have ht' : ringTakes (ringOf (dropPk c s) c.work.ring) c.work.gen = true := ht
    have done {st : Status} {d : Nat} {out : Bytes} {v : State} (hv : endPk c n (dropPk c s) = v)
        (h : PkEnded (dropPk c s) v c.work st d out ∧ v.keys = (dropPk c s).keys) : ends st d out keep :=
      pkDone_yields ha hf (hv ▸ h.1) fun t hk => hk.keys.trans (hv ▸ h.2)
    refine ⟨fun hr hd => done rfl (endPk_noGenerator n ht' hr hd), fun h41 => ?_, fun h40 hd => ?_, fun h45 he => ?_, fun i h45 he hi => ?_⟩
    · obtain ⟨h1, h2, h3⟩ := endVerify_ends (s := dropPk c s) ht'
      have hv := endPk_verify (s := dropPk c s) n h41
      exact ⟨fun h => done hv (h1 h), fun h hs => done hv (h2 h hs), fun h hs => done hv (h3 h hs)⟩
    · obtain ⟨h1, h2, h3⟩ := endSign_ends (s := dropPk c s) n ht'
      have hv := endPk_sign (s := dropPk c s) n h40 hd
      exact ⟨fun h => done hv (h1 h), fun h hm hn => done hv (h2 h hm hn), fun h hn => (h3 h hn).imp fun r hr => done hv hr⟩
    · obtain ⟨hend, hcurves⟩ := (endCurve_ends (s := dropPk c s) ht').1 he
      have hv := endPk_curveLoad (s := dropPk c s) n h45
      exact pkDone_yields ha hf (hv ▸ hend) fun t hk => by rw [hk.curves, hv, hcurves]; rfl
    · obtain ⟨out, hend, hcurve⟩ := (endCurve_ends (s := dropPk c s) ht').2 i he hi
      have hv := endPk_curveLoad (s := dropPk c s) n h45
      exact ⟨out, pkDone_yields ha hf (hv ▸ hend) fun t hk => by rw [hk.curves, hv]; exact hcurve⟩
  · refine yields_when rfl (by simp [ha, hfw, hu]) ⟨doPkTestSlot_rotation s, fun hd h => ?_, fun h => ?_⟩
    · refine (doPkTestSlot_underTest s).2 ?_
      rintro (hl | ⟨hq, hr⟩)
      · exact absurd (hd.symm.trans hl) (by simp)
      · rcases h with h | ⟨h1, h2⟩
        · exact hq h
        · exact hr.elim h1 fun hn => hn h2
    · rw [(doPkTestSlot_underTest s).1 h, hu]

end Sys2Proof.Machine
end

section
namespace Sys2Proof.Machine

/-! ### A ceremony that closes a journal block takes a nonce (R210, R254, R278) -/

/-- The place of a lane's nonce counter. -/
def laneCtr (l : LaneId) : Nat := 16 * (laneCode l).1 + (laneCode l).2

/-- The count that the lane's next class D nonce ends with. -/
def nonceCount (l : LaneId) (s : State) : Nat := s.lanes.ctr.atD (laneCtr l) 0

theorem classD_count (l : LaneId) (s : State) : nonceCount l (classD l s).2 = nonceCount l s + 1 := by
  simp [nonceCount, classD, laneCtr]

theorem classD_nonce (l : LaneId) (s : State) : (classD l s).1.drop 4 = le 8 (nonceCount l s) := by
  rw [classD]
  exact List.drop_left' (by simp)

theorem nonceCount_congr {s t : State} (h : t.lanes = s.lanes) (l : LaneId) : nonceCount l t = nonceCount l s := by
  rw [nonceCount, h, nonceCount]

theorem mapOwner_count (l : LaneId) (o : Nat) (f : Owner → Owner) (s : State) :
    nonceCount l (mapOwner o f s) = nonceCount l s := rfl

theorem vaultLanes_congr {s t : State} (h : t.lanes = s.lanes) : vaultLanes t = vaultLanes s := by
  rw [vaultLanes, h, vaultLanes]

theorem vaultLanes_mapOwner (o : Nat) (f : Owner → Owner) (s : State) : vaultLanes (mapOwner o f s) = vaultLanes s := rfl

theorem pick_single {α : Type} (a : α) (s : State) : (pick [a] s).1 = some a := by
  obtain ⟨b, hb, h⟩ := pick_mem (l := [a]) s (by simp)
  rwa [List.mem_singleton.1 hb] at h

section
variable {l : LaneId} {s : State} (hv : vaultLanes s = [l])
include hv

theorem vaultSeal_count (key : Bytes) (aad : Bytes → Bytes) (pt : Bytes) :
    nonceCount l (vaultSeal key aad pt s).2 = nonceCount l s + 1 := by
  simp only [vaultSeal, hv, pick_single, Option.getD_some, classD_count]
  rw [nonceCount_congr (s := s) (t := (pick [l] s).2) (by simp)]

/-- On the only vault lane in service a block that closes takes the next nonce. -/
theorem closeBlock_count {o : Nat} (ho : (ownerOf s o).blockOpen ≠ []) :
    nonceCount l (closeBlock o s) = nonceCount l s + 1 := by
  have step {u : State} (hu : u.lanes = s.lanes) (key : Bytes) (aad : Bytes → Bytes) (pt : Bytes) :
      nonceCount l (vaultSeal key aad pt u).2 = nonceCount l s + 1 := by
    rw [vaultSeal_count ((vaultLanes_congr hu).trans hv), nonceCount_congr hu]
  unfold closeBlock
  dsimp only
  split
  next h => exact absurd h ho
  · rw [mapOwner_count, step]
    repeat' split
    all_goals simp

/-- An entry that does not fit the open block closes it first. -/
theorem addEntry_count {o : Nat} {e : JEntry} (ho : (ownerOf s o).blockOpen ≠ [])
    (hs : 4096 < blockSize ((ownerOf s o).blockOpen ++ [e])) : nonceCount l (addEntry o e s) = nonceCount l s + 1 := by
  simp only [addEntry, if_pos hs]
  exact closeBlock_count hv ho

end

/-- A longer block is no smaller. -/
theorem blockSize_le_append (b : List JEntry) (e : JEntry) : blockSize b ≤ blockSize (b ++ [e]) := by
  simp only [blockSize, List.foldl_append, List.foldl_cons, List.foldl_nil, units64, ceilDiv]
  omega

theorem ownerOf_congr {s t : State} (h : t.adm.owners = s.adm.owners) (o : Nat) : ownerOf t o = ownerOf s o := by
  rw [ownerOf, h, ownerOf]

theorem backlogCheck_lanes (o : Nat) (s : State) : (backlogCheck o s).lanes = s.lanes := by
  simp only [backlogCheck]
  split_ifs <;> simp

/-- The only entry that waits, where no number is owed, is added at once: where the owner's open block is full that closes,
and takes a nonce. -/
theorem flushJournal_count {l : LaneId} {s : State} {o : Nat} {e : JEntry} (hv : vaultLanes s = [l])
    (howed : s.adm.owed = []) (hwait : (ownerOf s o).waiting = [e]) (ho : (ownerOf s o).blockOpen ≠ [])
    (hs : 4096 < blockSize (ownerOf s o).blockOpen) : nonceCount l (flushJournal o s) = nonceCount l s + 1 := by
  have hone : flushJournal o s = addEntry o e (mapOwner o (fun w => { w with waiting := [] }) s) := by
    simp [flushJournal, howed, hwait, sortBy, insertBy]
  rw [hone, addEntry_count ((vaultLanes_mapOwner ..).trans hv) (by simpa using ho)
    (by simpa using hs.trans_le (blockSize_le_append _ e)), mapOwner_count]

/-- The leaf of the only number that is owed is flushed at once. -/
theorem sealLeaf_count {l : LaneId} {s : State} {st : Stamp} {f : Leaf} (replay : Bytes) (hv : vaultLanes s = [l])
    (howed : s.adm.owed.filter (fun x => x.seq != st.seq) = []) (hwait : (ownerOf s f.owner).waiting = [])
    (ho : (ownerOf s f.owner).blockOpen ≠ []) (hs : 4096 < blockSize (ownerOf s f.owner).blockOpen) :
    nonceCount l (sealLeaf st f replay s) = nonceCount l s + 1 := by
  have filed {u : State} (e : JEntry) (hl : u.lanes = s.lanes) (ha : u.adm.owed = [])
      (hu : u.adm.owners = s.adm.owners) : nonceCount l (backlogCheck f.owner (flushJournal f.owner
        (mapOwner f.owner (fun w => { w with waiting := w.waiting ++ [e] }) u))) = nonceCount l s + 1 := by
    have hw := ownerOf_congr hu f.owner
    rw [nonceCount_congr (backlogCheck_lanes ..), flushJournal_count (e := e) ((vaultLanes_mapOwner ..).trans ((vaultLanes_congr hl).trans hv)) ha
      (by simp [hw, hwait]) (by simpa [hw] using ho) (by simpa [hw] using hs), mapOwner_count, nonceCount_congr hl]
  simp only [sealLeaf]
  split
  · exact filed _ (by simp) (by simpa using howed) (by simp)
  · exact filed _ (by simp) (by simpa using howed) (by simp)

end Sys2Proof.Machine
end

section
namespace Sys2Proof.Machine

/-! ### A DUAL cipher command whose ceremony closes a block (R210, R254, R284) -/

/-- The cipher operation of an item under a key, as it waits for a lane. -/
def cipherOpOf (o : Nat) (v : KeyView) (w : Work) : CipherOp :=
  { work := w, lane := { group := .vault, lane := 0 }, owner := o, key := v.key, nonce := [], faulted := false }

theorem doCipher_dual {s : State} {w : Work} (lane : Nat) {v : KeyView} {a : Accord} (hop : dOp w.desc ≠ 0x38)
    (hc : checkKey (w.func s) (cKey w) s = s) (hl : keyLineBad s (w.func s) (cKey w) = false)
    (hk : cipherKey s (w.func s) w = .inr (some v)) (hd : aDual v.attr = true) (hn : canNumber s = true)
    (ha : HasAccord s w (w.func s) (dOp w.desc) a) (hp : cipherParamsOk w v.key = true) :
    doCipher lane w s = startCipher lane (cipherOpOf (w.func s) v { w with stamp := some (nextStamp s) })
      (useKey v (ceremonyOk w a (cKey w) s).2) := by
  have hacc : accordCheck w.accordId (w.func s) (dOp w.desc) (sha w.input) s = .inr a := ha
  have hp' : cipherParamsOk { w with stamp := some (nextStamp s) } v.key = true := hp
  unfold doCipher
  simp only [hop, hc, hl, hk, hd, hn, hp', withCeremony, withAccord, hacc, ceremonyOk_stamp, if_false, Bool.and_false,
    Bool.false_eq_true, Option.map_some, Option.getD_some, if_true, Bool.not_true]
  rfl

theorem freeLanes_congr {s t : State} (h : t.lanes.ops = s.lanes.ops) (hv : vaultLanes t = vaultLanes s) :
    freeLanes t = freeLanes s := by
  rw [freeLanes, hv, h, freeLanes]

/-- With one lane free, an operation that takes a nonce takes that lane and its next nonce. -/
theorem laneCipher_only {l : LaneId} {c : CipherOp} {s : State} (hf : freeLanes s = [l])
    (hn : takesNonce (dOp c.work.desc) = true) :
    ∃ x, (laneCipher c s).lanes.ops = s.lanes.ops ++ [x] ∧ x.nonce.drop 4 = le 8 (nonceCount l s) := by
  obtain ⟨hfree, hsome, -, hlanes⟩ := vaultLane_spec c.lane.lane s
  obtain ⟨j, hj⟩ := hsome (by simp [hf])
  obtain rfl : j = l := by simpa [hf] using hfree j hj
  have hv : (vaultLanes s).isEmpty = false := List.isEmpty_eq_false_iff.2 (List.ne_nil_of_mem
    (List.mem_of_mem_filter (hfree j hj)))
  generalize hvl : vaultLane c.lane.lane s = p at hj hlanes
  obtain ⟨o, s'⟩ := p
  obtain rfl : o = some j := hj
  change s'.lanes = s.lanes at hlanes
  refine ⟨{ c with lane := j, nonce := (classD j s').1 }, ?_, by rw [classD_nonce, nonceCount_congr hlanes]⟩
  simp [laneCipher, hv, hvl, hn, hlanes]

/-- Where nothing runs or waits before it on the only vault lane in service, an operation starts at once. -/
theorem startCipher_only {l : LaneId} {c : CipherOp} {s : State} (lane : Nat) (hv : vaultLanes s = [l])
    (hops : s.lanes.ops = []) (hq : s.lanes.queue = []) (hn : takesNonce (dOp c.work.desc) = true) :
    ∃ x, (startCipher lane c s).lanes.ops = [x] ∧ x.nonce.drop 4 = le 8 (nonceCount l s) := by
  have hf : freeLanes { s with lanes := { s.lanes with queue := [] } } = [l] := by
    have hfree : freeLanes s = [l] := by simp [freeLanes, hv, hops]
    exact hfree
  obtain ⟨x, hx, hnonce⟩ := laneCipher_only (c := { c with lane := { group := .vault, lane := lane } }) hf hn
  refine ⟨x, ?_, hnonce⟩
  simpa [startCipher, settleLanes, hq, hops] using hx

/-- The ceremony's leaf is the only one owed: where the owner's open block is full it closes. -/
theorem ceremonyOk_count {l : LaneId} {s : State} {w : Work} {a : Accord} (handle : Nat) (hv : vaultLanes s = [l])
    (howed : s.adm.owed = []) (hwait : (ownerOf s a.owner).waiting = []) (ho : (ownerOf s a.owner).blockOpen ≠ [])
    (hs : 4096 < blockSize (ownerOf s a.owner).blockOpen) :
    nonceCount l (ceremonyOk w a handle s).2 = nonceCount l s + 1 := by
  change nonceCount l (sealLeaf _ _ _ (issue a.owner (dropAccord a s)).2) = _
  rw [sealLeaf_count]
  · rfl
  · exact hv
  · simp [issue, dropAccord, howed]
  · exact hwait
  · exact ho
  · exact hs

end Sys2Proof.Machine
end

section
namespace Sys2Proof.Machine

/-- Sealing a leaf changes nothing of the lanes but their nonce counters. -/
theorem sealLeaf_lanes (st : Stamp) (f : Leaf) (replay : Bytes) (s : State) :
    (sealLeaf st f replay s).lanes = { s.lanes with ctr := (sealLeaf st f replay s).lanes.ctr } := by
  have hj (u : State) := (flushJournal_journalOnly f.owner u).trans (backlogCheck_journalOnly f.owner _)
  simp only [sealLeaf]
  rw [(hj _).lanes]
  split <;> simp

theorem ceremonyOk_lanes (w : Work) (a : Accord) (handle : Nat) (s : State) :
    (ceremonyOk w a handle s).2.lanes = { s.lanes with ctr := (ceremonyOk w a handle s).2.lanes.ctr } :=
  sealLeaf_lanes ..

theorem vaultLanes_ctr {s t : State} {c : Tbl Nat} (h : t.lanes = { s.lanes with ctr := c }) :
    vaultLanes t = vaultLanes s := by
  rw [vaultLanes, h, vaultLanes]

/-- A DUAL command on the only vault lane in service, whose ceremony closes a block, starts with the second nonce: the
first one seals the block. -/
theorem doCipher_secondNonce {l : LaneId} {s : State} {w : Work} (lane : Nat) {v : KeyView} {a : Accord}
    (hop : dOp w.desc ≠ 0x38) (hc : checkKey (w.func s) (cKey w) s = s) (hl : keyLineBad s (w.func s) (cKey w) = false)
    (hk : cipherKey s (w.func s) w = .inr (some v)) (hd : aDual v.attr = true) (hcan : canNumber s = true)
    (ha : HasAccord s w (w.func s) (dOp w.desc) a) (hp : cipherParamsOk w v.key = true)
    (hn : takesNonce (dOp w.desc) = true) (hv : vaultLanes s = [l]) (hops : s.lanes.ops = []) (hq : s.lanes.queue = [])
    (howed : s.adm.owed = []) (hwait : (ownerOf s a.owner).waiting = []) (ho : (ownerOf s a.owner).blockOpen ≠ [])
    (hs : 4096 < blockSize (ownerOf s a.owner).blockOpen) :
    ∃ x, (doCipher lane w s).lanes.ops = [x] ∧ x.nonce.drop 4 = le 8 (nonceCount l s + 1) := by
  have hlanes : (useKey v (ceremonyOk w a (cKey w) s).2).lanes = (ceremonyOk w a (cKey w) s).2.lanes := by simp
  have hctr := hlanes.trans (ceremonyOk_lanes w a (cKey w) s)
  rw [doCipher_dual lane hop hc hl hk hd hcan ha hp, ← ceremonyOk_count (w := w) (cKey w) hv howed hwait ho hs,
    ← nonceCount_congr hlanes l]
  exact startCipher_only lane ((vaultLanes_ctr hctr).trans hv) (by rw [hctr, hops]) (by rw [hctr, hq]) hn

/-! ### The counterexample to O44 -/

/-- The vault lane that is in service in `foretold`. -/
def lane0 : LaneId := { group := .vault, lane := 0 }

/-- AEAD_ENCRYPT of nothing with key 65 and accord 7, whose item already carries the number that its ceremony will take. -/
def foretoldWork : Work :=
  { ring := 0, gen := 1, idx := 3, desc := BitVec.ofNat 512 (0x30 + 7 * 2 ^ 240 + 4161 * 2 ^ 256), src := []
    stamp := some { seq := 1, t := 1, dep := 0 } }

/-- Owner 1's DUAL cipher key of 32 bytes. -/
def dualSlot : Slot := { payload := List.replicate 64 8, attr := 0x0102_0000 ||| 0x0400 ||| 0x0200 ||| 32, gen := 1, state := 1 }

def foretoldAccord : Accord :=
  { no := 7, openT := 0, windowS := 60, owner := 1, m := 0, opcode := 0x30, digest := Config.sha384 foretoldWork.input
    body := [], signers := [] }

/-- A device with one vault lane in service, whose owner 1 has a full journal block open. -/
def foretold : State where
  sys := { state := .ready }
  rings := { tbl := [(0, { cls := 2, func := 1, state := .running, gen := 1 })] }
  adm := { nextSeq := 1, work := [foretoldWork]
           owners := [(1, { blockOpen := [{ seq := 0, dep := 0, leaf := List.replicate 4096 0, replay := [] }] })] }
  dep := { isOpen := true }
  flash := { counters := [{ type := 3, writeNo := 1, epoch := 0, departure := 0, sequence := 0, seqHigh := 10 ^ 6
                            depHigh := 10 ^ 6, head := 0, accordHigh := 10 ^ 6 }] }
  keys := { accords := [foretoldAccord], slots := [(65, { dualSlot with check := slotCheck {} 65 dualSlot })] }
  lanes := { quarantined := [{ group := .vault, lane := 1 }, { group := .vault, lane := 2 }, { group := .vault, lane := 3 }] }

/-- The view of key 65. -/
def foretoldKey : KeyView := { ref := .slot 65, attr := dualSlot.attr, gen := 1, state := 1, key := List.replicate 32 8 }

theorem foretold_waits : Waits foretold { ring := 0, idx := 3 } 0x30 foretoldWork := by decide +kernel

theorem foretold_checkKey : checkKey 1 4161 foretold = foretold := by
  have href : refOf foretold 1 4161 = some (.slot 65) := by decide +kernel
  simp only [checkKey, href, checkSlot]
  exact if_pos (beq_iff_eq.2 rfl)

theorem foretold_accord : HasAccord foretold foretoldWork 1 0x30 foretoldAccord :=
  accordCheck_passes (List.find?_cons_of_pos (by decide +kernel)) rfl rfl rfl (by decide +kernel) (by decide +kernel)

theorem foretold_key : cipherKey foretold 1 foretoldWork = .inr (some foretoldKey) := by decide +kernel

/-- The operation that starts ends its nonce with the count 1: the block that closed took count 0. -/
theorem foretold_secondNonce : ∃ x, (doCipher 0 foretoldWork (taken foretoldWork foretold)).lanes.ops = [x]
    ∧ x.nonce.drop 4 = le 8 1 := by
  have hfunc : foretoldWork.func (taken foretoldWork foretold) = 1 := by decide +kernel
  have hkey : cKey foretoldWork = 4161 := by decide +kernel
  have hop : dOp foretoldWork.desc = 0x30 := by decide +kernel
  refine doCipher_secondNonce (l := lane0) 0 (v := foretoldKey) (a := foretoldAccord) ?_ ?_ ?_ ?_ ?_ ?_ ?_ ?_ ?_ ?_ rfl rfl rfl
    ?_ ?_ ?_
  · decide +kernel
  · rw [hfunc, hkey]
    exact checkKey_stable foretold_checkKey rfl rfl
  · decide +kernel
  · decide +kernel
  · decide +kernel
  · decide +kernel
  · rw [hfunc, hop]
    exact accordCheck_taken foretold_accord
  · decide +kernel
  · decide +kernel
  · decide +kernel
  · decide +kernel
  · decide +kernel
  · decide +kernel

theorem foretold_run : exec (.aeadEncrypt { ring := 0, idx := 3 } 0) foretold
    = .next (doCipher 0 foretoldWork (taken foretoldWork foretold)) :=
  congrArg Host.Outcome.next (withWork_taken (doCipher 0) foretold_waits)

/-- The clause of the statement on DUAL keys asks for the nonce that the lane would take next in `foretold`. -/
theorem foretold_asked (h : Obligations.CipherCommands) :
    ∃ x, (doCipher 0 foretoldWork (taken foretoldWork foretold)).lanes.ops = [x] ∧ x.nonce = (classD lane0 foretold).1 := by
  have hfunc : foretoldWork.func foretold = 1 := by decide +kernel
  have hkey : cKey foretoldWork = 4161 := by decide +kernel
  have hfree : freeLanes foretold = [lane0] := by decide +kernel
  obtain ⟨-, hcommand⟩ := h foretold { ring := 0, idx := 3 } foretoldWork 0
  obtain ⟨-, hkeyed⟩ := hcommand (.aeadEncrypt { ring := 0, idx := 3 } 0) 0x30 (by simp) foretold_waits
    (.inr (by rw [hfunc, hkey]; exact ⟨foretold_checkKey, by decide +kernel⟩))
  obtain ⟨-, hdual⟩ := hkeyed (some foretoldKey) (by rw [hfunc]; exact foretold_key)
  obtain ⟨hready, -⟩ := hdual foretoldKey foretoldAccord rfl (by decide +kernel) (by decide +kernel)
    (by rw [hfunc]; exact foretold_accord)
  obtain ⟨t, ht, ⟨-, -, hstarts, -⟩, -⟩ := hready (by decide +kernel) (by decide +kernel)
  obtain ⟨x, hops, -, hlane, -, -, hnonce⟩ := hstarts rfl (by simp [hfree])
  obtain rfl : doCipher 0 foretoldWork (taken foretoldWork foretold) = t :=
    Host.Outcome.next.inj (foretold_run.symm.trans ht)
  have hlane0 : x.lane = lane0 := by simpa [hfree] using hlane
  exact ⟨x, hops, hlane0 ▸ hnonce rfl rfl⟩

/-- Refutes O44: where an item already carries the stamp that its ceremony will take, the statement asks for the nonce that
its lane would take next. But sealing the CEREMONY leaf closes the owner's full journal block, which takes that nonce on the
one vault lane in service, and the operation takes the one after it. -/
theorem not_cipherCommands : ¬ Obligations.CipherCommands := by
  intro h
  obtain ⟨x, hx, hfirst⟩ := foretold_asked h
  obtain ⟨y, hy, hsecond⟩ := foretold_secondNonce
  obtain rfl : y = x := List.singleton_injective (hy.symm.trans hx)
  rw [hfirst, classD_nonce] at hsecond
  revert hsecond
  decide +kernel

end Sys2Proof.Machine
end

section
namespace Sys2Proof.Machine

/-! ### Host writes that reach their register (R464, R476, R483) -/

/-- A write that the rule of its slot and the device state let through runs. -/
theorem hostWrite_of_mayWrite {s : State} {off : Nat} (h : HostMayWrite s off) (len : Nat) (f : State → State) :
    hostWrite off len f s = f s := by
  obtain ⟨hopen, hgrant, hgate, hstabled⟩ := h
  simp [hostWrite, hostWriteIn, hopen, hgrant, hgate, hstabled]

theorem exec_hostWrite {c : Instr} {s t : State} {off len : Nat} {f : State → State}
    (he : exec c s = .next (hostWrite off len f s)) (h : HostMayWrite s off) (ht : f s = t) : exec c s = .next t := by
  rw [he, hostWrite_of_mayWrite h, ht]

theorem yields_hostWrite {c : Instr} {s : State} {off len : Nat} {f : State → State} {P : State → Prop}
    (he : exec c s = .next (hostWrite off len f s)) (h : HostMayWrite s off) (hp : P (f s)) : Yields c s P :=
  ⟨f s, exec_hostWrite he h rfl, hp⟩

/-! ### Set-up of rings (R69-R74) -/

/-- Every ring but r is as it was, and so are admission and the link. -/
def OnlyRing (r : Nat) (s t : State) : Prop :=
  (∀ q, q ≠ r → ringOf t q = ringOf s q) ∧ t.adm = s.adm ∧ t.link = s.link

theorem setRing_onlyRing (r : Nat) (x : Ring) (s : State) : OnlyRing r s (setRing r x s) :=
  ⟨fun _ h => ringOf_setRing_other _ _ h, rfl, rfl⟩

theorem OnlyRing.trans {r : Nat} {s t u : State} (h : OnlyRing r s t) (k : OnlyRing r t u) : OnlyRing r s u := by
  obtain ⟨hring, hadm, hlink⟩ := h
  obtain ⟨kring, kadm, klink⟩ := k
  exact ⟨fun q hq => (kring q hq).trans (hring q hq), kadm.trans hadm, klink.trans hlink⟩

@[simp] theorem forgetPosted_adm (cls : Nat) (s : State) : (forgetPosted cls s).adm = s.adm := by
  unfold forgetPosted; split <;> rfl

theorem forgetPosted_onlyRing (r cls : Nat) (s : State) : OnlyRing r s (forgetPosted cls s) :=
  ⟨fun _ _ => ringOf_forgetPosted .., forgetPosted_adm .., by simp⟩

theorem settleStop_onlyRing (r : Nat) (s : State) : OnlyRing r s (settleStop r s) := by
  unfold settleStop
  dsimp only
  split
  · exact ⟨fun _ h => ringOf_mapRing_other _ _ h, by simp, by simp⟩
  · exact ⟨fun _ _ => rfl, rfl, rfl⟩

/-- A STOPPING ring whose fetches and completions have caught up with its tail is STOPPED (R74). -/
theorem ringOf_settleStop_stopping {r : Nat} {s : State} (h : (ringOf s r).state = .stopping) :
    ringOf (settleStop r s) r = { ringOf s r with
      state := if (ringOf s r).next = (ringOf s r).tail ∧ (ringOf s r).fetch = (ringOf s r).tail then .stopped else .stopping } := by
  unfold settleStop
  by_cases hd : (ringOf s r).next = (ringOf s r).tail ∧ (ringOf s r).fetch = (ringOf s r).tail
  · simp [h, hd]
  · have : ((ringOf s r).state == .stopping && (ringOf s r).next == (ringOf s r).tail
        && (ringOf s r).fetch == (ringOf s r).tail) = false := by simpa [h] using not_and.1 hd
    rw [if_neg hd]
    simp only [this, Bool.false_eq_true, if_false]
    rw [← h]

section
variable {s : State}

theorem doStart_passes (hs : (ringOf s s.rings.sel).state = .configured ∨ (ringOf s s.rings.sel).state = .stopped)
    (he : startErr s s.rings.sel = 0) : doStart s = forgetPosted (ringOf s s.rings.sel).cls (setRing s.rings.sel
      { ringOf s s.rings.sel with state := .running, tail := 0, fetch := 0, next := 0, phase := true, fin := [],
                                  tokens := (ringOf s s.rings.sel).burst, gen := (ringOf s s.rings.sel).gen + 1 } s) := by
  rcases hs with hs | hs <;> simp [doStart, hs, he]

theorem doStart_fails (hs : (ringOf s s.rings.sel).state = .configured ∨ (ringOf s s.rings.sel).state = .stopped)
    (he : startErr s s.rings.sel ≠ 0) : doStart s = setRing s.rings.sel
      { ringOf s s.rings.sel with state := .error, lastErr := startErr s s.rings.sel } s := by
  rcases hs with hs | hs <;> simp [doStart, hs, he]

theorem doStart_onlyRing (hs : (ringOf s s.rings.sel).state = .configured ∨ (ringOf s s.rings.sel).state = .stopped) :
    OnlyRing s.rings.sel s (doStart s) := by
  by_cases he : startErr s s.rings.sel = 0
  · rw [doStart_passes hs he]
    exact (setRing_onlyRing ..).trans (forgetPosted_onlyRing ..)
  · rw [doStart_fails hs he]
    exact setRing_onlyRing ..

/-- STOP sets LAST_ERR, stops a ring, or leaves everything as it is (R73). -/
theorem doStop_onlyRing : OnlyRing s.rings.sel s (doStop s) := by
  unfold doStop
  dsimp only
  split_ifs
  · exact setRing_onlyRing ..
  · exact ⟨fun _ _ => rfl, rfl, rfl⟩
  · exact (setRing_onlyRing ..).trans (settleStop_onlyRing ..)
  · exact setRing_onlyRing ..

theorem doStop_refused (h : stopRefused s (ringOf s s.rings.sel) = true) :
    ringOf (doStop s) s.rings.sel = { ringOf s s.rings.sel with lastErr := 0x09 } := by
  simp [doStop, h]

/-- Only LEDGER and JOURNAL rings refuse STOP (R73). -/
theorem stopRefused_other {x : Ring} (h3 : x.cls ≠ 3) (h4 : x.cls ≠ 4) : stopRefused s x = false := by
  simp [stopRefused, h3, h4]

theorem doStop_submission (hr : (ringOf s s.rings.sel).state = .running) (hc : (ringOf s s.rings.sel).cls ≤ 2) :
    ringOf (doStop s) s.rings.sel = { ringOf s s.rings.sel with
      state := if (ringOf s s.rings.sel).next = (ringOf s s.rings.sel).tail
        ∧ (ringOf s s.rings.sel).fetch = (ringOf s s.rings.sel).tail then .stopped else .stopping } := by
  have hn : stopRefused s (ringOf s s.rings.sel) = false := stopRefused_other (by omega) (by omega)
  have : doStop s = settleStop s.rings.sel (setRing s.rings.sel { ringOf s s.rings.sel with state := .stopping } s) := by
    simp [doStop, hn, hr, isSubmission, hc]
  rw [this, ringOf_settleStop_stopping (by simp)]
  simp

theorem doStop_event (hr : (ringOf s s.rings.sel).state = .running) (hc : (ringOf s s.rings.sel).cls = 5) :
    ringOf (doStop s) s.rings.sel = { ringOf s s.rings.sel with state := .stopped } := by
  have hn : stopRefused s (ringOf s s.rings.sel) = false := stopRefused_other (by omega) (by omega)
  simp [doStop, hn, hr, isSubmission, hc]

end

/-- The states in which a ring takes configuration writes (R70). -/
theorem configurable_iff {x : Ring} :
    configurable x = true ↔ x.state = .free ∨ x.state = .configured ∨ x.state = .stopped := by
  simp [configurable, or_assoc]

theorem doRingConfigWrite_onlyRing (g : RingReg) (v : W64) (s : State) :
    OnlyRing s.rings.sel s (doRingConfigWrite g v s) := setRing_onlyRing ..

theorem doRingConfigWrite_takes {g : RingReg} {v : W64} {s : State} (h : configurable (ringOf s s.rings.sel) = true) :
    ringOf (doRingConfigWrite g v s) s.rings.sel = writeRingReg (ringOf s s.rings.sel) g v := by
  simp [doRingConfigWrite, h]

theorem doRingConfigWrite_refuses {g : RingReg} {v : W64} {s : State} (h : configurable (ringOf s s.rings.sel) = false) :
    ringOf (doRingConfigWrite g v s) s.rings.sel = { ringOf s s.rings.sel with lastErr := 0x09 } := by
  simp [doRingConfigWrite, h]

/-- What a configuration write that is taken sets (R69, R70). -/
theorem writeRingReg_fields (x : Ring) (g : RingReg) (v : W64) :
    (g = .epoch → (writeRingReg x g v).epoch = v.toNat % 2 ^ 16)
    ∧ (g = .localIndex → (writeRingReg x g v).localIdx = v.toNat % 2 ^ 11)
    ∧ (g = .qbase → (writeRingReg x g v).qbase = v.toNat / 4096 * 4096)
    ∧ (g = .cqbase → (writeRingReg x g v).cqbase = v.toNat / 4096 * 4096)
    ∧ (g = .rbase → (writeRingReg x g v).rbase = v.toNat / 4096 * 4096)
    ∧ (g = .cfg → (writeRingReg x g v).state = (if x.state = .free then .configured else x.state)
        ∧ (writeRingReg x g v).cls = v.toNat % 8 ∧ (writeRingReg x g v).log2 = v.toNat / 2 ^ 8 % 32
        ∧ (writeRingReg x g v).func = v.toNat / 2 ^ 16 % 64 ∧ (writeRingReg x g v).vector = v.toNat / 2 ^ 24 % 32) := by
  have hbase : v.toNat / 4096 % 4503599627370496 = v.toNat / 4096 := Nat.mod_eq_of_lt (by have := v.isLt; omega)
  cases g <;> simp [writeRingReg, Nat.shiftRight_eq_div_pow, hbase]

/-- Settles O20: each command is one update of the selected ring (`OnlyRing`), and what it puts there is said case by case. -/
theorem ringSetup : Obligations.RingSetup := by
  unfold Obligations.RingSetup
  intro s
  refine ⟨fun hw hs => ?_, fun hw hr => ?_, fun hw hc => ?_, fun g v hw => ?_⟩
  · refine yields_hostWrite rfl hw ⟨doStart_onlyRing hs, fun he => ?_, fun he => ?_⟩
    · simp [doStart_passes hs he]
    · simp [doStart_fails hs he]
  · exact yields_hostWrite rfl hw ⟨doStop_onlyRing, doStop_submission hr, doStop_event hr⟩
  · exact yields_hostWrite rfl hw ⟨doStop_onlyRing, doStop_refused (by simp [stopRefused, hc])⟩
  · refine yields_hostWrite rfl hw ⟨doRingConfigWrite_onlyRing g v s, fun hs => ?_, fun hs => ?_⟩
    · refine doRingConfigWrite_refuses (Bool.eq_false_iff.2 fun hc => ?_)
      rcases configurable_iff.1 hc with h | h | h <;> simp [h] at hs
    · rw [doRingConfigWrite_takes (configurable_iff.2 hs)]
      exact writeRingReg_fields ..

/-! ### DELETE (R72) -/

/-- DELETE writes the selected ring, and of a LEDGER ring's slots it may drop the records. -/
theorem doDelete_frame (s : State) : doDelete s = { s with
    rings := { s.rings with tbl := (doDelete s).rings.tbl }, dep := { s.dep with posted := (doDelete s).dep.posted } } := by
  simp only [doDelete, forgetPosted]
  split_ifs <;> rfl

theorem doDelete_posted {s : State} (h : (ringOf s s.rings.sel).cls ≠ 3) : (doDelete s).dep.posted = s.dep.posted := by
  simp only [doDelete, forgetPosted, if_neg h]
  split_ifs <;> rfl

theorem ringOf_doDelete_other {s : State} {q : Nat} (h : q ≠ s.rings.sel) : ringOf (doDelete s) q = ringOf s q := by
  simp only [doDelete]
  split_ifs <;> simp [ringOf_setRing_other _ _ h]

theorem ringOf_doDelete_same (s : State) : ringOf (doDelete s) s.rings.sel =
    if (ringOf s s.rings.sel).state = .stopped ∨ (ringOf s s.rings.sel).state = .error
    then { gen := (ringOf s s.rings.sel).gen + 1 } else { ringOf s s.rings.sel with lastErr := 0x09 } := by
  by_cases h : (ringOf s s.rings.sel).state = .stopped ∨ (ringOf s s.rings.sel).state = .error
  · rcases h with h | h <;> simp [doDelete, h]
  · obtain ⟨hstopped, herror⟩ := not_or.1 h
    simp [doDelete, hstopped, herror]

/-- Settles O21: DELETE writes the selected ring and nothing else but the records of a LEDGER ring's slots. -/
theorem ringDelete : Obligations.RingDelete := by
  unfold Obligations.RingDelete
  intro s hw
  exact yields_hostWrite rfl hw ⟨doDelete_frame s, doDelete_posted, fun q hq => ringOf_doDelete_other hq,
    ringOf_doDelete_same s⟩

end Sys2Proof.Machine
end

section
namespace Sys2Proof.Machine

/-! ### The bulk port (R77-R82) -/

/-- A session that ends without taking effect is FAILED with its RESULT, and its data are gone; the flags stay (R82). -/
theorem endBulk_bulk (st : Status) (s : State) :
    (endBulk st s).bulk = { s.bulk with state := .failed, result := st.code, data := [] } := by
  simp only [endBulk]
  split <;> simp [dropPending, syncVault]

section
variable {s : State}

theorem doBulkOpen_busy (h : bulkBusy s = true) (v : W32) : doBulkOpen v s = s := by simp [doBulkOpen, h]

theorem doBulkOpen_opens {v : W32} (h : bulkBusy s = false)
    (ha : bulkAllowed s (v.toNat % 8) (v.toNat / 2 ^ 16 % 256) = true) : (doBulkOpen v s).bulk = { s.bulk with
      state := .opened, target := v.toNat % 8, owner := v.toNat / 2 ^ 16 % 256, ctlTarget := v.toNat % 8,
      ctlOwner := v.toNat / 2 ^ 16 % 256, addr := 0, consumed := 0, result := 0, data := [] } := by
  have hv : (v.extractLsb' 0 3).toNat = v.toNat % 8 ∧ (v.extractLsb' 16 8).toNat = v.toNat / 2 ^ 16 % 256 := by
    simp [Nat.shiftRight_eq_div_pow]
  simp only [doBulkOpen, h, hv, ha]
  simp

theorem doBulkOpen_refused {v : W32} (h : bulkBusy s = false)
    (ha : bulkAllowed s (v.toNat % 8) (v.toNat / 2 ^ 16 % 256) = false) :
    (doBulkOpen v s).bulk.state = .failed ∧ (doBulkOpen v s).bulk.result = 0x11 := by
  have hv : (v.extractLsb' 0 3).toNat = v.toNat % 8 ∧ (v.extractLsb' 16 8).toNat = v.toNat / 2 ^ 16 % 256 := by
    simp [Nat.shiftRight_eq_div_pow]
  simp only [doBulkOpen, h, hv, ha]
  simp [endBulk_bulk, Status.code]

/-! #### The window -/

/-- A write to the window while no session is OPEN is dropped. -/
theorem doBulkWindowWrite_closed (h : s.bulk.state ≠ .opened) (off : Nat) (data : Bytes) (drained : Nat) :
    doBulkWindowWrite off data drained s = s := by simp [doBulkWindowWrite, h]

/-- The bytes that have left staging by the time of a window write. -/
def leftStaging (s : State) (drained : Nat) : Nat := min s.bulk.addr (s.bulk.consumed + drained)

/-- A window write comes at the next offset, in whole 32-bit words (R79). -/
def InSequence (s : State) (off : Nat) (data : Bytes) : Prop := off = s.bulk.addr % 65536 ∧ data.length % 4 = 0

/-- A window write stays within the credit of 1 MiB (R79). -/
def InCredit (s : State) (data : Bytes) (drained : Nat) : Prop :=
  s.bulk.addr + data.length ≤ leftStaging s drained + 2 ^ 20

variable {off : Nat} {data : Bytes} {drained : Nat}

/-- The test by which a window write fails the session. -/
theorem windowWrite_fails_iff : (decide (off ≠ s.bulk.addr % 65536) || decide (data.length % 4 ≠ 0)
      || decide (min s.bulk.addr (s.bulk.consumed + drained) + 2 ^ 20 < s.bulk.addr + data.length)) = true
    ↔ ¬(InSequence s off data ∧ InCredit s data drained) := by
  unfold InSequence InCredit leftStaging
  simp only [Bool.or_eq_true, decide_eq_true_eq]
  omega

variable (ho : s.bulk.state = .opened)
include ho

theorem doBulkWindowWrite_taken (hs : InSequence s off data) (hc : InCredit s data drained) :
    (doBulkWindowWrite off data drained s).bulk = { s.bulk with
      consumed := leftStaging s drained, addr := s.bulk.addr + data.length, data := s.bulk.data ++ data } := by
  have hgood := Bool.eq_false_iff.2 fun h => windowWrite_fails_iff.1 h ⟨hs, hc⟩
  simp only [doBulkWindowWrite, ho, bne_self_eq_false, Bool.false_eq_true, if_false, hgood, leftStaging]

/-- Any other write fails the session, with each flag that applies. -/
theorem doBulkWindowWrite_fails (h : ¬(InSequence s off data ∧ InCredit s data drained)) :
    (doBulkWindowWrite off data drained s).bulk.state = .failed
    ∧ (doBulkWindowWrite off data drained s).bulk.result = 0x07
    ∧ (¬InSequence s off data → (doBulkWindowWrite off data drained s).bulk.seqErr = true)
    ∧ (¬InCredit s data drained → (doBulkWindowWrite off data drained s).bulk.overrun = true) := by
  have hbad := windowWrite_fails_iff.2 h
  simp only [doBulkWindowWrite, ho, bne_self_eq_false, Bool.false_eq_true, if_false, hbad, if_true, endBulk_bulk]
  refine ⟨trivial, rfl, fun hs => ?_, fun hc => ?_⟩
  · have : off ≠ s.bulk.addr % 65536 ∨ data.length % 4 ≠ 0 := by unfold InSequence at hs; omega
    simpa using .inr this
  · unfold InCredit leftStaging at hc
    simpa using .inr (Nat.not_le.1 hc)

/-! #### CLOSE and CANCEL -/

theorem doBulkClose_verifies (h : s.bulk.addr = s.bulk.len) :
    (doBulkClose s).bulk = { s.bulk with state := .verifying, consumed := s.bulk.addr } := by
  simp [doBulkClose, ho, h]

theorem doBulkClose_fails (h : s.bulk.addr ≠ s.bulk.len) :
    (doBulkClose s).bulk.state = .failed ∧ (doBulkClose s).bulk.result = 0x0C := by
  simp [doBulkClose, ho, h, endBulk_bulk, Status.code]

end

theorem abortBulk_busy {s : State} (h : bulkBusy s = true) :
    (abortBulk s).bulk = { s.bulk with state := .failed, result := 0x09, data := [] } := by
  simp [abortBulk, when, h, endBulk_bulk, Status.code]

theorem abortBulk_idle {s : State} (h : bulkBusy s = false) : abortBulk s = s := by simp [abortBulk, when, h]

/-- Settles O25: a session opens, goes on or ends by `endBulk`, and `windowWrite_fails_iff` says when a window write ends
it. -/
theorem bulkPort : Obligations.BulkPort := by
  unfold Obligations.BulkPort
  intro s
  refine ⟨fun v hw => ⟨fun hb => ?_, fun hb ha => ?_, fun hb ha => ?_⟩,
    fun off data drained hw ho => ⟨fun hs hc => ?_, fun hs => ?_, fun hc => ?_⟩,
    fun hw ho => ⟨fun hl => ?_, fun hl => ?_⟩, fun hw hb => ?_, fun hw hb => ?_⟩
  · exact exec_hostWrite rfl hw (doBulkOpen_busy hb v)
  · exact yields_hostWrite rfl hw (by simp [doBulkOpen_opens hb ha])
  · exact yields_hostWrite rfl hw (doBulkOpen_refused hb ha)
  · exact yields_hostWrite rfl hw (by simp [doBulkWindowWrite_taken ho hs hc, leftStaging, ho])
  · obtain ⟨hstate, hresult, hseq, -⟩ := doBulkWindowWrite_fails (drained := drained) ho fun h => hs h.1
    exact yields_hostWrite rfl hw ⟨hstate, hseq hs, hresult⟩
  · obtain ⟨hstate, hresult, -, hover⟩ := doBulkWindowWrite_fails (off := off) ho fun h => hc h.2
    exact yields_hostWrite rfl hw ⟨hstate, hover hc, hresult⟩
  · exact yields_hostWrite rfl hw (by simp [doBulkClose_verifies ho hl])
  · exact yields_hostWrite rfl hw (doBulkClose_fails ho hl)
  · exact yields_hostWrite rfl hw (by simp [abortBulk_busy hb])
  · exact exec_hostWrite rfl hw (abortBulk_idle hb)

/-- A host read of the bulk window that its slot's rule and the device state let through reads zeros. -/
theorem hostRead_window {s : State} {off : Nat} (len : Nat) (f : State → Nat × State) (h : HostMayRead s off)
    (hoff : off / 0x10000 = 15) : hostRead off len f s = emit (.regData off 0) s := by
  obtain ⟨hopen, hgrant, hgate⟩ := h
  simp [hostRead, hopen, hgrant, hgate, hoff]

/-- No register of the bulk window has a read of its own. -/
theorem not_ownRead_window {off : Nat} (h : off / 0x10000 = 15) : ownRead off = false := by
  simp only [ownRead, Bool.or_eq_false_iff, beq_eq_false_iff_ne]
  omega

/-- Settles O26: no register of the window has a read of its own, so `hostRead` answers zeros there. -/
theorem bulkWindowClosed : Obligations.BulkWindowClosed := by
  unfold Obligations.BulkWindowClosed
  refine fun s => ⟨fun off hlo hhi hr => ?_, fun off data drained hw ho => ?_⟩
  · have hwindow : off / 0x10000 = 15 := by omega
    have hread : doRead (.bar0 off) s = emit (.regData off 0) s := by
      simp [doRead, not_ownRead_window hwindow, hostRead_window _ _ hr hwindow]
    exact congrArg Host.Outcome.next hread
  · exact exec_hostWrite rfl hw (doBulkWindowWrite_closed ho off data drained)

end Sys2Proof.Machine
end

section
namespace Sys2Proof.Machine

/-! ### Doorbells (R42, R49, R53-R55, R91) -/

/-- A doorbell that no cause of R54 ignores. -/
def DoorbellTaken (x : Ring) (bar : DoorbellBar) (v : W32) (single : Bool) : Prop :=
  v.toNat / 2 ^ 16 = x.epoch ∧ v.toNat % 2 ^ 16 < 2 ^ x.log2 ∧ x.state = .running ∧ single = true
    ∧ (bar = .pf0Bar2 → x.func = 0)

theorem doorbellCause_eq_zero_iff {x : Ring} {bar : DoorbellBar} {v : W32} {single : Bool} :
    doorbellCause x bar v single = 0 ↔ DoorbellTaken x bar v single := by
  have hv : (v.extractLsb' 16 16).toNat = v.toNat / 2 ^ 16 ∧ (v.extractLsb' 0 16).toNat = v.toNat % 2 ^ 16 := by
    have hhigh : v.toNat / 65536 % 65536 = v.toNat / 65536 := Nat.mod_eq_of_lt (by have := v.isLt; omega)
    simp [Nat.shiftRight_eq_div_pow, hhigh]
  unfold doorbellCause DoorbellTaken Ring.size
  rw [hv.1, hv.2]
  split_ifs <;> simp_all

@[simp] theorem spanResume_frame (s : State) : (spanResume s).rings = s.rings ∧ (spanResume s).dep = s.dep
    ∧ (spanResume s).adm.durSeq = s.adm.durSeq := by
  unfold spanResume
  split <;> simp

@[simp] theorem ackLedger_rings (tail size n : Nat) (s : State) : (ackLedger tail size n s).rings = s.rings := by
  unfold ackLedger
  dsimp only
  split <;> rfl

/-- The slot of a posted record is among the n slots from tail on. -/
def passedBy (tail size n : Nat) (p : Nat × Nat × Nat) : Bool := decide ((p.1 + size - tail) % size < n)

/-- The newest departure whose slot is passed is durable, and its slots are acknowledged (R49, R91). -/
theorem ackLedger_durable {tail size n k d q : Nat} {s : State}
    (h : (s.dep.posted.filter (passedBy tail size n)).getLast? = some (k, d, q)) :
    (ackLedger tail size n s).dep.durable = some d ∧ (ackLedger tail size n s).adm.durSeq = some q
    ∧ (ackLedger tail size n s).dep.posted = s.dep.posted.filter fun p => !passedBy tail size n p := by
  unfold passedBy at h ⊢
  simp [ackLedger, h]

section
variable {s : State} (r idx : Nat)

theorem acceptDoorbell_rings : (acceptDoorbell r idx s).rings = (setRing r { ringOf s r with tail := idx } s).rings := by
  simp only [acceptDoorbell]
  split_ifs <;> simp

theorem acceptDoorbell_durable {k d q : Nat} (h : (ringOf s r).cls = 3) (hk : (s.dep.posted.filter (passedBy (ringOf s r).tail
      (ringOf s r).size ((idx + (ringOf s r).size - (ringOf s r).tail) % (ringOf s r).size))).getLast? = some (k, d, q)) :
    (acceptDoorbell r idx s).dep.durable = some d ∧ (acceptDoorbell r idx s).adm.durSeq = some q
    ∧ (acceptDoorbell r idx s).dep.posted = s.dep.posted.filter fun p => !passedBy (ringOf s r).tail (ringOf s r).size
        ((idx + (ringOf s r).size - (ringOf s r).tail) % (ringOf s r).size) p := by
  simpa [acceptDoorbell, h] using ackLedger_durable (s := setRing r { ringOf s r with tail := idx } s) hk

theorem acceptDoorbell_other (h : (ringOf s r).cls ≠ 3) :
    acceptDoorbell r idx s = setRing r { ringOf s r with tail := idx } s := by
  simp [acceptDoorbell, h]

/-- An ignored doorbell is counted and changes no ring (R54). -/
theorem rejectDoorbell_counts (cause : Nat) : (rejectDoorbell r cause s).rings.tbl = s.rings.tbl
    ∧ (rejectDoorbell r cause s).rings.dbReject = min (s.rings.dbReject + 1) (2 ^ 32 - 1)
    ∧ (rejectDoorbell r cause s).dep = s.dep ∧ (rejectDoorbell r cause s).adm = s.adm := by
  simp only [rejectDoorbell]
  split_ifs <;> simp [sat32]

end

/-- A doorbell that reaches the ring unit is accepted or ignored by R54. -/
theorem exec_doorbell {s : State} {bar : DoorbellBar} {slot r : Nat} {v : W32} {single : Bool} (ho : hostOpen s = true)
    (hg : heldGate s = false) (hb : ∀ f, bar = .vfBar0 f → funcOn s f = true ∧ f ≠ 0) (hr : doorbellRing s bar slot = some r) :
    exec (.doorbell bar slot v single) s = .next (if doorbellCause (ringOf s r) bar v single = 0
      then acceptDoorbell r (v.toNat % 2 ^ 16) s else rejectDoorbell r (doorbellCause (ringOf s r) bar v single) s) := by
  have hbody : doDoorbell bar slot v single s = if doorbellCause (ringOf s r) bar v single = 0
      then acceptDoorbell r (v.toNat % 2 ^ 16) s else rejectDoorbell r (doorbellCause (ringOf s r) bar v single) s := by
    simp [doDoorbell, hr, ite_not]
  cases bar with
  | pf0Bar2 => exact exec_when rfl (by simp [ho, hg]) hbody
  | vfBar0 f => exact exec_when rfl (by simp [ho, hg, hb f rfl]) hbody

/-! ### Interrupts (R67) -/

/-- A vector that fires has no completion pending any more, and its message goes out or its pending bit is set. -/
theorem fireVector_spec (f k : Nat) (s : State) : (fireVector f k s).link.pend.atD (gvec f k) 0 = 0
    ∧ (gvec f k ∈ s.link.unmasked → (fireVector f k s).out = .msix f k :: s.out ∧ (fireVector f k s).link.pba = s.link.pba)
    ∧ (gvec f k ∉ s.link.unmasked → (fireVector f k s).out = s.out ∧ gvec f k ∈ (fireVector f k s).link.pba) := by
  by_cases hm : gvec f k ∈ s.link.unmasked
  · simp [fireVector, hm]
  · by_cases hp : gvec f k ∈ s.link.pba <;> simp [fireVector, hm, hp]

/-- An unmasked vector has sent what was pending. -/
theorem doVectorUnmask_spec (f k : Nat) (s : State) : gvec f k ∈ (doVectorUnmask f k s).link.unmasked
    ∧ gvec f k ∉ (doVectorUnmask f k s).link.pba
    ∧ (gvec f k ∈ s.link.pba → (doVectorUnmask f k s).out = .msix f k :: s.out)
    ∧ (gvec f k ∉ s.link.pba → (doVectorUnmask f k s).out = s.out) := by
  by_cases hp : gvec f k ∈ s.link.pba <;> by_cases hm : gvec f k ∈ s.link.unmasked <;> simp [doVectorUnmask, hp, hm]

/-- Settles O22: a doorbell is accepted exactly where `doorbellCause` finds no cause. -/
theorem doorbellsAndInterrupts : Obligations.DoorbellsAndInterrupts := by
  unfold Obligations.DoorbellsAndInterrupts
  refine ⟨fun s bar slot r v single ho hg hb hr => ⟨fun ht => ?_, fun ht => ?_⟩,
    fun s f k => ⟨fun hp => ?_, fun ho hf hk => ?_⟩⟩
  · have hexec := exec_doorbell (v := v) (single := single) ho hg hb hr
    rw [if_pos (doorbellCause_eq_zero_iff.2 ht)] at hexec
    have hrings := acceptDoorbell_rings (s := s) r (v.toNat % 2 ^ 16)
    refine ⟨_, hexec, ?_, fun q hq => ?_, by rw [hrings]; rfl, fun hc k d q hk => ?_, fun hc => ?_⟩
    · rw [ringOf_congr hrings, ringOf_setRing_same]
    · rw [ringOf_congr hrings, ringOf_setRing_other _ _ hq]
    · exact acceptDoorbell_durable r _ hc hk
    · rw [acceptDoorbell_other _ _ hc]
      exact ⟨rfl, rfl⟩
  · have hexec := exec_doorbell (v := v) (single := single) ho hg hb hr
    rw [if_neg fun h => ht (doorbellCause_eq_zero_iff.1 h)] at hexec
    exact ⟨_, hexec, rejectDoorbell_counts ..⟩
  · exact yields_when rfl (by simpa using hp) (fireVector_spec f k s)
  · exact yields_when rfl (by simp [ho, hf, hk]) (doVectorUnmask_spec f k s)

end Sys2Proof.Machine
end

section
namespace Sys2Proof.Machine

/-! ### What follows a write of the ring unit

After the ring unit has written a slot or a completion come counters, interrupts, the backlog check and the offers to
coupled peers. None of them touches a ring, and none takes back what was put out. -/

/-- From s to t no ring and no departure changed, and everything put out stays. -/
structure Trails (s t : State) : Prop where
  rings : t.rings = s.rings
  dep : t.dep = s.dep
  out : ∀ o ∈ s.out, o ∈ t.out

theorem Trails.of_eq {s t : State} (hr : t.rings = s.rings) (hd : t.dep = s.dep) (ho : t.out = s.out) : Trails s t :=
  ⟨hr, hd, fun _ h => ho ▸ h⟩

theorem Trails.refl (s : State) : Trails s s := .of_eq rfl rfl rfl

theorem Trails.trans {s t u : State} (h : Trails s t) (k : Trails t u) : Trails s u :=
  ⟨k.rings.trans h.rings, k.dep.trans h.dep, fun o ho => k.out o (h.out o ho)⟩

theorem Trails.foldl {α : Type} {f : State → α → State} (h : ∀ st x, Trails st (f st x)) (l : List α) (s : State) :
    Trails s (l.foldl f s) :=
  foldl_keeps (Trails s) f (fun st x e => e.trans (h st x)) l s (.refl s)

theorem emit_trails (o : Out) (s : State) : Trails s (emit o s) := ⟨rfl, rfl, fun _ h => List.mem_cons_of_mem _ h⟩

theorem bump_trails (ev : Nat) (subs : List Nat) (owner n : Nat) (s : State) : Trails s (bump ev subs owner n s) :=
  .of_eq (by simp) (by simp) (by simp)

theorem countMarks_trails (owner : Nat) (m : BitVec 16) (s : State) : Trails s (countMarks owner m s) := by
  refine .foldl (fun st i => ?_) _ s
  split
  · exact bump_trails ..
  · exact .refl st

theorem dropItem_trails (seq : Nat) (s : State) : Trails s (dropItem seq s) := .of_eq rfl rfl rfl

theorem backlogCheck_trails (o : Nat) (s : State) : Trails s (backlogCheck o s) :=
  .of_eq (by simp) (by simp) (by simp)

/-! #### Interrupts -/

/-- Only the link and what is put out change when a vector fires or a completion is noted on it. -/
@[simp] theorem fireVector_frame (func vec : Nat) (s : State) : (fireVector func vec s).rings = s.rings
    ∧ (fireVector func vec s).dep = s.dep ∧ (fireVector func vec s).adm = s.adm ∧ (fireVector func vec s).evt = s.evt := by
  simp only [fireVector]
  split_ifs <;> simp

@[simp] theorem notePending_frame (g : Nat) (s : State) : (notePending g s).rings = s.rings
    ∧ (notePending g s).dep = s.dep ∧ (notePending g s).adm = s.adm ∧ (notePending g s).evt = s.evt
    ∧ (notePending g s).out = s.out := by
  simp only [notePending]
  split <;> simp

@[simp] theorem noteCompletion_frame (func vec : Nat) (irq : Bool) (s : State) :
    (noteCompletion func vec irq s).rings = s.rings ∧ (noteCompletion func vec irq s).dep = s.dep
    ∧ (noteCompletion func vec irq s).adm = s.adm ∧ (noteCompletion func vec irq s).evt = s.evt := by
  simp only [noteCompletion]
  split <;> simp

theorem mem_out_fireVector {o : Out} (func vec : Nat) {s : State} (h : o ∈ s.out) : o ∈ (fireVector func vec s).out := by
  simp only [fireVector]
  split_ifs <;> simp [h]

theorem noteCompletion_trails (func vec : Nat) (irq : Bool) (s : State) : Trails s (noteCompletion func vec irq s) := by
  refine ⟨by simp, by simp, fun o h => ?_⟩
  have hn : o ∈ (notePending (gvec func vec) s).out := by simpa using h
  simp only [noteCompletion]
  split
  · exact mem_out_fireVector _ _ hn
  · exact hn

/-! #### Offers to coupled peers (R179) -/

theorem setPeer_trails (i : Nat) (p : Peer) (s : State) : Trails s (setPeer i p s) := .of_eq rfl rfl rfl

theorem mapPeer_trails (i : Nat) (f : Peer → Peer) (s : State) : Trails s (mapPeer i f s) := by
  unfold mapPeer
  split
  · exact setPeer_trails ..
  · exact .refl s

theorem mapPort_trails (p : Nat) (f : Port → Port) (s : State) : Trails s (mapPort p f s) := by
  unfold mapPort
  split <;> exact .of_eq rfl rfl rfl

theorem sendFrame_trails (p kind : Nat) (b : Bytes) (s : State) : Trails s (sendFrame p kind b s) := by
  unfold sendFrame
  split
  · exact mapPort_trails ..
  · exact emit_trails ..

theorem putFrame_trails (p : Peer) (type : Nat) (f : Bytes) (s : State) : Trails s (putFrame p type f s) := by
  unfold putFrame
  split
  · exact sendFrame_trails ..
  · exact .refl s

theorem sendSealed_trails (p : Peer) (x : Session) (type seq : Nat) (body : Bytes) (s : State) :
    Trails s (sendSealed p x type seq body s) := by
  unfold sendSealed
  exact (Trails.of_eq (by simp) (by simp) (by simp)).trans (putFrame_trails ..)

theorem sendOne_trails (i : Nat) (old : Bool) (s : State) : Trails s (sendOne i old s) := by
  unfold sendOne
  dsimp only
  repeat' split
  · exact .refl s
  · exact .refl s
  · exact .refl s
  · exact (mapPeer_trails ..).trans ((bump_trails ..).trans (sendSealed_trails ..))
  · exact .refl s

theorem sendMessage_trails (i : Nat) (m : Bytes) (s : State) : Trails s (sendMessage i m s) := by
  unfold sendMessage
  split
  · exact (mapPeer_trails ..).trans (.foldl (fun st _ => sendOne_trails i false st) _ _)
  · exact .refl s

theorem offerHead_trails (dep : Nat) (head key : Digest) (s : State) : Trails s (offerHead dep head key s) := by
  refine .foldl (fun st e => ?_) _ s
  unfold offerTo
  dsimp only
  repeat' split
  · exact .refl st
  · exact .refl st
  · exact (setPeer_trails ..).trans (sendMessage_trails ..)

/-! ### Fetches (R38, R46, R75, R83, R84, R564) -/

@[simp] theorem readSource_frame (r : Nat) (d : BitVec 512) (s : State) : (readSource r d s).rings = s.rings
    ∧ (readSource r d s).adm = s.adm ∧ (readSource r d s).clk = s.clk := by
  simp only [readSource]
  split <;> simp

/-- The record of a descriptor whose fetch has ended. -/
def fetchedRecord (s : State) (r : Nat) (d : BitVec 512) (src : SourceRead) : Fetched :=
  { ring := r, gen := (ringOf s r).gen, idx := (ringOf s r).fetch, desc := d, src := src, step := s.clk.upNs / 10 }

section
variable {s : State} (r : Nat) (d : BitVec 512) (src : SourceRead)

theorem doRecordFetched_fetched :
    (doRecordFetched r d src s).adm.fetched = s.adm.fetched ++ [fetchedRecord s r d src] := by
  simp [doRecordFetched, readDescriptor, fetchedRecord]

theorem ringOf_doRecordFetched_same : ringOf (doRecordFetched r d src s) r
    = { ringOf s r with fetch := ((ringOf s r).fetch + 1) % (ringOf s r).size } := by
  simp [doRecordFetched]

theorem ringOf_doRecordFetched_other {q : Nat} (h : q ≠ r) : ringOf (doRecordFetched r d src s) q = ringOf s q := by
  rw [doRecordFetched, ringOf_setRing_other _ _ h]
  exact ringOf_congr (by simp [readDescriptor]) q

/-- The descriptor is read, and then its source buffer where it has one and the ring is RUNNING. -/
theorem doRecordFetched_reads :
    Out.dmaRead (ringOf s r).func ((ringOf s r).qbase + 64 * (ringOf s r).fetch) 64 ∈ (doRecordFetched r d src s).out
    ∧ (dInline d = false → (ringOf s r).state = .running →
      Out.dmaRead (ringOf s r).func (dSrcAddr d) (dSrcLen d) ∈ (doRecordFetched r d src s).out) := by
  have hring : ringOf (readDescriptor r s) r = ringOf s r := rfl
  refine ⟨?_, fun hi hr => ?_⟩
  · simp only [doRecordFetched, setRing_out, readSource]
    split <;> simp [readDescriptor]
  · simp [doRecordFetched, readSource, hring, hi, hr]

theorem doDescriptorFetchError_frame : (doDescriptorFetchError r s).adm = (dropFetched r s).adm
    ∧ (doDescriptorFetchError r s).rings
      = (mapRing r (fun x => { x with state := .error, lastErr := 0x0A, fin := [] }) s).rings := by
  simp [doDescriptorFetchError, readDescriptor, dropFetched, mapRing, ringOf]

/-- Every descriptor of the ring that is fetched and not admitted is dropped. -/
theorem dropFetched_gone : ∀ f ∈ (dropFetched r s).adm.fetched, f.ring ≠ r := by
  simp [dropFetched]

end

/-! ### Completions (R59, R64, R66, R74) -/

/-- A ring that is not STOPPING does not settle. -/
theorem settleStop_running {r : Nat} {s : State} (h : (ringOf s r).state = .running) : settleStop r s = s := by
  simp [settleStop, h]

/-- A ring after the completion of d is written. -/
def completed (x : Ring) (d : Done) : Ring :=
  { x with
    fin := x.fin.filter fun e => e.idx != d.idx
    next := (x.next + 1) % x.size, phase := if (x.next + 1) % x.size = 0 then !x.phase else x.phase }

/-- The receipt of d where it has one, and then its completion entry. -/
def putCompletion (x : Ring) (d : Done) (s : State) : State :=
  emit (.dma x.func (x.cqbase + 32 * d.idx) (doneBytes d x.phase)) (match d.receipt with
    | some b => emit (.dma x.func (x.rbase + 64 * d.idx) b) s
    | none => s)

@[simp] theorem putCompletion_rings (x : Ring) (d : Done) (s : State) : (putCompletion x d s).rings = s.rings := by
  unfold putCompletion
  split <;> simp

theorem putCompletion_out (x : Ring) (d : Done) (s : State) :
    Out.dma x.func (x.cqbase + 32 * d.idx) (doneBytes d x.phase) ∈ (putCompletion x d s).out
    ∧ ∀ b, d.receipt = some b → Out.dma x.func (x.rbase + 64 * d.idx) b ∈ (putCompletion x d s).out := by
  unfold putCompletion
  cases d.receipt <;> simp

/-- The counters, the item dropped and the interrupt that follow a completion. -/
def trailCompletion (x : Ring) (d : Done) (s : State) : State :=
  let s := countMarks x.func d.marks (bump 0x02 [0xFF, d.status.code] x.func 1 s)
  noteCompletion x.func x.vector d.irq (match d.stamp with
    | some st => dropItem st.seq s
    | none => s)

theorem trailCompletion_trails (x : Ring) (d : Done) (s : State) : Trails s (trailCompletion x d s) := by
  refine (bump_trails 0x02 [0xFF, d.status.code] x.func 1 s).trans ((countMarks_trails x.func d.marks _).trans
    (Trails.trans ?_ (noteCompletion_trails ..)))
  split
  · exact dropItem_trails ..
  · exact .refl _

section
variable {r : Nat} {s : State} {d : Done} (hr : (ringOf s r).state = .running)
  (hd : (ringOf s r).fin.find? (fun e => e.idx == (ringOf s r).next) = some d)
include hr hd

theorem doCompletionWrite_running : doCompletionWrite r s = trailCompletion (ringOf s r) d
    (setRing r (completed (ringOf s r) d) (putCompletion (ringOf s r) d s)) := by
  have hset : ringOf (trailCompletion (ringOf s r) d
      (setRing r (completed (ringOf s r) d) (putCompletion (ringOf s r) d s))) r = completed (ringOf s r) d := by
    rw [ringOf_congr (trailCompletion_trails ..).rings, ringOf_setRing_same]
  rw [← settleStop_running (r := r) (s := trailCompletion _ _ _) (by rw [hset]; exact hr)]
  unfold doCompletionWrite putCompletion
  simp only [hr, hd]
  cases d.receipt <;> rfl

theorem ringOf_doCompletionWrite : ringOf (doCompletionWrite r s) r = completed (ringOf s r) d := by
  rw [doCompletionWrite_running hr hd, ringOf_congr (trailCompletion_trails ..).rings, ringOf_setRing_same]

theorem mem_out_doCompletionWrite {o : Out} (h : o ∈ (putCompletion (ringOf s r) d s).out) :
    o ∈ (doCompletionWrite r s).out := by
  rw [doCompletionWrite_running hr hd]
  exact (trailCompletion_trails ..).out o h

end

/-! ### Slots of output rings (R48, R61, R162, R210) -/

/-- An output ring after one slot of it is written. -/
def slotTaken (x : Ring) : Ring :=
  { x with fetch := (x.fetch + 1) % x.size, phase := if (x.fetch + 1) % x.size = 0 then !x.phase else x.phase }

section
variable (r : Nat) (data : Bytes) (detail seq dep : Nat) (s : State)

@[simp] theorem postSlot_frame : (postSlot r data detail seq dep s).dep = s.dep
    ∧ (postSlot r data detail seq dep s).adm = s.adm := by
  simp [postSlot]

theorem ringOf_postSlot : ringOf (postSlot r data detail seq dep s) r = slotTaken (ringOf s r) := by
  have hput : (postSlot r data detail seq dep s).rings = (setRing r (slotTaken (ringOf s r)) s).rings := by
    simp [postSlot, slotTaken]
  rw [ringOf_congr hput, ringOf_setRing_same]

/-- The slot that the device index names goes out, and what was put out stays. -/
theorem postSlot_out : Out.dma (ringOf s r).func ((ringOf s r).qbase + slotBytes (ringOf s r).cls * (ringOf s r).fetch) data
      ∈ (postSlot r data detail seq dep s).out ∧ ∀ o ∈ s.out, o ∈ (postSlot r data detail seq dep s).out := by
  have htrail : ∀ u o, o ∈ u.out → o ∈ (noteCompletion (ringOf s r).func (ringOf s r).vector false
      (bump 0x02 [0xFF, 0] (ringOf s r).func 1 u)).out :=
    fun u => ((bump_trails ..).trans (noteCompletion_trails ..)).out
  unfold postSlot
  exact ⟨htrail _ _ (by simp), fun o h => htrail _ _ (by simp [h])⟩

end

/-- Checking an owner's backlog leaves the blocks that wait as they are (R51). -/
theorem backlogCheck_closed (o : Nat) (s : State) : (ownerOf (backlogCheck o s) o).closed = (ownerOf s o).closed := by
  have hevent : ∀ (c : Nat) (l : List (Nat × Nat)) (u : State), ownerOf (event c o l u) o = ownerOf u o :=
    fun c l u => ownerOf_congr (by simp) o
  simp only [backlogCheck]
  split_ifs <;> simp [hevent]

section
variable {s : State} {o r : Nat} {b : JBlock} {rest : List JBlock} (hr : outRing s 4 o = some r)
  (hb : (ownerOf s o).closed = b :: rest)
include hr hb

theorem doJournalPost_posts : doJournalPost o s = backlogCheck o (bump 0x05 [0] o b.bytes.length
    (postSlot r (padTo 4096 b.bytes) b.units b.seq b.dep (mapOwner o (fun w => { w with closed := rest }) s))) := by
  simp [doJournalPost, hr, hb]

theorem doJournalPost_trails : Trails (postSlot r (padTo 4096 b.bytes) b.units b.seq b.dep
    (mapOwner o (fun w => { w with closed := rest }) s)) (doJournalPost o s) := by
  rw [doJournalPost_posts hr hb]
  exact (bump_trails ..).trans (backlogCheck_trails ..)

theorem doJournalPost_closed : (ownerOf (doJournalPost o s) o).closed = rest := by
  have hpost : ∀ u, ownerOf (bump 0x05 [0] o b.bytes.length (postSlot r (padTo 4096 b.bytes) b.units b.seq b.dep u)) o
      = ownerOf u o := fun u => ownerOf_congr (by simp) o
  rw [doJournalPost_posts hr hb, backlogCheck_closed, hpost, ownerOf_mapOwner_same]

end

@[simp] theorem noteCause_posts (c : Nat) (s : State) : (noteCause c s).dep.signed = s.dep.signed
    ∧ (noteCause c s).dep.posted = s.dep.posted ∧ (noteCause c s).out = s.out := by
  unfold noteCause
  split <;> simp

/-- The oldest signed record takes the next slot of the LEDGER ring and waits for its doorbell (R49, R162). -/
theorem doLedgerPost_posts {s : State} {r : Nat} {g : Signed} {rest : List Signed} (hr : outRing s 3 0 = some r)
    (hg : s.dep.signed = g :: rest) : (doLedgerPost s).dep.signed = rest
    ∧ (doLedgerPost s).dep.posted = s.dep.posted ++ [((ringOf s r).fetch, g.dep, g.lastSeq)]
    ∧ ∀ o ∈ (postSlot r g.bytes 64 g.lastSeq g.dep s).out, o ∈ (doLedgerPost s).out := by
  simp only [doLedgerPost, hr, hg]
  refine ⟨?_, ?_, fun o ho => (offerHead_trails ..).out o ?_⟩
  · rw [(offerHead_trails ..).dep]
    split <;> simp
  · rw [(offerHead_trails ..).dep]
    split <;> simp
  · split <;> simpa using ho

/-- Settles O23: what is written is read off the unit's own step, and everything after it keeps rings and outputs
(`Trails`). -/
theorem ringTraffic : Obligations.RingTraffic := by
  unfold Obligations.RingTraffic
  refine fun s r => ⟨fun d src hf => ⟨?_, ?_⟩, fun d hr hd => ?_, fun o b rest hr hb => ?_, fun g rest hr hg => ?_⟩
  · exact yields_when rfl hf ⟨doRecordFetched_fetched r d src, ringOf_doRecordFetched_same r d src,
      fun q hq => ringOf_doRecordFetched_other r d src hq, doRecordFetched_reads r d src⟩
  · obtain ⟨hadm, hrings⟩ := doDescriptorFetchError_frame (s := s) r
    refine yields_when rfl hf ⟨?_, ?_, ?_, fun q hq => ?_⟩
    · rw [ringOf_congr hrings, ringOf_mapRing_same]
    · rw [ringOf_congr hrings, ringOf_mapRing_same]
    · rw [hadm]
      exact dropFetched_gone r
    · rw [ringOf_congr hrings, ringOf_mapRing_other _ _ hq]
  · have hidx : d.idx = (ringOf s r).next := by simpa using List.find?_some hd
    obtain ⟨hentry, hreceipt⟩ := putCompletion_out (ringOf s r) d s
    refine ⟨_, rfl, ?_⟩
    simp only [ringOf_doCompletionWrite hr hd]
    exact ⟨rfl, rfl, mem_out_doCompletionWrite hr hd hentry, fun b hb => mem_out_doCompletionWrite hr hd (hreceipt b hb),
      by simp [completed, hidx]⟩
  · have htrails := doJournalPost_trails hr hb
    have hring : ringOf (mapOwner o (fun w => { w with closed := rest }) s) r = ringOf s r := ringOf_congr (by simp) r
    refine ⟨_, rfl, doJournalPost_closed hr hb, ?_, htrails.out _ ?_⟩
    · rw [ringOf_congr htrails.rings, ringOf_postSlot, hring]
      rfl
    · have hout := (postSlot_out r (padTo 4096 b.bytes) b.units b.seq b.dep
        (mapOwner o (fun w => { w with closed := rest }) s)).1
      rwa [hring] at hout
  · obtain ⟨hsigned, hposted, hout⟩ := doLedgerPost_posts hr hg
    exact ⟨_, rfl, hsigned, hposted, hout _ (postSlot_out ..).1⟩

end Sys2Proof.Machine
end

section
namespace Sys2Proof.Machine

/-! ### The recorder takes a record (R498-R504) -/

@[simp] theorem pushEv_frame (e : Ev) (r : Rec) : (pushEv e r).posted = r.posted ∧ (pushEv e r).mirrorErr = r.mirrorErr
    ∧ (pushEv e r).staging = r.staging ∧ (pushEv e r).staged = r.staged ∧ (pushEv e r).cycles = r.cycles
    ∧ (pushEv e r).head = r.head + 1 := by
  simp [pushEv]

/-- A record of the code and arguments of e, numbered after the first `head` ones. -/
def RecordOf (e : Ev) (head : Nat) (x : Ev) : Prop := x.code = e.code ∧ head < x.seq ∧ x.arg = e.arg

/-- The record that is entered is the newest one. -/
theorem pushEv_newest (e : Ev) (r : Rec) : ∃ x rest, (pushEv e r).evs = x :: rest ∧ RecordOf e r.head x :=
  ⟨_, _, rfl, rfl, Nat.lt_succ_self _, rfl⟩

/-- The record before it is frozen and stays. -/
theorem pushEv_keeps_newest {e n : Ev} {r : Rec} {rest : List Ev} (h : r.evs = n :: rest) :
    { n with frozen := true } ∈ (pushEv e r).evs := by
  simp [pushEv, h]

/-- Records entered one after another are numbered on; nothing but the record list and its marks changes. -/
theorem foldr_pushEv (l : List Ev) (r : Rec) : (l.foldr (fun e r => pushEv e r) r).staging = r.staging
    ∧ (l.foldr (fun e r => pushEv e r) r).staged = r.staged ∧ (l.foldr (fun e r => pushEv e r) r).cycles = r.cycles
    ∧ (l.foldr (fun e r => pushEv e r) r).head = r.head + l.length := by
  induction l with
  | nil => simp
  | cons e rest ih =>
    obtain ⟨hstaging, hstaged, hcycles, hhead⟩ := ih
    simp [hstaging, hstaged, hcycles, hhead, Nat.add_assoc]

/-- After the mirror search, an event of another code than the newest record's is a record of its own, whether or not an
old record is overwritten by it. -/
theorem recordEv_new {e : Ev} {s : State} (hs : s.evt.staging = false) (hc : ∀ n ∈ s.evt.evs.head?, n.code ≠ e.code) :
    ∃ x ∈ (recordEv e s).evt.evs, RecordOf e s.evt.head x := by
  cases hevs : s.evt.evs with
  | nil =>
    obtain ⟨x, rest, hx, hrec⟩ := pushEv_newest e s.evt
    exact ⟨x, by simp [recordEv, hs, hevs, hx], hrec⟩
  | cons n rest =>
    have hne : countsOn n e = false := by simp [countsOn, hc n (by simp [hevs])]
    cases hlost : losesOld s.evt with
    | none =>
      obtain ⟨x, rest', hx, hrec⟩ := pushEv_newest e s.evt
      exact ⟨x, by simp [recordEv, hs, hevs, hne, hlost, hx], hrec⟩
    | some q =>
      obtain ⟨x, rest', hx, hrec⟩ := pushEv_newest e { s.evt with lost := sat32 (s.evt.lost + 2) }
      have hevt : (recordEv e s).evt = pushEv (mkEv 0x0E02 0 0 [(8, q), (4, 2)] s)
          (pushEv e { s.evt with lost := sat32 (s.evt.lost + 2) }) := by
        simp [recordEv, hs, hevs, hne, hlost]
      exact ⟨{ x with frozen := true }, hevt ▸ pushEv_keeps_newest hx, hrec⟩

/-! ### Counters that count nothing (R508, R509) -/

section
variable {ev owner : Nat} {subs : List Nat} {s : State} (h : ∀ p ∈ s.cnt.cfg, cfgSelects p.2 ev subs owner = false)
include h

theorem bumpAll_unselected (lo hi n : Nat) : bumpAll lo hi ev subs owner n s.cnt = (s.cnt, []) := by
  refine List.foldlRecOn (motive := fun acc => acc = (s.cnt, [])) _ _ rfl fun acc hacc p hp => ?_
  simp [h p hp, hacc]

theorem countAt_unselected (die n : Nat) : countAt die ev subs owner n s = s := by
  simp [countAt, bumpAll_unselected h]

theorem bump_unselected (n : Nat) : bump ev subs owner n s = s := by
  simp [bump, bumpAt, countAt_unselected h, createdSince]

end

/-- An event of a code that the recorder is open for is a new record. -/
theorem event_newRecord {code : Nat} {s : State} (owner : Nat) (args : List (Nat × Nat)) (h : RecorderOpen s code) :
    NewRecord s (event code owner args s) code (padTo 22 (packArgs args)) := by
  obtain ⟨hs, hc, hcfg⟩ := h
  obtain ⟨x, hx, hcode, hseq, harg⟩ := recordEv_new (e := mkEv code owner 0 args s) hs hc
  have hbump : ∀ n, bump 0x0F [0] 0 n (recordEv (mkEv code owner 0 args s) s) = recordEv (mkEv code owner 0 args s) s :=
    bump_unselected (by simpa using hcfg)
  refine ⟨x, ?_, hcode, hseq, harg⟩
  simp only [event, eventSub, hbump]
  simpa using hx

/-! ### What events and counters leave alone

Recording an event or counting an occurrence may wrap counters and add records; of the recorder and the counters the
fields below stay. -/

/-- From s to t the post mark, the mirror's error flag and the latched snapshot stay. -/
structure LogKeeps (s t : State) : Prop where
  posted : t.evt.posted = s.evt.posted
  mirrorErr : t.evt.mirrorErr = s.evt.mirrorErr
  shadow : t.cnt.shadow = s.cnt.shadow
  snapNo : t.cnt.snapNo = s.cnt.snapNo
  snapDep : t.cnt.snapDep = s.cnt.snapDep

theorem LogKeeps.refl (s : State) : LogKeeps s s := ⟨rfl, rfl, rfl, rfl, rfl⟩

theorem LogKeeps.trans {s t u : State} (h : LogKeeps s t) (k : LogKeeps t u) : LogKeeps s u :=
  ⟨k.posted.trans h.posted, k.mirrorErr.trans h.mirrorErr, k.shadow.trans h.shadow, k.snapNo.trans h.snapNo,
    k.snapDep.trans h.snapDep⟩

theorem recordEv_logKeeps (e : Ev) (s : State) : LogKeeps s (recordEv e s) := by
  have hcnt : (recordEv e s).cnt = s.cnt := by simp
  have hevt : (recordEv e s).evt.posted = s.evt.posted ∧ (recordEv e s).evt.mirrorErr = s.evt.mirrorErr := by
    simp only [recordEv]
    repeat' split
    all_goals simp
  exact ⟨hevt.1, hevt.2, by rw [hcnt], by rw [hcnt], by rw [hcnt]⟩

theorem bumpOne_keeps (c n : Nat) (k : Cnt) : (bumpOne c n k).1.shadow = k.shadow ∧ (bumpOne c n k).1.snapNo = k.snapNo
    ∧ (bumpOne c n k).1.snapDep = k.snapDep := by
  simp only [bumpOne]
  split_ifs <;> simp

theorem bumpAll_keeps (lo hi ev : Nat) (subs : List Nat) (owner n : Nat) (k : Cnt) :
    (bumpAll lo hi ev subs owner n k).1.shadow = k.shadow ∧ (bumpAll lo hi ev subs owner n k).1.snapNo = k.snapNo
    ∧ (bumpAll lo hi ev subs owner n k).1.snapDep = k.snapDep := by
  refine List.foldlRecOn (motive := fun (acc : Cnt × List Nat) => acc.1.shadow = k.shadow ∧ acc.1.snapNo = k.snapNo
    ∧ acc.1.snapDep = k.snapDep) _ _ ⟨rfl, rfl, rfl⟩ fun acc hacc p _ => ?_
  split
  · simpa only [bumpOne_keeps] using hacc
  · exact hacc

theorem countAt_logKeeps (die ev : Nat) (subs : List Nat) (owner n : Nat) (s : State) :
    LogKeeps s (countAt die ev subs owner n s) := by
  unfold countAt
  refine foldr_keeps (LogKeeps s) _ (fun c st h => h.trans (recordEv_logKeeps _ st)) _ _ ?_
  obtain ⟨hshadow, hno, hdep⟩ := bumpAll_keeps _ _ ev subs owner n s.cnt
  exact ⟨rfl, rfl, hshadow, hno, hdep⟩

theorem bump_logKeeps (ev : Nat) (subs : List Nat) (owner n : Nat) (s : State) : LogKeeps s (bump ev subs owner n s) := by
  simp only [bump, bumpAt]
  split
  · exact countAt_logKeeps ..
  · exact (countAt_logKeeps ..).trans (countAt_logKeeps ..)

theorem event_logKeeps (code owner : Nat) (args : List (Nat × Nat)) (s : State) : LogKeeps s (event code owner args s) := by
  simp only [event, eventSub]
  split
  · exact recordEv_logKeeps ..
  · exact (recordEv_logKeeps ..).trans (bump_logKeeps ..)

/-! ### The mirror (R498, R503) -/

/-- The search goes on from the newest valid record, and the staged records are numbered after it. -/
theorem doMirrorSearchEnd_found {s : State} {m : MirrorRec} (hs : s.evt.staging = true) (hm : newestMirror s = some m) :
    (doMirrorSearchEnd s).evt.staging = false ∧ (doMirrorSearchEnd s).evt.staged = []
    ∧ (doMirrorSearchEnd s).evt.head = m.ev.seq + s.evt.staged.length
    ∧ (doMirrorSearchEnd s).evt.cycles = (m.ev.power + 1) % 2 ^ 24 := by
  simp [doMirrorSearchEnd, hs, hm, foldr_pushEv]

/-- With an empty mirror the power cycles start at 1. -/
theorem doMirrorSearchEnd_empty {s : State} (hs : s.evt.staging = true) (hm : newestMirror s = none) :
    (doMirrorSearchEnd s).evt.staging = false ∧ (doMirrorSearchEnd s).evt.cycles = 1
    ∧ (doMirrorSearchEnd s).evt.head = s.evt.head + s.evt.staged.length := by
  simp [doMirrorSearchEnd, hs, hm, foldr_pushEv]

/-- The mirror has 2^18 places (R226, R503). -/
theorem mirrorPlaces_eq : mirrorPlaces = 2 ^ 18 := rfl

/-- A record that is written is in the mirror at the next free place, with its MAC. -/
theorem mirrorPut_mem (e : Ev) (s : State) : ∃ r ∈ (mirrorPut e s).flash.mirror,
    r.ev = e ∧ r.mac = mirrorMac e ∧ r.place = s.flash.mirrorNext % 2 ^ 18 := by
  simp [mirrorPut, mirrorPlaces_eq]

section
variable {s : State} {e : Ev} (hs : s.evt.staging = false) (hk : s.keys.mirrorKey.isSome = true)
  (he : nextToMirror s = some e) (hp : s.sys.pwrFail = false ∨ s.flash.writing = [])
include hs hk he hp

theorem doMirrorWrite_good : doMirrorWrite true s = mirrorPut e s := by
  rcases hp with hp | hp <;> simp [doMirrorWrite, hs, Option.isNone_eq_false_iff.2 hk, he, hp]

/-- A failed program or erase skips the sector. -/
theorem doMirrorWrite_bad : (doMirrorWrite false s).evt.mirrorErr = true
    ∧ (doMirrorWrite false s).flash.mirror = s.flash.mirror
    ∧ (doMirrorWrite false s).flash.mirrorNext = (s.flash.mirrorNext % 2 ^ 18 / 64 + 1) % 4096 * 64 := by
  have hguard : (s.evt.staging || s.keys.mirrorKey.isNone || (s.sys.pwrFail && !s.flash.writing.isEmpty)) = false := by
    rcases hp with hp | hp <;> simp [hs, Option.isNone_eq_false_iff.2 hk, hp]
  simp only [doMirrorWrite, hguard, he, mirrorPlaces_eq]
  exact ⟨(event_logKeeps ..).mirrorErr, by simp, by simp⟩

end

/-! ### Posting of records (R52, R502) -/

theorem postSlot_posted (r : Nat) (data : Bytes) (detail seq dep : Nat) (s : State) :
    (postSlot r data detail seq dep s).evt.posted = s.evt.posted := by
  simp [postSlot, (bump_logKeeps ..).posted]

/-- Posting to a function's ring keeps the post mark and what was put out. -/
theorem postEvent_keeps (func : Nat) (e : Ev) (s : State) : (postEvent func e s).evt.posted = s.evt.posted
    ∧ ∀ o ∈ s.out, o ∈ (postEvent func e s).out := by
  unfold postEvent
  split
  · exact ⟨rfl, fun _ h => h⟩
  · split
    · exact ⟨postSlot_posted .., (postSlot_out ..).2⟩
    · simp

section
variable {s : State} {func r : Nat} (e : Ev) (hr : ringIs s 5 func .running = some r)
include hr

theorem postEvent_free (hf : slotFree (ringOf s r) = true) :
    postEvent func e s = postSlot r (evSlot e) 1 e.seq allOnes64 s := by
  simp [postEvent, hr, hf]

theorem postEvent_full (hf : slotFree (ringOf s r) = false) :
    postEvent func e s = mapRing r (fun x => { x with lost := sat32 (x.lost + 1) }) s := by
  simp [postEvent, hr, hf]

end

/-- The state in which the next frozen record is posted. -/
def markPosted (s : State) : State := { s with evt := { s.evt with posted := s.evt.posted + 1 } }

section
variable {s : State} {e : Ev} (hq : s.evt.posted < s.evt.frozen)
  (he : s.evt.evs.find? (fun x => x.seq == s.evt.posted + 1) = some e)
include hq he

/-- The next frozen record goes to PF0's ring and then to its owner's. -/
theorem doEventPost_posts : doEventPost s = if e.owner = 0 then postEvent 0 e (markPosted s)
    else postEvent e.owner e (postEvent 0 e (markPosted s)) := by
  simp [doEventPost, Nat.not_lt.2 hq, he, markPosted]

theorem doEventPost_posted : (doEventPost s).evt.posted = s.evt.posted + 1 := by
  rw [doEventPost_posts hq he]
  split <;> simp [postEvent_keeps, markPosted]

variable {r : Nat} (hr : ringIs s 5 0 .running = some r)
include hr

theorem doEventPost_slot (hf : (ringOf s r).tail ≠ ((ringOf s r).fetch + 1) % (ringOf s r).size) :
    Out.dma (ringOf s r).func ((ringOf s r).qbase + slotBytes (ringOf s r).cls * (ringOf s r).fetch) (evSlot e)
      ∈ (doEventPost s).out := by
  have hfree : slotFree (ringOf s r) = true := by simp [slotFree, Ne.symm hf]
  rw [doEventPost_posts hq he, postEvent_free (s := markPosted s) e hr hfree]
  have hslot := (postSlot_out r (evSlot e) 1 e.seq allOnes64 (markPosted s)).1
  split
  · exact hslot
  · exact (postEvent_keeps ..).2 _ hslot

/-- A record that finds no free slot is counted as lost. -/
theorem doEventPost_lost (hf : (ringOf s r).tail = ((ringOf s r).fetch + 1) % (ringOf s r).size) (ho : e.owner = 0) :
    (ringOf (doEventPost s) r).lost = min ((ringOf s r).lost + 1) (2 ^ 32 - 1) := by
  have hfull : slotFree (ringOf s r) = false := by simp [slotFree, hf]
  rw [doEventPost_posts hq he, if_pos ho, postEvent_full (s := markPosted s) e hr hfull, ringOf_mapRing_same]
  rfl

end

/-! ### The performance counters (R508-R517) -/

theorem doCountersCfgWrite_sets {s : State} (v : W32) (h : s.cnt.sel < counterCount s) :
    (doCountersCfgWrite v s).cnt.cfg = s.cnt.cfg.put s.cnt.sel (cfgAfter s.cnt.sel (s.cnt.cfg.atD s.cnt.sel 0) v)
    ∧ (doCountersCfgWrite v s).cnt.live = s.cnt.live.put s.cnt.sel 0 := by
  simp [doCountersCfgWrite, Nat.not_le.2 h]

theorem countTime_logKeeps (s : State) : LogKeeps s (countTime s) := by
  refine foldl_keeps (LogKeeps s) _ (fun st p h => h.trans ?_) _ _ (.refl s)
  dsimp only
  have hone : LogKeeps st { (freeNat st).2 with cnt := (bumpOne p.1 (freeNat st).1 (freeNat st).2.cnt).1 } := by
    obtain ⟨hshadow, hno, hdep⟩ := bumpOne_keeps p.1 (freeNat st).1 st.cnt
    exact ⟨rfl, rfl, hshadow, hno, hdep⟩
  split_ifs
  · exact hone.trans (event_logKeeps ..)
  · exact hone
  · exact .refl st

/-- Where no counter counts time, the counters of time add nothing. -/
theorem countTime_untimed {s : State} (h : ∀ p ∈ s.cnt.cfg, countsTime s p.1 p.2 = false) : countTime s = s := by
  refine List.foldlRecOn (motive := fun st => st = s) _ _ rfl fun st hst p hp => ?_
  simp [hst, h p hp]

theorem dumpSnapshot_logKeeps (s : State) : LogKeeps s (dumpSnapshot s) := by
  have herr : LogKeeps s { s with cnt := { s.cnt with dumpErr := true, dumpStop := true } } := ⟨rfl, rfl, rfl, rfl, rfl⟩
  simp only [dumpSnapshot]
  split_ifs
  · exact .refl s
  · exact herr.trans (event_logKeeps ..)
  · exact ⟨rfl, rfl, rfl, rfl, rfl⟩

/-- A snapshot latches the live values as the counters of time have left them (R512). -/
theorem doSnapReq_latches (s : State) : (doSnapReq s).cnt.shadow = (countTime s).cnt.live
    ∧ (doSnapReq s).cnt.snapNo = s.cnt.snapNo + 1 ∧ (doSnapReq s).cnt.snapDep = 2 ^ 64 - 1 := by
  have hkeeps : LogKeeps (latchCounters none s) (doSnapReq s) := by
    simp only [doSnapReq]
    split
    · exact dumpSnapshot_logKeeps _
    · exact .refl _
  rw [hkeeps.shadow, hkeeps.snapNo, hkeeps.snapDep]
  exact ⟨rfl, congrArg (· + 1) (countTime_logKeeps s).snapNo, rfl⟩

/-- A bandwidth counter of the anchor takes the bytes of its unit, here of one that is present in every variant (R511). -/
theorem doBwWindowEnd_takes {s : State} (vals : List Nat) {k : Nat} {c : W32} (hcfg : s.cnt.cfg = [(k, c)]) (hk : k < 1024)
    (hen : c.getLsbD 31 = true) (hch : c.getLsbD 30 = false) (hev : c.toNat % 256 = 0x20) (ho : c.toNat / 2 ^ 22 % 64 = 0)
    (hu : c.toNat / 256 % 256 < 12) :
    (doBwWindowEnd vals s).cnt.live.atD k 0 = vals.getD (c.toNat / 256 % 256) 0 % 2 ^ 48 := by
  have hunit : unitBytes s vals (c.toNat / 256 % 256) = vals.getD (c.toNat / 256 % 256) 0 % 2 ^ 48 := by
    unfold unitBytes
    rw [if_neg fun h => absurd h.1 (by omega)]
  have hsub : c.toNat / 256 % 256 < 26 := by omega
  have hown : c.toNat / 4194304 % 64 = 0 := ho
  have hsingle : chained k c = false := by simp only [chained, hch, Bool.and_false]
  simp [doBwWindowEnd, hcfg, hk, hen, hsingle, hev, hown, hsub, hunit, Nat.shiftRight_eq_div_pow]

/-- The heartbeat's argument is the operating time in seconds (R496). -/
theorem packArgs_seconds (s : State) :
    packArgs [(5, opNow s / 10 ^ 9)] = le 5 ((s.evt.opBase + s.clk.upNs) / 10 ^ 9) := by
  simp only [packArgs, opNow, List.flatMap_cons, List.flatMap_nil, List.append_nil]

/-- Settles O19: events and counts keep the post mark, the mirror's flag and the latched snapshot (`LogKeeps`), and what a
step sets itself is read off the step. -/
theorem recorderAndCounters : Obligations.RecorderAndCounters := by
  unfold Obligations.RecorderAndCounters
  refine ⟨fun s ha => ⟨fun n rest hn => ?_, fun ho => ?_, fun m hs hm => ?_, fun hs hm => ?_, fun e hs hk he hp => ⟨?_, ?_⟩,
      fun e r ho hq he hr hf => ?_, fun e r ho hq he hr hf hown => ?_⟩,
    fun s => ⟨fun v hw hsel => ?_, fun hw => ?_, fun vals ha => ?_⟩⟩
  · exact yields_when rfl ha (by simp [freezeNewest, hn])
  · have hnew := event_newRecord 0 [(5, opNow s / 10 ^ 9)] ho
    rw [packArgs_seconds] at hnew
    exact yields_when rfl ha hnew
  · exact yields_when rfl ha (doMirrorSearchEnd_found hs hm)
  · exact yields_when rfl ha (doMirrorSearchEnd_empty hs hm)
  · refine yields_when rfl ha ?_
    rw [doMirrorWrite_good hs hk he hp]
    exact ⟨rfl, mirrorPut_mem e s⟩
  · exact yields_when rfl ha (doMirrorWrite_bad hs hk he hp)
  · exact yields_when rfl ho ⟨doEventPost_posted hq he, doEventPost_slot hq he hr hf⟩
  · exact yields_when rfl ho ⟨doEventPost_posted hq he, doEventPost_lost hq he hr hf hown⟩
  · obtain ⟨hcfg, hlive⟩ := doCountersCfgWrite_sets v hsel
    refine yields_hostWrite rfl hw ⟨?_, ?_, fun k hk => ⟨?_, ?_⟩⟩
    · rw [hcfg, Tbl.atD_put_same]
    · rw [hlive, Tbl.atD_put_same]
    · rw [hcfg, Tbl.atD_put_other _ _ _ hk]
    · rw [hlive, Tbl.atD_put_other _ _ _ hk]
  · obtain ⟨hshadow, hno, hdep⟩ := doSnapReq_latches s
    exact yields_hostWrite rfl hw ⟨hshadow, fun h => by rw [hshadow, countTime_untimed h], hno, hdep⟩
  · exact yields_when rfl ha ⟨rfl, fun k c hcfg hk hen hch hev how hu => doBwWindowEnd_takes vals hcfg hk hen hch hev how hu⟩

end Sys2Proof.Machine
end


section
namespace Sys2Proof.Machine

/-! ### Budget registers and tokens (R95, R96) -/

/-- A write of ADMIT_RING_BUDGET that selects a WAGER ring (R96): the new budget stands where every check of R96 holds after
it, and otherwise only ERR is set. -/
theorem doRingBudgetWrite_wager {s : State} (v : W64) (hcls : (ringOf s s.adm.ringSel).cls = 0)
    (hstate : (ringOf s s.adm.ringSel).state ≠ .free) :
    doRingBudgetWrite v s =
      let x := ringOf s s.adm.ringSel
      let s' := setRing s.adm.ringSel { x with rate := v.toNat % 2 ^ 17, burst := v.toNat / 2 ^ 32 % 2 ^ 13
                                               tokens := min x.tokens (v.toNat / 2 ^ 32 % 2 ^ 13) } s
      if budgetErr s' (budgetsOf s') = 0 then s' else setAdmErr (budgetErr s' (budgetsOf s')) s := by
  simp only [doRingBudgetWrite, hcls, hstate, BitVec.extractLsb'_toNat, Nat.shiftRight_eq_div_pow, Nat.pow_zero, Nat.div_one,
    beq_iff_eq, bne_self_eq_false, Bool.or_false, if_false]

theorem doOwnerShareWrite_eq (v : W32) (s : State) :
    doOwnerShareWrite v s =
      let s' := mapOwner s.adm.ownerSel (fun w => { w with share := v.toNat % 2 ^ 20 }) s
      if budgetErr s' (budgetsOf s') = 0 then s' else setAdmErr (budgetErr s' (budgetsOf s')) s := by
  simp only [doOwnerShareWrite, BitVec.extractLsb'_toNat, Nat.shiftRight_zero]

/-- A refill gives the ring one token, but none above BURST and none taken away (R95). -/
theorem doTokenRefill_tokens {s : State} {r : Nat} (hcls : (ringOf s r).cls = 0) (hrun : (ringOf s r).state = .running)
    (hrate : 0 < (ringOf s r).rate) : (ringOf (doTokenRefill r s) r).tokens
      = max (ringOf s r).tokens (min (ringOf s r).burst ((ringOf s r).tokens + 1)) := by
  by_cases hroom : (ringOf s r).tokens < (ringOf s r).burst
  · simp only [doTokenRefill, hcls, hrun, hrate, hroom, BEq.rfl, decide_true, Bool.and_self, if_true, ringOf_setRing_same]
    omega
  · simp only [doTokenRefill, hroom, decide_false, Bool.and_false, Bool.false_eq_true, if_false]
    omega

theorem doTokenRefill_other {s : State} {r q : Nat} (h : q ≠ r) : ringOf (doTokenRefill r s) q = ringOf s q := by
  simp only [doTokenRefill]
  split
  · exact ringOf_setRing_other _ _ h
  · rfl

/-! ### TIME and PTP registers (R110, R115, R382) -/

/-- A write of an allowance (R110) in the form of its rule: `f` puts a value in the register. -/
theorem allowed_takes {s : State} {f : Nat → State} {old : Nat} (n floor : Nat) (hf : f old = s) :
    (if allowed s old n floor then f n else s) = f (if old ≤ n ∨ floor ≤ n ∧ anyLive s = false then n else old) := by
  simp only [allowed, Bool.or_eq_true, Bool.and_eq_true, decide_eq_true_eq, Bool.not_eq_true']
  split
  · rfl
  · exact hf.symm

theorem doTimeAllowanceWrite_ppsDelay (v : W32) (s : State) : doTimeAllowanceWrite .ppsDelay v s
    = { s with clk := { s.clk with
        ppsDelay := if anyLive s = false ∧ -1000 ≤ v.toInt ∧ v.toInt ≤ 1000 then v else s.clk.ppsDelay } } := by
  by_cases h : anyLive s = false ∧ -1000 ≤ v.toInt ∧ v.toInt ≤ 1000
  · obtain ⟨hlive, hlo, hhi⟩ := h
    simp [doTimeAllowanceWrite, hlive, hlo, hhi, Int.not_lt.2 hlo, Int.not_lt.2 hhi]
  · have hkept : (anyLive s || decide (v.toInt < -1000) || decide (1000 < v.toInt)) = true := by
      simp only [Bool.or_eq_true, decide_eq_true_eq]
      rcases Bool.eq_false_or_eq_true (anyLive s) with hl | hl
      · exact .inl (.inl hl)
      · simp only [hl, true_and] at h
        omega
    simp only [doTimeAllowanceWrite, hkept, h, if_true, if_false]

theorem portOf_mapPort_same (p : Nat) (f : Port → Port) (s : State) : portOf (mapPort p f s) p = f (portOf s p) := by
  simp only [portOf, mapPort]
  split <;> rfl

theorem portOf_mapPort_across {p : Nat} (hp : p < 2) (f : Port → Port) (s : State) :
    portOf (mapPort p f s) (1 - p) = portOf s (1 - p) := by
  obtain rfl | rfl : p = 0 ∨ p = 1 := by omega
  · rfl
  · rfl

/-- A PTP correction in range is taken while no game is LIVE (R382). -/
theorem doPtpCorrectionWrite_inRange {s : State} {v : W32} (hlive : anyLive s = false) (hlo : -500 ≤ v.toInt)
    (hhi : v.toInt ≤ 500) (p : Nat) :
    doPtpCorrectionWrite (.ingress p) v s = mapPort p (fun x => { x with ingress := v }) s
    ∧ doPtpCorrectionWrite (.egress p) v s = mapPort p (fun x => { x with egress := v }) s := by
  simp [doPtpCorrectionWrite, hlive, inNs, hlo, hhi]

/-! ### DEPART registers (R153, R182) -/

theorem doDepartPeriodWrite_taken {s : State} {v : W32} (hlo : periodFloor s ≤ v.toNat % 2 ^ 20)
    (hhi : v.toNat % 2 ^ 20 ≤ 1000000) : doDepartPeriodWrite v s
      = { s with dep := { s.dep with periodUs := v.toNat % 2 ^ 20, periodChanged := true } } := by
  simp only [doDepartPeriodWrite, BitVec.extractLsb'_toNat, Nat.shiftRight_zero, Nat.not_lt.2 hlo, Nat.not_lt.2 hhi,
    decide_false, Bool.or_false, Bool.false_eq_true, if_false]

theorem doDepartPeriodWrite_refused {s : State} {v : W32} (h : v.toNat % 2 ^ 20 < periodFloor s ∨ 1000000 < v.toNat % 2 ^ 20) :
    doDepartPeriodWrite v s = { s with dep := { s.dep with err := 0x1 } } := by
  simp only [doDepartPeriodWrite, BitVec.extractLsb'_toNat, Nat.shiftRight_zero, Bool.or_eq_true, decide_eq_true_eq, h, if_true]

theorem getLsbD_31 (v : W32) : v.getLsbD 31 = decide (2 ^ 31 ≤ v.toNat) := by
  rw [← BitVec.msb_eq_getLsbD_last v, BitVec.msb_eq_decide]

theorem doDepartWitnessWrite_unlocked {s : State} (v : W32) (hlock : s.dep.witLock = false) : doDepartWitnessWrite v s =
    if 1000 < v.toNat % 2 ^ 11 then { s with dep := { s.dep with err := 0x2 } }
    else { s with dep := { s.dep with witLag := v.toNat / 2 ^ 16 % 256, witWaitUs := v.toNat % 2 ^ 11
                                      witLock := decide (2 ^ 31 ≤ v.toNat) } } := by
  simp only [doDepartWitnessWrite, hlock, BitVec.extractLsb'_toNat, Nat.shiftRight_eq_div_pow, Nat.pow_zero, Nat.div_one,
    getLsbD_31, Bool.false_eq_true, if_false]

/-- Settles O13: a register write that reaches its register is one operation on the state, and each operation is said
above in the words of its rule. -/
theorem blockRegisterWrites : Obligations.BlockRegisterWrites := by
  unfold Obligations.BlockRegisterWrites
  refine ⟨fun s => ⟨fun v hw hcls hstate => ?_, fun v hw hsel => ?_, fun r hcls hrun hrate => ?_⟩,
    fun s => ⟨fun hr => ?_, fun v hw => ?_, fun v hw => ?_, fun v hw => ?_, fun v hw => ?_, fun v hw => ?_,
      fun p v hp hlive hlo hhi => ⟨fun hw => ?_, fun hw => ?_⟩⟩,
    fun s v => ⟨fun hw => ⟨fun hlo hhi => ?_, fun h => ?_⟩,
      fun hw => ⟨fun hlock => ?_, fun hlock hlong => ?_, fun hlock hshort => ?_⟩⟩⟩
  · exact exec_hostWrite rfl hw (doRingBudgetWrite_wager v hcls hstate)
  · exact exec_hostWrite rfl hw ((if_neg hsel).trans (doOwnerShareWrite_eq v s))
  · exact ⟨doTokenRefill r s, rfl, doTokenRefill_tokens hcls hrun hrate, fun q hq => doTokenRefill_other hq⟩
  · exact ⟨_, congrArg Host.Outcome.next (hostRead_of_mayRead 8 doTimeNowRead hr (by decide)), rfl, rfl⟩
  · exact yields_hostWrite rfl hw (allowed_takes (f := fun n => { s with clk := { s.clk with ppsAllow := n } }) _ _ rfl)
  · exact yields_hostWrite rfl hw (allowed_takes (f := fun n => { s with clk := { s.clk with ptpAllow := n } }) _ _ rfl)
  · exact yields_hostWrite rfl hw (allowed_takes (f := fun n => { s with clk := { s.clk with holdFreq := n } }) _ _ rfl)
  · exact yields_hostWrite rfl hw (allowed_takes (f := fun n => { s with clk := { s.clk with holdAging := n } }) _ _ rfl)
  · exact yields_hostWrite rfl hw (doTimeAllowanceWrite_ppsDelay v s)
  · refine yields_hostWrite (off := ptpRegOff (.ingress p)) rfl hw ?_
    obtain ⟨htaken, -⟩ := doPtpCorrectionWrite_inRange hlive hlo hhi p
    rw [htaken]
    exact ⟨by rw [portOf_mapPort_same], portOf_mapPort_across hp _ s⟩
  · refine yields_hostWrite (off := ptpRegOff (.egress p)) rfl hw ?_
    obtain ⟨-, htaken⟩ := doPtpCorrectionWrite_inRange hlive hlo hhi p
    rw [htaken]
    exact ⟨by rw [portOf_mapPort_same], portOf_mapPort_across hp _ s⟩
  · exact exec_hostWrite rfl hw (doDepartPeriodWrite_taken hlo hhi)
  · exact exec_hostWrite rfl hw (doDepartPeriodWrite_refused h)
  · exact exec_hostWrite rfl hw (by simp only [doDepartWitnessWrite, hlock, if_true])
  · exact exec_hostWrite rfl hw ((doDepartWitnessWrite_unlocked v hlock).trans (if_pos hlong))
  · exact exec_hostWrite rfl hw ((doDepartWitnessWrite_unlocked v hlock).trans (if_neg (Nat.not_lt.2 hshort)))

end Sys2Proof.Machine

end


section
namespace Sys2Proof.Machine

/-! ### The station clock as time passes (R105, R108, R157) -/

/-- Passing time moves the running count and may steer the correction; of the clock nothing else is read later. -/
@[simp] theorem advance_clk (t : Nat) (s : State) : (advance t s).clk.run = max s.clk.run t
    ∧ (advance t s).clk.state = s.clk.state ∧ (advance t s).clk.everValid = s.clk.everValid
    ∧ (advance t s).clk.floorT = s.clk.floorT ∧ (advance t s).clk.readings = s.clk.readings
    ∧ (advance t s).clk.srcEn = s.clk.srcEn ∧ (advance t s).clk.ppsDelay = s.clk.ppsDelay
    ∧ (advance t s).clk.ppsOkAt = s.clk.ppsOkAt ∧ (advance t s).clk.offsetLast = s.clk.offsetLast := by
  simp only [advance]
  split <;> simp

theorem uncertainty_congr {s t : State} (h : t.clk = s.clk) : uncertainty t = uncertainty s := by
  simp only [uncertainty, allowance, holdF, h]

/-- u is defined in the valid states only (R105). -/
theorem clkValid_of_uncertainty {s : State} {u : Nat} (h : uncertainty s = some u) : clkValid s = true := by
  unfold uncertainty at h
  split at h
  next e => simp [clkValid, e]
  next e => simp [clkValid, e]
  next => exact absurd h (by simp)

@[simp] theorem setClock_frame (c : ClkState) (s : State) : (setClock c s).adm = s.adm ∧ (setClock c s).dep = s.dep
    ∧ (setClock c s).clk.state = c ∧ (setClock c s).clk.run = s.clk.run ∧ (setClock c s).clk.corr = s.clk.corr
    ∧ (setClock c s).clk.source = s.clk.source ∧ (setClock c s).clk.holdSince = s.clk.holdSince
    ∧ (setClock c s).clk.refPresent = s.clk.refPresent := by
  simp only [setClock]
  split
  next h => simpa using h
  next => simp

/-! ### Agreement of two sources (R107) -/

theorem agreedOffset_advance (t : Nat) (s : State) (a b : TimeSrc) : agreedOffset (advance t s) a b = agreedOffset s a b := by
  simp [agreedOffset, readingOf, mayAgree, srcEnabled]

theorem doSourceAgreement_acquiring {s : State} {a b : TimeSrc} {off : Int} (h : s.clk.state = .acquiring)
    (ho : agreedOffset s a b = some off) : doSourceAgreement a b s = acquire a off s := by
  simp only [doSourceAgreement, ho, h]

@[simp] theorem noteCause_timeStep (c : Nat) (s : State) : (noteCause c s).dep.timeStep = s.dep.timeStep := by
  simp only [noteCause]
  split <;> rfl

@[simp] theorem stepForward_spec (n : Nat) (s : State) :
    (stepForward n s).clk.run = s.clk.run + n ∧ (stepForward n s).dep.timeStep = true := by
  simp [stepForward]

@[simp] theorem lockClock_spec (a : TimeSrc) (s : State) : (lockClock a s).clk.state = .locked
    ∧ (lockClock a s).clk.run = s.clk.run ∧ (lockClock a s).clk.corr = s.clk.corr
    ∧ (lockClock a s).dep.timeStep = s.dep.timeStep := by
  simp only [lockClock]
  split <;> simp

section
variable {s : State} {off : Int} (a : TimeSrc)

/-- Below the floor of R107, or more than 1 s ahead of the sources, nothing is acquired. -/
theorem acquire_refused (h : (s.clk.run : Int) + off < s.clk.floorT ∨ off < -1000000000) : (acquire a off s).clk = s.clk := by
  by_cases hfloor : (s.clk.run : Int) + off < s.clk.floorT
  · simp [acquire, hfloor, refuseTime]
  · have hfar : off < -1000000000 := h.resolve_left hfloor
    have hback : ¬ 0 < off := by omega
    simp only [acquire, if_neg hfloor, if_neg hback, if_pos hfar]
    simp [refuseTime]

theorem acquire_steps (hfloor : ¬(s.clk.run : Int) + off < s.clk.floorT) (h : 0 < off) :
    (acquire a off s).clk.state = .locked ∧ ((acquire a off s).clk.run : Int) = s.clk.run + off
    ∧ (acquire a off s).dep.timeStep = true := by
  simp only [acquire, if_neg hfloor, if_pos h, lockClock_spec, stepForward_spec, true_and, and_true]
  omega

theorem acquire_slews (hfloor : ¬(s.clk.run : Int) + off < s.clk.floorT) (h : ¬ 0 < off) (hnear : ¬ off < -1000000000) :
    (acquire a off s).clk.state = .locked ∧ (acquire a off s).clk.run = s.clk.run ∧ (acquire a off s).clk.corr = off := by
  simp [acquire, if_neg hfloor, if_neg h, if_neg hnear]

end

/-! ### The time-lost closure (R104) -/

/-- The clock is as it was, every owner keeps its maximum of u, and no game has changed but those closed for lost time. -/
structure OnlyCloses (s t : State) : Prop where
  clk : t.clk = s.clk
  maxUnc : ∀ o, (ownerOf t o).maxUnc = (ownerOf s o).maxUnc
  games : ∀ g ∈ t.adm.games, g ∈ s.adm.games ∨ (g.live = false ∧ g.reason = 0x03)

theorem OnlyCloses.of_eq {s t : State} (hc : t.clk = s.clk) (hw : t.adm.owners = s.adm.owners)
    (hg : t.adm.games = s.adm.games) : OnlyCloses s t :=
  ⟨hc, fun o => by rw [ownerOf_congr hw], fun g h => .inl (hg ▸ h)⟩

theorem OnlyCloses.refl (s : State) : OnlyCloses s s := .of_eq rfl rfl rfl

theorem OnlyCloses.trans {s t u : State} (h : OnlyCloses s t) (k : OnlyCloses t u) : OnlyCloses s u :=
  ⟨k.clk.trans h.clk, fun o => (k.maxUnc o).trans (h.maxUnc o), fun g hg => (k.games g hg).elim (h.games g) .inr⟩

theorem uncTooBig_congr {s t : State} {o : Nat} (hc : t.clk = s.clk) (hm : (ownerOf t o).maxUnc = (ownerOf s o).maxUnc) :
    uncTooBig t o = uncTooBig s o := by
  simp only [uncTooBig, uncertainty_congr hc, hm]

theorem OnlyCloses.uncTooBig {s t : State} (h : OnlyCloses s t) (o : Nat) : uncTooBig t o = uncTooBig s o :=
  uncTooBig_congr h.clk (h.maxUnc o)

theorem mapOwner_onlyCloses {f : Owner → Owner} (o : Nat) (s : State)
    (hf : ∀ w, (f w).maxUnc = w.maxUnc := by intro; rfl) : OnlyCloses s (mapOwner o f s) := by
  refine ⟨by simp, fun p => ?_, fun g h => .inl h⟩
  by_cases e : p = o
  · subst e
    rw [ownerOf_mapOwner_same, hf]
  · rw [mapOwner, ownerOf_setOwner_other _ _ e]

theorem event_onlyCloses (code owner : Nat) (args : List (Nat × Nat)) (s : State) : OnlyCloses s (event code owner args s) :=
  .of_eq (by simp) (by simp) (by simp)

theorem closeBlock_onlyCloses (o : Nat) (s : State) : OnlyCloses s (closeBlock o s) := by
  unfold closeBlock
  dsimp only
  split
  · exact .refl s
  · refine .trans (.of_eq ?_ ?_ ?_) (mapOwner_onlyCloses ..)
    all_goals
      repeat' split
      all_goals simp

theorem addEntry_onlyCloses (o : Nat) (e : JEntry) (s : State) : OnlyCloses s (addEntry o e s) := by
  simp only [addEntry]
  refine .trans ?_ (mapOwner_onlyCloses ..)
  split
  · exact closeBlock_onlyCloses o s
  · exact .refl s

theorem flushJournal_onlyCloses (o : Nat) (s : State) : OnlyCloses s (flushJournal o s) :=
  foldl_keeps (OnlyCloses s) _ (fun st e h => h.trans (addEntry_onlyCloses o e st)) _ _ (mapOwner_onlyCloses ..)

theorem backlogCheck_onlyCloses (o : Nat) (s : State) : OnlyCloses s (backlogCheck o s) := by
  simp only [backlogCheck]
  split_ifs
  · exact (mapOwner_onlyCloses ..).trans (event_onlyCloses ..)
  · exact mapOwner_onlyCloses ..
  · exact .refl s

theorem sealLeaf_onlyCloses (st : Stamp) (l : Leaf) (replay : Bytes) (s : State) : OnlyCloses s (sealLeaf st l replay s) := by
  simp only [sealLeaf]
  refine .trans (.trans (.trans ?_ (mapOwner_onlyCloses ..)) (flushJournal_onlyCloses ..))
    (backlogCheck_onlyCloses ..)
  split <;> exact .of_eq (by simp) (by simp) (by simp)

theorem sealLeaf_games (st : Stamp) (l : Leaf) (replay : Bytes) (s : State) :
    (sealLeaf st l replay s).adm.games = s.adm.games := by
  have hj (u : State) := (flushJournal_journalOnly l.owner u).trans (backlogCheck_journalOnly l.owner _)
  simp only [sealLeaf]
  rw [(hj _).adm]
  split <;> simp [mapOwner]

theorem sealNow_games (l : Leaf) (replay : Bytes) (s : State) : (sealNow l replay s).adm.games = s.adm.games := by
  simp only [sealNow]
  split
  · exact sealLeaf_games ..
  · rfl

theorem sealNow_onlyCloses (l : Leaf) (replay : Bytes) (s : State) : OnlyCloses s (sealNow l replay s) := by
  simp only [sealNow]
  split
  · exact .trans (t := (issue l.owner s).2) (.of_eq rfl rfl rfl) (sealLeaf_onlyCloses ..)
  · exact .of_eq rfl rfl rfl

/-- A game closed for lost time. -/
def lostGame (g : Game) : Game := { g with live := false, reason := 0x03 }

theorem mem_setGame {g x : Game} {s : State} :
    x ∈ (setGame g s).adm.games ↔ x = g ∨ (x ∈ s.adm.games ∧ ¬(x.owner = g.owner ∧ x.id = g.id)) := by
  simp only [setGame, List.mem_cons, List.mem_filter, Bool.not_eq_true', Bool.and_eq_false_iff, beq_eq_false_iff_ne,
    not_and_or, ne_eq]

theorem setGame_lost_onlyCloses (g : Game) (s : State) : OnlyCloses s (setGame (lostGame g) s) := by
  refine ⟨rfl, fun _ => rfl, fun x hx => ?_⟩
  rcases mem_setGame.1 hx with rfl | ⟨hs, -⟩
  · exact .inr ⟨rfl, rfl⟩
  · exact .inl hs

/-- Closing the games of a list one after another leaves none of them as it was: a game after it is one of them, closed,
or another. -/
theorem foldl_lost_games {f : State → Game → State} (hf : ∀ st g, (f st g).adm.games = (setGame (lostGame g) st).adm.games)
    {x : Game} : ∀ (l : List Game) (s : State), x ∈ (l.foldl f s).adm.games →
      (x ∈ s.adm.games ∧ ∀ g ∈ l, ¬(x.owner = g.owner ∧ x.id = g.id)) ∨ ∃ g ∈ l, x = lostGame g
  | [], s, h => .inl ⟨h, by simp⟩
  | g :: r, s, h => by
    rcases foldl_lost_games hf r (f s g) h with ⟨hx, hr⟩ | ⟨k, hk, rfl⟩
    · rw [hf] at hx
      rcases mem_setGame.1 hx with rfl | ⟨hs, hne⟩
      · exact .inr ⟨g, by simp, rfl⟩
      · exact .inl ⟨hs, by simpa using ⟨by simpa [lostGame] using hne, by simpa using hr⟩⟩
    · exact .inr ⟨k, by simp [hk], rfl⟩

theorem timeLost_onlyCloses (o : Nat) (s : State) : OnlyCloses s (timeLost o s) := by
  simp only [timeLost]
  split
  · exact .refl s
  · refine .trans ?_ (event_onlyCloses ..)
    exact foldl_keeps (OnlyCloses s) _
      (fun st g h => (h.trans (setGame_lost_onlyCloses g st)).trans (sealNow_onlyCloses ..)) _ _ (.refl s)

theorem timeLost_closes (o : Nat) (s : State) : ∀ g ∈ (timeLost o s).adm.games, g.owner = o → g.live = false := by
  intro g hg ho
  by_contra hlive
  have hopen : ∀ h : g ∈ s.adm.games, g ∈ s.adm.games.filter fun g => g.owner == o && g.live := fun h =>
    List.mem_filter.2 ⟨h, by simpa [ho] using hlive⟩
  simp only [timeLost] at hg
  split at hg
  next hnone => exact absurd (hopen hg) (by simp [List.isEmpty_iff.1 hnone])
  next =>
    simp only [event_frame] at hg
    rcases foldl_lost_games (fun st g => sealNow_games ..) _ _ hg with ⟨hs, hne⟩ | ⟨k, -, rfl⟩
    · exact hne g (hopen hs) ⟨rfl, rfl⟩
    · exact hlive rfl

/-- One owner's turn in the closure of R104. -/
def closeOwner (st : State) (p : Nat × Owner) : State := if uncTooBig st p.1 then timeLost p.1 st else st

theorem closeOwner_onlyCloses (s : State) (p : Nat × Owner) : OnlyCloses s (closeOwner s p) := by
  unfold closeOwner
  split
  · exact timeLost_onlyCloses ..
  · exact .refl s

theorem foldl_closeOwner_closes {o : Nat} : ∀ (l : List (Nat × Owner)) (s : State), (∃ p ∈ l, p.1 = o) →
    uncTooBig s o = true → ∀ g ∈ (l.foldl closeOwner s).adm.games, g.owner = o → g.live = false
  | [], _, h, _, _, _, _ => absurd h (by simp)
  | p :: r, s, h, hu, g, hg, ho => by
    by_cases hr : ∃ p ∈ r, p.1 = o
    · exact foldl_closeOwner_closes r _ hr (((closeOwner_onlyCloses s p).uncTooBig o).trans hu) g hg ho
    · obtain ⟨q, hq, rfl⟩ := h
      obtain rfl : q = p := (List.mem_cons.1 hq).resolve_right fun hq => hr ⟨q, hq, rfl⟩
      have hrest : OnlyCloses (closeOwner s q) ((q :: r).foldl closeOwner s) :=
        foldl_keeps (OnlyCloses (closeOwner s q)) _ (fun st p h => h.trans (closeOwner_onlyCloses st p)) r _ (.refl _)
      rcases hrest.games g hg with hg | ⟨hlive, -⟩
      · rw [closeOwner, if_pos hu] at hg
        exact timeLost_closes q.1 s g hg ho
      · exact hlive

theorem timeLostAll_onlyCloses (s : State) : OnlyCloses s (timeLostAll s) := by
  unfold timeLostAll
  split
  · exact .refl s
  · exact foldl_keeps (OnlyCloses s) _ (fun st p h => h.trans (closeOwner_onlyCloses st p)) _ _ (.refl s)

theorem timeLostAll_closes {s : State} (hv : s.clk.everValid = true) {g : Game} (hg : g ∈ (timeLostAll s).adm.games)
    (ho : ∃ p ∈ s.adm.owners, p.1 = g.owner) (hu : uncTooBig s g.owner = true) : g.live = false := by
  rw [timeLostAll, hv] at hg
  exact foldl_closeOwner_closes s.adm.owners s ho hu g hg rfl

/-! ### Holdover, loss and the pulse per second (R105, R106, R109, R110, R554) -/

theorem doSourceLossTimeout_locked {s : State} (h : s.clk.state = .locked) : (doSourceLossTimeout s).clk.state = .holdover
    ∧ (doSourceLossTimeout s).clk.holdSince = s.clk.run ∧ (doSourceLossTimeout s).clk.source = 0 := by
  simp [doSourceLossTimeout, h]

theorem loseClock_spec (s : State) :
    (loseClock s).clk.state = .lost ∧ (loseClock s).clk.refPresent = s.clk.refPresent := by
  rw [loseClock, (timeLostAll_onlyCloses _).clk]
  simp

theorem doUncertaintyLimit_above {s : State} {u : Nat} (h : uncertainty s = some u) (hu : 1000000000 < u) :
    (doUncertaintyLimit s).clk.state = .lost := by
  simp only [doUncertaintyLimit, h, if_pos hu, loseClock_spec]

section
variable {s : State} {d : Int} (hen : s.clk.srcEn.getLsbD 0 = true) (hv : clkValid s = true)
include hen hv

theorem doPpsInEdge_accepted (hd : (d + s.clk.ppsDelay.toInt).natAbs ≤ 1000)
    (hu : withinU s (d + s.clk.ppsDelay.toInt) = true) : (doPpsInEdge d s).clk.ppsOkAt = some s.clk.run
      ∧ (doPpsInEdge d s).clk.offsetLast = BitVec.ofInt 64 (d + s.clk.ppsDelay.toInt) := by
  simp only [doPpsInEdge, hen, hv, hu, Nat.not_lt.2 hd, decide_false, Bool.not_true, Bool.or_self, Bool.false_eq_true, if_false]
  split <;> exact ⟨rfl, rfl⟩

theorem doPpsInEdge_discarded (hd : 1000 < (d + s.clk.ppsDelay.toInt).natAbs) : (doPpsInEdge d s).clk = s.clk := by
  simp only [doPpsInEdge, hen, hv, hd, decide_true, Bool.not_true, Bool.or_self, Bool.true_or, Bool.false_eq_true,
    if_false, if_true, discardReading, event_frame]

end

theorem clkValid_advance (t : Nat) (s : State) : clkValid (advance t s) = clkValid s := by simp [clkValid]

/-- Settles O10: each move of the clock is read off its own operation, and in the time-lost closure no turn of another
owner opens a game again or changes a maximum (`OnlyCloses`). -/
theorem stationClock : Obligations.StationClock := by
  unfold Obligations.StationClock
  refine ⟨fun s t ha => ⟨fun a b off hacq hoff => ?_, fun hl => ?_, fun u hu hbig => ?_, ?_, fun rise => ?_,
    fun d hen hv hd hu => ?_, fun d hen hv hd => ?_⟩, fun s t hs he => ?_⟩
  · refine yields_when rfl ha ?_
    rw [doSourceAgreement_acquiring (off := off) (by simpa using hacq) (by rw [agreedOffset_advance, hoff])]
    have hrun : (advance t s).clk.run = max s.clk.run t := by simp
    have hfl : (advance t s).clk.floorT = s.clk.floorT := by simp
    split
    next h =>
      rw [acquire_refused a (by rwa [hrun, hfl])]
      exact ⟨by simpa using hacq, hrun⟩
    next h =>
      obtain ⟨hfloor, hnear⟩ := not_or.1 h
      rw [← hrun, ← hfl] at hfloor
      split
      next hpos => exact hrun ▸ acquire_steps a hfloor hpos
      next hneg => exact hrun ▸ acquire_slews a hfloor hneg hnear
  · exact yields_when rfl ha (by simpa using doSourceLossTimeout_locked (s := advance t s) (by simpa using hl))
  · exact yields_when rfl ha (doUncertaintyLimit_above hu hbig)
  · exact yields_when rfl ha (loseClock_spec _)
  · exact yields_when rfl ha rfl
  · have hedge := doPpsInEdge_accepted (s := advance t s) (d := d) (by simpa only [advance_clk] using hen)
      ((clkValid_advance t s).trans hv) (by simpa only [advance_clk] using hd) (by simpa only [advance_clk] using hu)
    simp only [advance_clk] at hedge
    exact yields_when rfl ha hedge
  · have hedge := doPpsInEdge_discarded (s := advance t s) (d := d) (by simpa only [advance_clk] using hen)
      ((clkValid_advance t s).trans hv) (by simpa only [advance_clk] using hd)
    exact yields_when rfl ha (by simp only [hedge, advance_clk, and_self])
  · refine yields_when rfl hs fun g hg ho hu => ⟨timeLostAll_closes (by simpa using he) hg (by simpa using ho) hu, ?_⟩
    have hgames := (timeLostAll_onlyCloses (advance t s)).games g hg
    simp only [advance_frame] at hgames
    exact hgames.imp_right And.right

end Sys2Proof.Machine

end


section
namespace Sys2Proof.Machine

/-! ### What a receipt leaves as it is (R141, R243) -/

theorem cacheLookup_frame (die owner seq : Nat) (r : Bytes) (s : State) : (cacheLookup die owner seq r s).rings = s.rings
    ∧ (cacheLookup die owner seq r s).adm = s.adm ∧ (cacheLookup die owner seq r s).dep = s.dep := by
  simp only [cacheLookup, makeRoom]
  split_ifs <;> simp

theorem deriveReceipt_frame (die : Option Nat) (owner seq : Nat) (r : Bytes) (s : State) :
    (deriveReceipt die owner seq r s).2.rings = s.rings ∧ (deriveReceipt die owner seq r s).2.adm = s.adm
    ∧ (deriveReceipt die owner seq r s).2.dep = s.dep := by
  simp only [deriveReceipt]
  split
  · simp [cacheLookup_frame]
  · simp

theorem sealLeaf_items (st : Stamp) (l : Leaf) (replay : Bytes) (s : State) :
    (sealLeaf st l replay s).adm.items = s.adm.items := by
  have hj (u : State) := (flushJournal_journalOnly l.owner u).trans (backlogCheck_journalOnly l.owner _)
  simp only [sealLeaf]
  rw [(hj _).adm]
  split <;> simp [mapOwner]

/-! ### How a fetched record ends (R58, R85, R89) -/

/-- The reorder buffer of the record's ring holds its completion. -/
def Ended (f : Fetched) (status : Status) (detail : Nat) (stamp : Option Stamp) (r : State) : Prop :=
  ∃ c ∈ (ringOf r f.ring).fin, c.idx = f.idx ∧ c.tag = dTag f.desc ∧ c.status = status ∧ c.detail = detail
    ∧ c.stamp = stamp

theorem deliver_ended {f : Fetched} {d : Done} {s : State} (h : ringTakes (ringOf s f.ring) f.gen = true) (hi : d.idx = f.idx)
    (ht : d.tag = dTag f.desc) : Ended f d.status d.detail d.stamp (deliver f.ring f.gen d s) :=
  ⟨d, by simp [deliver_fin d h], hi, ht, rfl, rfl, rfl⟩

/-- The record has left the fetched ones. -/
def unfetched (f : Fetched) (s : State) : State := { s with adm := { s.adm with fetched := s.adm.fetched.erase f } }

@[simp] theorem noteSpan_frame (s : State) : (noteSpan s).rings = s.rings ∧ (noteSpan s).adm.nextSeq = s.adm.nextSeq
    ∧ (noteSpan s).adm.items = s.adm.items ∧ (noteSpan s).adm.refused = s.adm.refused := by
  simp only [noteSpan]
  split <;> simp

/-- A refused record ends REFUSED_BUSY with its cause, is counted, and takes no number (R89). -/
theorem refuse_spec {f : Fetched} (cause : Nat) {s : State} (h : ringTakes (ringOf s f.ring) f.gen = true) :
    Ended f .refusedBusy cause none (refuse f cause s) ∧ (refuse f cause s).adm.nextSeq = s.adm.nextSeq
    ∧ (refuse f cause s).adm.refused = min (s.adm.refused + 1) (2 ^ 32 - 1)
    ∧ (refuse f cause s).adm.items = s.adm.items := by
  have hnoted : (if cause = 4 then noteSpan s else s).rings = s.rings
      ∧ (if cause = 4 then noteSpan s else s).adm.nextSeq = s.adm.nextSeq
      ∧ (if cause = 4 then noteSpan s else s).adm.items = s.adm.items
      ∧ (if cause = 4 then noteSpan s else s).adm.refused = s.adm.refused := by split <;> simp
  obtain ⟨hrings, hseq, hitems, hrefused⟩ := hnoted
  refine ⟨deliver_ended ?_ rfl rfl, ?_, ?_, ?_⟩
  · rw [ringOf_congr (s := s) (by simp [hrings]), h]
  all_goals simp [refuse, refuseBusy, endUnsealed, sat32, hseq, hitems, hrefused]

theorem checked_unfetched (f : Fetched) (s : State) (x : Ring) (d : BitVec 512) (src : SourceRead) :
    checked (unfetched f s) x d src = checked s x d src := rfl

theorem busyCause_unfetched (f : Fetched) (s : State) (o : Nat) : busyCause (unfetched f s) o = busyCause s o := rfl

section
variable {f : Fetched} {x : Ring} {s : State}

theorem decideRunning_bad (h : checked s x f.desc f.src = none) :
    decideRunning f x (unfetched f s) = endUnsealed f .badDescriptor 0 (unfetched f s) := by
  simp only [decideRunning, checked_unfetched, h]

variable {b : Bytes} (h : checked s x f.desc f.src = some b)
include h

theorem decideRunning_busy (hcls : x.cls = 0 ∨ x.cls = 1) (hk : busyCause s x.func ≠ 0) :
    decideRunning f x (unfetched f s) = refuse f (busyCause s x.func) (unfetched f s) := by
  have h2 : x.cls ≠ 2 := by omega
  simp only [decideRunning, checked_unfetched, busyCause_unfetched, h, if_neg h2, if_pos hk]

theorem decideRunning_wager (hcls : x.cls = 0) (hk : busyCause s x.func = 0) : decideRunning f x (unfetched f s)
    = if x.tokens = 0 then refuse f 1 (unfetched f s) else admitWager f x.func b (unfetched f s) := by
  simp [decideRunning, checked_unfetched, busyCause_unfetched, h, hcls, hk]

theorem decideRunning_work (hcls : x.cls = 1 ∨ x.cls = 2) (hk : busyCause s x.func = 0 ∨ x.cls = 2) :
    decideRunning f x (unfetched f s) = admitWork f x b (unfetched f s) := by
  rcases hcls with h1 | h2
  · simp [decideRunning, checked_unfetched, busyCause_unfetched, h, h1, hk.resolve_right (by omega)]
  · simp [decideRunning, checked_unfetched, h, h2]

end

/-! ### Admission of a wager (R85, R86, R103) -/

/-- The close rule reads the clock, the integrity stop, the device state, the games and the owners. -/
theorem closeReason_congr {s u : State} (hc : u.clk = s.clk) (hv : u.vm = s.vm) (hs : u.sys = s.sys)
    (hg : u.adm.games = s.adm.games) (ho : u.adm.owners = s.adm.owners) (o game t : Nat) :
    closeReason u o game t = closeReason s o game t := by
  have hvalid : clkValid u = clkValid s := by simp only [clkValid, hc]
  have hgame : findGame u o game = findGame s o game := by simp only [findGame, hg]
  have hbig : uncTooBig u o = uncTooBig s o := uncTooBig_congr hc (by rw [ownerOf_congr ho])
  simp only [closeReason, hvalid, hgame, hbig, uncertainty_congr hc, hv, hs]

/-- The last row of the close rule is met only by a game of the table. -/
theorem findGame_of_closeReason {s : State} {o game t : Nat} (h : closeReason s o game t = none) :
    ∃ g, findGame s o game = some g ∧ g.id = game := by
  unfold closeReason at h
  split_ifs at h
  split at h
  · exact absurd h (by simp)
  next g hg =>
    have hid := List.find?_some hg
    exact ⟨g, hg, by simpa using (Bool.and_eq_true_iff.1 hid).2⟩

/-- The state in which a wager has its token and its number. -/
def numbered (f : Fetched) (o : Nat) (s : State) : State :=
  (issue o (bump 0x01 [0] o 1 (mapRing f.ring (fun x => { x with tokens := x.tokens - 1 }) s))).2

@[simp] theorem numbered_frame (f : Fetched) (o : Nat) (s : State) : (numbered f o s).clk = s.clk
    ∧ (numbered f o s).vm = s.vm ∧ (numbered f o s).sys = s.sys ∧ (numbered f o s).adm.games = s.adm.games
    ∧ (numbered f o s).adm.owners = s.adm.owners ∧ (numbered f o s).adm.items = s.adm.items
    ∧ (numbered f o s).adm.nextSeq = s.adm.nextSeq + 1 ∧ (numbered f o s).adm.lastT = (nextStamp s).t
    ∧ ringOf (numbered f o s) f.ring = { ringOf s f.ring with tokens := (ringOf s f.ring).tokens - 1 } := by
  have hring (u : State) : ringOf (issue o (bump 0x01 [0] o 1 u)).2 f.ring = ringOf u f.ring := ringOf_congr (by simp) _
  refine ⟨?_, ?_, ?_, ?_, ?_, ?_, ?_, ?_, (hring _).trans (ringOf_mapRing_same ..)⟩
  all_goals simp [numbered, issue, admitTime, nextStamp]

/-- A wager with a token takes the next number and then meets the close rule. -/
theorem admitWager_eq (f : Fetched) (o : Nat) (r : Bytes) (s : State) : admitWager f o r s =
    match closeReason s o (hGame r) (nextStamp s).t with
    | some c => sealClosed f o r (nextStamp s) c (numbered f o s)
    | none =>
      match findGame s o (hGame r) with
      | some g => placeWager f o r (nextStamp s) g (numbered f o s)
      | none => numbered f o s := by
  have hst : (issue o (bump 0x01 [0] o 1 (mapRing f.ring (fun x => { x with tokens := x.tokens - 1 }) s))).1 = nextStamp s := by
    simp [issue, admitTime, nextStamp]
  have hclose : closeReason (numbered f o s) o (hGame r) (nextStamp s).t = closeReason s o (hGame r) (nextStamp s).t :=
    closeReason_congr (by simp) (by simp) (by simp) (by simp) (by simp) ..
  have hgame : findGame (numbered f o s) o (hGame r) = findGame s o (hGame r) := by simp [findGame]
  rw [← hclose, ← hgame, ← hst]
  rfl

/-- A wager that the close rule refuses is sealed with its number and ends with the reason (R85 step 5). -/
theorem sealClosed_spec {f : Fetched} (o : Nat) (r : Bytes) (st : Stamp) (c : Nat) {s : State}
    (h : ringTakes (ringOf s f.ring) f.gen = true) : Ended f .refusedClosed c (some st) (sealClosed f o r st c s)
    ∧ (sealClosed f o r st c s).adm.nextSeq = s.adm.nextSeq ∧ (sealClosed f o r st c s).adm.items = s.adm.items
    ∧ Sealed (sealClosed f o r st c s) st (wagerLeaf f.ring o f.desc r .refusedClosed c 0 0 0 0) := by
  have hseal := sealLeaf_sealed st (wagerLeaf f.ring o f.desc r .refusedClosed c 0 0 0 0) (replayNone s) s
  refine ⟨?_, ?_, ?_, ?_⟩
  · simp only [sealClosed]
    refine deliver_ended ?_ rfl rfl
    rw [ringOf_congr (s := s) (by simp [deriveReceipt_frame]), h]
  · simp [sealClosed, deriveReceipt_frame]
  · simp [sealClosed, deriveReceipt_frame, sealLeaf_items]
  · simpa [Sealed, sealClosed, deriveReceipt_frame] using hseal

theorem admitWager_closed {f : Fetched} {o c : Nat} {r : Bytes} {s : State}
    (hc : closeReason s o (hGame r) (nextStamp s).t = some c) (h : ringTakes (ringOf s f.ring) f.gen = true) :
    Ended f .refusedClosed c (some (nextStamp s)) (admitWager f o r s)
    ∧ (admitWager f o r s).adm.nextSeq = s.adm.nextSeq + 1 ∧ (admitWager f o r s).adm.items = s.adm.items
    ∧ Sealed (admitWager f o r s) (nextStamp s) (wagerLeaf f.ring o f.desc r .refusedClosed c 0 0 0 0) := by
  have hclosed : admitWager f o r s = sealClosed f o r (nextStamp s) c (numbered f o s) := by rw [admitWager_eq, hc]
  obtain ⟨hend, hseq, hitems, hseal⟩ := sealClosed_spec (f := f) o r (nextStamp s) c (s := numbered f o s)
    (by simpa only [numbered_frame, ringTakes] using h)
  rw [hclosed]
  exact ⟨hend, hseq.trans (by simp), hitems.trans (by simp), hseal⟩

theorem admitWager_placed {f : Fetched} {o : Nat} {r : Bytes} {s : State}
    (hc : closeReason s o (hGame r) (nextStamp s).t = none) :
    (admitWager f o r s).adm.nextSeq = s.adm.nextSeq + 1 ∧ (admitWager f o r s).adm.lastT = (nextStamp s).t
    ∧ (ringOf (admitWager f o r s) f.ring).tokens = (ringOf s f.ring).tokens - 1
    ∧ ∃ i, (admitWager f o r s).adm.items = s.adm.items ++ [i] ∧ i.seq = (nextStamp s).seq ∧ i.t = (nextStamp s).t
      ∧ i.dep = (nextStamp s).dep ∧ i.owner = o ∧ i.record = r ∧ i.idx = f.idx ∧ i.game = hGame r ∧ i.isCancel = false
      ∧ i.ended = none := by
  obtain ⟨g, hg, hid⟩ := findGame_of_closeReason hc
  have hplaced : admitWager f o r s = placeWager f o r (nextStamp s) g (numbered f o s) := by
    simp only [admitWager_eq, hc, hg]
  have hring : ringOf (placeWager f o r (nextStamp s) g (numbered f o s)) f.ring = ringOf (numbered f o s) f.ring := rfl
  rw [hplaced, hring]
  refine ⟨?_, ?_, ?_, ?_⟩
  · simp [placeWager]
  · simp [placeWager]
  · simp
  · simp only [placeWager, numbered_frame]
    exact ⟨_, rfl, rfl, rfl, rfl, rfl, rfl, rfl, hid, rfl, rfl⟩

/-- A QUERY or SERVICE record waits for its command (R102). -/
theorem admitWork_waits (f : Fetched) (x : Ring) (b : Bytes) (s : State) : ∃ w, (admitWork f x b s).adm.work = s.adm.work ++ [w]
    ∧ w.ring = f.ring ∧ w.idx = f.idx ∧ w.desc = f.desc ∧ w.src = b := by
  by_cases h : dOp f.desc = 0x10 ∨ dOp f.desc = 0x11
  · simp only [admitWork, if_pos h, stampWork, issue, bump_frame]
    exact ⟨_, rfl, rfl, rfl, rfl, rfl⟩
  · simp only [admitWork, if_neg h, bump_frame]
    exact ⟨_, rfl, rfl, rfl, rfl, rfl⟩

theorem closeReason_unfetched (f : Fetched) (s : State) (o game t : Nat) :
    closeReason (unfetched f s) o game t = closeReason s o game t := closeReason_congr rfl rfl rfl rfl rfl ..

/-! ### One step (R83) -/

theorem takeRecord_running {s : State} {f : Fetched} (hrun : (ringOf s f.ring).state = .running)
    (hgen : (ringOf s f.ring).gen = f.gen) : takeRecord f s = decideRunning f (ringOf s f.ring) (unfetched f s) := by
  simp only [takeRecord, hgen, hrun, bne_self_eq_false, Bool.false_eq_true, if_false, beq_iff_eq, reduceCtorEq, if_true]
  rfl

/-- With no leaf and no tick due and outside a pause, the step decides the record that is next. -/
theorem doAdmissionStep_decides {s : State} {f : Fetched} (hs : inService s = true) (hl : lastIssued s = false)
    (hp : s.adm.pausedAt = none) (hf : nextRecord s = some f) (hrun : (ringOf s f.ring).state = .running)
    (hgen : (ringOf s f.ring).gen = f.gen) (ht : tryTick (drainEnds s) = s) :
    doAdmissionStep s = decideRunning f (ringOf s f.ring) (unfetched f s) := by
  have hmay : mayAdmit s = true := by simp [mayAdmit, hs, hl, hp]
  simp only [doAdmissionStep, ht, hmay, if_true, decideOne, hf, takeRecord_running hrun hgen]

theorem ringTakes_running {x : Ring} {gen : Nat} (hrun : x.state = .running) (hgen : x.gen = gen) :
    ringTakes x gen = true := by
  simp [ringTakes, hrun, hgen]

/-- Settles O29: the step is the decision of the one record (`doAdmissionStep_decides`), which its ring's class, the busy
causes, the tokens and the close rule send to one of five ends. -/
theorem admissionStep : Obligations.AdmissionStep := by
  unfold Obligations.AdmissionStep
  intro s t f ha hs hl hp hf hrun hgen htick
  have hx : ringOf (advance t s) f.ring = ringOf s f.ring := ringOf_congr (by simp) _
  have htakes : ringTakes (ringOf (unfetched f (advance t s)) f.ring) f.gen = true :=
    ringTakes_running (by rw [← hrun, ← hx]; rfl) (by rw [← hgen, ← hx]; rfl)
  have hstamp : nextStamp (unfetched f (advance t s))
      = { seq := s.adm.nextSeq, t := max (advance t s).clk.run (s.adm.lastT + 1), dep := s.dep.number } := by
    simp [nextStamp, unfetched]
  have hseq : (unfetched f (advance t s)).adm.nextSeq = s.adm.nextSeq := by simp [unfetched]
  have hstep := doAdmissionStep_decides (s := advance t s) (f := f) (by simpa [inService] using hs)
    (by simpa [lastIssued, flashNow] using hl) (by simpa using hp) hf (by rwa [hx]) (by rwa [hx]) htick
  rw [hx] at hstep
  have decides {P : State → Prop} (h : P (decideRunning f (ringOf s f.ring) (unfetched f (advance t s)))) :
      Yields (.admissionStep t) s P := by
    have hawake : (alive s && s.sys.state != .stabled) = true := by
      simp only [inService, Bool.or_eq_true, beq_iff_eq] at hs
      rcases hs with hs | hs <;> simp [ha, hs]
    exact yields_when rfl hawake (by rwa [hstep])
  refine ⟨fun hbad => decides ?_, fun b hb => ⟨fun hcls k hk hk0 => decides ?_, fun hcls hk => ⟨fun htok => decides ?_,
    fun htok c hc => decides ?_, fun htok hc => decides ?_⟩, fun hcls hk => decides ?_⟩⟩
  · rw [decideRunning_bad hbad]
    refine ⟨deliver_ended htakes rfl rfl, ?_, ?_⟩ <;> simp [endUnsealed, unfetched]
  · subst hk
    rw [decideRunning_busy hb hcls hk0]
    obtain ⟨hend, hnext, hcount, -⟩ := refuse_spec (busyCause (advance t s) (ringOf s f.ring).func) htakes
    exact ⟨hend, hnext.trans hseq, hcount.trans (by simp [unfetched])⟩
  · rw [decideRunning_wager hb hcls hk, if_pos htok]
    obtain ⟨hend, hnext, -, hitems⟩ := refuse_spec 1 htakes
    exact ⟨hend, hnext.trans hseq, hitems.trans (by simp [unfetched])⟩
  · rw [← closeReason_unfetched f, ← hstamp] at hc
    rw [decideRunning_wager hb hcls hk, if_neg (by omega), ← hstamp]
    obtain ⟨hend, hnext, hitems, hseal⟩ := admitWager_closed hc htakes
    exact ⟨hend, hnext.trans (by rw [hseq]), hitems.trans (by simp [unfetched]), hseal⟩
  · rw [← closeReason_unfetched f, ← hstamp] at hc
    rw [decideRunning_wager hb hcls hk, if_neg (by omega), ← hstamp]
    obtain ⟨hnext, hlast, htokens, i, hitems, hi⟩ := admitWager_placed (f := f) hc
    exact ⟨hnext.trans (by rw [hseq]), hlast, htokens.trans (by rw [← hx]; rfl), i, hitems.trans (by simp [unfetched]), hi⟩
  · rw [decideRunning_work hb hcls hk]
    obtain ⟨w, hwork, hw⟩ := admitWork_waits f (ringOf s f.ring) b (unfetched f (advance t s))
    exact ⟨w, hwork.trans (by simp [unfetched]), hw⟩

end Sys2Proof.Machine

end


section
namespace Sys2Proof.Machine

/-! ### What a game command runs on (R99, R101) -/

theorem finishSealed_games (w : Work) (l : Leaf) (replay out : Bytes) (s : State) :
    (finishSealed w l replay out s).adm.games = s.adm.games := by
  simp only [finishSealed, finish_frame]
  split
  · exact sealLeaf_games ..
  · rfl

/-- The state in which the body of an owner-tagged command runs: the checks are made and the number is taken. -/
def bodyState (o verb op : Nat) (rsv : Bool) (w : Work) (s : State) : State :=
  (stampWork w o (takeBody o verb rsv w.src op s).2).2

theorem withSealedWork_taken {s : State} {id : WorkId} {op : Nat} {w : Work} (body : Work → State → State)
    (hn : canNumber s = true) (h : Waits s id op w) : withSealedWork id op body s = body w (taken w s) :=
  withSealedWork_waits body hn h

/-- A command whose body passes the checks changes the game table as its body does. -/
theorem gameCommand_games {s : State} {id : WorkId} {op ctr : Nat} {w : Work} (body : GameBody) (hn : canNumber s = true)
    (hw : Waits s id op w)
    (hc : (takeBody (w.func s) 0x0003 (gameRsvOk w.src) w.src op (taken w s)).1 = .good ctr) :
    (gameCommand op body id s).adm.games
      = (body (w.func s) w.src (bodyState (w.func s) 0x0003 op (gameRsvOk w.src) w (taken w s))).2.adm.games := by
  have ⟨_, hopen, _, _⟩ := hw
  have hclose : closeWork (taken w s) = false := hopen
  simp only [gameCommand, withSealedWork_taken _ hn hw, hclose, Bool.false_eq_true, if_false, func_taken, hc]
  exact finishSealed_games ..

/-- A root generation that its slot no longer holds is used without a check of the slot (R235, R244). -/
theorem takeBody_stale {s : State} {o : Nat} (verb op : Nat) (rsv : Bool) (b : Bytes)
    (h : (rootAt s o s.adm.nextSeq).live = false) : (takeBody o verb rsv b op s).1 = bodyCheck s o verb rsv b op := by
  simp [takeBody, checkRoot, h]

/-- The owner's command counter reads ctr. -/
def counterMoved (o ctr : Nat) (s : State) : State := mapOwner o (fun w => { w with cmdCtr := ctr }) s

/-- A body that passes moves the owner's command counter; admission, rings, engines and device state are otherwise as they
were (R101). -/
theorem takeBody_moves {s : State} {o verb op ctr : Nat} {rsv : Bool} {b : Bytes}
    (h : (takeBody o verb rsv b op s).1 = .good ctr) :
    (takeBody o verb rsv b op s).2.adm = (counterMoved o ctr s).adm
    ∧ (takeBody o verb rsv b op s).2.rings = s.rings ∧ (takeBody o verb rsv b op s).2.eng = s.eng
    ∧ (takeBody o verb rsv b op s).2.sys = s.sys := by
  have hcheck : bodyCheck (checkRoot o s.adm.nextSeq s) o verb rsv b op = .good ctr := h
  simp only [takeBody, hcheck]
  split <;> simp [counterMoved, mapOwner, ownerOf]

/-- R96 reads the rings, the owners, the games, the rulebooks and the engines in service. -/
theorem bindErr_congr {s t : State} (hr : t.rings = s.rings) (ho : t.adm.owners = s.adm.owners)
    (hg : t.adm.games = s.adm.games) (he : t.eng = s.eng) (hs : t.sys = s.sys) (o w c : Nat) :
    bindErr t o w c = bindErr s o w c := by
  have hcost (p : Nat) : ownerCost t p = ownerCost s p := by simp only [ownerCost, he, hg]
  have hbudgets : budgetsOf t = budgetsOf s := by simp only [budgetsOf, hcost, hr, ho]
  have hengines : inServiceEngines t = inServiceEngines s := by
    simp only [inServiceEngines, dieEngines, clusterEngines, he, hs]
  have hthreads : threadCap t = threadCap s := by simp only [threadCap, hengines]
  have hissue : issueCap t = issueCap s := by simp only [issueCap, hengines]
  have hfit (b : Budgets) : threadsFit t b = threadsFit s b := by rw [threadsFit, hthreads, threadsFit]
  have herr (b : Budgets) : budgetErr t b = budgetErr s b := by rw [budgetErr, hfit, hissue, budgetErr]
  simp only [bindErr, hcost, hbudgets, herr]

theorem takeBody_stale_taken {s : State} {w : Work} {o : Nat} (verb op : Nat) (rsv : Bool) (b : Bytes)
    (h : (rootAt s o s.adm.nextSeq).live = false) :
    (takeBody o verb rsv b op (taken w s)).1 = bodyCheck s o verb rsv b op := takeBody_stale (s := taken w s) _ _ _ _ h

/-- What the body of a command meets: the owners as the move of the command counter has left them, and rings, games,
rulebooks and device state as they were. -/
theorem bodyState_frame {s : State} {o verb op ctr : Nat} {rsv : Bool} {w : Work}
    (h : (takeBody o verb rsv w.src op (taken w s)).1 = .good ctr) :
    (bodyState o verb op rsv w (taken w s)).rings = s.rings
    ∧ (bodyState o verb op rsv w (taken w s)).adm.owners = (counterMoved o ctr s).adm.owners
    ∧ (bodyState o verb op rsv w (taken w s)).adm.games = s.adm.games
    ∧ (bodyState o verb op rsv w (taken w s)).eng = s.eng ∧ (bodyState o verb op rsv w (taken w s)).sys = s.sys := by
  obtain ⟨hadm, hrings, heng, hsys⟩ := takeBody_moves h
  have howners := congrArg Adm.owners hadm
  have hgames := congrArg Adm.games hadm
  exact ⟨hrings, howners, hgames, heng, hsys⟩

/-- A rulebook whose binding R96 refuses once the command counter has moved is bound to no game. -/
theorem gameDefine_unfit {s : State} {id : WorkId} {ctr : Nat} {w : Work} {k : Book} (hn : canNumber s = true)
    (hw : Waits s id 0x60 w)
    (hc : (takeBody (w.func s) 0x0003 (gameRsvOk w.src) w.src 0x60 (taken w s)).1 = .good ctr)
    (hk : bookOf s (w.func s) (bBook w.src) = some k)
    (he : bindErr (counterMoved (w.func s) ctr s) (w.func s) k.w k.c ≠ 0) :
    (gameCommand 0x60 defineBody id s).adm.games = s.adm.games := by
  obtain ⟨hrings, howners, hgames, heng, hsys⟩ := bodyState_frame hc
  rw [← bindErr_congr (s := counterMoved (w.func s) ctr s) hrings howners hgames heng hsys] at he
  have hbook : bookOf (bodyState (w.func s) 0x0003 0x60 (gameRsvOk w.src) w (taken w s)) (w.func s) (bBook w.src) = some k := by
    rw [bookOf, heng, ← hk, bookOf]
  rw [gameCommand_games defineBody hn hw hc, ← hgames]
  simp [defineBody, hbook, he]

/-! ### A table of owners out of order

`Tbl.put` keeps its keys in ascending order and finds a key by that order. Where a table is out of order it does not find
the key and enters it again, so that R96 sums the owner's share twice. -/

/-- The 112 bytes before TAG of a GAME_DEFINE body: game 0 of rulebook 0, OPEN 0, CLOSE 1, COUNTER 1 (R100). -/
def crowdedBody : Bytes := zeros 16 ++ le 16 1 ++ le 8 1 ++ [0x60] ++ zeros 71

/-- The command key under an empty root payload (R242). -/
def crowdedKey : Bytes := clauseKey [] (clause 0 0x0003 (0x0000001000000A01#64).toNat 0)

def crowdedWork : Work :=
  { ring := 0, gen := 1, idx := 0, desc := 0x60, src := crowdedBody ++ kmac 16 crowdedKey crowdedBody "SOLNY COMMAND"
    stamp := none }

def crowdedBook : Book :=
  { owner := 1, ownerId := 0, handle := 0, version := 0, digest := 0, lmax := 0, fields := [], ops := [], consts := []
    tables := [], cancel := none, wWager := 0, cWager := 0, wCancel := 0, cCancel := 0, bytes := 0, draining := false }

/-- Owner 1 holds all of ISSUE as its share, and stands in the table after owner 2. Its root in force is an earlier
generation, so that no slot is checked. -/
def crowded : State where
  sys := { state := .ready, inReset := false, inService := 1 }
  rings := { tbl := [(0, { cls := 2, func := 1, state := .running, gen := 1 })] }
  adm := { work := [crowdedWork], owners := [(2, {}), (1, { share := 70000 })] }
  eng := { books := [crowdedBook] }
  dep := { isOpen := true }
  keys := { oldRoots := [{ owner := 1, id := 0, upto := 1, slot := 0, gen := 0, lo := 0, hi := 0, key := some [], uses := 0 }] }
  flash := { counters := [{ type := 3, writeNo := 1, epoch := 0, departure := 0, sequence := 0, seqHigh := 10, depHigh := 10
                            head := 0, accordHigh := 10 }] }

theorem crowded_waits : Waits crowded { ring := 0, idx := 0 } 0x60 crowdedWork :=
  ⟨by decide +kernel, by decide +kernel, List.find?_cons_of_pos (by decide +kernel), by decide +kernel⟩

theorem bodyCheck_crowded : bodyCheck crowded 1 0x0003 (gameRsvOk crowdedWork.src) crowdedWork.src 0x60 = .good 1 := by
  have hkey : bodyKey crowded 1 0x0003 = some crowdedKey := rfl
  have hfront : slice crowdedWork.src 0 112 = crowdedBody := List.take_left' rfl
  have htag : slice crowdedWork.src 112 16 = kmac 16 crowdedKey crowdedBody "SOLNY COMMAND" := by
    have hdrop : crowdedWork.src.drop 112 = kmac 16 crowdedKey crowdedBody "SOLNY COMMAND" := List.drop_left' rfl
    rw [slice, hdrop, List.take_of_length_le (by simp [kmac])]
  have hrest : gameRsvOk crowdedWork.src = true ∧ rd crowdedWork.src 40 1 = 0x60 ∧ allZero crowdedWork.src 41 71 = true
      ∧ (ownerOf crowded 1).cmdCtr < rd crowdedWork.src 32 8 ∧ rd crowdedWork.src 32 8 = 1 := by decide +kernel
  obtain ⟨hrsv, hop, hzero, hmoves, hctr⟩ := hrest
  simp [bodyCheck, hkey, hfront, htag, hrsv, hop, hzero, hctr, Nat.not_le.2 (hctr ▸ hmoves)]

/-- Refutes O9: in `crowded` the table of owners is out of order. R96 holds of the binding before GAME_DEFINE, but the move
of the command counter enters owner 1 a second time; its share then counts twice, R96 fails, and no game is defined. -/
theorem not_gameCommands : ¬ Obligations.GameCommands := by
  unfold Obligations.GameCommands
  intro h
  have hn : canNumber crowded = true := by decide +kernel
  have hfunc : crowdedWork.func crowded = 1 := by decide +kernel
  have hstale : (rootAt crowded 1 crowded.adm.nextSeq).live = false := by decide +kernel
  have hbook : bookOf crowded 1 (bBook crowdedWork.src) = some crowdedBook := List.find?_cons_of_pos (by decide +kernel)
  have hgood := (takeBody_stale _ _ _ _ hstale).trans bodyCheck_crowded
  have hgood' := (takeBody_stale_taken (w := crowdedWork) _ _ _ _ hstale).trans bodyCheck_crowded
  have hkept : (gameCommand 0x60 defineBody { ring := 0, idx := 0 } crowded).adm.games = [] :=
    gameDefine_unfit hn crowded_waits (hfunc.symm ▸ hgood') (hfunc.symm ▸ hbook) (by rw [hfunc]; decide +kernel)
  obtain ⟨hdefine, -⟩ := h crowded { ring := 0, idx := 0 } crowdedWork 1
  rw [hfunc] at hdefine
  obtain ⟨t, hexec, -, -, -, -, -, -, hgame⟩ := hdefine crowdedBook
    ⟨hn, crowded_waits, hgood⟩ hbook rfl (by decide +kernel) (by decide +kernel)
    rfl rfl (by decide +kernel) (by decide +kernel) (by decide +kernel)
  obtain rfl : gameCommand 0x60 defineBody { ring := 0, idx := 0 } crowded = t := Host.Outcome.next.inj hexec
  simp [findGame, hkept] at hgame

end Sys2Proof.Machine

end

section
namespace Sys2Proof.Machine

/-! ### Ops of a thread, in the words of the statements (R116, R129, R130) -/

theorem id_of_threadOf {s : State} {id : ThreadId} {th : Thread} (h : threadOf s id = some th) : th.id = id := by
  simpa using List.find?_some h

theorem threadOf_setThread {s : State} {id : ThreadId} {th th' : Thread} (hth : threadOf s id = some th)
    (hid : th'.id = th.id) : threadOf (setThread th' s) id = some th' := by
  have hid' : th'.id = id := hid.trans (id_of_threadOf hth)
  subst hid'
  exact threadOf_setThread_same hth

/-- An op that puts its thread back one op further gives what holds of the new thread. -/
theorem opGives_setThread {c : Instr} {s : State} {id : ThreadId} {th th' : Thread} {P : Thread → Prop}
    (hth : threadOf s id = some th) (he : exec c s = .next (setThread th' s)) (hid : th'.id = th.id) (hp : P th') :
    OpGives c id s P := by
  have honly := onlyThread_setThread s th'
  rw [hid, id_of_threadOf hth] at honly
  exact ⟨_, _, he, threadOf_setThread hth hid, honly, hp⟩

theorem onThread_eq {s : State} {id : ThreadId} {th : Thread} (f : Thread → Thread) (h : threadOf s id = some th) :
    onThread id f s = setThread (f th) s := by
  simp only [onThread, h]

theorem opGives_onThread {c : Instr} {s : State} {id : ThreadId} {th : Thread} {f : Thread → Thread} {P : Thread → Prop}
    (hth : threadOf s id = some th) (he : exec c s = .next (onThread id f s)) (hid : (f th).id = th.id) (hp : P (f th)) :
    OpGives c id s P :=
  opGives_setThread hth (he.trans (by rw [onThread_eq f hth])) hid hp

/-- A register written and the op passed: the register reads as written, and nothing else of the thread has changed. -/
theorem regResult_setReg (th : Thread) (d : BitVec 5) (v : W64) : RegResult th d v (th.setReg d v).step := by
  refine ⟨?_, ?_, fun g hg => ?_⟩
  · unfold Thread.setReg Thread.step
    split <;> rfl
  · exact Thread.reg_setReg_same th d v
  · exact Thread.reg_setReg_other th v hg

/-- An op that writes d and goes on. -/
theorem opGives_writeOp {c : Instr} {s : State} {id : ThreadId} {o : OpFields} {th : Thread} {f : Thread → W64} {v : W64}
    (hth : threadOf s id = some th) (he : exec c s = .next (writeOp id o f s)) (hv : f th = v) :
    OpGives c id s (RegResult th o.d v) := by
  subst hv
  exact opGives_onThread hth he (Thread.setReg_id th o.d (f th)) (regResult_setReg ..)

/-! ### The table of R130 in numbers -/

theorem toNat_div_lt (a : W64) (k : Nat) : a.toNat / k < 2 ^ 64 := (Nat.div_le_self ..).trans_lt a.isLt

theorem addSat_eq_min (a b : W64) : addSat a b = BitVec.ofNat 64 (min (a.toNat + b.toNat) (2 ^ 64 - 1)) := by
  unfold addSat
  split
  next h => rw [min_eq_right (by omega)]; rfl
  next h => rw [min_eq_left (by omega), BitVec.add_def]

theorem sub_eq_ofInt (a b : W64) : a - b = BitVec.ofInt 64 ((a.toNat : Int) - b.toNat) := by
  apply BitVec.eq_of_toNat_eq
  rw [BitVec.toNat_sub, BitVec.toNat_ofInt]
  omega

theorem mul_eq_ofNat (a b : W64) : a * b = BitVec.ofNat 64 (a.toNat * b.toNat) := BitVec.eq_of_toNat_eq (by simp)

theorem divU_eq_ofNat (a b : W64) :
    divU a b = if b = 0 then BitVec.allOnes 64 else BitVec.ofNat 64 (a.toNat / b.toNat) := by
  rw [divU, BitVec.udiv_eq, BitVec.udiv_def]

theorem shl_eq_ofNat (a : W64) (k : Nat) : a <<< k = BitVec.ofNat 64 (a.toNat * 2 ^ k) :=
  BitVec.eq_of_toNat_eq (by simp [Nat.shiftLeft_eq])

theorem shr_eq_ofNat (a : W64) (k : Nat) : a >>> k = BitVec.ofNat 64 (a.toNat / 2 ^ k) := by
  apply BitVec.eq_of_toNat_eq
  rw [BitVec.toNat_ushiftRight, Nat.shiftRight_eq_div_pow, BitVec.toNat_ofNat, Nat.mod_eq_of_lt (toNat_div_lt ..)]

theorem min_eq_ofNat (a b : W64) : (if a.ult b then a else b) = BitVec.ofNat 64 (min a.toNat b.toNat) := by
  simp only [BitVec.ult, decide_eq_true_eq]
  split
  next h => rw [min_eq_left h.le, BitVec.ofNat_toNat, BitVec.setWidth_eq]
  next h => rw [min_eq_right (Nat.not_lt.1 h), BitVec.ofNat_toNat, BitVec.setWidth_eq]

theorem max_eq_ofNat (a b : W64) : (if a.ult b then b else a) = BitVec.ofNat 64 (max a.toNat b.toNat) := by
  simp only [BitVec.ult, decide_eq_true_eq]
  split
  next h => rw [max_eq_right h.le, BitVec.ofNat_toNat, BitVec.setWidth_eq]
  next h => rw [max_eq_left (Nat.not_lt.1 h), BitVec.ofNat_toNat, BitVec.setWidth_eq]

theorem not_ult_iff (a b : W64) : (!a.ult b) = true ↔ b.toNat ≤ a.toNat := by simp [BitVec.ult]

/-- The branch target is pc + 1 + IMM[15:0] (R129). -/
theorem branch_eq (th : Thread) (o : OpFields) :
    th.branch o = { th with pc := BitVec.ofNat 12 (th.pc.toNat + 1 + o.imm.toNat % 2 ^ 16) } := by
  have htarget : th.pc + 1 + (o.imm.extractLsb' 0 16).setWidth 12
      = BitVec.ofNat 12 (th.pc.toNat + 1 + o.imm.toNat % 2 ^ 16) := by
    apply BitVec.eq_of_toNat_eq
    simp
    omega
  rw [Thread.branch, htarget]

/-- A conditional branch goes where its comparison sends it. -/
theorem opGives_branchOp {c : Instr} {s : State} {id : ThreadId} {o : OpFields} {th : Thread} {f : W64 → W64 → Bool}
    {q : Prop} [Decidable q] (hth : threadOf s id = some th) (he : exec c s = .next (branchOp id o f s))
    (hf : f (opA th o) (brB th o) = true ↔ q) : OpGives c id s (fun th' => th' = { th with
      pc := if q then BitVec.ofNat 12 (th.pc.toNat + 1 + o.imm.toNat % 2 ^ 16) else th.pc + 1 }) := by
  refine opGives_onThread hth he ?_ ?_
  · split <;> rfl
  · by_cases hq : q
    · rw [if_pos (hf.2 hq), if_pos hq, branch_eq]
    · rw [if_neg (mt hf.1 hq), if_neg hq, Thread.step]

/-- Settles O1: each op is one write of d or of pc, and its value on words is the number that the table of R130 gives. -/
theorem arithmeticAndBranchOps : Obligations.ArithmeticAndBranchOps := by
  unfold Obligations.ArithmeticAndBranchOps
  refine ⟨fun s id o th hth => ?_, fun s id o th hth => ?_⟩
  · exact ⟨opGives_writeOp hth rfl rfl, opGives_writeOp hth rfl rfl, opGives_writeOp hth rfl (BitVec.add_def ..),
      opGives_writeOp hth rfl (sub_eq_ofInt ..), opGives_writeOp hth rfl (addSat_eq_min ..),
      opGives_writeOp hth rfl (mul_eq_ofNat ..), opGives_writeOp hth rfl (divU_eq_ofNat ..), opGives_writeOp hth rfl rfl,
      opGives_writeOp hth rfl rfl, opGives_writeOp hth rfl rfl, opGives_writeOp hth rfl (shl_eq_ofNat ..),
      opGives_writeOp hth rfl (shr_eq_ofNat ..), opGives_writeOp hth rfl (min_eq_ofNat ..),
      opGives_writeOp hth rfl (max_eq_ofNat ..)⟩
  · intro a b goes next target
    have hbne := opGives_branchOp (c := .bne id o) hth rfl (bne_iff_ne (a := a) (b := b))
    simp only [ne_eq, ite_not] at hbne
    exact ⟨opGives_onThread hth rfl rfl rfl, opGives_onThread hth rfl rfl (branch_eq th o),
      opGives_branchOp hth rfl beq_iff_eq, hbne, opGives_branchOp hth rfl decide_eq_true_iff,
      opGives_branchOp hth rfl (not_ult_iff ..)⟩

end Sys2Proof.Machine
end

section
namespace Sys2Proof.Machine

/-! ### A store into a scratch that is not in canonical form

Every store keeps the canonical form of the scratch (`Memory.writes_wf`), but the statement asks of every state, also of one
whose scratch lists an address twice. -/

/-- A thread whose scratch lists offset 0x1000 twice. -/
def doubledThread : Thread where
  id := { die := 1, cluster := 0, engine := 0, thread := 0 }
  seq := 0
  pc := 0
  regs := Vector.replicate 32 0
  staged := []
  ruleField := 0
  record := []
  scratch := [(0x1000, 1), (0x1000, 2)]
  marks := 0

def doubled : State where
  eng := { threads := [doubledThread] }

/-- ST of byte 0 at offset 0x1000. -/
def storeZero : OpFields := { d := 0, a := 0, b := 0, mode := 0, imm := 0x1000 }

/-- The store drops the first entry of its offset, and the second one then shows. -/
theorem execSt_doubled : execSt doubledThread.id storeZero doubled
    = .next (setThread { doubledThread with scratch := [(0x1000, 2)], pc := 1 } doubled) := by rfl

/-- Refutes O2: in `doubled` the scratch lists offset 0x1000 twice. A store of byte 0 there takes the first entry away, and the
byte then reads 2. -/
theorem not_windowAndLookupOps : ¬ Obligations.WindowAndLookupOps := by
  unfold Obligations.WindowAndLookupOps
  intro h
  obtain ⟨hwindow, -, -⟩ := h
  obtain ⟨-, -, hstore, -⟩ := hwindow doubled doubledThread.id storeZero doubledThread (by decide +kernel)
  obtain ⟨t, th', hexec, hth, -, -, hread, -⟩ := hstore (by decide +kernel) (by decide +kernel)
  obtain rfl : _ = t := Host.Outcome.next.inj (execSt_doubled.symm.trans hexec)
  obtain rfl : _ = th' := Option.some.inj ((threadOf_setThread_same (old := doubledThread) (by decide +kernel)).symm.trans hth)
  exact absurd (hread 0 (by decide +kernel)) (by decide +kernel)

/-! ### Staging ops (R130, R136, R137) -/

section
variable {s : State} {id : ThreadId} {th : Thread} {i : Item} {b : Book} (hth : threadOf s id = some th)
  (hi : itemOf s th.seq = some i) (hb : bookFor s i = some b)
include hth hi hb

theorem recordOp_sound {area : Nat} {key : Thread → Item → Nat} (f : Thread → Item → Book → State → State)
    (h : keyBad s i.owner area (key th i) = false) : recordOp id area key f s = f th i b s := by
  simp [recordOp, onWork, hth, hi, hb, h]

theorem recordOp_bad {area : Nat} {key : Thread → Item → Nat} (f : Thread → Item → Book → State → State)
    (h : keyBad s i.owner area (key th i) = true) : recordOp id area key f s
      = endThread th { status := .fault, reason := 0, staged := none, ruleField := 0, marks := 0 } 2 s := by
  simp [recordOp, onWork, hth, hi, hb, h]

end

/-! #### LIMADD, part by part -/

section
variable (s : State) (th : Thread) (o : OpFields) (i : Item) (b : Book)

/-- The current value of the counter that LIMADD names, as the path sees it. -/
def limCurrent : Nat := pathValue s th i (th.reg o.a).toNat

/-- Constant IMM[31:16], the limit of an absent counter. -/
def limDefault : Nat := (b.consts.getD (o.imm.extractLsb' 16 16).toNat 0).toNat

def limLimit : Nat :=
  match limitOf s i.owner (th.reg o.a).toNat with
  | some c => c.limit
  | none => limDefault o b

/-- A subtraction always fits, an addition up to the limit. -/
def limFits : Bool := o.mode.getLsbD 1 || decide (limCurrent s th o i + (th.reg o.b).toNat ≤ limLimit s th o i b)

/-- What d takes. -/
def limResult : W64 :=
  if limFits s th o i b then BitVec.ofNat 64 (applyDelta (limCurrent s th o i) (th.reg o.b).toNat (o.mode.getLsbD 1))
  else BitVec.allOnes 64

/-- The staged changes afterwards. -/
def limStaged : List Staged :=
  if limFits s th o i b && !windowPast s i.owner (th.reg o.a).toNat i.t then
    th.staged ++ [.limit (th.reg o.a).toNat (th.reg o.b).toNat (o.mode.getLsbD 1) (o.imm.extractLsb' 0 16).toNat (limDefault o b)]
  else th.staged

/-- An immediate's low bits as a number. -/
theorem imm_low (n : Nat) : (o.imm.extractLsb' 0 n).toNat = o.imm.toNat % 2 ^ n := by simp

theorem imm_high : (o.imm.extractLsb' 16 16).toNat = o.imm.toNat / 2 ^ 16 := by
  have := o.imm.isLt
  rw [BitVec.extractLsb'_toNat, Nat.shiftRight_eq_div_pow, Nat.mod_eq_of_lt (by omega)]

theorem limDefault_eq : limDefault o b = (b.consts.getD (o.imm.toNat / 2 ^ 16) 0).toNat := by rw [limDefault, imm_high]

theorem limLimit_eq : limLimit s th o i b = ((limitOf s i.owner (th.reg o.a).toNat).map (·.limit)).getD (limDefault o b) := by
  unfold limLimit
  cases limitOf s i.owner (th.reg o.a).toNat <;> rfl

variable {s th o i b}

theorem limResult_fits (h : limFits s th o i b = true) : limResult s th o i b
    = BitVec.ofNat 64 (applyDelta (limCurrent s th o i) (th.reg o.b).toNat (o.mode.getLsbD 1)) := by
  rw [limResult, if_pos h]

/-- A change for a window that lies below the counter's own stages nothing (R205). -/
theorem limStaged_fits (h : limFits s th o i b = true) : limStaged s th o i b
    = if windowPast s i.owner (th.reg o.a).toNat i.t then th.staged
      else th.staged ++ [.limit (th.reg o.a).toNat (th.reg o.b).toNat (o.mode.getLsbD 1) (o.imm.toNat % 2 ^ 16)
        (b.consts.getD (o.imm.toNat / 2 ^ 16) 0).toNat] := by
  rw [limStaged, h, Bool.true_and, imm_low, limDefault_eq]
  cases windowPast s i.owner (th.reg o.a).toNat i.t <;> rfl

end

section
variable {s : State} {id : ThreadId} {o : OpFields} {th : Thread} {i : Item} {b : Book} (hth : threadOf s id = some th)
  (hi : itemOf s th.seq = some i) (hb : bookFor s i = some b)
  (hkey : keyBad s i.owner 1 (limitKey (th.reg o.a).toNat) = false)
include hth hi hb hkey

theorem doLimadd_eq : doLimadd id o s = setThread { th.setReg o.d (limResult s th o i b) with
    staged := limStaged s th o i b, pc := th.pc + 1 } s :=
  recordOp_sound hth hi hb (key := fun t _ => limitKey (opA t o).toNat) _ hkey

/-- LIMADD writes its result to d and leaves the thread with its staged changes. -/
theorem opGives_limadd {v : W64} {l : List Staged} (hv : limResult s th o i b = v) (hl : limStaged s th o i b = l) :
    OpGives (.limadd id o) id s fun th' => th'.staged = l ∧ RegResult { th with staged := l } o.d v th' := by
  subst hv hl
  refine opGives_setThread hth (congrArg _ (doLimadd_eq hth hi hb hkey)) (Thread.setReg_id ..) ⟨rfl, ?_⟩
  convert regResult_setReg { th with staged := limStaged s th o i b } o.d (limResult s th o i b) using 1
  unfold Thread.setReg Thread.step
  split <;> rfl

end

theorem OpGives.imp {c : Instr} {id : ThreadId} {s : State} {P Q : Thread → Prop} (h : ∀ x, P x → Q x)
    (hg : OpGives c id s P) : OpGives c id s Q := by
  obtain ⟨t, th', hexec, hth, honly, hp⟩ := hg
  exact ⟨t, th', hexec, hth, honly, h _ hp⟩

/-- Bit k of the marks after CNT is set as before, or it is the one named (R130). -/
theorem getLsbD_mark (m : BitVec 16) (n k : Nat) :
    (m ||| (1 : BitVec 16) <<< (n % 16)).getLsbD k = (m.getLsbD k || decide (k = n % 16)) := by
  rw [show (1 : BitVec 16) = 1#16 from rfl, BitVec.getLsbD_or, BitVec.getLsbD_shiftLeft, BitVec.getLsbD_one]
  rcases Nat.lt_trichotomy k (n % 16) with h | h | h
  · simp [h, h.ne]
  · simp [h, Nat.mod_lt]
  · simp [h.ne', Nat.sub_ne_zero_of_lt h]

/-- Settles O3: the plain ops are one update of the thread, and LIMADD comes to `limResult` and `limStaged`. -/
theorem stagingOps : Obligations.StagingOps := by
  unfold Obligations.StagingOps
  intro s id o th hth next digest
  refine ⟨opGives_onThread hth rfl rfl ⟨rfl, fun k _ => ?_⟩, opGives_onThread hth rfl rfl rfl, opGives_onThread hth rfl rfl ?_,
    opGives_onThread hth rfl rfl rfl, opGives_onThread hth rfl rfl rfl, ?_⟩
  · rw [imm_low]
    exact getLsbD_mark ..
  · rw [imm_low]
    rfl
  intro i b hi hb hkey ctr delta dflt limit cur entry staged
  have hlimit : limLimit s th o i b = limit := by rw [limLimit_eq, limDefault_eq]
  have gives {l : List Staged} {v : W64} := opGives_limadd (o := o) (v := v) (l := l) hth hi hb hkey
  refine ⟨fun hmode hle => ?_, fun hmode hlt => ?_, fun hmode => ?_⟩
  · have hf : limFits s th o i b = true := by
      rw [limFits, hlimit, hmode, Bool.false_or, decide_eq_true_eq]
      exact hle
    exact gives ((limResult_fits hf).trans (by rw [hmode]; rfl)) ((limStaged_fits hf).trans (by rw [hmode]))
  · have hf : limFits s th o i b = false := by
      rw [limFits, hlimit, hmode, Bool.false_or, decide_eq_false_iff_not]
      exact Nat.not_le.2 hlt
    exact (gives (by rw [limResult, hf]; rfl) (by rw [limStaged, hf]; rfl)).imp fun _ h => h.2
  · have hf : limFits s th o i b = true := by rw [limFits, hmode, Bool.true_or]
    exact (gives ((limResult_fits hf).trans (by rw [hmode]; rfl)) ((limStaged_fits hf).trans (by rw [hmode]))).imp fun _ h => h.2

end Sys2Proof.Machine
end

section
namespace Sys2Proof.Machine

/-! ### The end of a thread (R130, R138) -/

theorem threadOf_congr {s t : State} (h : t.eng.threads = s.eng.threads) (id : ThreadId) : threadOf t id = threadOf s id := by
  simp only [threadOf, h]

theorem itemOf_congr {s t : State} (h : t.adm.items = s.adm.items) (seq : Nat) : itemOf t seq = itemOf s seq := by
  simp only [itemOf, h]

theorem itemOf_mapItem {seq : Nat} {f : Item → Item} (hf : ∀ i, (f i).seq = i.seq) (s : State) :
    itemOf (mapItem seq f s) seq = (itemOf s seq).map fun i => if i.seq == seq then f i else i := by
  have hsame : (fun i : Item => i.seq == seq) ∘ (fun i => if i.seq == seq then f i else i) = fun i => i.seq == seq := by
    funext i
    dsimp only [Function.comp]
    split
    · rw [hf]
    · rfl
  rw [itemOf, mapItem_adm, List.find?_map, hsame]
  rfl

section
variable (th : Thread) (e : EndOp) (kind : Nat) (s : State)

@[simp] theorem endThread_threads :
    (endThread th e kind s).eng.threads = s.eng.threads.filter fun t => t.id != th.id := by simp [endThread]

@[simp] theorem endThread_frame : (endThread th e kind s).vm = s.vm ∧ (endThread th e kind s).rings = s.rings := by
  simp [endThread]

theorem threadOf_endThread_same : threadOf (endThread th e kind s) th.id = none := by
  simp [threadOf]

theorem threadOf_endThread_other {j : ThreadId} (h : j ≠ th.id) : threadOf (endThread th e kind s) j = threadOf s j := by
  rw [threadOf, endThread_threads, List.find?_filter, threadOf]
  congr 1
  funext t
  by_cases hj : t.id = j <;> simp [hj, h]

theorem itemOf_endThread {i : Item} (h : itemOf s th.seq = some i) :
    itemOf (endThread th e kind s) th.seq = some { i with ended := some e } := by
  have hseq : i.seq = th.seq := by simpa using List.find?_some h
  have hmap : itemOf (endThread th e kind s) th.seq = itemOf (mapItem th.seq (fun i => { i with ended := some e }) s) th.seq :=
    itemOf_congr (by simp [endThread]) _
  rw [hmap, itemOf_mapItem (by exact fun _ => rfl), h]
  simp [hseq]

end

/-- An op ends its thread by `endThread`, whatever it did to the keys before. -/
theorem opEndsAs_endThread {c : Instr} {s v : State} {id : ThreadId} {th : Thread} {e : EndOp} {kind : Nat}
    (hth : threadOf s id = some th) (he : exec c s = .next (endThread th e kind v)) (heng : v.eng = s.eng) (hadm : v.adm = s.adm)
    (hvm : v.vm = s.vm) (hrings : v.rings = s.rings) : OpEndsAs c id s th e := by
  have hid := id_of_threadOf hth
  refine ⟨_, he, hid ▸ threadOf_endThread_same th e kind v, fun j hj => ?_, fun i hi => ?_, ?_, ?_⟩
  · rw [threadOf_endThread_other _ _ _ _ (hid ▸ hj), threadOf_congr (s := s) (by rw [heng])]
  · exact itemOf_endThread th e kind v (by rw [itemOf_congr (s := s) (by rw [hadm]), hi])
  · simp [hvm]
  · simp [hrings]

theorem doAccept_eq {s : State} {id : ThreadId} {th : Thread} (hth : threadOf s id = some th) : doAccept id s
    = endThread th { status := .ok, reason := 0, staged := some th.staged, ruleField := th.ruleField, marks := th.marks } 0 s := by
  simp only [doAccept, hth]

theorem doReject_eq {s : State} {id : ThreadId} (o : OpFields) {th : Thread} (hth : threadOf s id = some th) : doReject id o s
    = endThread th { status := .sealedReject, reason := o.imm.toNat % 2 ^ 16, staged := some (nonceOnly th.staged)
                     ruleField := th.ruleField, marks := th.marks } 1 s := by
  simp only [doReject, hth, rejectWith, imm_low]

/-! ### AUTH (R133, R134) -/

theorem cacheLookup_engVm (die owner seq : Nat) (r : Bytes) (s : State) :
    (cacheLookup die owner seq r s).eng = s.eng ∧ (cacheLookup die owner seq r s).vm = s.vm := by
  simp only [cacheLookup, makeRoom]
  split_ifs <;> simp

/-- The state in which AUTH has derived both keys, or found them, and the receipt key is kept with the item (R133). -/
def authDerived (id : ThreadId) (i : Item) (v : State) : State :=
  mapItem i.seq (fun x => { x with receiptKey := receiptKeyOf v i.owner i.seq i.record })
    (cacheLookup id.die i.owner i.seq i.record v)

@[simp] theorem authDerived_frame (id : ThreadId) (i : Item) (v : State) :
    (authDerived id i v).eng = v.eng ∧ (authDerived id i v).vm = v.vm := by
  simp [authDerived, cacheLookup_engVm]

section
variable {s : State} {id : ThreadId} {th : Thread} {i : Item} {b : Book} (hth : threadOf s id = some th)
  (hi : itemOf s th.seq = some i) (hb : bookFor s i = some b)
include hth hi hb

theorem doAuth_bad (hkey : keyBad s i.owner 1 (terminalKey (hTerminal i.record)) = true) : doAuth id s
    = endThread th { status := .fault, reason := 0, staged := none, ruleField := 0, marks := 0 } 2 s :=
  recordOp_bad hth hi hb (key := fun _ i => terminalKey (hTerminal i.record)) _ hkey

variable (hkey : keyBad s i.owner 1 (terminalKey (hTerminal i.record)) = false)
include hkey

/-- The first of checks 1 to 5 that fails ends the thread. -/
theorem doAuth_refuses {st : Status} {d : Nat} (hpre : authPre (checkRoot i.owner i.seq s) i.owner i.seq (dSrcLen i.desc) b.lmax
    i.isCancel th.terminal i.record = some (st, d)) : doAuth id s
    = endThread th { status := st, reason := d, staged := none, ruleField := th.ruleField, marks := th.marks } 2
        (checkRoot i.owner i.seq s) :=
  (recordOp_sound hth hi hb (key := fun _ i => terminalKey (hTerminal i.record)) _ hkey).trans (by simp only [hpre])

/-- After them the tag decides: a good one stages the nonce advance and shows the plaintext, a bad one ends the thread. -/
theorem doAuth_tag (hpre : authPre (checkRoot i.owner i.seq s) i.owner i.seq (dSrcLen i.desc) b.lmax i.isCancel th.terminal
    i.record = none) : doAuth id s =
    let opened := authGcm (checkRoot i.owner i.seq s) i.owner i.seq i.record
    if opened.2 then setThread { th with
        record := slice th.record 0 32 ++ opened.1 ++ th.record.drop (32 + opened.1.length)
        staged := th.staged ++ [.nonce (hTerminal i.record) (hTense i.record) (hCtr i.record)]
        pc := th.pc + 1 } (authDerived id i (checkRoot i.owner i.seq s))
    else endThread th { status := .authFail, reason := 0x0001, staged := none, ruleField := th.ruleField, marks := th.marks } 2
      (authDerived id i (checkRoot i.owner i.seq s)) :=
  (recordOp_sound hth hi hb (key := fun _ i => terminalKey (hTerminal i.record)) _ hkey).trans (by simp only [hpre]; rfl)

end

/-! ### Dispatch (R117) -/

/-- A fresh thread's registers read 0. -/
theorem freshThread_reg (id : ThreadId) (i : Item) (entry : Nat) (term : Option Terminal) (g : BitVec 5) :
    (freshThread id i entry term).reg g = 0 := by
  simp [freshThread, Thread.reg]

theorem padTo_getD {n x : Nat} (b : Bytes) (h : x < n) : (padTo n b).getD x 0 = b.getD x 0 := by
  rcases Nat.lt_or_ge x b.length with hx | hx
  · simp [padTo, h, List.getElem?_append_left hx]
  · simp [padTo, h, List.getElem?_append_right hx, hx, zeros]

/-- Below scratch a fresh thread's window shows the record, and above it zeros. -/
theorem freshThread_readByte (id : ThreadId) (i : Item) (entry : Nat) (term : Option Terminal) (x : Nat) :
    (freshThread id i entry term).readByte x = if x < 0x1000 then i.record.getD x 0 else 0 := by
  unfold Thread.readByte scratchBase
  split
  next h => exact padTo_getD _ (by omega)
  next h => rfl

theorem doWorkDispatch_eq {s : State} {i : Item} {b : Book} {id : ThreadId} (hi : itemOf s i.seq = some i)
    (hb : bookFor s i = some b) (hended : i.ended = none) (hnew : ∀ th ∈ s.eng.threads, th.seq ≠ i.seq)
    (hd : dispatchable s i id = true) : doWorkDispatch i.seq id s = { s with eng := { s.eng with
      threads := freshThread id i (if i.isCancel then b.cancel.getD 0 else 0) (terminalOf s i.owner (rd i.record 0 8))
        :: s.eng.threads } } := by
  have hany : (s.eng.threads.any fun t => t.seq == i.seq) = false := by simpa using hnew
  simp only [doWorkDispatch, hi, hb, hended, hany, hd]
  rfl

/-- Settles O4: an op ends its thread by `endThread`, AUTH goes through `doAuth_refuses` and `doAuth_tag`, and a dispatched
thread is the fresh one of `doWorkDispatch_eq`. -/
theorem threadStartAndEnd : Obligations.ThreadStartAndEnd := by
  unfold Obligations.ThreadStartAndEnd
  refine ⟨fun s id o th hth => ⟨?_, ?_, ?_⟩, fun s i b id hi hb hended hnew hd => ?_⟩
  · exact opEndsAs_endThread hth (congrArg Host.Outcome.next (doAccept_eq hth)) rfl rfl rfl rfl
  · exact opEndsAs_endThread hth (congrArg Host.Outcome.next (doReject_eq o hth)) rfl rfl rfl rfl
  · intro i b hi hb bad v pre
    have heng : v.eng = s.eng := by simp [v]
    have hvm : v.vm = s.vm := by simp [v]
    have hderived : threadOf (authDerived id i v) id = some th := by
      rw [threadOf_congr (s := s) (by simp [heng]), hth]
    refine ⟨fun hkey => ?_, fun st d hkey hpre => ?_, fun hkey hpre hok => ?_, fun hkey hpre hok => ?_⟩
    · exact opEndsAs_endThread hth (congrArg _ (doAuth_bad hth hi hb hkey)) rfl rfl rfl rfl
    · exact opEndsAs_endThread hth (congrArg _ (doAuth_refuses hth hi hb hkey hpre)) heng (by simp) hvm (by simp)
    · refine ⟨_, congrArg Host.Outcome.next ((doAuth_tag hth hi hb hkey hpre).trans (if_pos hok)), ?_⟩
      exact ⟨_, threadOf_setThread hderived rfl, rfl, rfl, rfl⟩
    · refine ⟨_, congrArg Host.Outcome.next ((doAuth_tag hth hi hb hkey hpre).trans (if_neg (by rw [hok]; decide))), ?_, ?_⟩
      · rw [← id_of_threadOf hth, threadOf_endThread_same]
      · rw [(endThread_frame ..).1, (authDerived_frame ..).2, hvm]
  · refine ⟨_, _, congrArg Host.Outcome.next (doWorkDispatch_eq hi hb hended hnew hd), List.find?_cons_of_pos (by simp [freshThread]),
      ⟨rfl, fun j hj => ?_⟩, rfl, rfl, fun g => freshThread_reg .., rfl, rfl, rfl, rfl, fun x hx => ?_, fun x hx => ?_⟩
    · exact List.find?_cons_of_neg (by simpa [freshThread] using hj.symm)
    · rw [freshThread_readByte, if_pos hx]
    · rw [freshThread_readByte, if_neg (by omega)]

end Sys2Proof.Machine
end

section
namespace Sys2Proof.Machine

/-! ### What the records keep through a commit (R136-R138, R195)

A commit puts terminals, limit counters and tickets. Each put writes one record of its own table, and may move the others of
its area to their other buckets, which shows in no image. -/

/-- No ring, no kept outcome and not the commit number has changed. -/
structure RecordsOnly (s t : State) : Prop where
  rings : t.rings = s.rings
  kept : t.vm.kept = s.vm.kept
  commitNo : t.vm.commitNo = s.vm.commitNo

theorem RecordsOnly.refl (s : State) : RecordsOnly s s := ⟨rfl, rfl, rfl⟩

theorem RecordsOnly.trans {s t u : State} (h : RecordsOnly s t) (k : RecordsOnly t u) : RecordsOnly s u :=
  ⟨k.rings.trans h.rings, k.kept.trans h.kept, k.commitNo.trans h.commitNo⟩

/-- Neither has a ticket or a sweep. -/
structure CountersOnly (s t : State) : Prop extends RecordsOnly s t where
  tickets : t.vm.tickets = s.vm.tickets
  sweeps : t.vm.sweeps = s.vm.sweeps

theorem CountersOnly.refl (s : State) : CountersOnly s s := ⟨.refl s, rfl, rfl⟩

theorem CountersOnly.trans {s t u : State} (h : CountersOnly s t) (k : CountersOnly t u) : CountersOnly s u :=
  ⟨h.toRecordsOnly.trans k.toRecordsOnly, k.tickets.trans h.tickets, k.sweeps.trans h.sweeps⟩

/-- Every terminal record has the image it had. -/
def SameTerminals (s t : State) : Prop :=
  ∀ o n, (terminalOf t o n).map terminalBytes = (terminalOf s o n).map terminalBytes

/-- Every limit counter has the image it had. -/
def SameLimits (s t : State) : Prop :=
  ∀ o n, (limitOf t o n).map limitBytes = (limitOf s o n).map limitBytes

theorem SameTerminals.of_eq {s t : State} (h : t.vm.terminals = s.vm.terminals) : SameTerminals s t := fun o n => by
  rw [terminalOf, terminalOf, h]

theorem SameTerminals.trans {s t u : State} (h : SameTerminals s t) (k : SameTerminals t u) : SameTerminals s u :=
  fun o n => (k o n).trans (h o n)

theorem SameLimits.of_eq {s t : State} (h : t.vm.limits = s.vm.limits) : SameLimits s t := fun o n => by
  rw [limitOf, limitOf, h]

/-- A change of the entries that keeps their names and images keeps the image that is found. -/
theorem find?_map_image {α : Type} (f : α → α) (p : α → Bool) (g : α → Bytes) (l : List α) (hp : ∀ x, p (f x) = p x)
    (hg : ∀ x, g (f x) = g x) : ((l.map f).find? p).map g = (l.find? p).map g := by
  have hsame : p ∘ f = p := funext hp
  have himage : g ∘ f = g := funext hg
  rw [List.find?_map, hsame, Option.map_map, himage]

/-! No image shows the record's bucket. -/

theorem terminalBytes_bucket (x : Terminal) (b : Nat) : terminalBytes { x with bucket := b } = terminalBytes x := rfl

theorem limitBytes_bucket (c : LimitCtr) (b : Nat) : limitBytes { c with bucket := b } = limitBytes c := rfl

theorem ticketBytes_bucket (x : Ticket) (b : Nat) : ticketBytes { x with bucket := b } = ticketBytes x := rfl

section
variable (o : Nat) (l : Places) (s : State)

theorem movedCounters_sameTerminals : SameTerminals s (movedCounters o l s) := fun _ _ =>
  find?_map_image _ _ _ _ (fun x => by split <;> rfl) (fun x => by split; exacts [terminalBytes_bucket .., rfl])

theorem movedCounters_sameLimits : SameLimits s (movedCounters o l s) := fun _ _ =>
  find?_map_image _ _ _ _ (fun x => by split <;> rfl) (fun x => by split; exacts [limitBytes_bucket .., rfl])

end

/-! #### Terminal records -/

section
variable (x : Terminal) (s : State)

theorem putTerminal_countersOnly : CountersOnly s (putTerminal x s) := by
  unfold putTerminal
  extract_lets same
  split <;> exact ⟨⟨rfl, rfl, rfl⟩, rfl, rfl⟩

theorem putTerminal_sameLimits : SameLimits s (putTerminal x s) := by
  unfold putTerminal
  extract_lets same
  split
  · exact .of_eq rfl
  · exact fun o n => movedCounters_sameLimits _ _ s o n

/-- The record that was put is found, wherever its bucket is. -/
theorem terminalOf_putTerminal : (terminalOf (putTerminal x s) x.owner x.id).map terminalBytes = some (terminalBytes x) := by
  unfold putTerminal
  extract_lets same
  split <;> rw [terminalOf, List.find?_cons_of_pos (by simp), Option.map_some, terminalBytes_bucket]

end

theorem applyNonce_countersOnly (o : Nat) (l : List Staged) (s : State) : CountersOnly s (applyNonce o l s) := by
  unfold applyNonce
  split
  · exact putTerminal_countersOnly ..
  · exact .refl s

theorem applyNonce_sameLimits (o : Nat) (l : List Staged) (s : State) : SameLimits s (applyNonce o l s) := by
  unfold applyNonce
  split
  · exact fun o n => putTerminal_sameLimits _ s o n
  · exact .of_eq rfl

/-- The nonce advance that was staged is applied (R134). -/
theorem terminalOf_applyNonce {l : List Staged} {term tense ctr : Nat} (h : stagedNonce l = some (term, tense, ctr)) (o : Nat)
    (s : State) : (terminalOf (applyNonce o l s) o term).map terminalBytes
      = some (terminalBytes { owner := o, id := term, tense := tense, ctr := ctr }) := by
  simp only [applyNonce, h]
  exact terminalOf_putTerminal { owner := o, id := term, tense := tense, ctr := ctr } s

/-! #### Limit counters -/

theorem putLimit_countersOnly (c : LimitCtr) (s : State) : CountersOnly s (putLimit c s) := by
  unfold putLimit
  extract_lets same
  split <;> exact ⟨⟨rfl, rfl, rfl⟩, rfl, rfl⟩

theorem putLimit_sameTerminals (c : LimitCtr) (s : State) : SameTerminals s (putLimit c s) := by
  unfold putLimit
  extract_lets same
  split
  · exact .of_eq rfl
  · exact fun o n => movedCounters_sameTerminals _ _ s o n

section
variable (o t id delta : Nat) (sub : Bool) (dl : Nat) (s : State)

theorem applyLimit_countersOnly : CountersOnly s (applyLimit o t id delta sub dl s) := by
  unfold applyLimit
  split
  · exact .refl s
  · exact putLimit_countersOnly ..

theorem applyLimit_sameTerminals : SameTerminals s (applyLimit o t id delta sub dl s) := by
  unfold applyLimit
  split
  · exact .of_eq rfl
  · exact fun o n => putLimit_sameTerminals _ s o n

end

/-! #### Tickets -/

section
variable (x : Ticket) (s : State)

theorem putTicket_recordsOnly : RecordsOnly s (putTicket x s) := by
  unfold putTicket
  extract_lets same
  split <;> exact ⟨rfl, rfl, rfl⟩

theorem putTicket_terminals : (putTicket x s).vm.terminals = s.vm.terminals := by
  unfold putTicket
  extract_lets same
  split <;> rfl

/-- The ticket that was put is found; one that was held keeps its bucket. -/
theorem ticketOf_putTicket : ∃ b, ticketOf (putTicket x s) x.owner x.issuer x.seq = some { x with bucket := b }
    ∧ ∀ y, ticketOf s x.owner x.issuer x.seq = some y → b = y.bucket := by
  unfold putTicket ticketOf
  extract_lets same
  split
  next y hy => exact ⟨y.bucket, List.find?_cons_of_pos (by simp), fun z hz => by rw [hy] at hz; rw [Option.some.inj hz]⟩
  next hy => exact ⟨_, List.find?_cons_of_pos (by simp), fun z hz => by rw [hy] at hz; cases hz⟩

theorem sellTicket_recordsOnly : RecordsOnly s (sellTicket x s) := by
  unfold sellTicket
  split
  · exact putTicket_recordsOnly ..
  · split
    · exact putTicket_recordsOnly ..
    · exact ⟨rfl, rfl, rfl⟩

theorem sellTicket_terminals : (sellTicket x s).vm.terminals = s.vm.terminals := by
  unfold sellTicket
  split
  · exact putTicket_terminals ..
  · split
    · exact putTicket_terminals ..
    · rfl

theorem sellTicket_noSweep (h : s.vm.sweeps = []) : sellTicket x s = putTicket x s := by
  simp [sellTicket, h]

end

/-! #### The changes of a staged set, one by one -/

/-- The entry stages a ticket or a move of one (R137). -/
def changesTicket : Staged → Bool
  | .ticketInsert _ _ => true
  | .ticketMove _ => true
  | _ => false

theorem oneTicketChange_iff (l : List Staged) : oneTicketChange l ↔ (l.filter changesTicket).length ≤ 1 := Iff.rfl

/-- Where a set has one ticket change, no other entry is one. -/
theorem split_ticketChange {l : List Staged} {x : Staged} (h : oneTicketChange l) (hx : x ∈ l) (hc : changesTicket x = true) :
    ∃ a b, l = a ++ x :: b ∧ (∀ y ∈ a, changesTicket y = false) ∧ ∀ y ∈ b, changesTicket y = false := by
  obtain ⟨a, b, rfl⟩ := List.append_of_mem hx
  rw [oneTicketChange_iff, List.filter_append, List.filter_cons_of_pos hc, List.length_append, List.length_cons] at h
  have ha : a.filter changesTicket = [] := List.length_eq_zero_iff.1 (by omega)
  have hb : b.filter changesTicket = [] := List.length_eq_zero_iff.1 (by omega)
  exact ⟨a, b, rfl, by simpa using ha, by simpa using hb⟩

section
variable (i : Item)

theorem applyOthers_append (a b : List Staged) (s : State) : applyOthers i (a ++ b) s = applyOthers i b (applyOthers i a s) := by
  simp only [applyOthers, List.foldl_append]

/-- What every entry of a set keeps, the set keeps. -/
theorem applyOthers_keeps {P : State → Prop} : ∀ (l : List Staged) (s : State),
    (∀ x ∈ l, ∀ st, P st → P (applyOthers i [x] st)) → P s → P (applyOthers i l s)
  | [], _, _, hs => hs
  | x :: r, s, h, hs => by
    have hx : P (applyOthers i [x] s) := h x (by simp) s hs
    exact applyOthers_keeps r _ (fun y hy => h y (List.mem_cons_of_mem _ hy)) hx

theorem applyOthers_recordsOnly (l : List Staged) (s : State) : RecordsOnly s (applyOthers i l s) := by
  refine applyOthers_keeps i l s (fun x _ st h => h.trans ?_) (.refl s)
  cases x with
  | nonce => exact .refl st
  | limit => exact (applyLimit_countersOnly ..).toRecordsOnly
  | ticketInsert => exact sellTicket_recordsOnly ..
  | ticketMove =>
    simp only [applyOthers, List.foldl]
    split
    · exact putTicket_recordsOnly ..
    · exact .refl st

theorem applyOthers_sameTerminals (l : List Staged) (s : State) : SameTerminals s (applyOthers i l s) := by
  refine applyOthers_keeps i l s (fun x _ st h => h.trans ?_) (.of_eq rfl)
  cases x with
  | nonce => exact .of_eq rfl
  | limit => exact fun o n => applyLimit_sameTerminals _ _ _ _ _ _ st o n
  | ticketInsert => exact .of_eq (sellTicket_terminals ..)
  | ticketMove =>
    simp only [applyOthers, List.foldl]
    split
    · exact .of_eq (putTicket_terminals ..)
    · exact .of_eq rfl

/-- Without a ticket change a set leaves the tickets as they are. -/
theorem applyOthers_ticketless {l : List Staged} (h : ∀ x ∈ l, changesTicket x = false) (s : State) :
    CountersOnly s (applyOthers i l s) := by
  refine applyOthers_keeps i l s (fun x hx st hst => hst.trans ?_) (.refl s)
  have hc := h x hx
  cases x with
  | nonce => exact .refl st
  | limit => exact applyLimit_countersOnly ..
  | ticketInsert => exact absurd hc (by simp [changesTicket])
  | ticketMove => exact absurd hc (by simp [changesTicket])

theorem ticketOf_congr {s t : State} (h : t.vm.tickets = s.vm.tickets) (o issuer seq : Nat) :
    ticketOf t o issuer seq = ticketOf s o issuer seq := by
  rw [ticketOf, ticketOf, h]

/-- A set with one ticket change comes to that change, between others that leave the tickets alone. -/
theorem tickets_applyOthers {l : List Staged} {x : Staged} (h : oneTicketChange l) (hx : x ∈ l) (hc : changesTicket x = true)
    (s : State) : ∃ u, CountersOnly s u ∧ (applyOthers i l s).vm.tickets = (applyOthers i [x] u).vm.tickets := by
  obtain ⟨a, b, rfl, ha, hb⟩ := split_ticketChange h hx hc
  refine ⟨applyOthers i a s, applyOthers_ticketless i ha s, ?_⟩
  rw [List.append_cons, applyOthers_append, applyOthers_append]
  exact (applyOthers_ticketless i hb _).tickets

/-- The ticket that a set inserts while no sweep runs is held afterwards (R137, R207). -/
theorem ticketOf_applyOthers_insert {l : List Staged} {a b : W64} (h : oneTicketChange l) (hin : stagedInsert l = some (a, b))
    {s : State} (hs : s.vm.sweeps = []) : (ticketOf (applyOthers i l s) i.owner 0 i.seq).map ticketBytes
      = some (ticketBytes { issuer := 0, seq := i.seq, amount := a, data := b, game := i.game, payer := 0, pending := false
                            state := 0, owner := i.owner }) := by
  have hmem : Staged.ticketInsert a b ∈ l := by
    obtain ⟨x, hx, hv⟩ := List.exists_of_findSome?_eq_some hin
    split at hv <;> cases hv
    exact hx
  obtain ⟨u, hu, htickets⟩ := tickets_applyOthers i h hmem rfl s
  rw [ticketOf_congr htickets]
  simp only [applyOthers, List.foldl, sellTicket_noSweep _ u (hu.sweeps.trans hs)]
  obtain ⟨k, hk, -⟩ := ticketOf_putTicket { issuer := 0, seq := i.seq, amount := a, data := b, game := i.game, payer := 0
                                            pending := false, state := 0, owner := i.owner } u
  rw [hk, Option.map_some, ticketBytes_bucket]

/-- The target that a set moves is in its new state afterwards (R198). -/
theorem ticketOf_applyOthers_move {l : List Staged} {k : Nat} {x : Ticket} (h : oneTicketChange l) (hm : stagedMove l = some k)
    {s : State} (hx : ticketOf s i.owner 0 i.targetSeq = some x) :
    ticketOf (applyOthers i l s) i.owner 0 i.targetSeq = some { x with state := k } := by
  have hmem : Staged.ticketMove k ∈ l := by
    obtain ⟨y, hy, hv⟩ := List.exists_of_findSome?_eq_some hm
    split at hv <;> cases hv
    exact hy
  obtain ⟨u, hu, htickets⟩ := tickets_applyOthers i h hmem rfl s
  have hxu : ticketOf u i.owner 0 i.targetSeq = some x := by rw [ticketOf_congr hu.tickets, hx]
  have hname : (x.owner = i.owner ∧ x.issuer = 0) ∧ x.seq = i.targetSeq := by simpa using List.find?_some hx
  have hnamed (v : State) : ticketOf v x.owner x.issuer x.seq = ticketOf v i.owner 0 i.targetSeq := by
    rw [hname.1.1, hname.1.2, hname.2]
  obtain ⟨b, hb, hheld⟩ := ticketOf_putTicket { x with state := k } u
  rw [ticketOf_congr htickets]
  simp only [applyOthers, List.foldl, hxu]
  rw [← hnamed, hb, hheld x ((hnamed u).trans hxu)]

end

/-! ### How a work item ends (R139, R141, R164) -/

theorem deriveReceipt_vm (die : Option Nat) (owner seq : Nat) (r : Bytes) (s : State) :
    (deriveReceipt die owner seq r s).2.vm = s.vm := by
  simp only [deriveReceipt]
  split
  · simp [cacheLookup_engVm]
  · simp

theorem receiptKey_frame (i : Item) (status : Status) (s : State) : (receiptKey i status s).2.rings = s.rings
    ∧ (receiptKey i status s).2.dep = s.dep ∧ (receiptKey i status s).2.vm = s.vm := by
  unfold receiptKey
  have hderive := deriveReceipt_frame (receiptDie s i.die) i.owner i.seq i.record s
  have hvm := deriveReceipt_vm (receiptDie s i.die) i.owner i.seq i.record s
  split
  · simp
  · split
    · split
      · simp
      · exact ⟨hderive.1, hderive.2.2, hvm⟩
    · exact ⟨hderive.1, hderive.2.2, hvm⟩

/-- The stamp of an item. -/
def itemStamp (i : Item) : Stamp := { seq := i.seq, t := i.t, dep := i.dep }

/-- The leaf with which an item ends (R164). -/
def itemLeaf (i : Item) (status : Status) (reason : Nat) (ruleField : W64) : Leaf :=
  if i.isCancel then queryLeaf i.ring i.owner i.desc i.targetDev i.targetSeq status reason i.die
  else wagerLeaf i.ring i.owner i.desc i.record status reason ruleField i.handle i.version i.die

/-- The output of a CANCEL, which a WAGER has not. -/
def itemOutput (i : Item) (s : State) : State :=
  if i.isCancel then
    writeDst { ring := i.ring, gen := i.gen, idx := i.idx, desc := i.desc, src := [], stamp := some (itemStamp i) }
      (imageOf (ticketOf s i.owner 0 i.targetSeq)) s
  else s

@[simp] theorem itemOutput_frame (i : Item) (s : State) : (itemOutput i s).rings = s.rings ∧ (itemOutput i s).dep = s.dep
    ∧ (itemOutput i s).vm = s.vm := by
  unfold itemOutput
  split <;> simp

section
variable {i : Item} {s : State} (h : ringTakes (ringOf s i.ring) i.gen = true) (status : Status) (reason : Nat)
  (field : W64) (marks : BitVec 16) (replay : Bytes)
include h

/-- An item that ends is sealed, and then its completion is handed to its ring; vault memory stays as it is. -/
theorem finishItem_delivers : ∃ v d, finishItem i status reason field marks replay s = deliver i.ring i.gen d v
    ∧ ringTakes (ringOf v i.ring) i.gen = true ∧ v.vm = s.vm
    ∧ v.dep = (sealLeaf (itemStamp i) (itemLeaf i status reason field) replay s).dep ∧ d.idx = i.idx ∧ d.tag = dTag i.desc
    ∧ d.status = status ∧ d.detail = reason ∧ d.stamp = some (itemStamp i) := by
  obtain ⟨krings, kdep, kvm⟩ := receiptKey_frame i status (sealLeaf (itemStamp i) (itemLeaf i status reason field) replay s)
  obtain ⟨orings, odep, ovm⟩ := itemOutput_frame i
    (receiptKey i status (sealLeaf (itemStamp i) (itemLeaf i status reason field) replay s)).2
  have hrings := orings.trans (krings.trans (sealLeaf_frame ..).2.2.1)
  have hvm := ovm.trans (kvm.trans (sealLeaf_frame ..).2.2.2.2.2.2.1)
  have htakes := (congrArg (fun x => ringTakes x i.gen) (ringOf_congr hrings i.ring)).trans h
  exact ⟨_, _, if_pos htakes, htakes, hvm, odep.trans kdep, rfl, rfl, rfl, rfl, rfl⟩

theorem finishItem_completed : ItemCompleted (finishItem i status reason field marks replay s) i status reason := by
  obtain ⟨v, d, hv, htakes, -, -, hd⟩ := finishItem_delivers h status reason field marks replay
  exact ⟨d, by rw [hv, deliver_fin d htakes]; simp, hd⟩

theorem finishItem_vm : (finishItem i status reason field marks replay s).vm = s.vm := by
  obtain ⟨v, d, hv, -, hvm, -⟩ := finishItem_delivers h status reason field marks replay
  simp [hv, hvm]

theorem finishItem_sealed : Sealed (finishItem i status reason field marks replay s) (itemStamp i)
    (itemLeaf i status reason field) := by
  obtain ⟨v, d, hv, -, -, hdep, -⟩ := finishItem_delivers h status reason field marks replay
  unfold Sealed
  rw [hv, (deliver_frame ..).2.2.2.2.2.2.1, hdep]
  exact sealLeaf_sealed ..

end

/-! ### The commit of a staged set (R138, R188) -/

section
variable {s : State} {i : Item} {l : List Staged} (e : EndOp)

theorem applyCommit_bad (h : stagedBad s i l = true) : applyCommit i e l s = ((.fault, 0, replayBytes {} s, false), s) := by
  simp [applyCommit, h]

theorem noteFull_countersOnly (o area : Nat) (s : State) : CountersOnly s (noteFull o area s) := by
  unfold noteFull
  split
  · exact .refl s
  · exact ⟨⟨by simp, by simp, by simp⟩, by simp, by simp⟩

theorem noteFull_records (o area : Nat) (s : State) : (noteFull o area s).vm.tickets = s.vm.tickets
    ∧ (noteFull o area s).vm.limits = s.vm.limits ∧ (noteFull o area s).vm.terminals = s.vm.terminals
    ∧ (noteFull o area s).vm.commitNo = s.vm.commitNo := by
  unfold noteFull
  split <;> simp

/-- The records of u, under the next commit number (R211). -/
structure Applied (u t : State) : Prop where
  tickets : t.vm.tickets = u.vm.tickets
  limits : t.vm.limits = u.vm.limits
  terminals : t.vm.terminals = u.vm.terminals
  commitNo : t.vm.commitNo = u.vm.commitNo + 1

theorem Applied.keeping {u v t : State} {l : List Kept} (h : Applied u v) (hvm : t.vm = { v.vm with kept := l }) : Applied u t := by
  constructor <;> rw [hvm]
  exacts [h.tickets, h.limits, h.terminals, h.commitNo]

theorem commitSet_applied (o : Nat) (before after : State) : Applied after (bump 0x09 [0] o 1 (commitSet before after)) := by
  constructor <;> simp only [bump_frame] <;> rfl

theorem commitSet_keeps (o : Nat) (before after : State) : (bump 0x09 [0] o 1 (commitSet before after)).rings = after.rings
    ∧ (bump 0x09 [0] o 1 (commitSet before after)).vm.kept = after.vm.kept := by
  simp only [bump_frame]
  exact ⟨rfl, rfl⟩

variable (hgood : stagedBad s i l = false)
include hgood

theorem applyCommit_nothing {st : Status} {r : Nat} (h : commitRow s i l = .nothing st r) : applyCommit i e l s
    = ((st, r, replayBytes {} s, false), if st = .noKey then noteFull i.owner 1 s else s) := by
  simp only [applyCommit, hgood, h]
  rfl

/-- The nonce advance alone is applied, after the event that a full area records. -/
theorem applyCommit_nonceOnly {st : Status} {r : Nat} (h : commitRow s i l = .nonceOnly st r) :
    ∃ u rb, CountersOnly s u ∧ SameLimits s u ∧ applyCommit i e l s
      = ((st, r, rb, true), bump 0x09 [0] i.owner 1 (commitSet u (applyNonce i.owner l u))) := by
  simp only [applyCommit, hgood, h]
  refine ⟨if r = 0xFF03 then noteFull i.owner (if noTicketRoom s i l then 2 else 1) s else s, _, ?_, ?_, rfl⟩
  · split
    · exact noteFull_countersOnly ..
    · exact .refl s
  · split
    · exact .of_eq (noteFull_records ..).2.1
    · exact .of_eq rfl

theorem applyCommit_whole (h : commitRow s i l = .whole) :
    ∃ rb, applyCommit i e l s = ((e.status, e.reason, rb, true),
      bump 0x09 [0] i.owner 1 (commitSet s (applyOthers i l (applyNonce i.owner l s)))) := by
  simp only [applyCommit, hgood, h]
  exact ⟨_, rfl⟩

end

/-- A set that is applied changes no ring and no kept outcome. -/
theorem applyCommit_keeps (i : Item) (e : EndOp) (l : List Staged) (s : State) :
    (applyCommit i e l s).2.rings = s.rings ∧ (applyCommit i e l s).2.vm.kept = s.vm.kept := by
  by_cases hbad : stagedBad s i l = true
  · rw [applyCommit_bad e hbad]
    exact ⟨rfl, rfl⟩
  have hgood : stagedBad s i l = false := by simpa using hbad
  cases hrow : commitRow s i l with
  | nothing st r =>
    rw [applyCommit_nothing e hgood hrow]
    dsimp only
    split
    · exact ⟨(noteFull_countersOnly ..).rings, (noteFull_countersOnly ..).kept⟩
    · exact ⟨rfl, rfl⟩
  | nonceOnly st r =>
    obtain ⟨u, rb, hu, -, happly⟩ := applyCommit_nonceOnly e hgood hrow
    have hn := hu.trans (applyNonce_countersOnly i.owner l u)
    obtain ⟨hrings, hkept⟩ := commitSet_keeps i.owner u (applyNonce i.owner l u)
    rw [happly]
    exact ⟨hrings.trans hn.rings, hkept.trans hn.kept⟩
  | whole =>
    obtain ⟨rb, happly⟩ := applyCommit_whole e hgood hrow
    have hn := (applyNonce_countersOnly i.owner l s).toRecordsOnly.trans (applyOthers_recordsOnly i l _)
    obtain ⟨hrings, hkept⟩ := commitSet_keeps i.owner s (applyOthers i l (applyNonce i.owner l s))
    rw [happly]
    exact ⟨hrings.trans hn.rings, hkept.trans hn.kept⟩

/-! ### The end of a work item in the controller (R138, R139) -/

/-- The RULE_FIELD of an outcome: 0 where the set needed a bad line. -/
def outcomeField (e : EndOp) (st : Status) : W64 := if st = .fault then 0 else e.ruleField

section
variable {s : State} {i : Item} {e : EndOp} (hi : itemOf s i.seq = some i) (he : i.ended = some e)
  (howed : ∃ x ∈ s.adm.owed, x.seq = i.seq)
include hi he howed

/-- A second set for a number already applied: the kept outcome is the item's (R139). -/
theorem doCommit_kept {k : Kept} (hk : s.vm.kept.find? (fun x => x.seq == i.seq) = some k) :
    doCommit i.seq s = finishItem i k.status k.reason k.ruleField k.marks k.replay s := by
  have hany : (s.adm.owed.any fun o => o.seq == i.seq) = true := by simpa using howed
  simp [doCommit, hi, he, hany, hk]

variable {l : List Staged} (hl : e.staged = some l) (hnew : ∀ k ∈ s.vm.kept, k.seq ≠ i.seq)
  (htakes : ringTakes (ringOf s i.ring) i.gen = true) {st : Status} {r : Nat} {rb : Bytes} {v : State}
include hl hnew

/-- A set that is not applied keeps no outcome. -/
theorem doCommit_unapplied (h : applyCommit i e l s = ((st, r, rb, false), v)) :
    doCommit i.seq s = finishItem i st r (outcomeField e st) 0 rb v := by
  have hany : (s.adm.owed.any fun o => o.seq == i.seq) = true := by simpa using howed
  have hnone : s.vm.kept.find? (fun k => k.seq == i.seq) = none := by simpa using hnew
  simp [doCommit, hi, he, hany, hnone, hl, h, outcomeField]

theorem doCommit_applied (h : applyCommit i e l s = ((st, r, rb, true), v)) :
    doCommit i.seq s = finishItem i st r (outcomeField e st) e.marks rb (keep
      { seq := i.seq, status := st, reason := r, ruleField := outcomeField e st, replay := rb, marks := e.marks } v) := by
  have hany : (s.adm.owed.any fun o => o.seq == i.seq) = true := by simpa using howed
  have hnone : s.vm.kept.find? (fun k => k.seq == i.seq) = none := by simpa using hnew
  simp [doCommit, hi, he, hany, hnone, hl, h, outcomeField]

include htakes

/-- A set that is not applied leaves its outcome on the ring and vault memory as the checks left it. -/
theorem commit_unapplied (h : applyCommit i e l s = ((st, r, rb, false), v)) : Yields (.commit i.seq) s fun t =>
    ItemCompleted t i st r ∧ t.vm = v.vm := by
  have hv : ringTakes (ringOf v i.ring) i.gen = true := by
    rw [← htakes, ringOf_congr (s := s) (by rw [← (applyCommit_keeps i e l s).1, h])]
  exact ⟨_, congrArg Host.Outcome.next (doCommit_unapplied hi he howed hl hnew h), finishItem_completed hv .., finishItem_vm hv ..⟩

/-- A set that is applied leaves its outcome on the ring and kept (R139). -/
theorem commit_applied (h : applyCommit i e l s = ((st, r, rb, true), v)) : Yields (.commit i.seq) s fun t =>
    ItemCompleted t i st r ∧ ∃ k : Kept, t.vm = { v.vm with kept := k :: v.vm.kept } ∧ k.seq = i.seq ∧ k.status = st
      ∧ k.reason = r ∧ k.ruleField = outcomeField e st := by
  have hv : ∀ k, ringTakes (ringOf (keep k v) i.ring) i.gen = true := fun k => by
    rw [← htakes, ringOf_congr (s := s) (by rw [← (applyCommit_keeps i e l s).1, h]; rfl)]
  exact ⟨_, congrArg Host.Outcome.next (doCommit_applied hi he howed hl hnew h), finishItem_completed (hv _) ..,
    _, finishItem_vm (hv _) .., rfl, rfl, rfl, rfl⟩

end

/-! ### The kept outcome when the completion has been written (R139) -/

@[simp] theorem fireVector_vm (func vec : Nat) (s : State) : (fireVector func vec s).vm = s.vm := by
  simp only [fireVector]
  split_ifs <;> rfl

@[simp] theorem notePending_vm (g : Nat) (s : State) : (notePending g s).vm = s.vm := by
  simp only [notePending]
  split <;> rfl

@[simp] theorem noteCompletion_vm (func vec : Nat) (irq : Bool) (s : State) : (noteCompletion func vec irq s).vm = s.vm := by
  simp only [noteCompletion]
  split <;> simp

@[simp] theorem countMarks_vm (owner : Nat) (m : BitVec 16) (s : State) : (countMarks owner m s).vm = s.vm :=
  foldl_keeps (fun t => t.vm = s.vm) _ (fun st i h => by split <;> simp [h]) _ s rfl

@[simp] theorem putCompletion_vm (x : Ring) (d : Done) (s : State) : (putCompletion x d s).vm = s.vm := by
  simp only [putCompletion]
  split <;> rfl

/-- What is kept once the completion of a number has been written: every other outcome. -/
theorem doCompletionWrite_kept {r : Nat} {s : State} {d : Done} {st : Stamp} (hr : (ringOf s r).state = .running)
    (hd : (ringOf s r).fin.find? (fun e => e.idx == (ringOf s r).next) = some d) (hst : d.stamp = some st) :
    (doCompletionWrite r s).vm.kept = s.vm.kept.filter fun k => k.seq != st.seq := by
  rw [doCompletionWrite_running hr hd]
  simp [trailCompletion, hst, dropItem]

/-! ### Obligations -/

/-- Settles O5: `applyCommit` has one lemma for each row of R138, and what each row puts into the records is said there. -/
theorem commitRule : Obligations.CommitRule := by
  unfold Obligations.CommitRule
  intro s i e l hi he hl hone howed hnew htakes advanced unapplied
  refine ⟨fun hbad => ?_, fun st r hgood hrow => ?_, fun st r hgood hrow => ?_, fun hgood hrow => ?_⟩
  · obtain ⟨t, hexec, hdone, hvm⟩ := commit_unapplied hi he howed hl hnew htakes (applyCommit_bad e hbad)
    exact ⟨t, hexec, hdone, by simp only [unapplied, hvm, and_self]⟩
  · obtain ⟨t, hexec, hdone, hvm⟩ := commit_unapplied hi he howed hl hnew htakes (applyCommit_nothing e hgood hrow)
    refine ⟨t, hexec, hdone, ?_⟩
    simp only [unapplied, hvm]
    split <;> simp [noteFull_records]
  · obtain ⟨u, rb, hu, hlimits, happly⟩ := applyCommit_nonceOnly e hgood hrow
    obtain ⟨t, hexec, hdone, k, hvm, -⟩ := commit_applied hi he howed hl hnew htakes happly
    have ht := (commitSet_applied ..).keeping hvm
    have hn := hu.trans (applyNonce_countersOnly i.owner l u)
    refine ⟨t, hexec, hdone, ht.tickets.trans hn.tickets, fun term tense ctr h => ?_, by rw [ht.commitNo, hn.commitNo],
      fun n => ?_⟩
    · exact (SameTerminals.of_eq ht.terminals _ _).trans (terminalOf_applyNonce h i.owner u)
    · exact (SameLimits.of_eq ht.limits _ _).trans ((applyNonce_sameLimits i.owner l u _ _).trans (hlimits _ _))
  · obtain ⟨rb, happly⟩ := applyCommit_whole e hgood hrow
    obtain ⟨t, hexec, hdone, k, hvm, -⟩ := commit_applied hi he howed hl hnew htakes happly
    have ht := (commitSet_applied ..).keeping hvm
    have hn := applyNonce_countersOnly i.owner l s
    have ho := applyOthers_recordsOnly i l (applyNonce i.owner l s)
    refine ⟨t, hexec, hdone, fun term tense ctr h => ?_, by rw [ht.commitNo, ho.commitNo, hn.commitNo], fun a b hin hs => ?_,
      fun k x hm hx => ?_⟩
    · exact (SameTerminals.of_eq ht.terminals _ _).trans
        ((applyOthers_sameTerminals i l _ _ _).trans (terminalOf_applyNonce h i.owner s))
    · rw [ticketOf_congr ht.tickets]
      exact ticketOf_applyOthers_insert i hone hin (hn.sweeps.trans hs)
    · rw [ticketOf_congr ht.tickets]
      exact ticketOf_applyOthers_move i hone hm ((ticketOf_congr hn.tickets ..).trans hx)

/-- Settles O6: a kept outcome ends the item as it is (`doCommit_kept`), an applied set is kept (`commit_applied`), and the
completion's end forgets the one outcome (`doCompletionWrite_kept`). -/
theorem commitOnce : Obligations.CommitOnce := by
  unfold Obligations.CommitOnce
  refine fun s => ⟨fun i e hi he howed htakes => ⟨fun l hl hnew => ?_, fun k hk => ?_⟩, fun r d st hr hd hst => ?_⟩
  · rcases hr : applyCommit i e l s with ⟨⟨status, reason, rb, applied⟩, v⟩
    have hkept : v.vm.kept = s.vm.kept := by rw [← (applyCommit_keeps i e l s).2, hr]
    dsimp only
    cases applied with
    | false =>
      obtain ⟨t, hexec, hdone, hvm⟩ := commit_unapplied hi he howed hl hnew htakes hr
      exact ⟨t, hexec, hdone, fun _ => by rw [hvm, hkept], fun h => absurd h (by decide)⟩
    | true =>
      obtain ⟨t, hexec, hdone, k, hvm, hk⟩ := commit_applied hi he howed hl hnew htakes hr
      exact ⟨t, hexec, hdone, fun h => absurd h (by decide), fun _ => ⟨k, by simp [hvm], hk⟩⟩
  · refine ⟨_, congrArg Host.Outcome.next (doCommit_kept hi he howed hk), finishItem_completed htakes ..,
      finishItem_vm htakes .., fun hc => ?_⟩
    have hsealed := finishItem_sealed htakes k.status k.reason k.ruleField k.marks k.replay
    rwa [itemLeaf, if_neg (by simp [hc])] at hsealed
  · refine ⟨_, rfl, ?_, fun k hk hne => ?_⟩
    all_goals rw [doCompletionWrite_kept hr hd hst]
    · simp
    · simp [hk, hne]

end Sys2Proof.Machine
end

section
/-! What a verified bulk session puts in place: O27. -/

namespace Sys2Proof.Machine

/-! ### A session that ends without taking effect (R82, R144) -/

/-- The session has failed with this status. -/
def SessionFailed (st : Status) (t : State) : Prop := t.bulk.state = .failed ∧ t.bulk.result = st.code

/-- The session has taken effect. -/
def SessionDone (t : State) : Prop := t.bulk.state = .done ∧ t.bulk.result = 0

theorem endBulk_failed (st : Status) (s : State) : SessionFailed st (endBulk st s) := by
  simp [SessionFailed, endBulk_bulk]

theorem bulkDone_done (s : State) : SessionDone (bulkDone s) := ⟨rfl, rfl⟩

/-- A failed session leaves the loaded versions, user flash, the numbers and the firmware as they are. -/
theorem endBulk_frame (st : Status) (s : State) : (endBulk st s).eng.books = s.eng.books ∧ (endBulk st s).flash = s.flash
    ∧ (endBulk st s).adm = s.adm ∧ (endBulk st s).life = s.life := by
  simp only [endBulk]
  split <;> simp [dropPending, syncVault]

theorem refuseImage_failed (k i : Nat) (s : State) : SessionFailed (orderResult k) (refuseImage k i s) :=
  endBulk_failed ..

theorem refuseImage_frame (k i : Nat) (s : State) : (refuseImage k i s).eng.books = s.eng.books
    ∧ (refuseImage k i s).flash = s.flash ∧ (refuseImage k i s).adm.nextSeq = s.adm.nextSeq := by
  obtain ⟨hbooks, hflash, hadm, -⟩ :=
    endBulk_frame (orderResult k) (refusedBook s.bulk.owner (iHandle s.bulk.data) k i s)
  exact ⟨hbooks.trans (by simp [refusedBook]), hflash.trans (by simp [refusedBook]),
    (congrArg (·.nextSeq) hadm).trans (by simp [refusedBook])⟩

/-! ### A rulebook image that passes (R145) -/

section
variable {s : State} (b : Book)

/-- What a load does after its leaf: one number, the leaf, and the version beside those that were loaded. -/
theorem loadNew_spec (hn : canNumber s = true) : SessionDone (loadNew b s)
    ∧ (loadNew b s).eng.books = s.eng.books ++ [b] ∧ (b.owner, b.handle, s.bulk.data) ∈ (loadNew b s).flash.books
    ∧ (b.ownerId, b.handle, b.version) ∈ (loadNew b s).flash.floors
    ∧ (loadNew b s).adm.nextSeq = s.adm.nextSeq + 1
    ∧ Sealed (loadNew b s) (nextStamp s) (rulebookLeaf b.owner b.handle b.version b.digest 1) := by
  have hsealed := sealNow_sealed (rulebookLeaf b.owner b.handle b.version b.digest 1) (replayNone s) hn
  refine ⟨bulkDone_done _, ?_, ?_, ?_, ?_, ?_⟩
  · simp [loadNew, bulkDone, loadedEvent, storeImage]
  · simp [loadNew, bulkDone, loadedEvent, storeImage]
  · simp [loadNew, bulkDone, loadedEvent, storeImage]
  · simp [loadNew, bulkDone, loadedEvent, storeImage, sealNow, hn]
  · simpa [Sealed, loadNew, bulkDone, loadedEvent, storeImage] using hsealed

/-! ### The switch to a new version (R146) -/

/-- The versions after a switch: the handle's own give way to the old one, while it has work, and the new one. -/
def switched (old b : Book) (s : State) : List Book :=
  (s.eng.books.filter fun x => !(x.owner == b.owner && x.handle == b.handle))
    ++ (if bookBusy s old then [{ old with draining := true }] else []) ++ [b]

theorem switchBook_spec (old : Book) : SessionDone (switchBook old b s) ∧ (switchBook old b s).eng.waiting = none
    ∧ (switchBook old b s).eng.books = switched old b s ∧ (switchBook old b s).adm.items = s.adm.items
    ∧ Sealed (switchBook old b s) (nextStamp s) (rulebookLeaf b.owner b.handle b.version b.digest 2) := by
  have hsealed := sealLeaf_sealed (nextStamp s) (rulebookLeaf b.owner b.handle b.version b.digest 2)
    (replayNone (issue b.owner s).2) (issue b.owner s).2
  have hitems : (issue b.owner s).2.adm.items = s.adm.items := rfl
  refine ⟨bulkDone_done _, ?_, ?_, ?_, ?_⟩
  · simp [switchBook, bulkDone, loadedEvent, storeImage]
  · simp [switchBook, bulkDone, loadedEvent, storeImage, switched, bookBusy, sealLeaf_items, hitems]
  · simp [switchBook, bulkDone, loadedEvent, storeImage, sealLeaf_items, hitems]
  · simpa [Sealed, switchBook, bulkDone, loadedEvent, storeImage, issue_stamp] using hsealed

variable {b}

theorem doRulebookSwitch_waits (hw : s.eng.waiting = some b)
    (hd : ∃ x ∈ s.eng.books, (x.owner = b.owner ∧ x.handle = b.handle) ∧ x.draining = true) :
    doRulebookSwitch b.owner b.handle s = s := by
  have hany : (s.eng.books.any fun x => x.owner == b.owner && x.handle == b.handle && x.draining) = true := by
    simpa using hd
  simp only [doRulebookSwitch, hw, hany, bne_self_eq_false, Bool.or_self, Bool.false_eq_true, if_false, if_true]

theorem doRulebookSwitch_switches {old : Book} (hw : s.eng.waiting = some b)
    (hd : ∀ x ∈ s.eng.books, x.owner = b.owner ∧ x.handle = b.handle → x.draining = false)
    (hold : bookOf s b.owner b.handle = some old) : doRulebookSwitch b.owner b.handle s = switchBook old b s := by
  have hany : (s.eng.books.any fun x => x.owner == b.owner && x.handle == b.handle && x.draining) = false := by
    simpa using hd
  simp only [doRulebookSwitch, hw, hany, hold, bne_self_eq_false, Bool.or_self, Bool.false_eq_true, if_false]

theorem switched_new (old : Book) : b ∈ switched old b s := by simp [switched]

theorem switched_old {old : Book} (h : bookBusy s old = true) : { old with draining := true } ∈ switched old b s := by
  simp [switched, h]

/-- Without work the old version is gone at once, and the handle has the new one alone. -/
theorem switched_only {old x : Book} (h : bookBusy s old = false) (hx : x ∈ switched old b s)
    (hm : x.owner = b.owner ∧ x.handle = b.handle) : x = b := by
  simpa [switched, h, hm] using hx

/-- Only a draining version of the handle without work goes. -/
theorem mem_doRulebookDrainEnd {o h : Nat} {x : Book} : x ∈ (doRulebookDrainEnd o h s).eng.books ↔ x ∈ s.eng.books
    ∧ ¬(x.owner = o ∧ x.handle = h ∧ x.draining = true ∧ bookBusy s x = false) := by
  simp only [doRulebookDrainEnd, List.mem_filter]
  grind

/-! ### The end of a verification (R144, R147) -/

theorem rulebookLoad_yields {s : State} (hs : inService s = true) (hv : bulkVerifying s 1 = true) (hw : s.eng.waiting = none)
    (hn : canNumber s = true) {P : State → Prop} (h : P (doRulebookLoad s)) : Yields .rulebookLoad s P :=
  yields_when rfl (by simp [hs, hv, hw, hn]) h

variable (s)

theorem doRulebookLoad_refused {k i : Nat} (h : imageErr false s.bulk.owner s.bulk.data s = some (k, i)) :
    doRulebookLoad s = refuseImage k i s := by
  simp only [doRulebookLoad, h]

variable {s} (hok : imageErr false s.bulk.owner s.bulk.data s = none) (hops : iOps s.bulk.data ≠ 0)
include hok hops

/-- Orders 6 and 7 refuse with POLICY. -/
theorem doRulebookLoad_noRoom
    (h : roomForBook s (bookOfImage s.bulk.owner s.bulk.data) = false ∨ bookFits s (bookOfImage s.bulk.owner s.bulk.data) = false) :
    ∃ k, doRulebookLoad s = refuseImage k 0 s ∧ orderResult k = .policy := by
  cases hroom : roomForBook s (bookOfImage s.bulk.owner s.bulk.data) with
  | false => exact ⟨6, by simp [doRulebookLoad, hok, hops, hroom], rfl⟩
  | true =>
    have hfits := h.resolve_left (by simp [hroom])
    exact ⟨7, by simp [doRulebookLoad, hok, hops, hroom, hfits], rfl⟩

variable (hroom : roomForBook s (bookOfImage s.bulk.owner s.bulk.data) = true)
  (hfits : bookFits s (bookOfImage s.bulk.owner s.bulk.data) = true)
include hroom hfits

theorem doRulebookLoad_new (h : bookOf s s.bulk.owner (bookOfImage s.bulk.owner s.bulk.data).handle = none) :
    doRulebookLoad s = loadNew (bookOfImage s.bulk.owner s.bulk.data) s := by
  simp [doRulebookLoad, hok, hops, hroom, hfits, h]

theorem doRulebookLoad_loaded (h : (bookOf s s.bulk.owner (bookOfImage s.bulk.owner s.bulk.data).handle).isSome = true) :
    doRulebookLoad s = { s with eng := { s.eng with waiting := some (bookOfImage s.bulk.owner s.bulk.data) } } := by
  simp [doRulebookLoad, hok, hops, hroom, hfits, h]

end

/-! ### Firmware (R419) -/

section
variable {s : State}

/-- Whatever the verdict, the running image stays. -/
theorem doFirmwareInstall_running (s : State) :
    (doFirmwareInstall s).life.fw = s.life.fw ∧ (doFirmwareInstall s).life.fwSlot = s.life.fwSlot := by
  simp only [doFirmwareInstall]
  split_ifs <;> simp [endBulk_frame, bulkDone]

theorem doFirmwareInstall_badForm (h : fwFormOk s.bulk.data = false) : doFirmwareInstall s = endBulk .paramInvalid s := by
  simp [doFirmwareInstall, h]

theorem doFirmwareInstall_badSig (hform : ¬ fwFormOk s.bulk.data = false) (h : fwSigOk s s.bulk.data = false) :
    doFirmwareInstall s = endBulk .authFail s := by
  simp [doFirmwareInstall, hform, h]

section
variable (hform : ¬ fwFormOk s.bulk.data = false) (hsig : ¬ fwSigOk s s.bulk.data = false)
include hform hsig

theorem doFirmwareInstall_barred
    (h : fwSvn s.bulk.data < s.life.svnFloor ∨ (fwRevoke s.bulk.data).getLsbD (fwGen s.bulk.data) = true) :
    doFirmwareInstall s = endBulk .policy s := by
  simp [doFirmwareInstall, hform, hsig, h]

theorem doFirmwareInstall_accepts
    (h : ¬ (fwSvn s.bulk.data < s.life.svnFloor ∨ (fwRevoke s.bulk.data).getLsbD (fwGen s.bulk.data) = true)) :
    SessionDone (doFirmwareInstall s)
    ∧ (doFirmwareInstall s).life.fwSlots.at? (1 - s.life.fwSlot) = some s.bulk.data := by
  simp [doFirmwareInstall, hform, hsig, h, SessionDone, bulkDone]

end
end

/-! ### Obligations -/

/-- Settles O27: each verdict on an image has its equation above; what `loadNew`, `switchBook` and `endBulk` leave is said once
for each. -/
theorem verifiedLoads : Obligations.VerifiedLoads := by
  unfold Obligations.VerifiedLoads
  refine fun s => ⟨fun hs hv hw hn => ⟨fun k i herr => ?_, fun hok hops => ⟨fun hfull => ?_, fun hroom hfits => ⟨fun hnew => ?_,
    fun hloaded => ?_⟩⟩⟩, fun b old hs hv hn hw => ⟨fun hd => ?_, fun hd hold => ?_⟩, fun o h ha => ?_, fun hs hv => ?_⟩
  · refine rulebookLoad_yields hs hv hw hn ?_
    rw [doRulebookLoad_refused s herr]
    exact ⟨refuseImage_failed .., refuseImage_frame ..⟩
  · refine rulebookLoad_yields hs hv hw hn ?_
    obtain ⟨k, hk, hpolicy⟩ := doRulebookLoad_noRoom hok hops hfull
    rw [hk]
    exact ⟨hpolicy ▸ refuseImage_failed k 0 s, (refuseImage_frame ..).1⟩
  · refine rulebookLoad_yields hs hv hw hn ?_
    rw [doRulebookLoad_new hok hops hroom hfits hnew]
    exact loadNew_spec _ hn
  · refine rulebookLoad_yields hs hv hw hn ?_
    rw [doRulebookLoad_loaded hok hops hroom hfits hloaded]
    exact ⟨rfl, rfl, rfl, rfl⟩
  · exact exec_when rfl (by simp [hs, hv, hn]) (doRulebookSwitch_waits hw hd)
  · refine yields_when rfl (by simp [hs, hv, hn]) ?_
    rw [doRulebookSwitch_switches hw hd hold]
    obtain ⟨hdone, hwaiting, hbooks, hitems, hsealed⟩ := switchBook_spec b old (s := s)
    rw [hbooks]
    exact ⟨hdone, hwaiting, switched_new old, hitems, hsealed, switched_old, fun hb x => switched_only hb⟩
  · exact yields_when rfl ha ⟨rfl, fun _ => mem_doRulebookDrainEnd⟩
  · refine yields_when rfl (by simp [hs, hv]) ?_
    obtain ⟨hfw, hslot⟩ := doFirmwareInstall_running s
    refine ⟨hfw, hslot, ?_⟩
    split_ifs with hform hsig hbarred
    · rw [doFirmwareInstall_badForm hform]
      exact ⟨endBulk_failed .., (endBulk_frame ..).2.2.2⟩
    · rw [doFirmwareInstall_badSig hform hsig]
      exact ⟨endBulk_failed .., (endBulk_frame ..).2.2.2⟩
    · rw [doFirmwareInstall_barred hform hsig hbarred]
      exact ⟨endBulk_failed .., (endBulk_frame ..).2.2.2⟩
    · exact doFirmwareInstall_accepts hform hsig hbarred

end Sys2Proof.Machine
end

section
/-! The generator: O47. -/

namespace Sys2Proof.Machine

/-! ### Reads of RNG_DATA (R322) -/

section
variable (s : State)

@[simp] theorem abortRead_spec : (abortRead s).rng = { s.rng with readFail := sat32 (s.rng.readFail + 1) }
    ∧ (abortRead s).out = .regData 0x70008 allOnes64 :: s.out ∧ (abortRead s).dep = s.dep := by
  simp [abortRead]

@[simp] theorem serveRead_rng : (serveRead s).rng = { s.rng with requests := s.rng.requests + 1 } := by
  simp [serveRead, drawBytes]

/-- A read that is served puts out 8 bytes. -/
theorem serveRead_out : ∃ v, v < 2 ^ 64 ∧ (serveRead s).out = .regData 0x70008 v :: s.out := by
  refine ⟨leNat (le 8 (Config.random s.free 8)), ?_, rfl⟩
  rw [leNat_le]
  exact Nat.mod_lt _ (by decide)

theorem repeatN_serveRead_rng : ∀ (n : Nat) (s : State),
    (repeatN n serveRead s).rng = { s.rng with requests := s.rng.requests + n }
  | 0, _ => rfl
  | n + 1, s => by simp [repeatN, repeatN_serveRead_rng n, Nat.add_assoc, Nat.add_comm 1 n]

/-- Every held read is one request that is served. -/
@[simp] theorem endHeld_serveRead_rng : (endHeld serveRead s).rng
    = { s.rng with heldReads := 0, requests := s.rng.requests + s.rng.heldReads } := by
  simp [endHeld, repeatN_serveRead_rng]

variable {s}

theorem barSlot_rngData : barSlot 0x70008 = 7 := by decide

theorem exec_rngDataRead (h : HostMayRead s 0x70008) : exec .rngDataRead s = .next (doRngDataRead s) := by
  obtain ⟨hopen, hgrant, hgate⟩ := h
  rw [barSlot_rngData] at hgrant
  have he : exec .rngDataRead s = execRngDataRead s := rfl
  simp [he, execRngDataRead, hopen, hgrant, hgate]

theorem doRngDataRead_served (h : canDraw s = true) : doRngDataRead s = serveRead s := by simp [doRngDataRead, h]

theorem canDraw_failed (h : s.rng.failed = true) : canDraw s = false := by simp [canDraw, h]

theorem doRngDataRead_failed (h : s.rng.failed = true) : doRngDataRead s = abortRead s := by
  simp [doRngDataRead, canDraw_failed h, h]

theorem doRngDataRead_held (hc : canDraw s = false) (hf : s.rng.failed = false) :
    doRngDataRead s = { s with rng := { s.rng with heldReads := s.rng.heldReads + 1 } } := by
  simp [doRngDataRead, hc, hf]

end

/-! ### Seeds and reseeds (R317, R318, R320, R321, R324) -/

section
variable {s : State}

theorem doGeneratorReady_rng (s : State) :
    (doGeneratorReady s).rng = { s.rng with ready := true, heldReads := 0, requests := s.rng.heldReads } := by
  simp [doGeneratorReady]

/-- A reseed that ends a halt serves the reads that it held. -/
theorem reseedG_halted (h : s.rng.halted = true) : (reseedG s).rng.halted = false ∧ (reseedG s).rng.heldReads = 0
    ∧ (reseedG s).rng.reseeds = s.rng.reseeds + 1 ∧ (reseedG s).rng.pool = s.rng.pool := by
  simp only [reseedG, h, if_true, endHeld_serveRead_rng, apply_ite State.rng, event_frame, ite_self, and_self]

theorem reseedG_running (h : s.rng.halted = false) : (reseedG s).rng.requests = 0 ∧ (reseedG s).rng.stretching = false
    ∧ (reseedG s).rng.reseeds = s.rng.reseeds + 1 ∧ (reseedG s).rng.pool = s.rng.pool := by
  simp only [reseedG, h, Bool.false_eq_true, if_false, apply_ite State.rng, event_frame, ite_self, and_self]

theorem drawWaits_bump (ev : Nat) (subs : List Nat) (owner n : Nat) (s : State) :
    drawWaits (bump ev subs owner n s) = drawWaits s := by
  simp [drawWaits]

theorem doSeedReady_halted (h : s.rng.halted = true) : doSeedReady s = reseedG (bump 0x0D [0] 0 1 s) := by
  simp [doSeedReady, h]

theorem doSeedReady_draw (hh : s.rng.halted = false) (hw : drawWaits s = true) (hp : s.rng.pool = 0) :
    (doSeedReady s).rng = { s.rng with drawSeeds := s.rng.drawSeeds + 1 } := by
  simp [doSeedReady, drawWaits_bump, hh, hw, hp]

section
variable (hh : s.rng.halted = false) (hw : drawWaits s = false ∨ 0 < s.rng.pool)
include hh hw

theorem doSeedReady_stretching (hs : s.rng.stretching = true) : doSeedReady s = reseedG (bump 0x0D [0] 0 1 s) := by
  have hno : ¬ (drawWaits s = true ∧ s.rng.pool = 0) := by grind
  simp [doSeedReady, drawWaits_bump, hh, hno, hs]

theorem doSeedReady_pool (hs : s.rng.stretching = false) :
    (doSeedReady s).rng = { s.rng with pool := min 8 (s.rng.pool + 1) } := by
  have hno : ¬ (drawWaits s = true ∧ s.rng.pool = 0) := by grind
  simp [doSeedReady, drawWaits_bump, hh, hno, hs]

end

section
variable (hr : 2 ^ 16 ≤ s.rng.requests) (hs : s.rng.stretching = false)
include hr hs

theorem doGReseedDue_pool (hp : 0 < s.rng.pool) :
    doGReseedDue s = reseedG { s with rng := { s.rng with pool := s.rng.pool - 1 } } := by
  rw [doGReseedDue, if_neg (by simp [hs]; omega), if_pos hp]

theorem doGReseedDue_stretch (hp : s.rng.pool = 0) : (doGReseedDue s).rng
    = { s.rng with stretching := true, stretches := sat32 (s.rng.stretches + 1) } := by
  rw [doGReseedDue, if_neg (by simp [hs]; omega), if_neg (by omega)]
  simp

end

theorem doGHalt_halts (hr : 2 ^ 24 ≤ s.rng.requests) (hh : s.rng.halted = false) :
    (doGHalt s).rng = { s.rng with halted := true } := by
  rw [doGHalt, if_neg (by simp [hh]; omega)]
  simp

end

/-! ### What leaves a failure of the generator as it is (R316, R325) -/

/-- From s to t the failure of the generator and the signing variant stay, and no read is held and no draw admitted. -/
structure FailureStays (s t : State) : Prop where
  failed : t.rng.failed = s.rng.failed
  source : t.rng.failSource = s.rng.failSource
  cause : t.rng.failCause = s.rng.failCause
  held : t.rng.heldReads ≤ s.rng.heldReads
  draws : t.rng.draws ⊆ s.rng.draws
  deterministic : t.dep.deterministic = s.dep.deterministic

theorem FailureStays.of_eq {s t : State} (hr : t.rng = s.rng) (hd : t.dep.deterministic = s.dep.deterministic) :
    FailureStays s t := by
  constructor <;> simp [hr, hd]

theorem FailureStays.refl (s : State) : FailureStays s s := .of_eq rfl rfl

theorem FailureStays.trans {s t u : State} (h : FailureStays s t) (k : FailureStays t u) : FailureStays s u :=
  ⟨k.failed.trans h.failed, k.source.trans h.source, k.cause.trans h.cause, k.held.trans h.held,
    fun _ hx => h.draws (k.draws hx), k.deterministic.trans h.deterministic⟩

theorem FailureStays.foldl {α : Type} {f : State → α → State} (h : ∀ st x, FailureStays st (f st x)) (l : List α) (s : State) :
    FailureStays s (l.foldl f s) :=
  foldl_keeps (FailureStays s) f (fun st x e => e.trans (h st x)) l s (.refl s)

theorem event_failureStays (code owner : Nat) (args : List (Nat × Nat)) (s : State) :
    FailureStays s (event code owner args s) := .of_eq (by simp) (by simp)

theorem finish_failureStays (w : Work) (st : Status) (detail : Nat) (b : Bytes) (s : State) :
    FailureStays s (finish w st detail b s) := .of_eq (by simp) (by simp)

theorem repeatN_abortRead_failureStays : ∀ (n : Nat) (s : State), FailureStays s (repeatN n abortRead s)
  | 0, s => .refl s
  | n + 1, s => by
    have h : FailureStays s (abortRead s) := by constructor <;> simp
    exact h.trans (repeatN_abortRead_failureStays n _)

/-! #### Sessions, ports and cards -/

theorem setPeer_failureStays (i : Nat) (p : Peer) (s : State) : FailureStays s (setPeer i p s) := .of_eq rfl rfl

theorem dropSends_failureStays (i : Nat) (s : State) : FailureStays s (dropSends i s) := by
  simp only [dropSends]
  exact foldl_keeps (FailureStays s) _ (fun st e h => h.trans (.of_eq (by simp) (by simp))) _ _ (.of_eq rfl rfl)

theorem dropLinzenSource_failureStays (s : State) : FailureStays s (dropLinzenSource s) := by
  unfold dropLinzenSource
  split <;> exact .of_eq rfl rfl

theorem loseSession_failureStays (i cause : Nat) (s : State) : FailureStays s (loseSession i cause s) := by
  unfold loseSession
  dsimp only
  repeat' split
  · exact .refl s
  · exact .refl s
  · refine .trans ?_ (event_failureStays ..)
    refine .trans ?_ (dropSends_failureStays ..)
    exact ((setPeer_failureStays ..).trans (dropLinzenSource_failureStays _)).trans (.of_eq rfl rfl)

theorem stopPorts_failureStays (s : State) : FailureStays s (stopPorts s) :=
  (FailureStays.foldl (fun st (e : Nat × Peer) => loseSession_failureStays e.1 7 st) _ s).trans (.of_eq rfl rfl)

theorem endBulk_failureStays (st : Status) (s : State) : FailureStays s (endBulk st s) := by
  simp only [endBulk, dropPending, syncVault]
  split <;> exact .of_eq (by simp) (by simp)

theorem abortBulk_failureStays (s : State) : FailureStays s (abortBulk s) := by
  simp only [abortBulk, when]
  split
  · exact endBulk_failureStays ..
  · exact .refl s

/-! #### Responses -/

theorem clearSecrets_failureStays (s : State) : FailureStays s (clearSecrets s) := by
  have hoff : FailureStays s (emit (.coupling 3 0) (cardsOff (stopPorts s))) :=
    (stopPorts_failureStays s).trans (.of_eq (by simp [cardsOff]) (by simp [cardsOff]))
  refine (hoff.trans (abortBulk_failureStays _)).trans ?_
  constructor <;> simp [clearSecrets]

theorem zeroise_failureStays (src : Nat) (s : State) : FailureStays s (zeroise src s) := by
  simp only [zeroise]
  split
  · exact .refl s
  · have hcleared := (event_failureStays 0x070A 0 [(1, src)] s).trans (clearSecrets_failureStays _)
    exact hcleared.trans (.of_eq (by simp) (by simp))

theorem recordFiring_failureStays (f : Firing) (sub : Nat) (s : State) : FailureStays s (recordFiring f sub s) :=
  .of_eq (by simp [recordFiring]) (by simp [recordFiring])

theorem recordFirings_failureStays (l : List (Firing × Nat)) (s : State) :
    FailureStays s (l.foldl (fun st p => recordFiring p.1 p.2 st) s) :=
  foldl_keeps (FailureStays s) _ (fun st p h => h.trans (recordFiring_failureStays p.1 p.2 st)) l s (.refl s)

theorem fireAll_failureStays (l : List Firing) (s : State) : FailureStays s (fireAll l s) := by
  have hclose {t : State} (h : FailureStays s t) : FailureStays s { t with sys := { t.sys with close := true } } :=
    h.trans (.of_eq rfl rfl)
  have hrecord := recordFirings_failureStays (firingOrder l).zipIdx s
  simp only [fireAll]
  split
  next f _ =>
    have hzero := hrecord.trans (zeroise_failureStays f.src _)
    split_ifs
    · exact hclose hzero
    · exact hzero
  next =>
    split_ifs
    · exact hclose hrecord
    · exact hrecord

theorem holdDevice_failureStays (step unit detail : Nat) (s : State) : FailureStays s (holdDevice step unit detail s) := by
  simp only [holdDevice]
  split
  · exact .refl s
  · refine (stopPorts_failureStays s).trans (.of_eq ?_ ?_) <;> simp [heldUart, cardsOff]

theorem failStart_failureStays (selfTest : Bool) (step unit detail : Nat) (s : State) :
    FailureStays s (failStart selfTest step unit detail s) := by
  have hstep : FailureStays s (stepFailed step unit detail s) := .of_eq (by simp [stepFailed]) (by simp [stepFailed])
  simp only [failStart]
  refine FailureStays.trans ?_ (holdDevice_failureStays ..)
  split
  · exact hstep.trans (fireAll_failureStays ..)
  · exact hstep

/-! #### Draws that are void (R334) -/

theorem sealLeaf_failureStays (st : Stamp) (l : Leaf) (replay : Bytes) (s : State) :
    FailureStays s (sealLeaf st l replay s) := by
  refine .of_eq (by simp) ?_
  simp only [sealLeaf]
  split <;> simp

theorem endOne_failureStays (e : Ending) (s : State) : FailureStays s (endOne e s) := by
  have hissue : FailureStays s (issue e.leaf.owner s).2 := .of_eq (by simp) (by simp)
  simp only [endOne]
  split
  · exact hissue.trans (sealLeaf_failureStays ..)
  · exact (hissue.trans (sealLeaf_failureStays ..)).trans (finish_failureStays ..)

theorem drainList_failureStays : ∀ (l : List Ending) (s : State), FailureStays s (drainList l s)
  | [], s => .refl s
  | e :: rest, s => by
    unfold drainList
    split
    · refine FailureStays.trans ?_ (drainList_failureStays rest _)
      exact (endOne_failureStays e s).trans (.of_eq rfl rfl)
    · exact .refl s

theorem pushEnd_failureStays (e : Ending) (s : State) : FailureStays s (pushEnd e s) := by
  refine FailureStays.trans ?_ (drainList_failureStays ..)
  exact .of_eq rfl rfl

theorem voidDraw_failureStays (cause : Nat) (st : Status) (d : DrawRec) (s : State) :
    FailureStays s (voidDraw cause st d s) := by
  refine FailureStays.trans ?_ (pushEnd_failureStays ..)
  refine FailureStays.trans ?_ (event_failureStays ..)
  constructor <;> simp

theorem voidDraw_gone (cause : Nat) (st : Status) (d : DrawRec) (s : State) : d ∉ (voidDraw cause st d s).rng.draws := by
  intro h
  have hd := (event_failureStays ..).draws ((pushEnd_failureStays ..).draws h)
  simp at hd

theorem voidDraws_failureStays (cause : Nat) (st : Status) (l : List DrawRec) (s : State) :
    FailureStays s (l.foldl (fun t d => voidDraw cause st d t) s) :=
  foldl_keeps (FailureStays s) _ (fun t d h => h.trans (voidDraw_failureStays cause st d t)) l s (.refl s)

/-- Voiding each of some draws leaves none of them. -/
theorem voidDraws_gone (cause : Nat) (st : Status) {d : DrawRec} {l : List DrawRec} (hd : d ∈ l) (s : State) :
    d ∉ (l.foldl (fun t d => voidDraw cause st d t) s).rng.draws := by
  induction l generalizing s with
  | nil => simp at hd
  | cons x l ih =>
    rw [List.foldl_cons]
    rcases List.mem_cons.1 hd with rfl | hl
    · exact fun h => voidDraw_gone cause st d s ((voidDraws_failureStays cause st l _).draws h)
    · exact ih hl _

/-- Every draw that is not revealed is void. -/
def voidAll (s : State) : State := s.rng.draws.foldl (fun st d => voidDraw 1 .rngUnavailable d st) s

theorem voidAll_draws (s : State) : (voidAll s).rng.draws = [] :=
  List.eq_nil_iff_forall_not_mem.2 fun _ hd => voidDraws_gone _ _ ((voidDraws_failureStays _ _ _ s).draws hd) s hd

/-! ### RNG_FAIL (R176, R315, R316, R325) -/

/-- All output has stopped for this reason. -/
def OutputStopped (src cause : Nat) (t : State) : Prop := t.rng.failed = true ∧ t.rng.failSource = src
  ∧ t.rng.failCause = cause ∧ t.rng.draws = [] ∧ t.rng.heldReads = 0 ∧ t.dep.deterministic = true

theorem OutputStopped.stays {src cause : Nat} {s t : State} (h : OutputStopped src cause s) (k : FailureStays s t) :
    OutputStopped src cause t := by
  obtain ⟨hfailed, hsource, hcause, hdraws, hheld, hdet⟩ := h
  exact ⟨k.failed.trans hfailed, k.source.trans hsource, k.cause.trans hcause, List.subset_nil.1 (hdraws ▸ k.draws),
    Nat.le_zero.1 (hheld ▸ k.held), k.deterministic.trans hdet⟩

theorem signDeterministic_spec (s : State) :
    (signDeterministic s).rng = s.rng ∧ (signDeterministic s).dep.deterministic = true := by
  simp only [signDeterministic]
  split
  next h => exact ⟨rfl, h⟩
  next => simp

/-- The failure is recorded, the held reads have ended, and signatures are deterministic. -/
def failNoted (src cause : Nat) (s : State) : State :=
  signDeterministic (endHeld abortRead (event 0x0906 0 [(1, src), (1, cause)] { s with rng := { s.rng with
    failed := true, failSource := src, failCause := cause, failStartup := !s.rng.ready, drawSeeds := 0 } }))

theorem failNoted_spec (src cause : Nat) (s : State) : (failNoted src cause s).rng.failed = true
    ∧ (failNoted src cause s).rng.failSource = src ∧ (failNoted src cause s).rng.failCause = cause
    ∧ (failNoted src cause s).rng.heldReads = 0 ∧ (failNoted src cause s).dep.deterministic = true := by
  obtain ⟨hrng, hdet⟩ := signDeterministic_spec (endHeld abortRead (event 0x0906 0 [(1, src), (1, cause)] { s with
    rng := { s.rng with failed := true, failSource := src, failCause := cause, failStartup := !s.rng.ready, drawSeeds := 0 } }))
  have hreads := repeatN_abortRead_failureStays
  refine ⟨?_, ?_, ?_, ?_, hdet⟩
  all_goals
    rw [failNoted, hrng, endHeld]
  · rw [(hreads ..).failed]; simp
  · rw [(hreads ..).source]; simp
  · rw [(hreads ..).cause]; simp
  · exact Nat.le_zero.1 (hreads ..).held

theorem voidAll_stops (src cause : Nat) (s : State) : OutputStopped src cause (voidAll (failNoted src cause s)) := by
  obtain ⟨hfailed, hsource, hcause, hheld, hdet⟩ := failNoted_spec src cause s
  have k : FailureStays (failNoted src cause s) (voidAll (failNoted src cause s)) := voidDraws_failureStays ..
  exact ⟨k.failed.trans hfailed, k.source.trans hsource, k.cause.trans hcause, voidAll_draws _,
    Nat.le_zero.1 (hheld ▸ k.held), k.deterministic.trans hdet⟩

/-- Whatever source 51 sets off, and whether or not start-up fails, all output has stopped. -/
theorem rngFail_stops {s : State} (src cause : Nat) (h : s.rng.failed = false) :
    OutputStopped src cause (rngFail src cause s) := by
  have hraised : OutputStopped src cause (raise 51 0 (voidAll (failNoted src cause s))) :=
    (voidAll_stops src cause s).stays (fireAll_failureStays ..)
  simp only [rngFail, h, Bool.false_eq_true, if_false]
  split
  · exact hraised.stays (failStart_failureStays ..)
  · exact hraised

theorem doRngAlarm_first {s : State} {src : Nat} (k : HealthTest) (hr : s.rng.ready = true) (ha : recentAlarm s src = false) :
    (doRngAlarm src k s).rng = { s.rng with alarms := sat32 (s.rng.alarms + 1), firstAlarm := s.rng.firstAlarm.put src s.clk.upNs } := by
  simp [doRngAlarm, hr, ha]

theorem doRngAlarm_second {s : State} {src : Nat} (k : HealthTest) (h : s.rng.ready = false ∨ recentAlarm s src = true) :
    doRngAlarm src k s = rngFail src (testCode k) s := by
  simp [doRngAlarm, h]

/-! ### RANDOM (R323) -/

section
variable {s : State} {w : Work}

theorem doRandom_badLength (h : dDstLen w.desc = 0 ∨ 65536 < dDstLen w.desc) :
    doRandom w s = finish w .paramInvalid 0 [] s := by
  simp [doRandom, h]

variable (hpos : 1 ≤ dDstLen w.desc) (hmax : dDstLen w.desc ≤ 65536)
include hpos hmax

theorem doRandom_unavailable (h : canDraw s = false) : doRandom w s = finish w .rngUnavailable 0 [] s := by
  rw [doRandom, if_neg (by omega)]
  simp [h]

theorem doRandom_writes (h : canDraw s = true) : doRandom w s
    = finish w .ok 0 (drawBytes (dDstLen w.desc) s).1 (drawBytes (dDstLen w.desc) s).2 := by
  rw [doRandom, if_neg (by omega)]
  simp [h]

theorem random_writes {id : WorkId} (hw : Waits s id 0x20 w) (h : canDraw s = true) :
    EndsWork (.random id) s w .ok 0 (le (dDstLen w.desc) (Config.random s.free (dDstLen w.desc)))
      fun t => t.rng = { s.rng with requests := s.rng.requests + 1 } := by
  refine yields_work rfl hw ?_
  obtain ⟨-, -, -, htakes⟩ := hw
  rw [doRandom_writes (s := taken w s) hpos hmax h]
  exact ⟨finish_completed (s := (drawBytes _ (taken w s)).2) _ _ _ htakes,
    finish_wrote (s := (drawBytes _ (taken w s)).2) _ _ _ htakes, by simpa using not_mem_taken w s,
    by simp [drawBytes, taken]⟩

end

/-! ### The obligation -/

/-- Settles O47: each command has its equations above, and a failure of the generator outlasts everything that it sets off
(`rngFail_stops`). -/
theorem generator : Obligations.Generator := by
  unfold Obligations.Generator
  refine fun s => ⟨fun hruns hok => ⟨fun n hr => ?_, fun hr => ⟨fun hh => ?_, fun hh hw hp => ?_,
    fun hh hw => ⟨fun hs => ?_, fun hs => ?_⟩, fun hreq hs hh => ⟨fun hp => ?_, fun hp => ?_⟩, fun hreq hh => ?_⟩,
    fun src k hsrc => ⟨fun hr ha => ?_, fun hbad => ?_⟩, ?_, ?_⟩,
    fun hread => ⟨fun hc => ?_, fun hf => ?_, fun hc hf => ?_⟩, fun ha hheld => ?_,
    fun id w hw => ⟨fun hlen => ?_, fun hpos hmax hc => ?_, fun hpos hmax hc => ?_⟩⟩
  · refine yields_when rfl (by simp [hruns, hr, hok]) ?_
    simp [doGeneratorReady_rng]
  · refine yields_when rfl (by simp [hruns, hr, hok]) ?_
    obtain ⟨hhalt, hheld, hreseeds, hpool⟩ := reseedG_halted (s := bump 0x0D [0] 0 1 s) (by simp [hh])
    rw [doSeedReady_halted hh]
    exact ⟨hhalt, by simpa using hreseeds, by simpa using hpool, hheld⟩
  · exact yields_when rfl (by simp [hruns, hr, hok]) (doSeedReady_draw hh hw hp)
  · refine yields_when rfl (by simp [hruns, hr, hok]) ?_
    obtain ⟨hrequests, hstretch, hreseeds, hpool⟩ := reseedG_running (s := bump 0x0D [0] 0 1 s) (by simp [hh])
    rw [doSeedReady_stretching hh hw hs]
    exact ⟨hstretch, hrequests, by simpa using hreseeds, by simpa using hpool⟩
  · exact yields_when rfl (by simp [hruns, hr, hok]) (doSeedReady_pool hh hw hs)
  · refine yields_when rfl (by simp [hruns, hr, hok]) ?_
    rw [doGReseedDue_pool hreq hs hp]
    obtain ⟨hrequests, -, hreseeds, hpool⟩ :=
      reseedG_running (s := { s with rng := { s.rng with pool := s.rng.pool - 1 } }) hh
    exact ⟨hrequests, hpool, hreseeds⟩
  · refine yields_when rfl (by simp [hruns, hr, hok]) ?_
    rw [doGReseedDue_stretch hreq hs hp]
    exact ⟨rfl, rfl, rfl⟩
  · exact yields_when rfl (by simp [hruns, hr, hok]) (doGHalt_halts hreq hh)
  · refine yields_when rfl (by simp [hruns, hsrc, hok]) ?_
    rw [doRngAlarm_first k hr ha]
    exact ⟨hok, rfl, by simp⟩
  · refine yields_when rfl (by simp [hruns, hsrc, hok]) ?_
    rw [doRngAlarm_second k hbad]
    exact rngFail_stops src (testCode k) hok
  · exact yields_when rfl (by simp [hruns]) (rngFail_stops 0xF 3 hok)
  · have he : exec (.rngKat true) s = execRngKat true s := rfl
    simp [he, execRngKat, when]
  · refine ⟨_, exec_rngDataRead hread, ?_⟩
    rw [doRngDataRead_served hc]
    exact ⟨serveRead_rng s, serveRead_out s⟩
  · refine ⟨_, exec_rngDataRead hread, ?_⟩
    rw [doRngDataRead_failed hf]
    simp
  · rw [exec_rngDataRead hread, doRngDataRead_held hc hf]
  · exact yields_when rfl (by simp [ha, hheld]) (by simp)
  · exact endsWork_finish rfl hw (doRandom_badLength hlen) (by simp [taken])
  · exact endsWork_finish rfl hw (doRandom_unavailable hpos hmax hc) (by simp [taken])
  · exact ⟨_, le_length .., random_writes hpos hmax hw hc⟩

end Sys2Proof.Machine
end

section
/-! Power failure and settlement loads: O41. -/

namespace Sys2Proof.Machine

/-! ### The records whose write has begun (R219): what the close tick leaves of user flash -/

section
variable (s : State)

@[simp] theorem setSlot_writing (i : Nat) (x : Slot) : (setSlot i x s).flash.writing = s.flash.writing := rfl

@[simp] theorem failSlot_writing (i : Nat) : (failSlot i s).flash.writing = s.flash.writing := by
  simp only [failSlot]
  split <;> simp

@[simp] theorem checkSlot_writing (i : Nat) : (checkSlot i s).flash.writing = s.flash.writing := by
  unfold checkSlot
  split <;> simp

@[simp] theorem useSlot_writing (i : Nat) : (useSlot i s).flash.writing = s.flash.writing := by
  simp only [useSlot]
  split_ifs <;> simp

@[simp] theorem checkRoot_writing (o q : Nat) : (checkRoot o q s).flash.writing = s.flash.writing := by
  simp only [checkRoot]
  split <;> simp

@[simp] theorem useRoot_writing (o q : Nat) : (useRoot o q s).flash.writing = s.flash.writing := by
  simp only [useRoot]
  split
  · simp
  · split <;> simp

@[simp] theorem closeBlock_writing (o : Nat) : (closeBlock o s).flash.writing = s.flash.writing := by
  unfold closeBlock
  dsimp only
  split
  · rfl
  · repeat' split
    all_goals simp

@[simp] theorem closeBlocks_writing : (closeBlocks s).flash.writing = s.flash.writing :=
  foldl_keeps (fun t => t.flash.writing = s.flash.writing) _ (fun st p h => by simpa using h) _ _ rfl

@[simp] theorem countTime_flash : (countTime s).flash = s.flash :=
  foldl_keeps (fun t => t.flash = s.flash) _ (fun st p h => by
    dsimp only
    split_ifs <;> simpa using h) _ _ rfl

@[simp] theorem dumpSnapshot_flash : (dumpSnapshot s).flash = s.flash := by
  simp only [dumpSnapshot]
  split_ifs <;> simp

@[simp] theorem latchCounters_flash (n : Option Nat) : (latchCounters n s).flash = s.flash := by simp [latchCounters]

@[simp] theorem snapAtTick_flash (n : Nat) : (snapAtTick n s).flash = s.flash := by
  simp only [snapAtTick]
  split_ifs <;> simp

@[simp] theorem applyRollover_writing : (applyRollover s).flash.writing = s.flash.writing := by
  unfold applyRollover
  split <;> simp [moveSlot]

@[simp] theorem openNext_flash (actual sched : Nat) : (openNext actual sched s).flash = s.flash := by
  simp only [openNext, reanchor]
  split_ifs <;> simp

@[simp] theorem insertTick_writing (powerFail unwitnessed : Bool) :
    (insertTick powerFail unwitnessed s).flash.writing = s.flash.writing := by
  simp only [insertTick, apply_ite State.flash, ite_self, event_frame, bump_frame, openNext_flash, applyRollover_writing,
    closeBlocks_writing, snapAtTick_flash, freezeNewest_frame]

@[simp] theorem noteCause_flash (c : Nat) : (noteCause c s).flash = s.flash := by
  unfold noteCause
  split <;> rfl

end

/-! ### PWR_FAIL_N (R158, R219, R220) -/

section
variable {s t : State}

theorem tickLive_congr (hd : t.dep = s.dep) (hs : t.sys.anchorStopped = s.sys.anchorStopped) : tickLive t = tickLive s := by
  simp [tickLive, hd, hs]

theorem tickBlocked_congr (hd : t.dep = s.dep) (hk : t.keys = s.keys) (hf : t.flash = s.flash)
    (ho : t.adm.owed = s.adm.owed) : tickBlocked t = tickBlocked s := by
  have hpair : pairLoaded t = pairLoaded s := by simp only [pairLoaded, slotOf, hd, hk]
  have hhigh : depHigh t = depHigh s := by simp only [depHigh, flashNow, hf]
  have hopen : openSubtrees t = openSubtrees s := by simp only [openSubtrees, hd, ho]
  simp only [tickBlocked, hpair, hhigh, hopen, hd]

/-- PWR_FAIL_N is asserted at reading n: nothing more is fetched, and the newest event is frozen. -/
def powerFailing (n : Nat) (s : State) : State :=
  freezeNewest { advance n s with
    sys := { (advance n s).sys with pwrFail := true }, adm := { (advance n s).adm with stopFetch := true } }

/-- The TYPE 2 record of the open departure (R219). -/
def powerFailRecord (s : State) : FlashRec := recordOf 2 s.vm.epochAck s.dep.number (s.adm.nextSeq - 1) 0

@[simp] theorem powerFailing_frame (n : Nat) (s : State) : (powerFailing n s).sys = { s.sys with pwrFail := true }
    ∧ (powerFailing n s).adm = { s.adm with stopFetch := true } ∧ (powerFailing n s).dep = s.dep
    ∧ (powerFailing n s).flash = s.flash ∧ (powerFailing n s).keys = s.keys ∧ (powerFailing n s).vm = s.vm := by
  simp [powerFailing]

theorem tickLive_powerFailing (n : Nat) (s : State) : tickLive (powerFailing n s) = tickLive s :=
  tickLive_congr (by simp) (by simp)

theorem tickBlocked_powerFailing (n : Nat) (s : State) : tickBlocked (powerFailing n s) = tickBlocked s :=
  tickBlocked_congr (by simp) (by simp) (by simp) (by simp)

theorem powerFailRecord_powerFailing (n : Nat) (s : State) : powerFailRecord (powerFailing n s) = powerFailRecord s := by
  simp [powerFailRecord]

variable (n : Nat)

/-- The record of the failure is begun after the early close, or after the cause that holds the close back is noted. -/
theorem doPwrFailNAssert_eq (s : State) : doPwrFailNAssert (advance n s) =
    if tickLive s then beginRecord (powerFailRecord s) (match tickBlocked s with
      | some c => noteCause c (powerFailing n s)
      | none => insertTick true false (powerFailing n s))
    else powerFailing n s := by
  have h : doPwrFailNAssert (advance n s) = if !tickLive (powerFailing n s) then powerFailing n s
      else match tickBlocked (powerFailing n s) with
        | some c => beginRecord (powerFailRecord (powerFailing n s)) (noteCause c (powerFailing n s))
        | none => beginRecord (powerFailRecord (powerFailing n s)) (insertTick true false (powerFailing n s)) := rfl
  rw [h, tickLive_powerFailing, tickBlocked_powerFailing, powerFailRecord_powerFailing]
  cases tickLive s
  · rfl
  · cases tickBlocked s <;> rfl

@[simp] theorem beginRecord_frame (r : FlashRec) (s : State) : (beginRecord r s).sys = s.sys ∧ (beginRecord r s).adm = s.adm
    ∧ (beginRecord r s).dep = s.dep ∧ (beginRecord r s).flash.writing = s.flash.writing ++ [r] := ⟨rfl, rfl, rfl, rfl⟩

theorem doPwrFailNDeassert_frame (s : State) :
    (doPwrFailNDeassert s).sys.pwrFail = false ∧ (doPwrFailNDeassert s).dep = s.dep := by
  simp only [doPwrFailNDeassert]
  split <;> exact ⟨rfl, rfl⟩

/-- A record of a power failure that is still to be superseded (R220). -/
theorem powerFailNoted_iff (s : State) : (s.flash.writing.any (fun r => r.type == 2) || lastIssued s) = true
    ↔ (∃ r ∈ s.flash.writing, r.type = 2) ∨ lastIssued s = true := by
  simp

theorem doPwrFailNDeassert_noted (h : (∃ r ∈ s.flash.writing, r.type = 2) ∨ lastIssued s = true) (ho : s.dep.isOpen = true) :
    doPwrFailNDeassert s = beginRecord (recordOf 4 s.vm.epochAck 0 0 0) { s with sys := { s.sys with pwrFail := false } } := by
  have hnoted := (powerFailNoted_iff s).2 h
  have hlast : lastIssued { s with sys := { s.sys with pwrFail := false } } = lastIssued s := rfl
  simp only [doPwrFailNDeassert, hlast, hnoted, ho]
  rfl

theorem doPwrFailNDeassert_resumes (h : ¬((∃ r ∈ s.flash.writing, r.type = 2) ∨ lastIssued s = true) ∨ s.dep.isOpen = false) :
    doPwrFailNDeassert s
      = { s with sys := { s.sys with pwrFail := false }, adm := { s.adm with stopFetch := s.sys.stableBusy } } := by
  have hif : ((s.flash.writing.any (fun r => r.type == 2) || lastIssued s) && s.dep.isOpen) = false := by
    rw [← powerFailNoted_iff] at h
    simpa [or_iff_not_imp_left] using h
  have hlast : lastIssued { s with sys := { s.sys with pwrFail := false } } = lastIssued s := rfl
  simp only [doPwrFailNDeassert, hlast, hif]
  rfl

/-- The tick that a power failure inserts leaves fetching stopped. -/
theorem insertTick_stopFetch (powerFail unwitnessed : Bool) (s : State) :
    (insertTick powerFail unwitnessed s).adm.stopFetch = s.adm.stopFetch := by
  rw [(insertTick_journalOnly powerFail unwitnessed s).adm]

end

/-! ### Tickets that are put (R195, R197) -/

section
variable {s : State} {t : Ticket}

/-- A put changes the tickets alone. -/
theorem putTicket_only (t : Ticket) (s : State) :
    putTicket t s = { s with vm := { s.vm with tickets := (putTicket t s).vm.tickets } } := by
  simp only [putTicket]
  split <;> rfl

/-- The ticket that was put is found with its image. -/
theorem ticketOf_putTicket_image (t : Ticket) (s : State) :
    (ticketOf (putTicket t s) t.owner t.issuer t.seq).map ticketBytes = some (ticketBytes t) := by
  obtain ⟨b, hfound, -⟩ := ticketOf_putTicket t s
  rw [hfound, Option.map_some, ticketBytes_bucket]

/-- The places of an owner's tickets move; their keys and images do not. -/
theorem ticketOf_movedTickets (o : Nat) (l : Places) (s : State) (p i q : Nat) :
    (ticketOf (movedTickets o l s) p i q).map ticketBytes = (ticketOf s p i q).map ticketBytes :=
  find?_map_image _ _ _ _ (fun k => by split <;> rfl) (fun k => by split; exacts [ticketBytes_bucket .., rfl])

/-- Another key finds what it found before, at most in another bucket. -/
theorem ticketOf_putTicket_other {o i q : Nat} (h : ¬(t.owner = o ∧ t.issuer = i ∧ t.seq = q)) (s : State) :
    (ticketOf (putTicket t s) o i q).map ticketBytes = (ticketOf s o i q).map ticketBytes := by
  have hne : (t.owner == o && t.issuer == i && t.seq == q) = false := by simpa [and_assoc] using h
  simp only [putTicket]
  split
  next x hx =>
    simp only [ticketOf, List.find?_cons, hne, List.find?_filter]
    congr 2
    funext k
    grind
  next =>
    rw [← ticketOf_movedTickets t.owner ((settleInsert s t.owner [ticketKey t.issuer t.seq]).getD []) s]
    simp only [ticketOf, List.find?_cons, hne]

/-- A ticket of another owner stays as it is. -/
theorem mem_putTicket {k : Ticket} (hk : k ∈ s.vm.tickets) (ho : k.owner ≠ t.owner) : k ∈ (putTicket t s).vm.tickets := by
  simp only [putTicket]
  split
  · simp [hk, ho]
  · simp only [movedTickets, List.mem_cons, List.mem_map]
    exact .inr ⟨k, hk, by simp [ho]⟩

end

/-! ### The end of a load's verification (R197, R209) -/

section
variable {s : State}

theorem endBulk_withoutLoad (st : Status) (h : s.vm.load = none) : (endBulk st s).bulk.state = .failed
    ∧ (endBulk st s).bulk.result = st.code ∧ (endBulk st s).vm.tickets = s.vm.tickets ∧ (endBulk st s).vm.load = none := by
  simp [endBulk, h]

theorem doSettlementLoad_badForm (h : loadFormOk s.bulk.data = false) : doSettlementLoad s = endBulk .paramInvalid s := by
  simp [doSettlementLoad, h]

theorem doSettlementLoad_unsigned (hform : loadFormOk s.bulk.data = true) (hd : s.life.decided ≠ 0)
    (h : loadSigned s s.bulk.owner s.bulk.data = false) : doSettlementLoad s = endBulk .authFail s := by
  simp [doSettlementLoad, hform, hd, h]

/-- What a load puts in place: it waits for the checkpoint that will hold it, which is asked for, and its tickets are
pending. -/
def loadWaiting (x : Nat) (s : State) : State :=
  { s with vm := { s.vm with
    load := some (s.bulk.owner, x, loadDigest s.bulk.data, ((s.vm.ckptRunning.map (·.epoch)).getD s.vm.epochWritten) + 1)
    ckptNow := true } }

/-- The ticket of a load's entry until the load is live (R209). -/
def pendingTicket (x : Nat) (k : Ticket) : Ticket := { k with issuer := x, pending := true }

def putPending (x : Nat) (l : List Ticket) (s : State) : State := l.foldl (fun st k => putTicket (pendingTicket x k) st) s

section
variable (hform : loadFormOk s.bulk.data = true) (hsigned : s.life.decided = 0 ∨ loadSigned s s.bulk.owner s.bulk.data = true)
include hform hsigned

theorem doSettlementLoad_noIssuer (h : loadIssuer s s.bulk.owner s.bulk.data = none) :
    doSettlementLoad s = endBulk .policy s := by
  have hs : (s.life.decided != 0 && !loadSigned s s.bulk.owner s.bulk.data) = false := by
    simpa [or_iff_not_imp_left] using hsigned
  simp only [doSettlementLoad, hform, hs, h]
  rfl

variable {x : Nat} (hissuer : loadIssuer s s.bulk.owner s.bulk.data = some x) (henrolled : (ownerOf s s.bulk.owner).enrolled ≠ 0)
  (hid : (ownerOf s s.bulk.owner).id.toNat = rd s.bulk.data 8 8)
  (hfresh : ∀ k ∈ s.vm.tickets, ¬(k.owner = s.bulk.owner ∧ k.issuer = x))
  (hasc : ascendingSeqs (loadEntries s.bulk.owner s.bulk.data) = true)
  (hplain : ∀ k ∈ loadEntries s.bulk.owner s.bulk.data, k.state ≤ 4 ∧ k.issuer = 0 ∧ k.pending = false)
include hissuer henrolled hid hfresh hasc hplain

/-- A load that passes every check on its form, its signatures and its entries turns on the room for its tickets. -/
theorem doSettlementLoad_checked : doSettlementLoad s =
    if (settleInsert s s.bulk.owner ((loadEntries s.bulk.owner s.bulk.data).map fun k => ticketKey x k.seq)).isNone
    then endBulk .sealedReject (noteFull s.bulk.owner 2 s)
    else syncVault s (putPending x (loadEntries s.bulk.owner s.bulk.data) (loadWaiting x s)) := by
  have hs : (s.life.decided != 0 && !loadSigned s s.bulk.owner s.bulk.data) = false := by
    simpa [or_iff_not_imp_left] using hsigned
  have hnew : (s.vm.tickets.any fun t => t.owner == s.bulk.owner && t.issuer == x) = false := by
    simpa using hfresh
  have hentries : ((loadEntries s.bulk.owner s.bulk.data).any fun t => decide (4 < t.state) || t.issuer != 0 || t.pending)
      = false := by
    simpa [and_assoc] using hplain
  have howner : ((ownerOf s s.bulk.owner).enrolled == 0 || (ownerOf s s.bulk.owner).id.toNat != rd s.bulk.data 8 8
      || s.vm.tickets.any fun t => t.owner == s.bulk.owner && t.issuer == x) = false := by
    simp [henrolled, hid, hnew]
  simp only [doSettlementLoad, hform, hs, hissuer, howner, hasc, hentries]
  simp only [Bool.not_true, Bool.or_self, Bool.false_eq_true, if_false]
  split_ifs
  · rfl
  · cases hc : s.vm.ckptRunning <;> simp [putPending, loadWaiting, pendingTicket, hc]

end
end

/-! ### The tickets of a load (R197, R209) -/

section
variable {x : Nat} {l : List Ticket}

theorem ascendingSeqs_pairwise : ∀ {l : List Ticket}, ascendingSeqs l = true → l.Pairwise fun a b => a.seq < b.seq
  | [], _ => .nil
  | [a], _ => List.pairwise_singleton ..
  | a :: b :: r, h => by
    simp only [ascendingSeqs, Bool.and_eq_true, decide_eq_true_eq] at h
    obtain ⟨hab, hr⟩ := h
    have ih := ascendingSeqs_pairwise hr
    refine .cons (fun c hc => ?_) ih
    rcases List.mem_cons.1 hc with rfl | hc
    · exact hab
    · exact hab.trans ((List.pairwise_cons.1 ih).1 c hc)

theorem putPending_only (x : Nat) (l : List Ticket) (s : State) :
    putPending x l s = { s with vm := { s.vm with tickets := (putPending x l s).vm.tickets } } :=
  foldl_keeps (fun t => t = { s with vm := { s.vm with tickets := t.vm.tickets } }) _ (fun st k h => by
    rw [putTicket_only, h]) l s rfl

/-- Tickets of other SEQUENCEs leave this one as it is. -/
theorem ticketOf_putPending_other {o q : Nat} (h : ∀ k ∈ l, k.seq ≠ q) (s : State) :
    (ticketOf (putPending x l s) o x q).map ticketBytes = (ticketOf s o x q).map ticketBytes := by
  induction l generalizing s with
  | nil => rfl
  | cons k l ih =>
    have hk : ¬((pendingTicket x k).owner = o ∧ (pendingTicket x k).issuer = x ∧ (pendingTicket x k).seq = q) :=
      fun hc => h k (by simp) hc.2.2
    exact (ih (fun j hj => h j (by simp [hj])) _).trans (ticketOf_putTicket_other hk s)

/-- Every entry of the load is held, pending. -/
theorem ticketOf_putPending {k : Ticket} (hs : l.Pairwise fun a b => a.seq < b.seq) (hk : k ∈ l) (s : State) :
    (ticketOf (putPending x l s) k.owner x k.seq).map ticketBytes = some (ticketBytes (pendingTicket x k)) := by
  induction l generalizing s with
  | nil => simp at hk
  | cons j l ih =>
    obtain ⟨hj, hl⟩ := List.pairwise_cons.1 hs
    rcases List.mem_cons.1 hk with rfl | hk
    · exact (ticketOf_putPending_other (fun i hi => (hj i hi).ne') _).trans (ticketOf_putTicket_image (pendingTicket x k) s)
    · exact ih hl hk _

theorem mem_putPending {k : Ticket} (ho : ∀ j ∈ l, k.owner ≠ j.owner) {s : State} (hk : k ∈ s.vm.tickets) :
    k ∈ (putPending x l s).vm.tickets := by
  induction l generalizing s with
  | nil => exact hk
  | cons j l ih => exact ih (fun i hi => ho i (by simp [hi])) (mem_putTicket hk (ho j (by simp)))

theorem noteFull_load (o area : Nat) (s : State) : (noteFull o area s).vm.load = s.vm.load := by
  unfold noteFull
  split <;> simp

theorem owner_of_mem_loadEntries {o : Nat} {b : Bytes} {k : Ticket} (h : k ∈ loadEntries o b) : k.owner = o := by
  obtain ⟨n, -, rfl⟩ := List.mem_map.1 h
  rfl

end

/-! ### A load becomes live (R209) -/

section
variable {s : State} {o x e : Nat} {d : Digest}

theorem doSettlementLoadLive_waits (h : s.vm.load = some (o, x, d, e)) (he : s.vm.epochAck < e) :
    doSettlementLoadLive s = s := by
  simp [doSettlementLoadLive, h, he]

/-- The commit that makes every ticket of the load live. -/
def loadApplied (o x : Nat) (s : State) : State :=
  commitSet s { s with vm := { s.vm with
    load := none, tickets := s.vm.tickets.map fun t => if t.owner == o && t.issuer == x then { t with pending := false } else t } }

theorem canNumber_loadApplied (o x : Nat) (s : State) : canNumber (loadApplied o x s) = canNumber s := rfl

theorem loadApplied_vm (o x : Nat) (s : State) : (loadApplied o x s).vm.load = none
    ∧ (loadApplied o x s).vm.commitNo = s.vm.commitNo + 1 ∧ (loadApplied o x s).vm.tickets
      = s.vm.tickets.map fun k => if k.owner = o ∧ k.issuer = x then { k with pending := false } else k := by
  simp [loadApplied, commitSet, syncVault]

theorem sealNow_takesNext {s : State} (l : Leaf) (replay : Bytes) (h : canNumber s = true) :
    (sealNow l replay s).adm.nextSeq = s.adm.nextSeq + 1 := by
  simp [sealNow, h]

theorem doSettlementLoadLive_applied (h : s.vm.load = some (o, x, d, e)) (he : e ≤ s.vm.epochAck) :
    ∃ l replay args, doSettlementLoadLive s = bulkDone (event 0x060E o args (sealNow l replay (loadApplied o x s))) := by
  simp only [doSettlementLoadLive, h, Nat.not_lt.2 he, if_false]
  exact ⟨_, _, _, rfl⟩

/-- One commit and one number make every ticket of the load live. -/
theorem doSettlementLoadLive_live (hn : canNumber s = true) (h : s.vm.load = some (o, x, d, e)) (he : e ≤ s.vm.epochAck) :
    (doSettlementLoadLive s).vm.load = none ∧ (doSettlementLoadLive s).bulk.state = .done
    ∧ (doSettlementLoadLive s).adm.nextSeq = s.adm.nextSeq + 1
    ∧ (doSettlementLoadLive s).vm.commitNo = s.vm.commitNo + 1
    ∧ (doSettlementLoadLive s).vm.tickets
      = s.vm.tickets.map fun k => if k.owner = o ∧ k.issuer = x then { k with pending := false } else k := by
  obtain ⟨l, replay, args, hlive⟩ := doSettlementLoadLive_applied h he
  have hnext := sealNow_takesNext l replay ((canNumber_loadApplied o x s).trans hn)
  obtain ⟨hload, hcommit, htickets⟩ := loadApplied_vm o x s
  simp only [hlive, bulkDone, event_frame, sealNow_frame, hnext]
  exact ⟨hload, trivial, rfl, hcommit, htickets⟩

end

/-! ### The obligation -/

/-- Settles O41: the failure's tick is an early close tick (`insertTick_closes`), and a load puts its tickets one by one, each
found again behind the others (`ticketOf_putPending`). -/
theorem powerFailAndLoads : Obligations.PowerFailAndLoads := by
  unfold Obligations.PowerFailAndLoads
  refine fun s => ⟨fun n hoff hpf => ?_, fun hoff hpf => ?_, fun hs hv hl => ⟨fun hform => ?_, fun hform hd hsig => ?_,
    fun hform hsig => ⟨fun hi => ?_, fun x hi he hid hfresh hasc hplain => ⟨fun hroom => ?_, fun hroom => ?_⟩⟩⟩,
    fun o x d e hs hv hn hl => ⟨fun he => ?_, fun he => ?_⟩⟩
  · refine yields_when rfl (by simp [hoff, hpf]) ?_
    rw [doPwrFailNAssert_eq]
    cases tickLive s with
    | false => simp
    | true =>
      cases tickBlocked s with
      | some c => simp [powerFailRecord]
      | none =>
        obtain ⟨hnumber, -, -, c, hclosing, hdep, -, hlast, -⟩ := insertTick_closes true false (powerFailing n s)
        simp only [if_true, beginRecord_frame, insertTick_sys, insertTick_stopFetch, insertTick_writing, hnumber, hclosing]
        simp [powerFailRecord, hdep, hlast]
  · refine yields_when rfl (by simp [hoff, hpf]) ⟨(doPwrFailNDeassert_frame s).1, (doPwrFailNDeassert_frame s).2,
      fun hnoted ho => ?_, fun h => ?_⟩
    · rw [doPwrFailNDeassert_noted hnoted ho]
      exact ⟨rfl, rfl⟩
    · rw [doPwrFailNDeassert_resumes h]
      exact ⟨rfl, rfl⟩
  · exact yields_when rfl (by simp [hs, hv, hl]) (doSettlementLoad_badForm hform ▸ endBulk_withoutLoad _ hl)
  · exact yields_when rfl (by simp [hs, hv, hl]) (doSettlementLoad_unsigned hform hd hsig ▸ endBulk_withoutLoad _ hl)
  · exact yields_when rfl (by simp [hs, hv, hl]) (doSettlementLoad_noIssuer hform hsig hi ▸ endBulk_withoutLoad _ hl)
  · refine yields_when rfl (by simp [hs, hv, hl]) ?_
    rw [doSettlementLoad_checked hform hsig hi he hid hfresh hasc hplain, if_pos (by simp [hroom])]
    obtain ⟨hfailed, hresult, htickets, -⟩ := endBulk_withoutLoad .sealedReject ((noteFull_load s.bulk.owner 2 s).trans hl)
    exact ⟨hfailed, hresult, htickets.trans (noteFull_records s.bulk.owner 2 s).1⟩
  · refine yields_when rfl (by simp [hs, hv, hl]) ?_
    rw [doSettlementLoad_checked hform hsig hi he hid hfresh hasc hplain, if_neg (by simpa [Option.isSome_iff_ne_none] using hroom)]
    have hput := putPending_only x (loadEntries s.bulk.owner s.bulk.data) (loadWaiting x s)
    refine ⟨(congrArg (·.bulk) hput :), (congrArg (·.vm.ckptNow) hput :), (congrArg (·.vm.load) hput :), fun k hk => ?_, fun k hk ho => ?_⟩
    · have hfound := ticketOf_putPending (x := x) (ascendingSeqs_pairwise hasc) hk (loadWaiting x s)
      rwa [owner_of_mem_loadEntries hk] at hfound
    · exact mem_putPending (fun j hj => owner_of_mem_loadEntries hj ▸ ho) hk
  · exact exec_when rfl (by simp [hs, hv, hn]) (doSettlementLoadLive_waits hl he)
  · exact yields_when rfl (by simp [hs, hv, hn]) (doSettlementLoadLive_live hn hl he)

end Sys2Proof.Machine
end

section
/-! The messages of peers: O36. -/

namespace Sys2Proof.Machine

/-! ### Entries of the peer table -/

section
variable {s : State} {i : Nat} {p : Peer}

@[simp] theorem peerOf_setPeer (i : Nat) (p : Peer) (s : State) : peerOf (setPeer i p s) i = some p := by
  simp [peerOf, setPeer]

theorem peerOf_congr {s t : State} (h : t.jct.peers = s.jct.peers) (i : Nat) : peerOf t i = peerOf s i := by
  simp [peerOf, h]

@[simp] theorem peerOf_bump (ev : Nat) (subs : List Nat) (owner n : Nat) (s : State) (i : Nat) :
    peerOf (bump ev subs owner n s) i = peerOf s i := by
  simp [peerOf]

@[simp] theorem peerOf_event (code owner : Nat) (args : List (Nat × Nat)) (s : State) (i : Nat) :
    peerOf (event code owner args s) i = peerOf s i := by
  simp [peerOf]

theorem mapPeer_held (h : peerOf s i = some p) (f : Peer → Peer) : mapPeer i f s = setPeer i (f p) s := by
  simp [mapPeer, h]

theorem setSession_held (h : peerOf s i = some p) (x : Session) :
    setSession i false x s = setPeer i { p with cur := some x } s := mapPeer_held h _

end

/-! ### A message goes out (R393)

Frames leave through the ports, and the peer table changes only where a session takes the message. -/

section
variable {s t : State}

/-- From s to t what the coupling and interlocking services keep has not changed. -/
structure ServicesStay (s t : State) : Prop where
  dep : t.dep = s.dep
  keys : t.keys = s.keys

theorem ServicesStay.refl (s : State) : ServicesStay s s := ⟨rfl, rfl⟩

theorem ServicesStay.trans {s t u : State} (h : ServicesStay s t) (k : ServicesStay t u) : ServicesStay s u :=
  ⟨k.dep.trans h.dep, k.keys.trans h.keys⟩

theorem mapPort_outside (port : Nat) (f : Port → Port) (s : State) :
    ServicesStay s (mapPort port f s) ∧ (mapPort port f s).jct.peers = s.jct.peers := by
  unfold mapPort
  split <;> exact ⟨⟨rfl, rfl⟩, rfl⟩

theorem putFrame_outside (p : Peer) (type : Nat) (f : Bytes) (s : State) :
    ServicesStay s (putFrame p type f s) ∧ (putFrame p type f s).jct.peers = s.jct.peers := by
  simp only [putFrame, sendFrame]
  split
  · split
    · exact mapPort_outside ..
    · exact ⟨⟨rfl, rfl⟩, rfl⟩
  · exact ⟨.refl s, rfl⟩

theorem sendSealed_outside (p : Peer) (x : Session) (type seq : Nat) (body : Bytes) (s : State) :
    ServicesStay s (sendSealed p x type seq body s) ∧ (sendSealed p x type seq body s).jct.peers = s.jct.peers := by
  simp only [sendSealed]
  obtain ⟨hstay, hpeers⟩ := putFrame_outside p type _ _
  exact ⟨⟨hstay.dep.trans (by simp), hstay.keys.trans (by simp)⟩, hpeers.trans (by simp)⟩

variable {i : Nat} {p : Peer} {x : Session} {m : Bytes} {rest : List Bytes}

/-- The session once its oldest waiting message is the next DATA frame. -/
def inFlight (x : Session) (m : Bytes) (rest : List Bytes) (now : Nat) : Session :=
  { x with sent := x.sent + 1, queue := rest, owedAcks := 0, flight := x.flight ++ [(x.sent + 1, m, now, true)] }

section
variable (hp : peerOf s i = some p) (hc : p.cur = some x)
include hp hc

theorem sendOne_idle (h : x.queue = [] ∨ 64 ≤ x.flight.length) : sendOne i false s = s := by
  simp only [sendOne, hp, sessionOf, hc, Bool.false_eq_true, if_false]
  split
  next hq =>
    rw [if_pos (h.resolve_left (by simp [hq]))]
  next => rfl

theorem sendOne_sends (hq : x.queue = m :: rest) (hf : x.flight.length < 64) :
    peerOf (sendOne i false s) i = some { p with cur := some (inFlight x m rest s.clk.run) } := by
  simp only [sendOne, hp, sessionOf, hc, hq, Bool.false_eq_true, if_false, Nat.not_le.2 hf]
  rw [peerOf_congr (sendSealed_outside ..).2, peerOf_bump, setSession_held hp, peerOf_setPeer]
  rfl

/-- The window takes a message that waits alone, and nothing is left to send. -/
theorem pump_sends (hq : x.queue = [m]) (hf : x.flight.length < 64) : pump i false s = sendOne i false s := by
  have hsent := sendOne_sends hp hc hq hf
  have hidle : sendOne i false (sendOne i false s) = sendOne i false s := sendOne_idle hsent rfl (.inl rfl)
  rw [pump, List.range_succ_eq_map, List.foldl_cons]
  exact foldl_keeps (fun t => t = sendOne i false s) _ (fun t _ h => by rw [h, hidle]) _ _ rfl

end

theorem setSession_stays (i : Nat) (old : Bool) (x : Session) (s : State) : ServicesStay s (setSession i old x s) := by
  simp only [setSession, mapPeer]
  split <;> exact ⟨rfl, rfl⟩

theorem bump_stays (ev : Nat) (subs : List Nat) (owner n : Nat) (s : State) : ServicesStay s (bump ev subs owner n s) :=
  ⟨by simp, by simp⟩

theorem sendOne_stays (i : Nat) (old : Bool) (s : State) : ServicesStay s (sendOne i old s) := by
  simp only [sendOne]
  split
  · exact .refl s
  · split
    · exact .refl s
    · split
      · split
        · exact .refl s
        · refine ServicesStay.trans ?_ (sendSealed_outside ..).1
          exact (setSession_stays ..).trans (bump_stays ..)
      · exact .refl s

theorem sendMessage_stays (i : Nat) (m : Bytes) (s : State) : ServicesStay s (sendMessage i m s) := by
  unfold sendMessage
  split
  · exact (setSession_stays ..).trans
      (foldl_keeps (ServicesStay _) _ (fun st _ h => h.trans (sendOne_stays i false st)) _ _ (.refl _))
  · exact .refl s

/-- Of the entry only the session changes as messages go out. -/
def SessionOnly (i : Nat) (p : Peer) (t : State) : Prop := ∃ c, peerOf t i = some { p with cur := c }

theorem sendOne_sessionOnly (h : SessionOnly i p s) : SessionOnly i p (sendOne i false s) := by
  obtain ⟨c, hp⟩ := h
  cases c with
  | none =>
    have hsame : sendOne i false s = s := by simp [sendOne, hp, sessionOf]
    rw [hsame]
    exact ⟨none, hp⟩
  | some x =>
    by_cases hidle : x.queue = [] ∨ 64 ≤ x.flight.length
    · rw [sendOne_idle hp rfl hidle]
      exact ⟨some x, hp⟩
    · obtain ⟨hq, hf⟩ := not_or.1 hidle
      obtain ⟨m, rest, hm⟩ := List.exists_cons_of_ne_nil hq
      have hsent := sendOne_sends hp rfl hm (Nat.not_le.1 hf)
      exact ⟨_, hsent⟩

theorem sendMessage_sessionOnly (m : Bytes) (hp : peerOf s i = some p) : SessionOnly i p (sendMessage i m s) := by
  cases hc : p.cur with
  | none =>
    have hsame : sendMessage i m s = s := by simp [sendMessage, hp, hc]
    rw [hsame]
    exact ⟨none, by rw [hp, ← hc]⟩
  | some x =>
    have hset : SessionOnly i p (setSession i false { x with queue := x.queue ++ [m] } s) :=
      ⟨_, by rw [setSession_held hp, peerOf_setPeer]⟩
    simp only [sendMessage, hp, Option.bind_some, hc]
    exact foldl_keeps (SessionOnly i p) _ (fun st _ h => sendOne_sessionOnly h) _ _ hset

/-- A message is handed over in a state whose entry has the session of s and whose clock reads as in s. -/
theorem sendMessage_sendsTo {q : Peer} (m : Bytes) (hp : peerOf t i = some q) (hc : q.cur = p.cur)
    (hrun : t.clk.run = s.clk.run) : SendsTo s (sendMessage i m t) i p m := by
  intro x hx hq hf
  have hset : peerOf (setSession i false { x with queue := [m] } t) i = some { q with cur := some { x with queue := [m] } } := by
    rw [setSession_held hp, peerOf_setPeer]
  have hclk : (setSession i false { x with queue := [m] } t).clk = t.clk := by rw [setSession_held hp]; rfl
  have hsend : sendMessage i m t = sendOne i false (setSession i false { x with queue := [m] } t) := by
    simp only [sendMessage, hp, Option.bind_some, hc, hx, hq, List.nil_append]
    exact pump_sends hset rfl rfl hf
  refine ⟨_, _, hsend ▸ sendOne_sends hset rfl rfl hf, rfl, rfl, ?_⟩
  simp only [inFlight, hclk, hrun]

end

/-! ### A delivered message is taken (R397) -/

/-- The entry without the message that has been taken. -/
def withoutMessage (p : Peer) (m : Bytes) : Peer := { p with inbox := p.inbox.erase m }

/-- The state in which a message's handler starts. -/
def messageTaken (i : Nat) (p : Peer) (m : Bytes) (s : State) : State := setPeer i (withoutMessage p m) s

theorem peerOf_messageTaken (i : Nat) (p : Peer) (m : Bytes) (s : State) :
    peerOf (messageTaken i p m s) i = some (withoutMessage p m) := peerOf_setPeer ..

section
variable {s : State} {i service msg : Nat} {p : Peer} {m : Bytes}

theorem onMessage_delivered (body : Peer → Bytes → State → State) (h : Delivered s i service msg p m) :
    onMessage i service msg body s = body p (m.drop 8) (messageTaken i p m s) := by
  obtain ⟨-, hp, hm⟩ := h
  simp only [onMessage, hp, hm, messageTaken, withoutMessage]

/-- A message's command answers what its handler makes of the message. -/
theorem yields_message {c : Instr} {body : Peer → Bytes → State → State} {P : State → Prop}
    (he : exec c s = .next (when (portsRun s) (onMessage i service msg body) s)) (h : Delivered s i service msg p m)
    (hP : P (body p (m.drop 8) (messageTaken i p m s))) : Yields c s P :=
  yields_when he h.1 (onMessage_delivered body h ▸ hP)

end

/-! ### Coupling (R179, R181, R225, R398) -/

section
variable {s : State} {i : Nat} {p : Peer} {b : Bytes}

/-- The newest head held from an entry. -/
def newestOf (s : State) (i : Nat) : Option (Nat × Nat × Digest) := s.dep.newest.find? fun e => e.1 == i

/-- What HEAD_OFFER leaves before it is answered. -/
def offerNoted (i : Nat) (p : Peer) (dep : Nat) (head : Digest) (s : State) : State :=
  let conflict := match newestOf s i with
    | some (_, d, h) => decide (dep < d) || (dep == d && head != h)
    | none => false
  let fresh := match newestOf s i with
    | some (_, d, _) => decide (d < dep)
    | none => true
  let s := if conflict then event 0x0509 0 [(8, p.id.toNat), (8, dep)] (pendHead i p dep head true s)
    else if fresh then pendHead i p dep head false s else s
  if fresh then { s with dep := { s.dep with newest := (i, dep, head) :: s.dep.newest.filter fun e => e.1 != i } } else s

theorem takeOffer_eq (i : Nat) (p : Peer) (b : Bytes) (s : State) : takeOffer i p b s
    = sendMessage i (message 1 2 1 (le 8 (rd b 0 8))) (offerNoted i p (rd b 0 8) (BitVec.ofNat 384 (rd b 8 48)) s) := rfl

variable {dep : Nat} {head : Digest}

theorem offerNoted_outside (i : Nat) (p : Peer) (dep : Nat) (head : Digest) (s : State) :
    (offerNoted i p dep head s).jct = s.jct ∧ (offerNoted i p dep head s).clk = s.clk := by
  simp only [offerNoted]
  split_ifs <;> simp [pendHead]

theorem offerNoted_fresh (h : ∀ e ∈ newestOf s i, e.2.1 < dep) : (i, dep, head) ∈ (offerNoted i p dep head s).dep.newest
    ∧ { peer := i, device := p.id, dep := dep, head := head, conflict := false } ∈ (offerNoted i p dep head s).dep.peerHeads := by
  cases hold : newestOf s i with
  | none => simp [offerNoted, hold, pendHead]
  | some e =>
    have hlt : e.2.1 < dep := h e hold
    have hno : ¬ (dep < e.2.1 ∨ dep = e.2.1 ∧ ¬ head = e.2.2) := by omega
    simp [offerNoted, hold, pendHead, hlt, hno]

theorem offerNoted_conflict {e : Nat × Nat × Digest} (hold : newestOf s i = some e)
    (h : dep < e.2.1 ∨ dep = e.2.1 ∧ head ≠ e.2.2) : (offerNoted i p dep head s).dep.newest = s.dep.newest
    ∧ { peer := i, device := p.id, dep := dep, head := head, conflict := true } ∈ (offerNoted i p dep head s).dep.peerHeads := by
  have hno : ¬ e.2.1 < dep := by omega
  simp [offerNoted, hold, pendHead, hno, h]

/-- The head that is held already is only acknowledged. -/
theorem offerNoted_known (h : newestOf s i = some (i, dep, head)) : (offerNoted i p dep head s).dep = s.dep := by
  simp [offerNoted, h]

/-- HEAD_OFFER is acknowledged. -/
theorem takeOffer_sends {t : State} {q : Peer} (hq : peerOf t i = some q) (hc : q.cur = p.cur) (hrun : t.clk.run = s.clk.run) :
    SendsTo s (takeOffer i p b t) i p (message 1 2 1 (le 8 (rd b 0 8))) := by
  obtain ⟨hjct, hclk⟩ := offerNoted_outside i p (rd b 0 8) (BitVec.ofNat 384 (rd b 8 48)) t
  rw [takeOffer_eq]
  exact sendMessage_sendsTo _ ((peerOf_congr (congrArg Jct.peers hjct) i).trans hq) hc ((congrArg Clk.run hclk).trans hrun)

theorem takeOffer_dep (i : Nat) (p : Peer) (b : Bytes) (s : State) :
    (takeOffer i p b s).dep = (offerNoted i p (rd b 0 8) (BitVec.ofNat 384 (rd b 8 48)) s).dep := by
  rw [takeOffer_eq]
  exact (sendMessage_stays ..).dep

/-- HEAD_ACK: the departure counts as acknowledged, and the offer up to it ends. -/
theorem takeHeadAck_spec {q : Peer} (hq : peerOf s i = some q) :
    (∃ d, (i, d) ∈ (takeHeadAck i p b s).dep.acked ∧ rd b 0 8 ≤ d)
    ∧ ∃ r, peerOf (takeHeadAck i p b s) i = some r ∧ ∀ d h, p.offer = some (d, h) →
      r.offer = if d ≤ rd b 0 8 then none else some (d, h) := by
  simp only [takeHeadAck, mapPeer_held hq]
  exact ⟨⟨_, List.mem_cons_self .., le_max_left ..⟩, _, peerOf_setPeer .., fun d h ho => by simp [ho]⟩

/-- The newest head held from an entry, as HEAD_HELD carries it. -/
def heldHead (s : State) (i : Nat) : Bytes :=
  match newestOf s i with
  | some e => le 8 e.2.1 ++ digestBytes e.2.2
  | none => le 8 allOnes64 ++ zeros 48

theorem takeHeadQuery_eq (i : Nat) (p : Peer) (b : Bytes) (s : State) :
    takeHeadQuery i p b s = sendMessage i (message 1 4 1 (slice b 0 8 ++ heldHead s i)) s := by
  unfold takeHeadQuery heldHead newestOf
  cases s.dep.newest.find? fun e => e.1 == i with
  | none => simp only [List.append_assoc]
  | some e => simp only [List.append_assoc]

theorem takeHeadHeld_answered {q : Peer} (hq : peerOf s i = some q) :
    ∃ r, peerOf (takeHeadHeld i p b s) i = some r ∧ r.answered = true := by
  refine ⟨{ q with answered := true }, ?_, rfl⟩
  simp only [takeHeadHeld, mapPeer_held hq]
  split_ifs
  · exact (peerOf_event ..).trans (peerOf_setPeer ..)
  · exact peerOf_setPeer ..

/-- A head above the restored departure sets BEHIND (R225). -/
theorem takeHeadHeld_behind {q : Peer} {v : Nat} (hq : peerOf s i = some q) (hs : s.sys.state = .restoring)
    (hv : s.vm.verified = some v) (hd : rd b 8 8 ≠ allOnes64) (h : v < rd b 8 8) :
    (takeHeadHeld i p b s).vm.behind = true := by
  simp [takeHeadHeld, mapPeer_held hq, setPeer, hs, hv, hd, h]

end

/-! ### Interlocking (R261, R401) -/

section
variable {s : State} {i : Nat} {p : Peer} {b : Bytes}

theorem lockResult_unknown (h : funcOfId s (BitVec.ofNat 64 (rd b 0 8)) = none) : lockResult i p b s = (2, none) := by
  simp [lockResult, h]

/-- A root is held only with RESULT 0. -/
theorem lockResult_held {h : HeldLock} (hr : (lockResult i p b s).2 = some h) : (lockResult i p b s).1 = 0 := by
  revert hr
  simp only [lockResult]
  generalize gcmOpen _ _ _ _ _ = g
  split_ifs
  · simp
  · simp
  · split <;> simp

/-- A root that is accepted takes its index among the roots held. -/
def rootHeld (h : Option HeldLock) (s : State) : State :=
  match h with
  | some h => { s with keys := { s.keys with held := h :: s.keys.held.filter fun x => x.index != h.index } }
  | none => s

theorem takeLockSend_eq (i : Nat) (p : Peer) (b : Bytes) (s : State) : takeLockSend i p b s
    = sendMessage i (message 3 2 1 (slice b 0 8 ++ slice b 80 8 ++ le 1 (lockResult i p b s).1 ++ zeros 7))
      (rootHeld (lockResult i p b s).2 s) := rfl

theorem rootHeld_outside (h : Option HeldLock) (s : State) : (rootHeld h s).jct = s.jct ∧ (rootHeld h s).clk = s.clk := by
  cases h <;> exact ⟨rfl, rfl⟩

variable {t : State}

/-- LOCK_SEND is answered with its RESULT. -/
theorem takeLockSend_sends {q : Peer} (hq : peerOf t i = some q) (hc : q.cur = p.cur) (hrun : t.clk.run = s.clk.run) :
    SendsTo s (takeLockSend i p b t) i p
      (message 3 2 1 (slice b 0 8 ++ slice b 80 8 ++ le 1 (lockResult i p b t).1 ++ zeros 7)) := by
  obtain ⟨hjct, hclk⟩ := rootHeld_outside (lockResult i p b t).2 t
  rw [takeLockSend_eq]
  exact sendMessage_sendsTo _ ((peerOf_congr (congrArg Jct.peers hjct) i).trans hq) hc ((congrArg Clk.run hclk).trans hrun)

theorem takeLockSend_keys (i : Nat) (p : Peer) (b : Bytes) (s : State) :
    (takeLockSend i p b s).keys = (rootHeld (lockResult i p b s).2 s).keys := by
  rw [takeLockSend_eq]
  exact (sendMessage_stays ..).keys

theorem takeLockSend_unknown (h : funcOfId s (BitVec.ofNat 64 (rd b 0 8)) = none) :
    (lockResult i p b s).1 = 2 ∧ (takeLockSend i p b s).keys = s.keys := by
  rw [takeLockSend_keys, lockResult_unknown h]
  exact ⟨rfl, rfl⟩

theorem takeLockSend_held {h : HeldLock} (hr : (lockResult i p b s).2 = some h) :
    h ∈ (takeLockSend i p b s).keys.held ∧ (lockResult i p b s).1 = 0 := by
  rw [takeLockSend_keys, hr]
  exact ⟨List.mem_cons_self .., lockResult_held hr⟩

variable {e : Nat × Work}

/-- The SEND that LOCK_HELD ends waits no longer. -/
def sendEnded (e : Nat × Work) (s : State) : State :=
  { s with keys := { s.keys with sends := s.keys.sends.filter fun x => x != e } }

theorem takeLockHeld_found (hf : s.keys.sends.find? (fun e => e.1 == i && (ownerOf s (e.2.func s)).id.toNat == rd b 0 8) = some e) :
    takeLockHeld i p b s = if rd b 16 1 = 0 then
      event 0x0709 (e.2.func s) [(8, p.id.toNat), (8, rd b 8 8)] (finish e.2 .ok 0 (slice b 8 8) (sendEnded e s))
    else finish e.2 .policy 0 [] (sendEnded e s) := by
  simp only [takeLockHeld, hf]
  rfl

theorem sendEnded_not_mem (e : Nat × Work) (s : State) : e ∉ (sendEnded e s).keys.sends := by
  simp [sendEnded]

/-- LOCK_HELD ends the SEND that waits for it, with OK and the KCV or with POLICY. -/
theorem takeLockHeld_ends (hf : s.keys.sends.find? (fun e => e.1 == i && (ownerOf s (e.2.func s)).id.toNat == rd b 0 8) = some e)
    (ht : ringTakes (ringOf s e.2.ring) e.2.gen = true) : e ∉ (takeLockHeld i p b s).keys.sends
    ∧ (rd b 16 1 = 0 → Completed (takeLockHeld i p b s) e.2 .ok 0 e.2.stamp ∧ Wrote s (takeLockHeld i p b s) e.2 (slice b 8 8))
    ∧ (rd b 16 1 ≠ 0 → Completed (takeLockHeld i p b s) e.2 .policy 0 e.2.stamp) := by
  have hring : ringTakes (ringOf (sendEnded e s) e.2.ring) e.2.gen = true := ht
  rw [takeLockHeld_found hf]
  refine ⟨?_, fun h => ?_, fun h => ?_⟩
  · split_ifs
    · simpa using sendEnded_not_mem e s
    · simpa using sendEnded_not_mem e s
  · rw [if_pos h]
    have hwrote : Wrote s (finish e.2 .ok 0 (slice b 8 8) (sendEnded e s)) e.2 (slice b 8 8) := finish_wrote _ _ _ hring
    exact ⟨(finish_completed _ _ _ hring).grows (event_grows ..), hwrote.grows (event_grows ..)⟩
  · rw [if_neg h]
    exact finish_completed _ _ _ hring

end

/-! ### Time (R402) -/

section
variable {s : State} {i : Nat} {p : Peer} {b : Bytes}

theorem doTimeReqSend_eq (t1 : Nat) (hp : peerOf s i = some p) (ht : timePeer p = true) (hc : p.cur.isSome = true) :
    doTimeReqSend i t1 s = sendMessage i (message 4 1 1 (le 8 ((freeNat s).1 % 2 ^ 64)))
      (setPeer i { p with timeReq := some ((freeNat s).1 % 2 ^ 64, t1) } (freeNat s).2) := by
  have hnone : p.cur.isNone = false := by simpa using hc
  simp [doTimeReqSend, hp, ht, hnone]

theorem doTimeRespSend_eq {req t2 : Nat} {rest : List (Nat × Nat)} (hp : peerOf s i = some p) (ho : p.timeOwed = (req, t2) :: rest) :
    doTimeRespSend i s = sendMessage i (message 4 2 1 (le 8 req ++ le 8 t2 ++ le 8 (t2 + 20000) ++ le 1 s.clk.state.code
      ++ le 1 s.clk.source ++ zeros 6 ++ le 8 ((uncertainty s).getD allOnes64))) (setPeer i { p with timeOwed := rest } s) := by
  simp only [doTimeRespSend, hp, ho]
  cases uncertainty s <;> rfl

theorem setClock_jct (c : ClkState) (s : State) : (setClock c s).jct = s.jct := by
  simp only [setClock]
  split <;> simp

theorem correct_jct (off : Int) (s : State) : (correct off s).jct = s.jct := by
  simp only [correct, stepForward, noteCause]
  split_ifs <;> simp

theorem sourceReading_jct (x : TimeSrc) (off : Int) (s : State) : (sourceReading x off s).jct = s.jct := by
  simp only [sourceReading]
  split
  · rfl
  · split
    · exact setClock_jct ..
    · exact setClock_jct ..
    · split
      · exact correct_jct ..
      · simp [discardReading, noteReading]
    · split
      · rfl
      · simp [discardReading, noteReading]
    · rfl

/-- A response that fails a check changes no entry. -/
theorem takeTimeResp_discarded (t4 : Nat) (h : rd b 24 1 ≠ 2 ∨ rd b 25 1 = 4 ∨ (p.timeReq.map (·.1)) ≠ some (rd b 0 8)) :
    (takeTimeResp i t4 p b s).jct = s.jct := by
  have hcause : ∃ c, timeRespCause p b = some c := by
    simp only [timeRespCause]
    split_ifs with h1 h2 h3
    · exact ⟨_, rfl⟩
    · exact ⟨_, rfl⟩
    · exact ⟨_, rfl⟩
    · exact absurd h (by simp [h1, h2, h3])
  obtain ⟨c, hc⟩ := hcause
  simp [takeTimeResp, hc]

/-- A usable response gives the uncertainty of the peer's reading. -/
theorem takeTimeResp_usable (t4 : Nat) {q : Peer} {t1 : Nat} (hstate : rd b 24 1 = 2) (hsource : rd b 25 1 ≠ 4)
    (hreq : p.timeReq = some (rd b 0 8, t1)) (hq : peerOf s i = some q) : peerOf (takeTimeResp i t4 p b s) i
      = some { q with timeReq := none, timeUnc := some (rd b 32 8
          + (((t4 : Int) - t1 - ((rd b 16 8 : Int) - rd b 8 8)) / 2).toNat + s.clk.ptpAllow) } := by
  have hcause : timeRespCause p b = none := by simp [timeRespCause, hstate, hsource, hreq]
  simp only [takeTimeResp, hcause, hreq, mapPeer_held hq]
  split
  · rw [peerOf_congr (congrArg Jct.peers (sourceReading_jct ..)), peerOf_setPeer]
  · exact peerOf_setPeer ..

end

/-! ### The obligation -/

/-- Settles O36: every answer is handed to a session as it was (`sendMessage_sendsTo`), and what the services keep is changed
before it goes out. -/
theorem peerMessages : Obligations.PeerMessages := by
  unfold Obligations.PeerMessages
  refine fun s i p m => ⟨fun h => ?_, fun h => ?_, fun h => ?_, fun h => ?_, fun h => ?_, fun e h hf ht => ?_, fun t2 h => ?_,
    fun req t2 rest hr hp ho => ?_, fun t1 hr hp ht hc => ?_, fun t4 h => ⟨fun t1 hstate hsource hreq => ?_, fun hbad => ?_⟩⟩
  · refine yields_message rfl h ⟨takeOffer_sends (peerOf_messageTaken ..) rfl rfl, ?_⟩
    rw [takeOffer_dep]
    exact ⟨offerNoted_fresh (s := messageTaken i p m s),
      fun e hold hd => offerNoted_conflict (s := messageTaken i p m s) hold hd,
      offerNoted_known (s := messageTaken i p m s)⟩
  · exact yields_message rfl h (takeHeadAck_spec (peerOf_messageTaken ..))
  · refine yields_message rfl h ?_
    rw [takeHeadQuery_eq]
    exact ⟨(sendMessage_stays ..).dep, sendMessage_sendsTo _ (peerOf_messageTaken ..) rfl rfl⟩
  · exact yields_message rfl h ⟨takeHeadHeld_answered (peerOf_messageTaken ..), fun v => takeHeadHeld_behind (peerOf_messageTaken ..)⟩
  · exact yields_message rfl h ⟨takeLockSend_sends (peerOf_messageTaken ..) rfl rfl, takeLockSend_unknown (s := messageTaken i p m s),
      fun l => takeLockSend_held (s := messageTaken i p m s)⟩
  · exact yields_message rfl h (takeLockHeld_ends hf ht)
  · refine yields_message rfl h ?_
    rw [mapPeer_held (peerOf_messageTaken ..)]
    exact ⟨_, peerOf_setPeer .., rfl⟩
  · refine yields_when rfl hr ?_
    rw [doTimeRespSend_eq hp ho]
    obtain ⟨c, hsent⟩ := sendMessage_sessionOnly _ (peerOf_setPeer i { p with timeOwed := rest } s)
    exact ⟨⟨_, hsent, rfl⟩, sendMessage_sendsTo _ (peerOf_setPeer ..) rfl rfl⟩
  · refine yields_when rfl hr ?_
    rw [doTimeReqSend_eq t1 hp ht hc]
    obtain ⟨c, hsent⟩ := sendMessage_sessionOnly _ (peerOf_setPeer i _ (freeNat s).2)
    exact ⟨_, _, hsent, rfl, Nat.mod_lt _ (Nat.two_pow_pos 64), sendMessage_sendsTo _ (peerOf_setPeer ..) rfl rfl⟩
  · exact yields_message rfl h ⟨_, takeTimeResp_usable t4 hstate hsource hreq (peerOf_messageTaken ..), rfl, rfl⟩
  · refine yields_message rfl h ⟨withoutMessage p m, ?_, rfl, rfl⟩
    rw [peerOf_congr (congrArg Jct.peers (takeTimeResp_discarded t4 hbad)), peerOf_messageTaken]

end Sys2Proof.Machine
end


section
namespace Sys2Proof.Machine

/-! ### The nonce advance of a routed claim (R200, R203)

The record that `putTerminal` writes keeps the bucket in which it is held, which no rule lets a claim move (R195). -/

/-- The record of a terminal that is held is found with its new values in the bucket that it had. -/
theorem terminalOf_putTerminal_held {x y : Terminal} {s : State} (h : terminalOf s x.owner x.id = some y) :
    terminalOf (putTerminal x s) x.owner x.id = some { x with bucket := y.bucket } := by
  have hput : (putTerminal x s).vm.terminals = { x with bucket := y.bucket }
      :: s.vm.terminals.filter fun z => !(z.owner == x.owner && z.id == x.id) := by
    rw [terminalOf] at h
    simp only [putTerminal, h]
  rw [terminalOf, hput]
  exact List.find?_cons_of_pos (by simp)

/-- A nonce advance that commits leaves the terminal's record with the values of the client record, in its bucket. -/
theorem terminalOf_claimNonce {o : Nat} {r : Bytes} {s : State} {y : Terminal}
    (ha : nonceAdvances s o (hTerminal r) (hTense r) (hCtr r) = true) (h : terminalOf s o (hTerminal r) = some y) :
    terminalOf (claimNonce o r s).2 o (hTerminal r)
      = some { owner := o, id := hTerminal r, tense := hTense r, ctr := hCtr r, bucket := y.bucket } := by
  have hstage : stageNonce o r s
      = (none, putTerminal { owner := o, id := hTerminal r, tense := hTense r, ctr := hCtr r } s) := by
    simp [stageNonce, ha, h]
  simp only [claimNonce, hstage]
  rw [terminalOf, (commitSet_applied ..).terminals]
  exact terminalOf_putTerminal_held (x := { owner := o, id := hTerminal r, tense := hTense r, ctr := hCtr r }) h

/-- A claim without a verdict commits its nonce advance and is then sealed, which leaves vault memory alone. -/
theorem claimUnreachable_vm (c : RoutedClaim) (s : State) :
    (claimUnreachable c s).vm = (claimNonce c.owner c.work.src s).2.vm := by
  simp [claimUnreachable]

/-- The state in which the wait of claim c, number q, has ended. -/
def lateClaim (q : Nat) (c : RoutedClaim) (s : State) : State :=
  { s with vm := { s.vm with claims := s.vm.claims.filter fun x => x != c, lateClaims := (c.peer, q, c.seq) :: s.vm.lateClaims } }

theorem exec_claimWaitTimeout {q : Nat} {c : RoutedClaim} {s : State}
    (h : s.vm.claims.find? (fun c => c.sent && (c.work.stamp.map (·.seq)) == some q) = some c) :
    exec (.claimWaitTimeout q) s = .next (claimUnreachable c (lateClaim q c s)) := by
  have hexec : exec (.claimWaitTimeout q) s = .next (doClaimWaitTimeout q s) := rfl
  rw [hexec, doClaimWaitTimeout, h]
  rfl

/-! ### A terminal outside bucket 0 -/

/-- A CLAIM record of terminal 0 with TENSE 1. -/
def awayWork : Work :=
  { ring := 0, gen := 0, idx := 0, desc := 0x10, src := zeros 8 ++ [1], stamp := some { seq := 7, t := 0, dep := 0 } }

/-- The claim has been sent to peer 0. -/
def awayClaim : RoutedClaim :=
  { peer := 0, owner := 1, ownerId := 0, device := 0, seq := 0, sent := true, die := 0, work := awayWork }

/-- The claim's terminal is held in bucket 1 of the COUNTERS area. -/
def awayTerminal : Terminal := { owner := 1, id := 0, tense := 0, ctr := 0, bucket := 1 }

def away : State where
  rings := { tbl := [(0, { cls := 1, func := 1, state := .running })] }
  vm := { claims := [awayClaim], terminals := [awayTerminal] }

theorem find_awayClaim : away.vm.claims.find? (fun c => c.sent && (c.work.stamp.map (·.seq)) == some 7) = some awayClaim :=
  List.find?_cons_of_pos (by decide +kernel)

/-- Refutes O38: in `away` the terminal of a sent claim is held in bucket 1. When the claim's wait ends its nonce advance
commits, and the record stays in its bucket, where the statement has it in bucket 0. -/
theorem not_routedClaimsAndAdopt : ¬ Obligations.RoutedClaimsAndAdopt := by
  unfold Obligations.RoutedClaimsAndAdopt
  intro h
  obtain ⟨hrouted, -⟩ := h
  obtain ⟨-, -, -, htimeout⟩ := hrouted away
  obtain ⟨t, hexec, ⟨-, -, -, hnonce⟩, -⟩ := htimeout 7 awayClaim find_awayClaim (by rfl)
  obtain rfl : _ = t := Host.Outcome.next.inj ((exec_claimWaitTimeout find_awayClaim).symm.trans hexec)
  have hkept : terminalOf (claimUnreachable awayClaim (lateClaim 7 awayClaim away)) 1 0
      = some { owner := 1, id := 0, tense := 1, ctr := 0, bucket := 1 } := by
    rw [terminalOf, claimUnreachable_vm]
    exact terminalOf_claimNonce (o := 1) (r := awayWork.src) (y := awayTerminal) (by decide +kernel) (by decide +kernel)
  have hmoved := (hnonce (by decide +kernel) (by decide +kernel)).symm.trans hkept
  exact absurd hmoved (by decide +kernel)

end Sys2Proof.Machine
end


section
namespace Sys2Proof.Machine

/-! ### The patrol scrub (R188-R192)

No event and no count moves the operating time, so the corrections of the last second are the same for every device of a
codeword. -/

theorem recordEv_opBase (e : Ev) (s : State) : (recordEv e s).evt.opBase = s.evt.opBase := by
  simp only [recordEv, pushEv]
  repeat' split
  all_goals rfl

theorem countAt_opBase (die ev : Nat) (subs : List Nat) (owner n : Nat) (s : State) :
    (countAt die ev subs owner n s).evt.opBase = s.evt.opBase :=
  foldr_keeps (fun t => t.evt.opBase = s.evt.opBase) _ (fun _ st h => (recordEv_opBase _ st).trans h) _ _ rfl

theorem bump_opBase (ev : Nat) (subs : List Nat) (owner n : Nat) (s : State) :
    (bump ev subs owner n s).evt.opBase = s.evt.opBase := by
  simp only [bump, bumpAt]
  split <;> simp only [countAt_opBase]

theorem event_opBase (code owner : Nat) (args : List (Nat × Nat)) (s : State) :
    (event code owner args s).evt.opBase = s.evt.opBase := by
  simp only [event, eventSub]
  split <;> simp only [bump_opBase, recordEv_opBase]

@[simp] theorem opNow_bump (ev : Nat) (subs : List Nat) (owner n : Nat) (s : State) :
    opNow (bump ev subs owner n s) = opNow s := by
  simp [opNow, bump_opBase]

@[simp] theorem opNow_event (code owner : Nat) (args : List (Nat × Nat)) (s : State) :
    opNow (event code owner args s) = opNow s := by
  simp [opNow, event_opBase]

/-! #### One device of a corrected codeword (R191) -/

/-- The corrections of a device within the last second. -/
def recentCorrections (channel subch rank : Nat) (s : State) (d : Nat) : Nat :=
  (s.vm.corrections.filter fun c => c.1 == channel && c.2.1 == subch && c.2.2.1 == rank && c.2.2.2.1 == d
    && decide (opNow s ≤ c.2.2.2.2 + 10 ^ 9)).length

/-- From s to t corrections were noted and devices marked: of vault memory nothing else has changed, and no time has
passed. -/
structure Notes (s t : State) : Prop where
  vm : t.vm = { s.vm with corrections := t.vm.corrections, erased := t.vm.erased }
  now : opNow t = opNow s

theorem Notes.refl (s : State) : Notes s s := ⟨rfl, rfl⟩

theorem Notes.trans {s t u : State} (h : Notes s t) (k : Notes t u) : Notes s u :=
  ⟨by rw [k.vm, h.vm], k.now.trans h.now⟩

section
variable (channel subch rank d : Nat) (s : State)

/-- The state with one more correction of device d, and without those of more than a second ago. -/
def noted : State := { s with vm := { s.vm with
  corrections := (channel, subch, rank, d, opNow s) :: s.vm.corrections.filter fun c => decide (opNow s ≤ c.2.2.2.2 + 10 ^ 9) } }

/-- The device's sub-channel has no mark and the device has its fourth correction. -/
abbrev markDue : Prop := 3 ≤ recentCorrections channel subch rank s d ∧ s.vm.erased.at? (2 * channel + subch) = none

/-- A device is marked at its fourth correction. -/
theorem noteDevice_eq : noteDevice channel subch rank d s =
    if markDue channel subch rank d s then
      event 0x0602 0 [] { noted channel subch rank d s with vm := { (noted channel subch rank d s).vm with
        erased := s.vm.erased.put (2 * channel + subch) (rank, d) } }
    else noted channel subch rank d s := by
  have hcount : ((noted channel subch rank d s).vm.corrections.filter fun c => c.1 == channel && c.2.1 == subch
      && c.2.2.1 == rank && c.2.2.2.1 == d).length = recentCorrections channel subch rank s d + 1 := by
    simp [noted, recentCorrections, List.filter_filter]
  have hmark : (decide (4 ≤ recentCorrections channel subch rank s d + 1) && (s.vm.erased.at? (2 * channel + subch)).isNone)
      = true ↔ markDue channel subch rank d s := by
    simp [markDue, Option.isNone_iff_eq_none]
  rw [← if_congr hmark rfl rfl, ← hcount]
  rfl

theorem noteDevice_notes : Notes s (noteDevice channel subch rank d s) := by
  rw [noteDevice_eq]
  split
  · exact ⟨by simp [noted], by rw [opNow_event]; rfl⟩
  · exact ⟨rfl, rfl⟩

theorem noteDevice_corrections :
    (noteDevice channel subch rank d s).vm.corrections = (noted channel subch rank d s).vm.corrections := by
  rw [noteDevice_eq]
  split
  · simp
  · rfl

theorem noteDevice_erased : (noteDevice channel subch rank d s).vm.erased =
    if markDue channel subch rank d s then s.vm.erased.put (2 * channel + subch) (rank, d) else s.vm.erased := by
  rw [noteDevice_eq]
  split
  · simp
  · rfl

/-- A note of one device does not count for another. -/
theorem recentCorrections_noteDevice {e : Nat} (h : e ≠ d) :
    recentCorrections channel subch rank (noteDevice channel subch rank d s) e = recentCorrections channel subch rank s e := by
  simp only [recentCorrections, noteDevice_corrections, (noteDevice_notes channel subch rank d s).now, noted]
  rw [List.filter_cons_of_neg (by simp [h.symm]), List.filter_filter]
  congr 2
  funext c
  cases decide (opNow s ≤ c.2.2.2.2 + 10 ^ 9) <;> simp

end

/-! #### A corrected codeword (R190, R191) -/

section
variable (channel subch rank : Nat)

/-- The notes of a codeword's devices, one after another. -/
def noteDevices (l : List Nat) (s : State) : State := l.foldl (fun st d => noteDevice channel subch rank d st) s

theorem noteDevices_notes (l : List Nat) (s : State) : Notes s (noteDevices channel subch rank l s) :=
  foldl_keeps (Notes s) _ (fun st d h => h.trans (noteDevice_notes channel subch rank d st)) l s (.refl s)

/-- Where no device has had three corrections, or the sub-channel has its mark, none is marked. -/
theorem noteDevices_erased : ∀ (l : List Nat) (s : State), l.Nodup →
    (∀ d ∈ l, recentCorrections channel subch rank s d < 3) ∨ (s.vm.erased.at? (2 * channel + subch)).isSome = true →
    (noteDevices channel subch rank l s).vm.erased = s.vm.erased
  | [], _, _, _ => rfl
  | d :: l, s, hl, h => by
    obtain ⟨hd, hrest⟩ := List.nodup_cons.1 hl
    have hkept : (noteDevice channel subch rank d s).vm.erased = s.vm.erased := by
      rw [noteDevice_erased, if_neg]
      rintro ⟨hmany, hfree⟩
      rcases h with h | h
      · exact absurd (h d (by simp)) (by omega)
      · simp [hfree] at h
    refine (noteDevices_erased l (noteDevice channel subch rank d s) hrest ?_).trans hkept
    rw [hkept]
    refine h.imp_left fun hfew e he => ?_
    have hne : e ≠ d := fun heq => hd (heq ▸ he)
    rw [recentCorrections_noteDevice _ _ _ _ _ hne]
    exact hfew e (List.mem_cons_of_mem _ he)

theorem nodup_errorDevices (errs : List Nat) : (errorDevices errs).Nodup := List.nodup_range.filter _

/-- The state in which a corrected codeword has been counted. -/
def correctionCounted (devs : List Nat) (s : State) : State :=
  event 0x0601 0 [(1, channel), (1, devs.headD 0)]
    (bump 0x0A [channel] 0 1 { s with vm := { s.vm with eccCorr := sat32 (s.vm.eccCorr + 1) } })

theorem correctedWord_eq (devs : List Nat) (s : State) : correctedWord channel subch rank devs s
    = noteDevices channel subch rank devs (correctionCounted channel devs s) := rfl

@[simp] theorem correctionCounted_vm (devs : List Nat) (s : State) :
    (correctionCounted channel devs s).vm = { s.vm with eccCorr := sat32 (s.vm.eccCorr + 1) } := by
  simp [correctionCounted]

@[simp] theorem recentCorrections_counted (devs : List Nat) (s : State) (d : Nat) :
    recentCorrections channel subch rank (correctionCounted channel devs s) d = recentCorrections channel subch rank s d := by
  have hnow : opNow (correctionCounted channel devs s) = opNow s := by
    simp only [correctionCounted, opNow_event, opNow_bump]
    rfl
  simp only [recentCorrections, correctionCounted_vm, hnow]

/-- A corrected codeword is counted once; of vault memory only the notes and marks of its devices change beside. -/
theorem correctedWord_vm (devs : List Nat) (s : State) : (correctedWord channel subch rank devs s).vm =
    { s.vm with eccCorr := sat32 (s.vm.eccCorr + 1), corrections := (correctedWord channel subch rank devs s).vm.corrections
                erased := (correctedWord channel subch rank devs s).vm.erased } := by
  conv_lhs => rw [correctedWord_eq, (noteDevices_notes channel subch rank devs _).vm, correctionCounted_vm, ← correctedWord_eq]

theorem correctedWord_keeps (devs : List Nat) (s : State) : (correctedWord channel subch rank devs s).vm.store = s.vm.store
    ∧ (correctedWord channel subch rank devs s).vm.eccUncorr = s.vm.eccUncorr
    ∧ (correctedWord channel subch rank devs s).vm.tickets = s.vm.tickets := by
  have hvm := correctedWord_vm channel subch rank devs s
  have hstore := congrArg Vm.store hvm
  have huncorr := congrArg Vm.eccUncorr hvm
  have htickets := congrArg Vm.tickets hvm
  exact ⟨hstore, huncorr, htickets⟩

theorem correctedWord_marks {devs : List Nat} {s : State} {d : Nat} (h : devs = [d])
    (hd : 3 ≤ recentCorrections channel subch rank s d) (hfree : s.vm.erased.at? (2 * channel + subch) = none) :
    (correctedWord channel subch rank devs s).vm.erased.at? (2 * channel + subch) = some (rank, d) := by
  have hmarks : markDue channel subch rank d (correctionCounted channel devs s) := by
    rw [markDue, recentCorrections_counted, correctionCounted_vm]
    exact ⟨hd, hfree⟩
  have hone : correctedWord channel subch rank devs s
      = noteDevice channel subch rank d (correctionCounted channel devs s) := by rw [correctedWord_eq, h]; rfl
  rw [hone, noteDevice_erased, if_pos hmarks, Tbl.at?_put_same]

theorem correctedWord_unmarked {errs : List Nat} {s : State}
    (h : (∀ d ∈ errorDevices errs, recentCorrections channel subch rank s d < 3)
      ∨ (s.vm.erased.at? (2 * channel + subch)).isSome = true) :
    (correctedWord channel subch rank (errorDevices errs) s).vm.erased = s.vm.erased := by
  rw [correctedWord_eq, noteDevices_erased channel subch rank _ _ (nodup_errorDevices errs) (by simpa using h)]
  simp

end

/-! #### The line that is read -/

@[simp] theorem stopVault_vm (s : State) : (stopVault s).vm = { s.vm with stopped := true } := by simp [stopVault]

/-- A bad line stops the vault, and the controller remembers it (R188). -/
theorem badLine_spec (a : Nat) (s : State) : (badLine a s).vm.stopped = true ∧ a ∈ (badLine a s).vm.store.bad
    ∧ (badLine a s).vm.eccUncorr = s.vm.eccUncorr ∧ (badLine a s).vm.tickets = s.vm.tickets := by
  refine ⟨?_, ?_, ?_, ?_⟩
  all_goals simp only [badLine, stopVault_vm]
  split
  next h => exact List.contains_iff_mem.1 h
  next => exact List.mem_cons_self

/-- The scrub has read the next line as it stands in DRAM. -/
def lineFetched (r : LineRead) (s : State) : State :=
  { s with vm := { s.vm with patrol := (s.vm.patrol + 1) % max 1 (vaultLines s), store := heldLine r s.vm.patrol s.vm.store } }

theorem lineFetched_vm (r : LineRead) (s : State) : (lineFetched r s).vm.store = heldLine r s.vm.patrol s.vm.store
    ∧ (lineFetched r s).vm.eccUncorr = s.vm.eccUncorr ∧ (lineFetched r s).vm.tickets = s.vm.tickets := ⟨rfl, rfl, rfl⟩

/-- The errors of the line are beyond correction, and it is counted as such. -/
def uncorrectedCounted (s : State) : State := { s with vm := { s.vm with eccUncorr := sat32 (s.vm.eccUncorr + 1) } }

/-- The symbols in error of the line that the scrub reads. -/
def lineErrors (r : LineRead) (s : State) : List Nat :=
  let word := codeword ((((heldLine r s.vm.patrol s.vm.store).lines.at? s.vm.patrol).map (·.cipher)).getD [])
  errorSymbols word (received r.flips word)

section
variable {r : LineRead} {s : State}

/-- The line is found bad where it has errors beyond correction, or its MAC fails once it is corrected. -/
theorem doPatrolScrub_eq (r : LineRead) (s : State) : doPatrolScrub r s =
    if !correctable (markedDevice (lineFetched r s) r.channel r.subch r.rank) (lineErrors r s) then
      badLine s.vm.patrol (uncorrectedCounted (lineFetched r s))
    else
      let u := if (lineErrors r s).isEmpty then lineFetched r s
        else correctedWord r.channel r.subch r.rank (errorDevices (lineErrors r s)) (lineFetched r s)
      if lineOk u.vm.store s.vm.patrol then u else badLine s.vm.patrol u := rfl

/-- Reading a line marks no device. -/
theorem markedDevice_lineFetched (r : LineRead) (s : State) : markedDevice (lineFetched r s) r.channel r.subch r.rank
    = markedDevice s r.channel r.subch r.rank := by
  simp only [markedDevice, lineFetched]

theorem doPatrolScrub_uncorrectable (h : correctable (markedDevice s r.channel r.subch r.rank) (lineErrors r s) = false) :
    doPatrolScrub r s = badLine s.vm.patrol (uncorrectedCounted (lineFetched r s)) := by
  rw [doPatrolScrub_eq, markedDevice_lineFetched, h, Bool.not_false, if_pos rfl]

variable (h : correctable (markedDevice s r.channel r.subch r.rank) (lineErrors r s) = true)
include h

/-- A line within what is corrected is counted where it was corrected, and then its MAC is checked. -/
theorem doPatrolScrub_correctable (u : State) (hu : u = if (lineErrors r s).isEmpty then lineFetched r s
      else correctedWord r.channel r.subch r.rank (errorDevices (lineErrors r s)) (lineFetched r s)) :
    doPatrolScrub r s = if lineOk u.vm.store s.vm.patrol then u else badLine s.vm.patrol u := by
  rw [doPatrolScrub_eq, markedDevice_lineFetched, h, Bool.not_true, if_neg Bool.false_ne_true, ← hu]

theorem doPatrolScrub_clean (he : lineErrors r s = []) (hok : lineOk (heldLine r s.vm.patrol s.vm.store) s.vm.patrol = true) :
    doPatrolScrub r s = lineFetched r s := by
  rw [doPatrolScrub_correctable h _ rfl, he]
  exact if_pos hok

theorem doPatrolScrub_corrected (he : lineErrors r s ≠ [])
    (hok : lineOk (heldLine r s.vm.patrol s.vm.store) s.vm.patrol = true) : doPatrolScrub r s
      = correctedWord r.channel r.subch r.rank (errorDevices (lineErrors r s)) (lineFetched r s) := by
  have hnot : ¬(lineErrors r s).isEmpty = true := by simpa using he
  rw [doPatrolScrub_correctable h _ rfl, if_neg hnot, correctedWord_vm]
  exact if_pos hok

theorem doPatrolScrub_unsound (hok : lineOk (heldLine r s.vm.patrol s.vm.store) s.vm.patrol = false) :
    (doPatrolScrub r s).vm.stopped = true ∧ s.vm.patrol ∈ (doPatrolScrub r s).vm.store.bad
    ∧ (doPatrolScrub r s).vm.eccUncorr = s.vm.eccUncorr ∧ (doPatrolScrub r s).vm.tickets = s.vm.tickets := by
  have hbad (u : State) (hs : u.vm.store = heldLine r s.vm.patrol s.vm.store) (hu : u.vm.eccUncorr = s.vm.eccUncorr)
      (ht : u.vm.tickets = s.vm.tickets) :
      let v := if lineOk u.vm.store s.vm.patrol then u else badLine s.vm.patrol u
      v.vm.stopped = true ∧ s.vm.patrol ∈ v.vm.store.bad ∧ v.vm.eccUncorr = s.vm.eccUncorr ∧ v.vm.tickets = s.vm.tickets := by
    rw [hs, hok, ← hu, ← ht]
    exact badLine_spec s.vm.patrol u
  obtain ⟨hstore, huncorr, htickets⟩ := lineFetched_vm r s
  rw [doPatrolScrub_correctable h _ rfl]
  split
  · exact hbad _ hstore huncorr htickets
  · obtain ⟨kstore, kuncorr, ktickets⟩ :=
      correctedWord_keeps r.channel r.subch r.rank (errorDevices (lineErrors r s)) (lineFetched r s)
    exact hbad _ (kstore.trans hstore) (kuncorr.trans huncorr) (ktickets.trans htickets)

end

/-! ### VMEM_PART (R194, R195) -/

/-- A ticket apart from its bucket, which alone moves as the areas are re-laid. -/
def unplaced (k : Ticket) : Ticket := { k with bucket := 0 }

theorem movedTickets_unplaced (o : Nat) (l : Places) (s : State) :
    (movedTickets o l s).vm.tickets.map unplaced = s.vm.tickets.map unplaced := by
  simp only [movedTickets, List.map_map]
  refine List.map_congr_left fun k _ => ?_
  simp only [Function.comp]
  split <;> rfl

theorem doVmemPartWrite_refused {v : W64} {s : State} (ho : s.vm.partSel ≠ 0) (he : partErr s s.vm.partSel (partFields v) ≠ 0) :
    doVmemPartWrite v s = { s with vm := { s.vm with err := partErr s s.vm.partSel (partFields v) } } := by
  simp only [doVmemPartWrite, if_neg ho, if_pos he]

/-- The hash keys with which an owner's areas are re-laid, drawn where it has none (R195). -/
def partKeys (o : Nat) (s : State) : Bytes × State :=
  if (ownerOf s o).hashKeys.isEmpty then drawBytes 32 s else ((ownerOf s o).hashKeys, s)

theorem partKeys_frame (o : Nat) (s : State) : (partKeys o s).2.vm = s.vm ∧ (partKeys o s).2.adm = s.adm := by
  unfold partKeys
  split <;> simp

theorem partKeys_kept {o : Nat} {s : State} (h : (ownerOf s o).hashKeys ≠ []) : (partKeys o s).1 = (ownerOf s o).hashKeys := by
  simp [partKeys, h]

theorem partKeys_drawn {o : Nat} {s : State} (h : (ownerOf s o).hashKeys = []) : (partKeys o s).1.length = 32 := by
  simp [partKeys, h, drawBytes]

/-- The owner as a write of VMEM_PART leaves it. -/
def repartitioned (v : W64) (keys : Bytes) (w : Owner) : Owner :=
  { w with parts := partFields v, relaying := true, hashKeys := keys }

/-- A write that keeps every condition of R194 gives the owner its areas, and re-lays what they hold. -/
theorem doVmemPartWrite_relays {v : W64} {s : State} (ho : s.vm.partSel ≠ 0)
    (he : partErr s s.vm.partSel (partFields v) = 0) : ∃ c t, doVmemPartWrite v s
      = relayStore (movedTickets s.vm.partSel t (movedCounters s.vm.partSel c
          (mapOwner s.vm.partSel (repartitioned v (partKeys s.vm.partSel s).1) (partKeys s.vm.partSel s).2))) := by
  simp only [doVmemPartWrite, if_neg ho, he, ne_eq, not_true_eq_false, if_false]
  exact ⟨_, _, rfl⟩

/-- A re-lay moves records between buckets and nothing else of them. -/
theorem relaid_records (o : Nat) (c t : Places) (s : State) :
    (relayStore (movedTickets o t (movedCounters o c s))).vm.tickets.map unplaced = s.vm.tickets.map unplaced
    ∧ (relayStore (movedTickets o t (movedCounters o c s))).vm.keyRecs = s.vm.keyRecs :=
  ⟨movedTickets_unplaced o t (movedCounters o c s), rfl⟩

theorem ownerOf_relaid (o p : Nat) (c t : Places) (s : State) :
    ownerOf (relayStore (movedTickets o t (movedCounters o c s))) p = ownerOf s p := rfl

section
variable {v : W64} {s : State} (ho : s.vm.partSel ≠ 0) (he : partErr s s.vm.partSel (partFields v) = 0)
include ho he

theorem doVmemPartWrite_owner : ownerOf (doVmemPartWrite v s) s.vm.partSel
    = repartitioned v (partKeys s.vm.partSel s).1 (ownerOf s s.vm.partSel) := by
  obtain ⟨c, t, hstate⟩ := doVmemPartWrite_relays ho he
  rw [hstate, ownerOf_relaid, ownerOf_mapOwner_same, ownerOf_congr (congrArg Adm.owners (partKeys_frame _ s).2)]

theorem doVmemPartWrite_others {p : Nat} (hp : p ≠ s.vm.partSel) : ownerOf (doVmemPartWrite v s) p = ownerOf s p := by
  obtain ⟨c, t, hstate⟩ := doVmemPartWrite_relays ho he
  rw [hstate, ownerOf_relaid, mapOwner, ownerOf_setOwner_other _ _ hp,
    ownerOf_congr (congrArg Adm.owners (partKeys_frame _ s).2)]

theorem doVmemPartWrite_records : (doVmemPartWrite v s).vm.tickets.map unplaced = s.vm.tickets.map unplaced
    ∧ (doVmemPartWrite v s).vm.keyRecs = s.vm.keyRecs := by
  obtain ⟨c, t, hstate⟩ := doVmemPartWrite_relays ho he
  have hrecords := relaid_records s.vm.partSel c t
    (mapOwner s.vm.partSel (repartitioned v (partKeys s.vm.partSel s).1) (partKeys s.vm.partSel s).2)
  simp only [mapOwner_frame, partKeys_frame] at hrecords
  rw [hstate]
  exact hrecords

end

theorem doPartitionRelayEnd_ends {o : Nat} {s : State} (h : (ownerOf s o).relaying = true) :
    ownerOf (doPartitionRelayEnd o s) o = { ownerOf s o with relaying := false } ∧ (doPartitionRelayEnd o s).vm = s.vm := by
  simp only [doPartitionRelayEnd, h, if_true]
  refine ⟨?_, by simp⟩
  rw [ownerOf_congr (congrArg Adm.owners (event_frame ..).2.2.2.2.1), ownerOf_mapOwner_same]

theorem doPartitionRelayEnd_idle {o : Nat} {s : State} (h : (ownerOf s o).relaying = false) : doPartitionRelayEnd o s = s := by
  simp [doPartitionRelayEnd, h]

/-- Settles O39: the scrub is `doPatrolScrub` case by case, where a codeword's devices are noted one after another
(`noteDevices_erased`), and a write of VMEM_PART changes one owner and the buckets of its records. -/
theorem vaultUpkeep : Obligations.VaultUpkeep := by
  unfold Obligations.VaultUpkeep
  intro s
  refine ⟨fun r ha => ⟨fun hf => ?_, fun hf hok => ?_, fun he hok => ?_, fun hf hok he => ?_⟩,
    fun v hw ho => ⟨fun he => ?_, fun he => ?_⟩, fun o ha => ⟨fun hr => ?_, fun hr => ?_⟩⟩
  · refine yields_when rfl ha ?_
    rw [doPatrolScrub_uncorrectable hf]
    exact badLine_spec ..
  · exact yields_when rfl ha (doPatrolScrub_unsound hf hok)
  · have hf : correctable (markedDevice s r.channel r.subch r.rank) (lineErrors r s) = true := by
      rw [show lineErrors r s = [] from he]
      rfl
    refine yields_when rfl ha ?_
    rw [doPatrolScrub_clean hf he hok]
    rfl
  · refine yields_when rfl ha ?_
    rw [doPatrolScrub_corrected hf he hok]
    have hvm := correctedWord_vm r.channel r.subch r.rank (errorDevices (lineErrors r s)) (lineFetched r s)
    refine ⟨?_, ?_, ?_, ?_, fun d hd hmany hfree => ?_, fun hfew => ?_⟩
    · rw [hvm]; rfl
    · rw [hvm]; rfl
    · rw [hvm]; rfl
    · rw [hvm]; rfl
    · exact correctedWord_marks r.channel r.subch r.rank (s := lineFetched r s) hd hmany hfree
    · exact correctedWord_unmarked r.channel r.subch r.rank (s := lineFetched r s) hfew
  · exact exec_hostWrite rfl hw (doVmemPartWrite_refused ho he)
  · have howner := doVmemPartWrite_owner ho he
    obtain ⟨htickets, hrecs⟩ := doVmemPartWrite_records ho he
    refine yields_hostWrite rfl hw ⟨?_, ?_, htickets, hrecs, fun hk => ?_, fun hk => ?_, fun p hp => ?_⟩
    · rw [howner]; rfl
    · rw [howner]; rfl
    · rw [howner]; exact partKeys_kept hk
    · rw [howner]; exact partKeys_drawn hk
    · exact doVmemPartWrite_others ho he hp
  · obtain ⟨howner, hvm⟩ := doPartitionRelayEnd_ends hr
    refine yields_when rfl ha ⟨?_, ?_, hvm⟩
    · rw [howner]
    · rw [howner]
  · exact exec_when rfl ha (doPartitionRelayEnd_idle hr)

end Sys2Proof.Machine
end


section
namespace Sys2Proof.Machine

/-! ### A waiting item that ends after its command has done its part -/

/-- Where output goes is read of the rings and the link. -/
theorem Wrote.congr {s u t : State} {w : Work} {b : Bytes} (h : Wrote u t w b) (hr : u.rings = s.rings) (hl : u.link = s.link) :
    Wrote s t w b := by
  simpa only [Wrote, Work.func, ringOf_congr hr, hl] using h

/-- The command changes the state to u, from which the item ends with its output. -/
theorem endsWork_after {c : Instr} {s u : State} {id : WorkId} {op d : Nat} {w : Work} {body : Work → State → State}
    {st : Status} {out : Bytes} {P : State → Prop} (he : exec c s = .next (withWork id op body s)) (h : Waits s id op w)
    (hb : body w (taken w s) = finish w st d out u) (hr : u.rings = s.rings) (hl : u.link = s.link)
    (ha : u.adm = (taken w s).adm) (hp : P (finish w st d out u)) : EndsWork c s w st d out P := by
  have htakes : ringTakes (ringOf u w.ring) w.gen = true := by rw [ringOf_congr hr]; exact h.2.2.2
  refine yields_work he h (hb ▸ ⟨finish_completed st d out htakes, (finish_wrote st d out htakes).congr hr hl, ?_, hp⟩)
  simpa [ha] using not_mem_taken w s

/-! ### Checkpoints are asked for and acknowledged (R212, R213, R215) -/

theorem doSnapRegions_small {w : Work} {s : State} (h : rd w.input 16 8 < 4096 + 4160 * snapshotChunks s
      ∨ rd w.input 24 8 < 4096 + 4160 * snapshotChunks s) :
    doSnapRegions w s = finish w .paramInvalid 0 [] s := if_pos h

theorem doSnapRegions_fits {w : Work} {s : State} (h0 : 4096 + 4160 * snapshotChunks s ≤ rd w.input 16 8)
    (h1 : 4096 + 4160 * snapshotChunks s ≤ rd w.input 24 8) :
    doSnapRegions w s = finish w .ok 0 [] { s with vm := { s.vm with
      regions := some ((rd w.input 0 8, rd w.input 16 8), (rd w.input 8 8, rd w.input 24 8))
      store := { s.vm.store with full := 2 } } } :=
  if_neg (not_or.2 ⟨Nat.not_lt.2 h0, Nat.not_lt.2 h1⟩)

theorem doCheckpointAck_newest {w : Work} {s : State} {c : Ckpt} (hc : s.vm.ckptDone = some c) (he : rd w.input 0 8 = c.epoch) :
    doCheckpointAck w s = beginRecord (recordOf 1 c.epoch c.dep c.lastSeq (c.head.getD 0))
      { s with vm := { s.vm with ackWait := s.vm.ackWait ++ [w] } } := by
  simp only [doCheckpointAck, hc]
  exact if_neg (not_not.2 he)

theorem doCheckpointAck_stale {w : Work} {s : State} (h : ∀ c ∈ s.vm.ckptDone, rd w.input 0 8 ≠ c.epoch) :
    doCheckpointAck w s = finish w .paramInvalid 0 [] s := by
  unfold doCheckpointAck
  split
  next c hc => exact if_pos (h c hc)
  next => rfl

/-! ### A checkpoint starts (R213, R216) -/

theorem regionsFit_congr {s t : State} (hv : t.vm.regions = s.vm.regions) (ho : t.adm.owners = s.adm.owners) :
    regionsFit t = regionsFit s := by
  have hchunks : snapshotChunks t = snapshotChunks s := by rw [snapshotChunks, ho, snapshotChunks]
  rw [regionsFit, regionsFit, hv, hchunks]

/-- The state in which the due time of a checkpoint is noted. -/
def ckptNoted (s : State) : State := { s with vm := { s.vm with ckptNow := false, ckptLast := s.clk.run } }

theorem regionsFit_noted (s : State) : regionsFit (ckptNoted s) = regionsFit s := regionsFit_congr rfl rfl

theorem packArgs_nil : padTo 22 (packArgs []) = zeros 22 := rfl

/-- The postponement is recorded where the recorder takes it. -/
theorem postponed_newRecord {n : Nat} {s : State} (h : RecorderOpen s 0x0607) :
    NewRecord s (event 0x0607 0 [] (ckptNoted (advance n s))) 0x0607 (zeros 22) := by
  have hevt : (ckptNoted (advance n s)).evt = s.evt := by simp [ckptNoted]
  have hcnt : (ckptNoted (advance n s)).cnt = s.cnt := by simp [ckptNoted]
  have hopen : RecorderOpen (ckptNoted (advance n s)) 0x0607 := by simpa only [RecorderOpen, hevt, hcnt] using h
  have hnew := event_newRecord 0 [] hopen
  rw [packArgs_nil] at hnew
  simpa only [NewRecord, hevt] using hnew

section
variable {s : State}

theorem doCheckpointStart_early (h : ckptDue s = false) : doCheckpointStart s = s := by simp [doCheckpointStart, h]

variable (ho : s.dep.isOpen = true) (hd : ckptDue s = true) (hr : s.vm.ckptRunning = none)
include ho hd hr

theorem doCheckpointStart_due : doCheckpointStart s =
    if !regionsFit (ckptNoted s) || s.vm.epochAck < s.vm.epochWritten then event 0x0607 0 [] (ckptNoted s)
    else { ckptNoted s with
      adm := { s.adm with owners := s.adm.owners.map fun p =>
        (p.1, { p.2 with pos := p.2.blockNo + 1, posPrev := p.2.blockPrev }) }
      vm := { (ckptNoted s).vm with
        ckptRunning := some { epoch := s.vm.epochWritten + 1, dep := s.dep.number, lastSeq := 0, head := none } } } := by
  have hguard : ¬(!s.dep.isOpen || !ckptDue s || s.vm.ckptRunning.isSome) = true := by simp [ho, hd, hr]
  exact if_neg hguard

theorem doCheckpointStart_starts (hf : regionsFit s = true) (ha : s.vm.epochWritten ≤ s.vm.epochAck) :
    (doCheckpointStart s).vm.ckptRunning
      = some { epoch := s.vm.epochWritten + 1, dep := s.dep.number, lastSeq := 0, head := none } := by
  have hready : ¬(!regionsFit (ckptNoted s) || s.vm.epochAck < s.vm.epochWritten) = true := by
    simp [regionsFit_noted, hf, ha]
  rw [doCheckpointStart_due ho hd hr, if_neg hready]

theorem doCheckpointStart_postponed (h : ¬(regionsFit s = true ∧ s.vm.epochWritten ≤ s.vm.epochAck)) :
    doCheckpointStart s = event 0x0607 0 [] (ckptNoted s) := by
  have hunready : (!regionsFit (ckptNoted s) || s.vm.epochAck < s.vm.epochWritten) = true := by
    by_cases hf : regionsFit s = true
    · have hlt : s.vm.epochAck < s.vm.epochWritten := Nat.not_le.1 fun ha => h ⟨hf, ha⟩
      simp [hlt]
    · simp [regionsFit_noted, hf]
  rw [doCheckpointStart_due ho hd hr, if_pos hunready]

end

/-! ### A checkpoint is written (R212, R213, R214) -/

/-- From s to t chunks or a manifest were sealed and written out; vault memory, the rings, the waiting items and the link
are as they were, and no output is taken back. -/
structure WritesOut (s t : State) : Prop where
  vm : t.vm = s.vm
  link : t.link = s.link
  adm : t.adm = s.adm
  rings : t.rings = s.rings
  out : ∀ o ∈ s.out, o ∈ t.out

theorem WritesOut.refl (s : State) : WritesOut s s := ⟨rfl, rfl, rfl, rfl, fun _ h => h⟩

theorem WritesOut.trans {s t u : State} (h : WritesOut s t) (k : WritesOut t u) : WritesOut s u :=
  ⟨k.vm.trans h.vm, k.link.trans h.link, k.adm.trans h.adm, k.rings.trans h.rings, fun o ho => k.out o (h.out o ho)⟩

theorem emit_writesOut (o : Out) (s : State) : WritesOut s (emit o s) :=
  ⟨rfl, rfl, rfl, rfl, fun _ h => List.mem_cons_of_mem _ h⟩

theorem vaultSeal_writesOut (key : Bytes) (aad : Bytes → Bytes) (pt : Bytes) (s : State) :
    WritesOut s (vaultSeal key aad pt s).2 := ⟨by simp, by simp, by simp, by simp, by simp⟩

/-- The clear bytes of a chunk record with the nonce n (R214). -/
def chunkClear (epoch k commit : Nat) (n : Bytes) : Bytes := le 8 k ++ le 8 epoch ++ le 8 commit ++ n ++ zeros 12

/-- A chunk record is sealed and goes to its place in the region. -/
theorem writeChunk_eq (epoch base k commit : Nat) (plain : Bytes) (s : State) :
    let r := vaultSeal (snapshotKey s) (chunkClear epoch k commit) plain s
    writeChunk epoch base k commit plain s
      = emit (.dma 0 (base + 4096 + 4160 * k) (r.1.2.1 ++ chunkClear epoch k commit r.1.1 ++ r.1.2.2)) r.2 := rfl

theorem writeChunk_writesOut (epoch base k commit : Nat) (plain : Bytes) (s : State) :
    WritesOut s (writeChunk epoch base k commit plain s) := by
  rw [writeChunk_eq]
  exact (vaultSeal_writesOut _ _ plain s).trans (emit_writesOut _ _)

theorem writeChunk_out (epoch base k commit : Nat) (plain : Bytes) (s : State) :
    ∃ m, Out.dma 0 (base + 4096 + 4160 * k) m ∈ (writeChunk epoch base k commit plain s).out := by
  rw [writeChunk_eq]
  exact ⟨_, List.mem_cons_self⟩

theorem manifest_writesOut (c : Ckpt) (s : State) : WritesOut s (manifest c s).2 := by
  constructor <;> simp [manifest]

/-- The chunks of a list are written one after another, with the content that they have in s. -/
def writeChunks (epoch base : Nat) (s : State) (ks : List Nat) (t : State) : State :=
  ks.foldl (fun st k => writeChunk epoch base k (chunkNo s k) (chunkPlain s k) st) t

theorem writeChunks_writesOut (epoch base : Nat) (s : State) (ks : List Nat) (t : State) :
    WritesOut t (writeChunks epoch base s ks t) :=
  foldl_keeps (WritesOut t) _ (fun _ _ h => h.trans (writeChunk_writesOut ..)) ks t (.refl t)

theorem writeChunks_out (epoch base : Nat) (s : State) : ∀ (ks : List Nat) (t : State),
    ∀ k ∈ ks, ∃ m, Out.dma 0 (base + 4096 + 4160 * k) m ∈ (writeChunks epoch base s ks t).out
  | [], _, _, hk => absurd hk List.not_mem_nil
  | x :: ks, t, k, hk => by
    rcases List.mem_cons.1 hk with rfl | hk
    · obtain ⟨m, hm⟩ := writeChunk_out epoch base k (chunkNo s k) (chunkPlain s k) t
      exact ⟨m, (writeChunks_writesOut epoch base s ks _).out _ hm⟩
    · exact writeChunks_out epoch base s ks _ k hk

/-- The output of the oldest CHECKPOINT_WAIT (R213). -/
def ckptSummary (c : Ckpt) (chunks : Nat) : Bytes :=
  le 8 c.epoch ++ le 8 c.dep ++ le 8 (c.epoch % 2) ++ le 8 chunks ++ zeros 32

/-- The oldest waiting item has left the list. -/
def waiterTaken (s : State) : State := { s with vm := { s.vm with waiters := s.vm.waiters.drop 1 } }

theorem completeWaiter_cons {c : Ckpt} {n : Nat} {s : State} {w : Work} {rest : List Work} (h : s.vm.waiters = w :: rest) :
    completeWaiter c n s = finish w .ok 0 (ckptSummary c n) (waiterTaken s) := by
  unfold completeWaiter waiterTaken
  rw [h]
  rfl

theorem completeWaiter_nil {c : Ckpt} {n : Nat} {s : State} (h : s.vm.waiters = []) : completeWaiter c n s = s := by
  unfold completeWaiter
  rw [h]

theorem completeWaiter_vm (c : Ckpt) (n : Nat) (s : State) :
    (completeWaiter c n s).vm = { s.vm with waiters := s.vm.waiters.drop 1 } := by
  cases h : s.vm.waiters with
  | nil =>
    rw [completeWaiter_nil h, List.drop_nil, ← h]
  | cons w rest => simp [completeWaiter_cons h, waiterTaken, h]

theorem completeWaiter_grows (c : Ckpt) (n : Nat) (s : State) : Grows s (completeWaiter c n s) := by
  cases h : s.vm.waiters with
  | nil =>
    rw [completeWaiter_nil h]
    exact .refl s
  | cons w rest =>
    have hsame : Grows s (waiterTaken s) := .of_eq rfl rfl
    rw [completeWaiter_cons h]
    exact hsame.trans (finish_grows ..)

theorem completeWaiter_completes {c : Ckpt} {n : Nat} {s : State} {w : Work} {rest : List Work} (h : s.vm.waiters = w :: rest)
    (ht : ringTakes (ringOf s w.ring) w.gen = true) :
    Completed (completeWaiter c n s) w .ok 0 w.stamp ∧ Wrote s (completeWaiter c n s) w (ckptSummary c n) := by
  have htakes : ringTakes (ringOf (waiterTaken s) w.ring) w.gen = true := ht
  rw [completeWaiter_cons h]
  exact ⟨finish_completed _ _ _ htakes, (finish_wrote .ok 0 (ckptSummary c n) htakes).congr rfl rfl⟩

/-- Epoch c of the manifest m is the newest one. -/
def ckptTaken (c : Ckpt) (m : Bytes) (s : State) : State := { copied s with vm := { (copied s).vm with
  ckptRunning := none, ckptDone := some c, epochWritten := c.epoch, manifestPrev := sha m } }

/-- What a written checkpoint leaves, for the region at `base`. -/
structure CkptWritten (c : Ckpt) (base : Nat) (s t : State) : Prop where
  running : t.vm.ckptRunning = none
  done : t.vm.ckptDone = some c
  epoch : t.vm.epochWritten = c.epoch
  waiters : t.vm.waiters = s.vm.waiters.drop 1
  manifest : ∃ m, Out.dma 0 base m ∈ t.out
  chunks : ∀ k ∈ changedChunks s, ∃ m, Out.dma 0 (base + 4096 + 4160 * k) m ∈ t.out
  dirty : t.vm.store.dirty = []
  dirtyOld : t.vm.store.dirtyOld = s.vm.store.dirty
  waiter : ∀ x rest, s.vm.waiters = x :: rest → ringTakes (ringOf s x.ring) x.gen = true →
    Completed t x .ok 0 x.stamp ∧ Wrote s t x (ckptSummary c (changedChunks s).length)

section
variable {s : State} {c : Ckpt} {r0 r1 : Nat × Nat}

/-- The region of an epoch (R212). -/
def ckptBase (c : Ckpt) (r0 r1 : Nat × Nat) : Nat := if c.epoch % 2 = 0 then r0.1 else r1.1

/-- The image of the checkpoint is written: its changed chunks and then its manifest. -/
def imageWritten (c : Ckpt) (base : Nat) (s : State) : State :=
  let u := writeChunks c.epoch base s (changedChunks s) s
  emit (.dma 0 base (manifest c u).1) (manifest c u).2

/-- The manifest of the image. -/
def imageManifest (c : Ckpt) (base : Nat) (s : State) : Bytes :=
  (manifest c (writeChunks c.epoch base s (changedChunks s) s)).1

theorem imageWritten_writesOut (c : Ckpt) (base : Nat) (s : State) : WritesOut s (imageWritten c base s) :=
  ((writeChunks_writesOut c.epoch base s _ s).trans (manifest_writesOut c _)).trans (emit_writesOut _ _)

theorem imageWritten_manifest (c : Ckpt) (base : Nat) (s : State) : ∃ m, Out.dma 0 base m ∈ (imageWritten c base s).out :=
  ⟨_, List.mem_cons_self⟩

theorem imageWritten_chunks (c : Ckpt) (base : Nat) (s : State) :
    ∀ k ∈ changedChunks s, ∃ m, Out.dma 0 (base + 4096 + 4160 * k) m ∈ (imageWritten c base s).out := fun k hk => by
  obtain ⟨m, hm⟩ := writeChunks_out c.epoch base s _ s k hk
  exact ⟨m, ((manifest_writesOut c _).trans (emit_writesOut _ _)).out _ hm⟩

/-- The state in which the oldest wait completes. -/
def ckptRecorded (c : Ckpt) (base : Nat) (s : State) : State :=
  event 0x0605 0 [(8, c.epoch), (8, c.dep), (8, (changedChunks s).length)]
    (ckptTaken c (imageManifest c base s) (imageWritten c base s))

theorem doCheckpointWritten_eq (hc : s.vm.ckptRunning = some c) (hr : s.vm.regions = some (r0, r1))
    (hh : c.head.isSome = true) : doCheckpointWritten s
      = completeWaiter c (changedChunks s).length (ckptRecorded c (ckptBase c r0 r1) s) := by
  have hhead : ¬c.head.isNone = true := by simpa [Option.isNone_iff_eq_none, Option.isSome_iff_ne_none] using hh
  simp only [doCheckpointWritten, hc, hr, if_neg hhead]
  rfl

theorem ckptRecorded_frame (c : Ckpt) (base : Nat) (s : State) :
    (ckptRecorded c base s).rings = s.rings ∧ (ckptRecorded c base s).link = s.link
    ∧ (ckptRecorded c base s).out = (imageWritten c base s).out := by
  have hwrites := imageWritten_writesOut c base s
  simp only [ckptRecorded, event_frame]
  exact ⟨hwrites.rings, hwrites.link, rfl⟩

theorem ckptRecorded_vm (c : Ckpt) (base : Nat) (s : State) :
    (ckptRecorded c base s).vm.ckptRunning = none ∧ (ckptRecorded c base s).vm.ckptDone = some c
    ∧ (ckptRecorded c base s).vm.epochWritten = c.epoch ∧ (ckptRecorded c base s).vm.waiters = s.vm.waiters
    ∧ (ckptRecorded c base s).vm.store.dirty = [] ∧ (ckptRecorded c base s).vm.store.dirtyOld = s.vm.store.dirty := by
  have hvm := (imageWritten_writesOut c base s).vm
  simp only [ckptRecorded, event_frame, ckptTaken, copied, hvm, and_self]

theorem doCheckpointWritten_spec (hc : s.vm.ckptRunning = some c) (hr : s.vm.regions = some (r0, r1))
    (hh : c.head.isSome = true) : CkptWritten c (ckptBase c r0 r1) s (doCheckpointWritten s) := by
  obtain ⟨hrings, hlink, hout⟩ := ckptRecorded_frame c (ckptBase c r0 r1) s
  obtain ⟨hrunning, hdone, hepoch, hwaiters, hdirty, hold⟩ := ckptRecorded_vm c (ckptBase c r0 r1) s
  have hvm := completeWaiter_vm c (changedChunks s).length (ckptRecorded c (ckptBase c r0 r1) s)
  have hgrows := completeWaiter_grows c (changedChunks s).length (ckptRecorded c (ckptBase c r0 r1) s)
  obtain ⟨m, hm⟩ := imageWritten_manifest c (ckptBase c r0 r1) s
  rw [doCheckpointWritten_eq hc hr hh]
  constructor
  case manifest => exact ⟨m, hgrows.out _ (hout ▸ hm)⟩
  case chunks =>
    intro k hk
    obtain ⟨b, hb⟩ := imageWritten_chunks c (ckptBase c r0 r1) s k hk
    exact ⟨b, hgrows.out _ (hout ▸ hb)⟩
  case waiter =>
    intro x rest hx htakes
    obtain ⟨hcomp, hwrote⟩ := completeWaiter_completes (c := c) (n := (changedChunks s).length) (hwaiters.trans hx)
      (by rw [ringOf_congr hrings]; exact htakes)
    exact ⟨hcomp, hwrote.congr hrings hlink⟩
  all_goals simp only [hvm, hrunning, hdone, hepoch, hwaiters, hdirty, hold]

end

/-- Settles O40: the commands of a waiting item by what each does before the item ends, the start by its three guards, and
the written checkpoint by `doCheckpointWritten_spec`. -/
theorem checkpoints : Obligations.Checkpoints := by
  unfold Obligations.Checkpoints
  intro s id w
  refine ⟨fun h => ⟨fun hsmall => ?_, fun h0 h1 => ?_⟩, fun h => ?_, fun h => ⟨fun c hc he => ?_, fun hstale => ?_⟩,
    fun h => ?_, fun n hs ho hr => ⟨fun hd hready => ?_, fun hd hready => ?_, fun hd => ?_⟩, fun n c r0 r1 hs hc hr hh => ?_⟩
  · exact endsWork_finish rfl h (doSnapRegions_small (s := taken w s) hsmall) (by simp only [finish_frame]; rfl)
  · refine endsWork_after rfl h (doSnapRegions_fits (s := taken w s) h0 h1) rfl rfl rfl ?_
    simp only [finish_frame]
    rfl
  · exact yields_work rfl h ⟨not_mem_taken w s, rfl⟩
  · refine yields_work rfl h ?_
    rw [doCheckpointAck_newest (s := taken w s) hc he]
    exact ⟨not_mem_taken w s, rfl, rfl, rfl⟩
  · exact endsWork_finish rfl h (doCheckpointAck_stale (s := taken w s) hstale) (by simp only [finish_frame]; rfl)
  · refine endsWork_after (u := { taken w s with vm := { s.vm with ckptNow := true } }) rfl h rfl rfl rfl rfl ?_
    simp only [finish_frame]
  · obtain ⟨hf, ha⟩ := hready
    refine yields_when rfl hs ?_
    rw [doCheckpointStart_starts (s := advance n s) (by simpa using ho) hd (by simpa using hr)
      ((regionsFit_congr (by simp) (by simp)).trans hf) (by simpa using ha)]
    simp only [advance_frame]
  · have hunready : ¬(regionsFit (advance n s) = true ∧ (advance n s).vm.epochWritten ≤ (advance n s).vm.epochAck) := by
      rw [regionsFit_congr (s := s) (by simp) (by simp)]
      simpa only [advance_frame] using hready
    refine yields_when rfl hs ?_
    rw [doCheckpointStart_postponed (s := advance n s) (by simpa using ho) hd (by simpa using hr) hunready]
    exact ⟨by simpa [ckptNoted] using hr, postponed_newRecord⟩
  · exact exec_when rfl hs (doCheckpointStart_early hd)
  · obtain ⟨hrunning, hdone, hepoch, hwaiters, hmanifest, hchunks, hdirty, hold, hwaiter⟩ :=
      doCheckpointWritten_spec (s := advance n s) (by simpa using hc) (by simpa using hr) hh
    simp only [advance_frame] at hwaiters hold hwaiter
    refine yields_when rfl hs ⟨hrunning, hdone, hepoch, hwaiters, hmanifest, hchunks, hdirty, hold, fun x rest hx htakes => ?_⟩
    obtain ⟨hcomp, hwrote⟩ := hwaiter x rest hx (by rw [ringOf_congr (s := s) (by simp)]; exact htakes)
    exact ⟨hcomp, hwrote.congr (by simp) (by simp)⟩

end Sys2Proof.Machine
end


section
namespace Sys2Proof.Machine

/-! ### The slot check (R235)

A slot that fails changes its state and its CHECK, and no key. The slot-check key in slot 1 therefore stays what it is, and
with it the soundness of every slot that the scrub leaves alone. -/

@[simp] theorem slotOf_noteCheckFail (owner handle : Nat) (s : State) (j : Nat) :
    slotOf (noteCheckFail owner handle s) j = slotOf s j := by
  simp [slotOf, noteCheckFail]

section
variable (i : Nat) (s : State)

theorem slotOf_failSlot_other {j : Nat} (h : j ≠ i) : slotOf (failSlot i s) j = slotOf s j := by
  simp only [failSlot]
  split
  · rfl
  · rw [slotOf_noteCheckFail, slotOf_setSlot_other _ _ h]

theorem failSlot_state : (slotOf (failSlot i s) i).state = if (slotOf s i).state = 0 then 0 else 3 := by
  by_cases h : (slotOf s i).state = 0 ∨ (slotOf s i).state = 3
  · have hsame : failSlot i s = s := if_pos h
    rw [hsame]
    split
    · assumption
    next h0 => exact h.resolve_left h0
  · have hset : slotOf (failSlot i s) i = slotOf (setSlot i { slotOf s i with state := 3 } s) i := by
      rw [failSlot, if_neg h, slotOf_noteCheckFail]
    rw [hset, slotOf_setSlot_same, if_neg fun h0 => h (.inl h0)]

theorem failSlot_key (j : Nat) : (slotOf (failSlot i s) j).key = (slotOf s j).key := by
  by_cases hj : j = i
  · subst hj
    simp only [failSlot]
    split
    · rfl
    · rw [slotOf_noteCheckFail, slotOf_setSlot_same]
      rfl
  · rw [slotOf_failSlot_other i s hj]

/-- A check fails its slot or changes nothing. -/
theorem checkSlot_cases : checkSlot i s = failSlot i s ∨ checkSlot i s = s := by
  unfold checkSlot
  split
  · exact .inr rfl
  · exact .inl rfl

end

theorem slotSound_congr {s t : State} {i : Nat} (h : slotOf t i = slotOf s i) (h1 : (slotOf t 1).key = (slotOf s 1).key) :
    slotSound t i = slotSound s i := by
  simp only [slotSound, slotCheck, h, h1]

/-- A FAILED slot stays FAILED. -/
theorem failSlot_failed {i : Nat} (j : Nat) {s : State} (h : (slotOf s i).state = 3) : (slotOf (failSlot j s) i).state = 3 := by
  by_cases hij : i = j
  · subst hij
    rw [failSlot_state, h]
    rfl
  · rw [slotOf_failSlot_other j s hij, h]

theorem failSlots_failed {i : Nat} : ∀ (l : List Nat) (s : State), i ∈ l → (slotOf s i).state ≠ 0 →
    (slotOf (l.foldl (fun st j => failSlot j st) s) i).state = 3
  | [], _, hi, _ => absurd hi List.not_mem_nil
  | j :: l, s, hi, hs => by
    by_cases hij : i = j
    · subst hij
      refine foldl_keeps (fun t => (slotOf t i).state = 3) _ (fun st k h => failSlot_failed k h) l _ ?_
      rw [failSlot_state, if_neg hs]
    · refine failSlots_failed l _ ((List.mem_cons.1 hi).resolve_left hij) ?_
      rwa [slotOf_failSlot_other j s hij]

/-- Slot i is as it was, and so is the slot-check key. -/
def SlotKept (i : Nat) (s t : State) : Prop := slotOf t i = slotOf s i ∧ (slotOf t 1).key = (slotOf s 1).key

theorem SlotKept.failSlot {i j : Nat} {s t : State} (h : SlotKept i s t) (hij : i ≠ j) : SlotKept i s (failSlot j t) :=
  ⟨(slotOf_failSlot_other j t hij).trans h.1, (failSlot_key j t 1).trans h.2⟩

theorem SlotKept.checkSlot {i : Nat} (j : Nat) {s t : State} (h : SlotKept i s t) (hs : slotSound s i = true) :
    SlotKept i s (checkSlot j t) := by
  by_cases hij : i = j
  · subst hij
    have hsound : slotSound t i = true := (slotSound_congr h.1 h.2).trans hs
    rwa [Machine.checkSlot, if_pos hsound]
  · rcases checkSlot_cases j t with hc | hc
    · exact hc ▸ h.failSlot hij
    · rwa [hc]

theorem doSlotScrub_failed {bad : List Nat} {i : Nat} {s : State} (hi : i ∈ bad) (hs : (slotOf s i).state ≠ 0) :
    (slotOf (doSlotScrub bad s) i).state = 3 := by
  refine foldl_keeps (fun t => (slotOf t i).state = 3) _ (fun st j h => ?_) _ _ (failSlots_failed bad s hi hs)
  rcases checkSlot_cases j st with hc | hc
  · rw [hc]; exact failSlot_failed j h
  · rwa [hc]

theorem doSlotScrub_keeps {bad : List Nat} {i : Nat} {s : State} (hi : i ∉ bad) (hs : slotSound s i = true) :
    slotOf (doSlotScrub bad s) i = slotOf s i := by
  have hfails : SlotKept i s (bad.foldl (fun st j => failSlot j st) s) :=
    List.foldlRecOn (motive := SlotKept i s) _ _ ⟨rfl, rfl⟩ fun t ht j hj => ht.failSlot fun h => hi (h ▸ hj)
  exact (foldl_keeps (SlotKept i s) _ (fun st j h => h.checkSlot j hs) _ _ hfails).1

/-! ### Quotas and cached generations (R244, R269) -/

/-- What the quota registers of the other owners add up to. -/
def otherQuotas (s : State) : Nat := (s.adm.owners.filter fun e => e.1 != s.keys.ownerSel).foldl (fun n e => n + e.2.quota) 0

theorem doKeysQuotaWrite_eq {v : W32} {s : State} (h : s.keys.ownerSel ≠ 0) : doKeysQuotaWrite v s =
    if 4032 < otherQuotas s + v.toNat % 2 ^ 12 then { s with keys := { s.keys with err := 0x1 } }
    else if v.toNat % 2 ^ 12 < ownerSlots s s.keys.ownerSel then { s with keys := { s.keys with err := 0x2 } }
    else mapOwner s.keys.ownerSel (fun w => { w with quota := v.toNat % 2 ^ 12 }) s := by
  have hq : (v.extractLsb' 0 12).toNat = v.toNat % 2 ^ 12 := by simp
  simp only [doKeysQuotaWrite, if_neg h, hq]
  rfl

/-- An earlier number of the owner is still owed under this generation. -/
abbrev stillOwed (s : State) (o : Nat) (r : OldRoot) : Prop := ∃ x ∈ s.adm.owed, x.owner = o ∧ x.seq < r.upto

section
variable {o : Nat} {s : State} {r : OldRoot}

/-- The owner's kept generations under which no earlier number is owed. -/
def goneRoots (s : State) (o : Nat) : List OldRoot :=
  s.keys.oldRoots.filter fun r => r.owner == o && !(s.adm.owed.any fun x => x.owner == o && decide (x.seq < r.upto))

theorem mem_goneRoots : r ∈ goneRoots s o ↔ r ∈ s.keys.oldRoots ∧ r.owner = o ∧ ¬stillOwed s o r := by
  simp [goneRoots, stillOwed]

theorem doCacheInvalidation_none (h : goneRoots s o = []) : doCacheInvalidation o s = s := by
  have hempty : (goneRoots s o).isEmpty = true := by rw [h]; rfl
  exact if_pos hempty

theorem doCacheInvalidation_some (h : goneRoots s o ≠ []) : (doCacheInvalidation o s).keys = { s.keys with
    oldRoots := s.keys.oldRoots.filter fun r =>
      r.owner != o || s.adm.owed.any fun x => x.owner == o && decide (x.seq < r.upto)
    cache := s.keys.cache.filter fun e =>
      !(goneRoots s o).any fun r => e.2.1 == o && e.2.2.1 == r.slot && e.2.2.2.1 == r.gen } := by
  have hfull : ¬(goneRoots s o).isEmpty = true := by simpa using h
  dsimp only [doCacheInvalidation]
  exact congrArg State.keys (if_neg hfull)

theorem oldRoots_doCacheInvalidation (hr : r ∈ (doCacheInvalidation o s).keys.oldRoots) (ho : r.owner = o) :
    stillOwed s o r := by
  by_cases h : goneRoots s o = []
  · rw [doCacheInvalidation_none h] at hr
    by_contra howed
    have hgone := mem_goneRoots.2 ⟨hr, ho, howed⟩
    rw [h] at hgone
    exact absurd hgone List.not_mem_nil
  · rw [doCacheInvalidation_some h] at hr
    simpa [ho, stillOwed] using (List.mem_filter.1 hr).2

theorem cache_doCacheInvalidation (hr : r ∈ goneRoots s o) :
    ∀ e ∈ (doCacheInvalidation o s).keys.cache, ¬(e.2.1 = o ∧ e.2.2.1 = r.slot ∧ e.2.2.2.1 = r.gen) := by
  rintro e he ⟨howner, hslot, hgen⟩
  rw [doCacheInvalidation_some (List.ne_nil_of_mem hr)] at he
  have hfresh := (List.mem_filter.1 he).2
  rw [Bool.not_eq_true', List.any_eq_false] at hfresh
  exact hfresh r hr (by simp [howner, hslot, hgen])

end

/-! ### The counter area (R217, R218) -/

/-- The record of the greater write number; of equals the first. -/
def newerRec (a : Option FlashRec) (r : FlashRec) : Option FlashRec :=
  match a with
  | none => some r
  | some b => if b.writeNo < r.writeNo then some r else some b

theorem flashNow_eq (s : State) : flashNow s = s.flash.counters.foldl newerRec none := rfl

theorem flashNow_congr {s t : State} (h : t.flash.counters = s.flash.counters) : flashNow t = flashNow s := by
  rw [flashNow, flashNow, h]

/-- A record that no later one of the list outnumbers stays the newest. -/
theorem foldl_newerRec_newest {b : FlashRec} : ∀ (l : List FlashRec), (∀ x ∈ l, x.writeNo ≤ b.writeNo) →
    l.foldl newerRec (some b) = some b
  | [], _ => rfl
  | x :: l, h => by
    have hx : newerRec (some b) x = some b := if_neg (Nat.not_lt.2 (h x (by simp)))
    rw [List.foldl_cons, hx]
    exact foldl_newerRec_newest l fun y hy => h y (List.mem_cons_of_mem _ hy)

theorem foldl_newerRec_le : ∀ (l : List FlashRec) (a : Option FlashRec), ∀ x ∈ a.toList ++ l,
    ∃ b, l.foldl newerRec a = some b ∧ x.writeNo ≤ b.writeNo
  | [], a, x, hx => ⟨x, by simpa using hx, Nat.le_refl _⟩
  | y :: l, none, x, hx => foldl_newerRec_le l (some y) x (by simpa using hx)
  | y :: l, some c, x, hx => by
    have hx : x = c ∨ x = y ∨ x ∈ l := by simpa using hx
    rw [List.foldl_cons]
    by_cases hlt : c.writeNo < y.writeNo
    · have hstep : newerRec (some c) y = some y := if_pos hlt
      rw [hstep]
      rcases hx with rfl | hx
      · obtain ⟨b, hb, hle⟩ := foldl_newerRec_le l (some y) y (by simp)
        exact ⟨b, hb, (Nat.le_of_lt hlt).trans hle⟩
      · exact foldl_newerRec_le l (some y) x (by simpa using hx)
    · have hstep : newerRec (some c) y = some c := if_neg hlt
      rw [hstep]
      rcases hx with rfl | rfl | hx
      · exact foldl_newerRec_le l (some x) x (by simp)
      · obtain ⟨b, hb, hle⟩ := foldl_newerRec_le l (some c) c (by simp)
        exact ⟨b, hb, (Nat.not_lt.1 hlt).trans hle⟩
      · exact foldl_newerRec_le l (some c) x (by simp [hx])

theorem writeNo_le_flashNow {s : State} {x : FlashRec} (h : x ∈ s.flash.counters) :
    x.writeNo ≤ ((flashNow s).map (·.writeNo)).getD 0 := by
  obtain ⟨b, hb, hle⟩ := foldl_newerRec_le s.flash.counters none x (by simpa using h)
  rw [flashNow_eq, hb]
  exact hle

/-- A record that is written is the newest one, with the marks that it was given. -/
theorem flashNow_putRecord (r : FlashRec) (sh dh ah : Nat) (s : State) : ∃ x, flashNow (putRecord r sh dh ah s) = some x
    ∧ x.seqHigh = sh ∧ x.depHigh = dh ∧ x.accordHigh = ah := by
  refine ⟨_, foldl_newerRec_newest _ fun x hx => ?_, rfl, rfl, rfl⟩
  exact (writeNo_le_flashNow (List.mem_of_mem_filter hx)).trans (Nat.le_succ _)

@[simp] theorem recordEffect_flash (r : FlashRec) (s : State) : (recordEffect r s).flash = s.flash := by
  simp only [recordEffect]
  repeat' split
  all_goals simp

theorem recordEffect_ack {r : FlashRec} (h : r.type = 1) (s : State) :
    (recordEffect r s).vm.epochAck = r.epoch ∧ (recordEffect r s).vm.epochDep = r.departure := by
  simp only [recordEffect, if_pos h]
  split <;> simp

/-- What is due depends on the records and on the numbers that the marks are for. -/
theorem skipSector_frame (s : State) : (skipSector s).flash.counters = s.flash.counters ∧ (skipSector s).vm = s.vm
    ∧ dueRecord (skipSector s) = dueRecord s := ⟨rfl, rfl, rfl⟩

/-- The state in which the record that was due has been written. -/
def recordWritten (r : FlashRec) (s : State) : State :=
  let t := putRecord (atWrite r s) (nextSeqHigh s) (nextDepHigh s) (nextAccordHigh s) s
  { t with flash := { t.flash with writing := t.flash.writing.drop 1 } }

section
variable {r : FlashRec} {s : State} (h : dueRecord s = some r)
include h

theorem doFlashRecordWritten_failed : doFlashRecordWritten false s = skipSector s := by
  simp [doFlashRecordWritten, h]

theorem doFlashRecordWritten_written : doFlashRecordWritten true s = recordEffect (atWrite r s) (recordWritten r s) := by
  simp only [doFlashRecordWritten, h]
  rfl

theorem doFlashRecordWritten_marks : seqHigh (doFlashRecordWritten true s) = nextSeqHigh s
    ∧ depHigh (doFlashRecordWritten true s) = nextDepHigh s
    ∧ accordHigh (doFlashRecordWritten true s) = nextAccordHigh s := by
  obtain ⟨x, hx, hseq, hdep, haccord⟩ :=
    flashNow_putRecord (atWrite r s) (nextSeqHigh s) (nextDepHigh s) (nextAccordHigh s) s
  have hnow : flashNow (doFlashRecordWritten true s) = some x := by
    rw [doFlashRecordWritten_written h, ← hx]
    exact flashNow_congr (by rw [recordEffect_flash]; rfl)
  simp only [seqHigh, depHigh, accordHigh, hnow]
  exact ⟨hseq, hdep, haccord⟩

theorem doFlashRecordWritten_ack (ht : r.type = 1) : (doFlashRecordWritten true s).vm.epochAck = r.epoch
    ∧ (doFlashRecordWritten true s).vm.epochDep = r.departure := by
  have hack := recordEffect_ack (r := atWrite r s) ht (recordWritten r s)
  have hepoch : (atWrite r s).epoch = r.epoch := if_pos ht
  rw [hepoch] at hack
  rw [doFlashRecordWritten_written h]
  exact hack

end

/-! ### A new salt (R231) -/

theorem Slot.not_wraps {i : Nat} (x : Slot) (h : i < 5) : x.wraps i = false := by
  have h5 : ¬5 ≤ i := by omega
  have h64 : ¬64 ≤ i := by omega
  simp [Slot.wraps, h5, h64]

/-- From s to t device slots were written: the salt, the owners' records and the serials are as they were, no key has
changed in the slots of l, and user flash holds a wrapped copy of an owner slot only where it did. -/
structure DeviceSlots (s t : State) : Prop where
  salt : t.flash.salt = s.flash.salt
  saltMac : t.flash.saltMac = s.flash.saltMac
  owners : t.flash.owners = s.flash.owners
  serial : t.flash.serial = s.flash.serial
  depSerial : t.dep.serial = s.dep.serial
  newSalt : t.keys.newSalt = s.keys.newSalt
  flashKey : (slotOf t 4).key = (slotOf s 4).key
  wrapped : ∀ i, 64 ≤ i → s.flash.wrapped.at? i = none → t.flash.wrapped.at? i = none

theorem DeviceSlots.trans {s t u : State} (h : DeviceSlots s t) (k : DeviceSlots t u) : DeviceSlots s u :=
  ⟨k.salt.trans h.salt, k.saltMac.trans h.saltMac, k.owners.trans h.owners, k.serial.trans h.serial,
    k.depSerial.trans h.depSerial, k.newSalt.trans h.newSalt, k.flashKey.trans h.flashKey,
    fun i hi hn => k.wrapped i hi (h.wrapped i hi hn)⟩

theorem setSlot_deviceSlots {i : Nat} {x : Slot} {s : State} (hi : i < 64) (hx : i = 4 → x.key = (slotOf s 4).key) :
    DeviceSlots s (setSlot i x s) := by
  refine ⟨rfl, rfl, rfl, rfl, rfl, rfl, ?_, fun j hj hn => ?_⟩
  · by_cases h4 : 4 = i
    · subst h4
      rw [slotOf_setSlot_same]
      exact hx rfl
    · rw [slotOf_setSlot_other x s h4]
  · have hne : j ≠ i := by omega
    simp only [setSlot]
    split
    · rw [Tbl.at?_put_other _ hne, hn]
    · rw [Tbl.at?_del_other hne, hn]

theorem deviceSlot_deviceSlots {i : Nat} (hi : i < 4) (x : Slot) (s : State) : DeviceSlots s (setSlot i x s) :=
  setSlot_deviceSlots (by omega) (by omega)

/-- The root wrapping key and the slots 1, 2 and 3 that derive from it. -/
def wrapSlots (salt : BitVec 256) (s : State) : State :=
  let r := formWrap salt s
  setSlot 3 (deviceSlot r 0x0202 s) (setSlot 2 (deviceSlot r 0x0201 s) (setSlot 1 (deviceSlot r 0x0200 s)
    { s with keys := { s.keys with wrapRoot := some r } }))

theorem deriveWrap_eq (salt : BitVec 256) (s : State) : deriveWrap salt s
    = setSlot 4 (slotOf (wrapSlots salt s) 4) (setSlot 0 (slotOf (wrapSlots salt s) 0) (wrapSlots salt s)) := rfl

theorem wrapSlots_deviceSlots (salt : BitVec 256) (s : State) : DeviceSlots s (wrapSlots salt s) := by
  have hroot : DeviceSlots s { s with keys := { s.keys with wrapRoot := some (formWrap salt s) } } :=
    ⟨rfl, rfl, rfl, rfl, rfl, rfl, rfl, fun _ _ h => h⟩
  have h1 := hroot.trans (deviceSlot_deviceSlots (i := 1) (by omega) (deviceSlot (formWrap salt s) 0x0200 s) _)
  have h2 := h1.trans (deviceSlot_deviceSlots (i := 2) (by omega) (deviceSlot (formWrap salt s) 0x0201 s) _)
  exact h2.trans (deviceSlot_deviceSlots (i := 3) (by omega) (deviceSlot (formWrap salt s) 0x0202 s) _)

theorem deriveWrap_deviceSlots (salt : BitVec 256) (s : State) : DeviceSlots s (deriveWrap salt s) := by
  have h0 := (wrapSlots_deviceSlots salt s).trans
    (deviceSlot_deviceSlots (i := 0) (by omega) (slotOf (wrapSlots salt s) 0) _)
  rw [deriveWrap_eq]
  refine h0.trans (setSlot_deviceSlots (by omega) fun _ => ?_)
  rw [slotOf_setSlot_other _ _ (by omega)]

theorem drawPair_deviceSlots (s : State) : DeviceSlots s (drawPair 5 6 s).2 := by
  have hdraw (n : Nat) (t : State) : DeviceSlots t (drawBytes n t).2 :=
    ⟨rfl, rfl, rfl, rfl, rfl, rfl, rfl, fun _ _ h => h⟩
  have hwrite {i : Nat} (hi : 4 < i) (hi' : i < 64) (attr : W64) (key : Bytes) (t : State) :
      DeviceSlots t (writeSlot i attr key t) := setSlot_deviceSlots hi' (by omega)
  exact (((hdraw 48 s).trans (hdraw 32 _)).trans (hwrite (i := 5) (by omega) (by omega) _ _ _)).trans
    (hwrite (i := 6) (by omega) (by omega) _ _ _)

theorem issueCert_frame (serial : Nat) (e m : Bytes) (s : State) : (issueCert serial e m s).2.flash = s.flash
    ∧ (issueCert serial e m s).2.keys = s.keys ∧ (issueCert serial e m s).2.dep.serial = s.dep.serial := by
  simp [issueCert, keyCert]

/-- New departure seeds take the next serial; of the rest of the key area they are device slots. -/
theorem newDepartSeeds_spec (s : State) : (newDepartSeeds s).flash.salt = s.flash.salt
    ∧ (newDepartSeeds s).flash.saltMac = s.flash.saltMac ∧ (newDepartSeeds s).flash.owners = s.flash.owners
    ∧ (newDepartSeeds s).keys.newSalt = s.keys.newSalt ∧ (slotOf (newDepartSeeds s) 4).key = (slotOf s 4).key
    ∧ (∀ i, 64 ≤ i → s.flash.wrapped.at? i = none → (newDepartSeeds s).flash.wrapped.at? i = none)
    ∧ (newDepartSeeds s).dep.serial = max s.dep.serial s.flash.serial + 1 := by
  have hpair := drawPair_deviceSlots s
  have hcert (serial : Nat) (e m : Bytes) := issueCert_frame serial e m (drawPair 5 6 s).2
  simp only [newDepartSeeds, hcert, slotOf]
  exact ⟨hpair.salt, hpair.saltMac, hpair.owners, hpair.newSalt, hpair.flashKey, hpair.wrapped,
    by rw [hpair.depSerial, hpair.serial]⟩

/-- A new salt with its MAC: what was wrapped under the old one and the owners' records are gone. -/
def saltTaken (salt : BitVec 256) (s : State) : State := { s with
  flash := { s.flash with salt := some salt, saltMac := saltMac s salt, wrapped := [], owners := [] }
  life := { s.life with codeKeys := [] }
  keys := { s.keys with newSalt := true } }

/-- The salt is drawn, and its record is written with the marks in force. -/
def saltWritten (s : State) : State :=
  let u := saltTaken (BitVec.ofNat 256 (leNat (drawBytes 32 s).1)) (drawBytes 32 s).2
  putRecord (recordOf 3 0 0 0 0) (seqHigh u) (depHigh u) (accordHigh u) (event 0x070C 0 [] u)

theorem doNewSalt_eq (s : State) : doNewSalt s
    = newDepartSeeds (deriveWrap (BitVec.ofNat 256 (leNat (drawBytes 32 s).1)) (saltWritten s)) := rfl

/-- Of the key area the event and the record of the new salt change the counter area alone. -/
theorem saltWritten_frame (s : State) : ∃ salt, (saltWritten s).flash.salt = some salt
    ∧ (saltWritten s).flash.saltMac = saltMac (saltWritten s) salt ∧ (saltWritten s).flash.owners = []
    ∧ (saltWritten s).flash.wrapped = [] ∧ (saltWritten s).keys.newSalt = true
    ∧ (saltWritten s).flash.serial = s.flash.serial ∧ (saltWritten s).dep.serial = s.dep.serial := by
  simp [saltWritten, putRecord, saltTaken, saltMac, slotOf, drawBytes, gRequest]

/-- What R231 leaves. -/
structure NewSalt (s t : State) : Prop where
  salt : t.flash.salt.isSome = true
  ok : saltOk t = true
  owners : t.flash.owners = []
  newSalt : t.keys.newSalt = true
  wrapped : ∀ i, 64 ≤ i → t.flash.wrapped.at? i = none
  serial : t.dep.serial = max s.dep.serial s.flash.serial + 1

theorem doNewSalt_spec (s : State) : NewSalt s (doNewSalt s) := by
  obtain ⟨salt, hsalt, hmac, howners, hwrapped, hnew, hserial, hdep⟩ := saltWritten_frame s
  have hderive := deriveWrap_deviceSlots (BitVec.ofNat 256 (leNat (drawBytes 32 s).1)) (saltWritten s)
  obtain ⟨ssalt, smac, sowners, snew, skey, swrapped, sserial⟩ :=
    newDepartSeeds_spec (deriveWrap (BitVec.ofNat 256 (leNat (drawBytes 32 s).1)) (saltWritten s))
  rw [← doNewSalt_eq] at ssalt smac sowners snew skey swrapped sserial
  have hheld : (doNewSalt s).flash.salt = some salt := ssalt.trans (hderive.salt.trans hsalt)
  have hkey : saltMac (doNewSalt s) salt = saltMac (saltWritten s) salt := by
    rw [saltMac, saltMac, skey, hderive.flashKey]
  constructor
  case salt => rw [hheld]; rfl
  case ok =>
    simp only [saltOk, hheld, hkey, beq_iff_eq]
    exact smac.trans (hderive.saltMac.trans hmac)
  case owners => exact sowners.trans (hderive.owners.trans howners)
  case newSalt => exact snew.trans (hderive.newSalt.trans hnew)
  case wrapped => exact fun i hi => swrapped i hi (hderive.wrapped i hi (by rw [hwrapped]; rfl))
  case serial => rw [sserial, hderive.depSerial, hderive.serial, hserial, hdep]

/-! ### Held roots and zeroisation (R262, R266, R267) -/

theorem held_doInterlockHoldExpiry {i : Nat} {s : State} {h : HeldLock}
    (hf : s.keys.held.find? (fun x => x.index == i) = some h) :
    ∀ x ∈ (doInterlockHoldExpiry i s).keys.held, x.index ≠ i := by
  simp only [doInterlockHoldExpiry, hf, event_frame]
  exact fun x hx => by simpa using (List.mem_filter.1 hx).2

theorem doSaltEraseDone_spec (s : State) : (doSaltEraseDone s).flash.salt = none ∧ (doSaltEraseDone s).flash.saltMac = []
    ∧ (doSaltEraseDone s).otp.pairsDone = min (min 64 s.otp.pairsUsed) (s.otp.pairsDone + 1)
    ∧ (doSaltEraseDone s).keys.zeroStep = 2 ∧ (doSaltEraseDone s).sys = s.sys := by
  simp [doSaltEraseDone]

/-- Settles O33: the scrub by what a failing slot leaves alone (`SlotKept`), the marks by `flashNow_putRecord`, and the new
salt by what its device slots keep (`DeviceSlots`). -/
theorem keyHousekeeping : Obligations.KeyHousekeeping := by
  unfold Obligations.KeyHousekeeping
  intro s
  refine ⟨fun bad ha => ?_, fun v hw hsel => ?_, fun o ha => ?_, fun r ha hr => ⟨?_, ?_⟩,
    fun ha hb hg hc hs h6 hd => ?_, fun i h hf => ?_, fun hz => ⟨fun h1 => ?_, fun h2 => ?_, fun k hk1 hk7 h1 => ?_⟩⟩
  · exact yields_when rfl ha ⟨fun i hi => doSlotScrub_failed hi, fun i hi => doSlotScrub_keeps hi⟩
  · refine yields_hostWrite rfl hw ?_
    have hwritten := doKeysQuotaWrite_eq (v := v) hsel
    split
    next hmany => exact hwritten.trans (if_pos hmany)
    next hfew =>
      have hkept := hwritten.trans (if_neg hfew)
      split
      next hused => exact hkept.trans (if_pos hused)
      next hfree =>
        rw [hkept.trans (if_neg hfree)]
        exact ⟨by rw [ownerOf_mapOwner_same], rfl⟩
  · exact yields_when rfl ha ⟨fun r hr ho => oldRoots_doCacheInvalidation hr ho, fun r hr ho hnone =>
      cache_doCacheInvalidation (mem_goneRoots.2 ⟨hr, ho, fun ⟨x, hx, hxo, hlt⟩ => absurd (hnone x hx hxo) (by omega)⟩)⟩
  · obtain ⟨hseq, hdep, haccord⟩ := doFlashRecordWritten_marks hr
    exact yields_when rfl ha ⟨hseq, hdep, haccord, doFlashRecordWritten_ack hr⟩
  · obtain ⟨hcounters, hvm, hdue⟩ := skipSector_frame s
    refine yields_when rfl ha ?_
    rw [doFlashRecordWritten_failed hr]
    exact ⟨hdue.trans hr, hcounters, hvm⟩
  · obtain ⟨hsalt, hok, howners, hnew, hwrapped, hserial⟩ := doNewSalt_spec s
    refine yields_when rfl ?_ ⟨hsalt, hok, howners, hnew, hwrapped, hserial⟩
    simp [ha, hb, hg, hc, hs, h6, hd]
  · exact ⟨_, rfl, held_doInterlockHoldExpiry hf⟩
  · obtain ⟨hsalt, hmac, hpairs, hstep, hsys⟩ := doSaltEraseDone_spec s
    exact yields_when rfl (by simp [hz, h1]) ⟨hsalt, hmac, hpairs, hstep, by rw [hsys, hz]⟩
  · exact yields_when rfl (by simp [hz, h2]) ⟨rfl, rfl, rfl, hz⟩
  · exact yields_when rfl (by simp [hz, h1]) ⟨dieIn_or_dieBit ⟨hk1, hk7⟩, by simp⟩

end Sys2Proof.Machine
end


section
namespace Sys2Proof.Machine

/-! ### What the checks of a root read (R134, R235, R244)

The check of a root and what is derived from it read the keys and the owners. A waiting item that has left the list changes
neither. -/

theorem slotOf_congr {s t : State} (h : t.keys = s.keys) (i : Nat) : slotOf t i = slotOf s i := by
  rw [slotOf, slotOf, h]

theorem failSlot_keys_congr {s t : State} (h : t.keys = s.keys) (i : Nat) : (failSlot i t).keys = (failSlot i s).keys := by
  simp only [failSlot, slotOf_congr h]
  split
  · exact h
  · simp only [noteCheckFail, event_frame, setSlot, slotCheck, slotOf_congr h, h]

theorem checkSlot_keys_congr {s t : State} (h : t.keys = s.keys) (i : Nat) : (checkSlot i t).keys = (checkSlot i s).keys := by
  have hsound : slotSound t i = slotSound s i := slotSound_congr (slotOf_congr h i) (by rw [slotOf_congr h])
  simp only [checkSlot, hsound]
  split
  · exact h
  · exact failSlot_keys_congr h i

section
variable {s t : State} (hk : t.keys = s.keys) (ho : t.adm.owners = s.adm.owners)
include hk ho

theorem rootAt_congr (o seq : Nat) : rootAt t o seq = rootAt s o seq := by
  simp only [rootAt, slotOf_congr hk, ownerOf_congr ho, hk]

theorem checkRoot_keys_congr (o seq : Nat) : (checkRoot o seq t).keys = (checkRoot o seq s).keys := by
  simp only [checkRoot, rootAt_congr hk ho]
  split
  · exact checkSlot_keys_congr hk _
  · exact hk

theorem rootFor_congr (o seq terminal : Nat) : rootFor t o seq terminal = rootFor s o seq terminal := by
  simp only [rootFor, rootAt_congr hk ho, ownerLocked, hk]
  rfl

theorem authPre_congr (o seq srcLen lmax : Nat) (isClaim : Bool) (term : Option Terminal) (r : Bytes) :
    authPre t o seq srcLen lmax isClaim term r = authPre s o seq srcLen lmax isClaim term r := by
  simp only [authPre, rootFor_congr hk ho]

theorem authGcm_congr (o seq : Nat) (r : Bytes) : authGcm t o seq r = authGcm s o seq r := by
  simp only [authGcm, wagerClause, rootFor_congr hk ho, rootAt_congr hk ho]

end

/-! ### The checks of a CLAIM record (R134, R200) -/

/-- The state after the root's check. -/
abbrev claimChecked (w : Work) (o : Nat) (s : State) : State := checkRoot o ((w.stamp.map (·.seq)).getD 0) s

theorem claimAuth_fst (w : Work) (o die : Nat) (s : State) : (claimAuth w o die s).1
    = (authPre (claimChecked w o s) o ((w.stamp.map (·.seq)).getD 0) (dSrcLen w.desc) 64 true
        (terminalOf (claimChecked w o s) o (hTerminal w.src)) w.src).or
      (if (authGcm (claimChecked w o s) o ((w.stamp.map (·.seq)).getD 0) w.src).2 then none else some (.authFail, 0x0001)) := by
  simp only [claimAuth]
  split
  next h => rw [h, Option.some_or]
  next h => rw [h, Option.none_or]

theorem claimAuth_congr {s t : State} (hk : t.keys = s.keys) (ho : t.adm.owners = s.adm.owners) (hv : t.vm = s.vm) (w : Work)
    (o die : Nat) : (claimAuth w o die t).1 = (claimAuth w o die s).1 := by
  have hkeys : (claimChecked w o t).keys = (claimChecked w o s).keys := checkRoot_keys_congr hk ho _ _
  have howners : (claimChecked w o t).adm.owners = (claimChecked w o s).adm.owners := by simpa using ho
  have hterm : terminalOf (claimChecked w o t) o (hTerminal w.src) = terminalOf (claimChecked w o s) o (hTerminal w.src) := by
    simp [terminalOf, hv]
  rw [claimAuth_fst, claimAuth_fst, authPre_congr hkeys howners, authGcm_congr hkeys howners, hterm]

theorem cacheLookup_outside (die owner seq : Nat) (r : Bytes) (s : State) : (cacheLookup die owner seq r s).link = s.link
    ∧ (cacheLookup die owner seq r s).otp = s.otp ∧ (cacheLookup die owner seq r s).clk = s.clk := by
  simp only [cacheLookup, makeRoom]
  split_ifs <;> simp

/-- The checks change keys, caches and counters; what a claim then reads is as it was. -/
theorem claimAuth_frame (w : Work) (o die : Nat) (s : State) : (claimAuth w o die s).2.rings = s.rings
    ∧ (claimAuth w o die s).2.link = s.link ∧ (claimAuth w o die s).2.adm = s.adm ∧ (claimAuth w o die s).2.vm = s.vm
    ∧ (claimAuth w o die s).2.otp = s.otp := by
  simp only [claimAuth]
  split
  · simp
  · simp [cacheLookup_frame, cacheLookup_engVm, cacheLookup_outside]

/-! ### A sealed item ends (R59, R163) -/

section
variable {w : Work} {l : Leaf} {replay out : Bytes} {s : State}

theorem finishSealed_stamped {st : Stamp} (h : w.stamp = some st) :
    finishSealed w l replay out s = finish w l.status l.reason out (sealLeaf st l replay s) := by
  simp only [finishSealed, h]

variable {st : Stamp} (hst : w.stamp = some st)
include hst

theorem finishSealed_sealed : Sealed (finishSealed w l replay out s) st l := by
  rw [finishSealed_stamped hst, Sealed, (finish_frame ..).2.2.2.2.2.2.1]
  exact sealLeaf_sealed st l replay s

theorem finishSealed_adm : (finishSealed w l replay out s).adm.work = s.adm.work
    ∧ (finishSealed w l replay out s).adm.nextSeq = s.adm.nextSeq := by
  simp [finishSealed_stamped hst]

variable (ht : ringTakes (ringOf s w.ring) w.gen = true)
include ht

theorem finishSealed_completed : Completed (finishSealed w l replay out s) w l.status l.reason w.stamp := by
  rw [finishSealed_stamped hst]
  exact finish_completed _ _ _ (by rwa [ringOf_congr (s := s) (by simp)])

theorem finishSealed_wrote : Wrote s (finishSealed w l replay out s) w out := by
  rw [finishSealed_stamped hst]
  have htakes : ringTakes (ringOf (sealLeaf st l replay s) w.ring) w.gen = true := by rwa [ringOf_congr (s := s) (by simp)]
  exact (finish_wrote l.status l.reason out htakes).congr (by simp) (by simp)

end

/-- The command of an item that has its number changes the state to u, in which the item is sealed and ends. -/
theorem endsWork_sealed {c : Instr} {s u : State} {id : WorkId} {op : Nat} {w : Work} {body : Work → State → State}
    {l : Leaf} {st : Stamp} {replay out : Bytes} {P : State → Prop} (he : exec c s = .next (withWork id op body s))
    (h : Waits s id op w) (hst : w.stamp = some st) (hb : body w (taken w s) = finishSealed w l replay out u)
    (hr : u.rings = s.rings) (hl : u.link = s.link) (ha : u.adm.work = (taken w s).adm.work)
    (hp : P (finishSealed w l replay out u)) :
    EndsWork c s w l.status l.reason out fun t => Sealed t st l ∧ P t := by
  have htakes : ringTakes (ringOf u w.ring) w.gen = true := by rw [ringOf_congr hr]; exact h.2.2.2
  refine yields_work he h (hb ▸ ⟨finishSealed_completed hst htakes, (finishSealed_wrote hst htakes).congr hr hl, ?_,
    finishSealed_sealed hst, hp⟩)
  rw [(finishSealed_adm hst).1, ha]
  exact not_mem_taken w s

/-! ### A claim is decided (R201) -/

theorem claimVerdict_eq {k : Ticket} (hp : k.pending = false) (n : W64) (payer : Nat) :
    (k.state = 2 → claimVerdict (some k) n payer = (.ok, 0, some { k with state := 3, data := n, payer := payer }))
    ∧ (k.state = 3 → claimVerdict (some k) n payer = (.alreadyPaid, 0, some k))
    ∧ (k.state = 0 → claimVerdict (some k) n payer = (.sealedReject, 0xFF10, some k))
    ∧ (k.state = 1 → claimVerdict (some k) n payer = (.sealedReject, 0xFF11, some k))
    ∧ (k.state = 4 → claimVerdict (some k) n payer = (.sealedReject, 0xFF12, some k)) := by
  refine ⟨fun h => ?_, fun h => ?_, fun h => ?_, fun h => ?_, fun h => ?_⟩
  all_goals simp only [claimVerdict, hp, h, Bool.false_eq_true, if_false]

/-- The terminal record that a claim's nonce advance writes. -/
def claimTerminal (o : Nat) (r : Bytes) : Terminal := { owner := o, id := hTerminal r, tense := hTense r, ctr := hCtr r }

theorem stageNonce_advances {o : Nat} {r : Bytes} {s : State} (ha : nonceAdvances s o (hTerminal r) (hTense r) (hCtr r) = true)
    (ht : (terminalOf s o (hTerminal r)).isSome = true) : stageNonce o r s = (none, putTerminal (claimTerminal o r) s) := by
  have hheld : (terminalOf s o (hTerminal r)).isNone = false := Option.isNone_eq_false_iff.2 ht
  simp [stageNonce, ha, hheld, claimTerminal]

theorem ticketOf_name {s : State} {o i seq : Nat} {k : Ticket} (h : ticketOf s o i seq = some k) :
    k.owner = o ∧ k.issuer = i ∧ k.seq = seq := by
  have hname : (k.owner = o ∧ k.issuer = i) ∧ k.seq = seq := by simpa using List.find?_some h
  exact ⟨hname.1.1, hname.1.2, hname.2⟩

/-- A ticket that is held and put with other fields is found with them, in the bucket that it has. -/
theorem ticketOf_putTicket_held {s : State} {o i seq : Nat} {k x : Ticket} (h : ticketOf s o i seq = some k)
    (hx : x.owner = k.owner ∧ x.issuer = k.issuer ∧ x.seq = k.seq ∧ x.bucket = k.bucket) :
    ticketOf (putTicket x s) o i seq = some x := by
  obtain ⟨ho, hi, hq⟩ := ticketOf_name h
  obtain ⟨xo, xi, xq, xb⟩ := hx
  obtain ⟨b, hb, hheld⟩ := ticketOf_putTicket x s
  have hnamed (v : State) : ticketOf v x.owner x.issuer x.seq = ticketOf v o i seq := by rw [xo, xi, xq, ho, hi, hq]
  rw [← hnamed, hb, hheld k ((hnamed s).trans h), ← xb]

/-- A claim's verdict is applied to its ticket, which only a payment changes. -/
def paidTicket (x : Status) (k : Ticket) (s : State) : State :=
  match x with
  | .ok => putTicket k s
  | _ => s

section
variable {w : Work} {o i die d : Nat} {x : Status} {k k' : Ticket} {s : State}

/-- The set of a claim on a ticket that is held: the nonce advance and the payment. -/
def claimSet (w : Work) (o : Nat) (x : Status) (k' : Ticket) (s : State) : State :=
  bump 0x09 [0] o 1 (commitSet s (paidTicket x k' (putTerminal (claimTerminal o w.src) s)))

theorem claimSet_frame : (claimSet w o x k' s).rings = s.rings ∧ (claimSet w o x k' s).link = s.link
    ∧ (claimSet w o x k' s).adm = s.adm := by
  have hterm : (putTerminal (claimTerminal o w.src) s).rings = s.rings ∧ (putTerminal (claimTerminal o w.src) s).link = s.link
      ∧ (putTerminal (claimTerminal o w.src) s).adm = s.adm := by
    unfold putTerminal
    extract_lets same
    split <;> exact ⟨rfl, rfl, rfl⟩
  have hticket (u : State) : (paidTicket x k' u).rings = u.rings ∧ (paidTicket x k' u).link = u.link
      ∧ (paidTicket x k' u).adm = u.adm := by
    unfold paidTicket putTicket
    split
    · extract_lets same
      split <;> exact ⟨rfl, rfl, rfl⟩
    · exact ⟨rfl, rfl, rfl⟩
  simp only [claimSet, bump_frame, commitSet, syncVault, hticket, hterm, and_self]

theorem claimLocal_decided (ha : nonceAdvances s o (hTerminal w.src) (hTense w.src) (hCtr w.src) = true)
    (ht : (terminalOf s o (hTerminal w.src)).isSome = true) (hk : ticketOf s o i (claimSeq w.src) = some k)
    (hv : claimVerdict (some k) (BitVec.ofNat 64 ((w.stamp.map (·.seq)).getD 0)) 0xFFFF = (x, d, some k')) :
    ∃ replay, claimLocal w o i die s = finishSealed w (queryLeaf w.ring o w.desc (claimDev w.src) (claimSeq w.src) x d die)
      replay (ticketBytes k') (claimSet w o x k' s) := by
  have hheld : ticketOf (putTerminal (claimTerminal o w.src) s) o i (claimSeq w.src) = some k :=
    (ticketOf_congr (putTerminal_countersOnly ..).tickets ..).trans hk
  simp only [claimLocal, stageNonce_advances ha ht, hheld, hv]
  cases x <;> exact ⟨_, rfl⟩

/-- The verdict pays the ticket, or leaves it as it is. -/
def PaysOrKeeps (x : Status) (k k' : Ticket) : Prop :=
  (x = .ok ∧ k'.owner = k.owner ∧ k'.issuer = k.issuer ∧ k'.seq = k.seq ∧ k'.bucket = k.bucket) ∨ (x ≠ .ok ∧ k' = k)

theorem paidTicket_kept (hx : x ≠ .ok) : paidTicket x k' s = s := by
  unfold paidTicket
  split
  · exact absurd rfl hx
  · rfl

theorem paidTicket_terminals : (paidTicket x k' s).vm.terminals = s.vm.terminals := by
  by_cases hx : x = .ok
  · subst hx
    exact putTicket_terminals ..
  · rw [paidTicket_kept hx]

/-- After the set the ticket is as the verdict has it, and the terminal has its new values. -/
theorem claimSet_records (hk : ticketOf s o i (claimSeq w.src) = some k) (hx : PaysOrKeeps x k k') :
    ticketOf (claimSet w o x k' s) o i (claimSeq w.src) = some k'
    ∧ (terminalOf (claimSet w o x k' s) o (hTerminal w.src)).map terminalBytes
      = some (terminalBytes (claimTerminal o w.src)) := by
  have hset := commitSet_applied o s (paidTicket x k' (putTerminal (claimTerminal o w.src) s))
  have hheld : ticketOf (putTerminal (claimTerminal o w.src) s) o i (claimSeq w.src) = some k :=
    (ticketOf_congr (putTerminal_countersOnly ..).tickets ..).trans hk
  constructor
  · rw [claimSet, ticketOf_congr hset.tickets]
    rcases hx with ⟨rfl, hname⟩ | ⟨hx, rfl⟩
    · exact ticketOf_putTicket_held hheld hname
    · rw [paidTicket_kept hx, hheld]
  · rw [terminalOf, claimSet, hset.terminals, paidTicket_terminals]
    exact terminalOf_putTerminal (claimTerminal o w.src) s

end

section
variable {s : State} {id : WorkId} {w : Work} {st : Stamp}

theorem placeDie_taken (o x : Nat) : placeDie (taken w s) o x = placeDie s o x := rfl

/-- A claim on a ticket of an issuer that this device knows, whose record passes the checks, is decided here. -/
theorem doClaim_local {o i : Nat} (ho : w.func s = o) (hc : closeWork s = false) (hs : s.vm.stopped = false)
    (ha : (claimAuth w o (placeDie s o (hTerminal w.src)) s).1 = none) (hi : issuerIndex s o (claimDev w.src) = some i) :
    doClaim w s = claimLocal w o i (placeDie s o (hTerminal w.src))
      (claimAuth w o (placeDie s o (hTerminal w.src)) s).2 := by
  obtain ⟨-, -, -, hvm, hotp⟩ := claimAuth_frame w o (placeDie s o (hTerminal w.src)) s
  have hindex : issuerIndex (claimAuth w o (placeDie s o (hTerminal w.src)) s).2 o (claimDev w.src) = some i := by
    rw [← hi]
    simp only [issuerIndex, hvm, hotp]
  simp only [doClaim, ho, hc, hs, Bool.false_eq_true, if_false]
  generalize claimAuth w o (placeDie s o (hTerminal w.src)) s = a at ha hindex ⊢
  obtain ⟨f, u⟩ := a
  simp only at ha hindex ⊢
  simp only [ha, hindex]

/-- A claim whose ticket, terminal and issuer are held here ends with the verdict on its ticket. -/
theorem claim_ends {i d : Nat} {x : Status} {k k' : Ticket} (h : Waits s id 0x10 w) (hst : w.stamp = some st)
    (hs : s.vm.stopped = false) (ha : (claimAuth w (w.func s) (placeDie s (w.func s) (hTerminal w.src)) s).1 = none)
    (hn : nonceAdvances s (w.func s) (hTerminal w.src) (hTense w.src) (hCtr w.src) = true)
    (ht : (terminalOf s (w.func s) (hTerminal w.src)).isSome = true) (hi : issuerIndex s (w.func s) (claimDev w.src) = some i)
    (hk : ticketOf s (w.func s) i (claimSeq w.src) = some k)
    (hv : claimVerdict (some k) (BitVec.ofNat 64 st.seq) 0xFFFF = (x, d, some k')) (hx : PaysOrKeeps x k k') :
    EndsWork (.claim id) s w x d (ticketBytes k') fun t =>
      Sealed t st (queryLeaf w.ring (w.func s) w.desc (claimDev w.src) (claimSeq w.src) x d
        (placeDie s (w.func s) (hTerminal w.src)))
      ∧ ticketOf t (w.func s) i (claimSeq w.src) = some k'
      ∧ (terminalOf t (w.func s) (hTerminal w.src)).map terminalBytes
        = some (terminalBytes (claimTerminal (w.func s) w.src)) := by
  have ⟨_, hopen, _, _⟩ := h
  have hauth : (claimAuth w (w.func s) (placeDie s (w.func s) (hTerminal w.src)) (taken w s)).1 = none :=
    (claimAuth_congr (s := s) (t := taken w s) rfl rfl rfl w _ _).trans ha
  obtain ⟨hrings, hlink, hadm, hvm, -⟩ := claimAuth_frame w (w.func s) (placeDie s (w.func s) (hTerminal w.src)) (taken w s)
  have hbody := doClaim_local (s := taken w s) (w := w) (func_taken ..) hopen hs hauth hi
  rw [placeDie_taken] at hbody
  generalize (claimAuth w (w.func s) (placeDie s (w.func s) (hTerminal w.src)) (taken w s)).2 = u at hrings hlink hadm hvm hbody
  have hterm : terminalOf u (w.func s) (hTerminal w.src) = terminalOf s (w.func s) (hTerminal w.src) := by
    rw [terminalOf, hvm]; rfl
  have hticket : ticketOf u (w.func s) i (claimSeq w.src) = some k := (ticketOf_congr (congrArg Vm.tickets hvm) ..).trans hk
  have hadvances : nonceAdvances u (w.func s) (hTerminal w.src) (hTense w.src) (hCtr w.src) = true := by
    rw [← hn]
    simp only [nonceAdvances, hterm]
  have hheld : (terminalOf u (w.func s) (hTerminal w.src)).isSome = true := hterm ▸ ht
  have hstamp : (w.stamp.map (·.seq)).getD 0 = st.seq := by rw [hst]; rfl
  obtain ⟨replay, hlocal⟩ := claimLocal_decided (die := placeDie s (w.func s) (hTerminal w.src)) hadvances hheld hticket
    (hstamp ▸ hv)
  obtain ⟨srings, slink, sadm⟩ := claimSet_frame (w := w) (o := w.func s) (x := x) (k' := k') (s := u)
  refine endsWork_sealed rfl h hst (hbody.trans hlocal) (srings.trans hrings) (slink.trans hlink)
    (congrArg Adm.work (sadm.trans hadm)) ?_
  simp only [ticketOf, terminalOf, finishSealed_frame]
  exact claimSet_records hticket hx

end

/-- Settles O8: every state of the ticket has its verdict (`claimVerdict_eq`), and the claim ends with it (`claim_ends`): only
WON_UNPAID is paid. -/
theorem claimPaysOnce : Obligations.ClaimPaysOnce := by
  unfold Obligations.ClaimPaysOnce
  intro s id w st i k o seq h hst hs ha hn ht hi hk hp leaf ends
  obtain ⟨hwon, hpaid, hsold, hlost, hvoid⟩ := claimVerdict_eq hp (BitVec.ofNat 64 st.seq) 0xFFFF
  have hends {x : Status} {d : Nat} {k' : Ticket}
      (hv : claimVerdict (some k) (BitVec.ofNat 64 st.seq) 0xFFFF = (x, d, some k')) (hx : PaysOrKeeps x k k') : ends x d k' :=
    claim_ends h hst hs ha hn ht hi hk hv hx
  exact ⟨fun hstate => hends (hwon hstate) (.inl ⟨rfl, rfl, rfl, rfl, rfl⟩),
    fun hstate => hends (hpaid hstate) (.inr ⟨by decide, rfl⟩), fun hstate => hends (hsold hstate) (.inr ⟨by decide, rfl⟩),
    fun hstate => hends (hlost hstate) (.inr ⟨by decide, rfl⟩), fun hstate => hends (hvoid hstate) (.inr ⟨by decide, rfl⟩)⟩

end Sys2Proof.Machine
end


section
namespace Sys2Proof.Machine

/-! ### What the journal changes of an owner (R51, R166, R210)

Sealing a leaf moves entries through the owner's journal. Every field that is not of the journal stays. -/

/-- The owner w after journal steps, of which v has the journal's fields. -/
def journalled (w v : Owner) : Owner := { w with
  blockNo := v.blockNo, blockPrev := v.blockPrev, pos := v.pos, posPrev := v.posPrev, blockOpen := v.blockOpen
  waiting := v.waiting, closed := v.closed, backlogFull := v.backlogFull }

/-- Of every owner only the journal has changed. -/
structure JournalMoves (s t : State) : Prop where
  owner : ∀ o, ownerOf t o = journalled (ownerOf s o) (ownerOf t o)

theorem JournalMoves.of_eq {s t : State} (h : t.adm.owners = s.adm.owners) : JournalMoves s t := ⟨fun o => by
  rw [ownerOf_congr h]
  rfl⟩

theorem JournalMoves.trans {s t u : State} (h : JournalMoves s t) (k : JournalMoves t u) : JournalMoves s u := ⟨fun o => by
  rw [k.owner o, h.owner o]
  rfl⟩

theorem mapOwner_journalMoves {f : Owner → Owner} (o : Nat) (s : State)
    (hf : ∀ w, f w = journalled w (f w) := by intro; rfl) : JournalMoves s (mapOwner o f s) := by
  refine ⟨fun p => ?_⟩
  by_cases e : p = o
  · subst e
    rw [ownerOf_mapOwner_same]
    exact hf _
  · rw [mapOwner, ownerOf_setOwner_other _ _ e]
    rfl

theorem closeBlock_journalMoves (o : Nat) (s : State) : JournalMoves s (closeBlock o s) := by
  unfold closeBlock
  dsimp only
  split
  · exact .of_eq rfl
  · refine .trans (.of_eq ?_) (mapOwner_journalMoves ..)
    repeat' split
    all_goals simp

theorem addEntry_journalMoves (o : Nat) (e : JEntry) (s : State) : JournalMoves s (addEntry o e s) := by
  simp only [addEntry]
  refine .trans ?_ (mapOwner_journalMoves ..)
  split
  · exact closeBlock_journalMoves o s
  · exact .of_eq rfl

theorem flushJournal_journalMoves (o : Nat) (s : State) : JournalMoves s (flushJournal o s) :=
  foldl_keeps (JournalMoves s) _ (fun st e h => h.trans (addEntry_journalMoves o e st)) _ _ (mapOwner_journalMoves ..)

theorem event_journalMoves (code owner : Nat) (args : List (Nat × Nat)) (s : State) :
    JournalMoves s (event code owner args s) := .of_eq (by simp)

theorem backlogCheck_journalMoves (o : Nat) (s : State) : JournalMoves s (backlogCheck o s) := by
  simp only [backlogCheck]
  split_ifs
  · exact (mapOwner_journalMoves ..).trans (event_journalMoves ..)
  · exact mapOwner_journalMoves ..
  · exact .of_eq rfl

theorem sealLeaf_journalMoves (st : Stamp) (l : Leaf) (replay : Bytes) (s : State) : JournalMoves s (sealLeaf st l replay s) := by
  simp only [sealLeaf]
  refine .trans (.trans (.trans ?_ (mapOwner_journalMoves ..)) (flushJournal_journalMoves ..)) (backlogCheck_journalMoves ..)
  split <;> exact .of_eq (by simp)

theorem sealLeaf_cmdCtr (st : Stamp) (l : Leaf) (replay : Bytes) (s : State) (o : Nat) :
    (ownerOf (sealLeaf st l replay s) o).cmdCtr = (ownerOf s o).cmdCtr := by
  rw [(sealLeaf_journalMoves st l replay s).owner o]
  rfl

/-! ### The checks of an owner-tagged body (R101, R235) -/

theorem bodyCheck_congr {s t : State} (hk : t.keys = s.keys) (ho : t.adm.owners = s.adm.owners)
    (hq : t.adm.nextSeq = s.adm.nextSeq) (hd : t.otp = s.otp) (o verb op : Nat) (rsv : Bool) (b : Bytes) :
    bodyCheck t o verb rsv b op = bodyCheck s o verb rsv b op := by
  have hkey : bodyKey t o verb = bodyKey s o verb := by
    simp only [bodyKey, rootAt_congr hk ho, ownerLocked, hq, hk, hd]
    rfl
  simp only [bodyCheck, hkey, ownerOf_congr ho]

theorem takeBody_taken (w : Work) (s : State) (o verb op : Nat) (rsv : Bool) (b : Bytes) :
    (takeBody o verb rsv b op (taken w s)).1 = (takeBody o verb rsv b op s).1 := by
  have hkeys : (checkRoot o s.adm.nextSeq (taken w s)).keys = (checkRoot o s.adm.nextSeq s).keys :=
    checkRoot_keys_congr (s := s) (t := taken w s) rfl rfl _ _
  exact bodyCheck_congr hkeys (by simp [taken]) (by simp [taken]) (by simp [taken]) o verb op rsv b

/-- The checks of a body leave vault memory, the open departure, the link and the clock as they are. -/
theorem takeBody_frame (o verb op : Nat) (rsv : Bool) (b : Bytes) (s : State) : (takeBody o verb rsv b op s).2.vm = s.vm
    ∧ (takeBody o verb rsv b op s).2.dep = s.dep ∧ (takeBody o verb rsv b op s).2.link = s.link
    ∧ (takeBody o verb rsv b op s).2.clk = s.clk := by
  have huse (u : State) (c : Bool) : (if c then useRoot o s.adm.nextSeq u else u).vm = u.vm
      ∧ (if c then useRoot o s.adm.nextSeq u else u).dep = u.dep ∧ (if c then useRoot o s.adm.nextSeq u else u).link = u.link
      ∧ (if c then useRoot o s.adm.nextSeq u else u).clk = u.clk := by split <;> simp
  simp only [takeBody]
  split <;> simp [huse]

/-- The item with the number that its command takes. -/
def numberedWork (w : Work) (s : State) : Work := { w with stamp := some (nextStamp s) }

/-- What the body of an owner-tagged command meets. -/
structure BodyRuns (o ctr : Nat) (w : Work) (s u : State) : Prop where
  rings : u.rings = s.rings
  link : u.link = s.link
  vm : u.vm = s.vm
  dep : u.dep = s.dep
  work : u.adm.work = (taken w s).adm.work
  nextSeq : u.adm.nextSeq = s.adm.nextSeq + 1
  games : u.adm.games = s.adm.games
  owners : u.adm.owners = (counterMoved o ctr s).adm.owners

section
variable {s : State} {w : Work} {o verb op ctr : Nat} {rsv : Bool}
  (hc : (takeBody o verb rsv w.src op s).1 = .good ctr)
include hc

theorem bodyState_runs : BodyRuns o ctr w s (bodyState o verb op rsv w (taken w s)) := by
  have htaken := (takeBody_taken w s o verb op rsv w.src).trans hc
  obtain ⟨hadm, -⟩ := takeBody_moves htaken
  obtain ⟨hrings, howners, hgames, -⟩ := bodyState_frame htaken
  obtain ⟨hvm, hdep, hlink, -⟩ := takeBody_frame o verb op rsv w.src (taken w s)
  have hwork := congrArg Adm.work hadm
  have hseq := congrArg (fun a : Adm => a.nextSeq + 1) hadm
  refine ⟨hrings, ?_, ?_, ?_, hwork, hseq, hgames, howners⟩
  all_goals simp only [bodyState, stampWork_frame]
  exacts [hlink, hvm, hdep]

theorem stampWork_body : (stampWork w o (takeBody o verb rsv w.src op (taken w s)).2).1 = numberedWork w s := by
  have htaken := (takeBody_taken w s o verb op rsv w.src).trans hc
  obtain ⟨hadm, -⟩ := takeBody_moves htaken
  obtain ⟨-, hdep, -, hclk⟩ := takeBody_frame o verb op rsv w.src (taken w s)
  have hstamp : nextStamp (takeBody o verb rsv w.src op (taken w s)).2 = nextStamp s := by
    simp only [nextStamp, hadm, hdep, hclk]
    rfl
  exact congrArg (fun x => { w with stamp := some x }) hstamp

/-- An owner-tagged command whose body passes runs it with the next number, and seals and ends the item. -/
theorem ownerTagged_runs {leaf : Status → Nat → Leaf} {body : Work → State → (Status × Nat × Bytes × Bytes) × State}
    {st : Status} {d : Nat} {out rb : Bytes} {u : State} (hop : dOp w.desc = op) (ho : w.func s = o) (hclose : closeWork s = false)
    (hb : body (numberedWork w s) (bodyState o verb op rsv w (taken w s)) = ((st, d, out, rb), u)) :
    ownerTagged w verb rsv false leaf body (taken w s) = finishSealed (numberedWork w s) (leaf st d) rb out u := by
  have hopen : closeWork (taken w s) = false := hclose
  have htaken := (takeBody_taken w s o verb op rsv w.src).trans hc
  have hstamp := stampWork_body hc
  have hpair : stampWork w o (takeBody o verb rsv w.src op (taken w s)).2
      = (numberedWork w s, bodyState o verb op rsv w (taken w s)) := Prod.ext hstamp rfl
  simp only [ownerTagged, hopen, Bool.or_self, Bool.false_eq_true, if_false, func_taken, ho, hop, htaken, hpair, hb]

end

theorem finishSealed_cmdCtr {w : Work} {st : Stamp} {l : Leaf} {rb out : Bytes} {s : State} (h : w.stamp = some st) (o : Nat) :
    (ownerOf (finishSealed w l rb out s) o).cmdCtr = (ownerOf s o).cmdCtr := by
  have hadm : (finishSealed w l rb out s).adm = (sealLeaf st l rb s).adm := by simp [finishSealed_stamped h]
  rw [ownerOf_congr (congrArg Adm.owners hadm), sealLeaf_cmdCtr]

/-- The state u, in which a numbered item is sealed, follows s but for the command counter. -/
theorem sealsWork_finish {c : Instr} {s u t : State} {w : Work} {l : Leaf} {rb out : Bytes} {P : State → Prop}
    (he : exec c s = .next t) (ht : t = finishSealed (numberedWork w s) l rb out u) (hr : u.rings = s.rings)
    (hl : u.link = s.link) (hq : u.adm.nextSeq = s.adm.nextSeq + 1) (ha : u.adm.work = (taken w s).adm.work)
    (htakes : ringTakes (ringOf s w.ring) w.gen = true) (hp : P t) : SealsWork c s w l out P := by
  have hut : ringTakes (ringOf u (numberedWork w s).ring) (numberedWork w s).gen = true := by rwa [ringOf_congr hr]
  obtain ⟨hwork, hseq⟩ := finishSealed_adm (w := numberedWork w s) (l := l) (replay := rb) (out := out) (s := u) rfl
  refine ⟨t, he, ?_, ?_, ?_, ?_, ?_, hp⟩
  all_goals rw [ht]
  · exact finishSealed_completed (w := numberedWork w s) rfl hut
  · exact (finishSealed_wrote (w := numberedWork w s) rfl hut).congr hr hl
  · exact finishSealed_sealed rfl
  · rw [hseq, hq]
  · rw [hwork, ha]
    exact not_mem_taken w s

/-- An owner-tagged command whose body passes and runs as given: what its body leaves of vault memory is there, and the
command counter has moved. -/
theorem sealsWork_tagged {c : Instr} {s u : State} {id : WorkId} {w : Work} {op verb ctr d : Nat} {rsv : Bool} {st : Status}
    {out rb : Bytes} {leaf : Status → Nat → Leaf} {body : Work → State → (Status × Nat × Bytes × Bytes) × State}
    {run : Work → State → State} {P : State → Prop} (he : exec c s = .next (withSealedWork id op run s))
    (hrun : run w (taken w s) = ownerTagged w verb rsv false leaf body (taken w s)) (hn : canNumber s = true)
    (h : Waits s id op w) (hc : (takeBody (w.func s) verb rsv w.src op s).1 = .good ctr)
    (hb : body (numberedWork w s) (bodyState (w.func s) verb op rsv w (taken w s)) = ((st, d, out, rb), u))
    (hr : u.rings = s.rings) (hl : u.link = s.link) (ha : u.adm = (bodyState (w.func s) verb op rsv w (taken w s)).adm)
    (hp : ∀ t, t.vm = u.vm → (ownerOf t (w.func s)).cmdCtr = ctr → P t) : SealsWork c s w (leaf st d) out P := by
  have ⟨_, hopen, _, htakes⟩ := h
  have hbody := bodyState_runs (w := w) hc
  have hstate := ownerTagged_runs (leaf := leaf) hc h.opcode rfl hopen hb
  refine sealsWork_finish (he.trans (congrArg _ (withSealedWork_taken run hn h))) (hrun.trans hstate) hr hl
    (by rw [ha, hbody.nextSeq]) (by rw [ha, hbody.work]) htakes ?_
  rw [hrun, hstate]
  refine hp _ (by simp only [finishSealed_frame]) ?_
  rw [finishSealed_cmdCtr rfl, ownerOf_congr (ha ▸ hbody.owners), counterMoved, ownerOf_mapOwner_same]

/-! ### RESULT (R198, R199) -/

/-- The ticket as RESULT leaves it. -/
def resultTicket (dst amount : Nat) (k : Ticket) : Ticket :=
  { k with state := dst, amount := if dst = 2 then BitVec.ofNat 64 amount else k.amount }

section
variable {w : Work} {s : State} {k : Ticket} {o : Nat} (ho : w.func s = o)
  (hk : ticketOf s o ((rd w.src 8 8 / 16) % 16) (rd w.src 0 8) = some k) (hp : k.pending = false) (hg : k.game = rd w.src 24 4)
include ho hk hp hg

/-- RESULT of a ticket of the game, to a state that it may name. -/
theorem resultBody_eq (hd : rd w.src 8 8 % 8 = 2 ∨ rd w.src 8 8 % 8 = 4) : ∃ rb, resultBody w s =
    if resultAllowed k.state (rd w.src 8 8 % 8) then
      ((.ok, 0, ticketBytes (resultTicket (rd w.src 8 8 % 8) (rd w.src 16 8) k), rb),
        bump 0x09 [0] o 1 (commitSet s (putTicket (resultTicket (rd w.src 8 8 % 8) (rd w.src 16 8) k) s)))
    else ((.sealedReject, 0xFF04, ticketBytes k, rb), s) := by
  have hdst : (!(rd w.src 8 8 % 8 == 2 || rd w.src 8 8 % 8 == 4)) = false := by
    rcases hd with hd | hd <;> rw [hd] <;> rfl
  have hheld : ¬k.pending = true := by simp [hp]
  have hgame : ¬k.game ≠ rd w.src 24 4 := not_not.2 hg
  cases ha : resultAllowed k.state (rd w.src 8 8 % 8)
  all_goals
    simp only [resultBody, hdst, ho, hk, if_neg hheld, if_neg hgame, ha, Bool.not_true, Bool.not_false, Bool.false_eq_true,
      if_false, if_true]
    exact ⟨_, rfl⟩

end

theorem resultAllowed_iff (frm dst : Nat) :
    resultAllowed frm dst = true ↔ frm = 0 ∧ (dst = 2 ∨ dst = 4) ∨ frm = 2 ∧ dst = 4 := by
  simp [resultAllowed]

theorem putTicket_frame (x : Ticket) (s : State) :
    (putTicket x s).rings = s.rings ∧ (putTicket x s).link = s.link ∧ (putTicket x s).adm = s.adm := by
  unfold putTicket
  extract_lets same
  split <;> exact ⟨rfl, rfl, rfl⟩

theorem commitSet_frame (o : Nat) (before after : State) :
    (bump 0x09 [0] o 1 (commitSet before after)).rings = after.rings
    ∧ (bump 0x09 [0] o 1 (commitSet before after)).link = after.link
    ∧ (bump 0x09 [0] o 1 (commitSet before after)).adm = after.adm := by
  simp only [bump_frame]
  exact ⟨rfl, rfl, rfl⟩

/-- The state in which a numbered body runs reads the item's function as before. -/
theorem BodyRuns.func {o ctr : Nat} {w : Work} {s u : State} (h : BodyRuns o ctr w s u) :
    (numberedWork w s).func u = w.func s := by
  rw [Work.func, ringOf_congr h.rings]
  rfl

/-- The leaf of RESULT. -/
def resultLeaf (w : Work) (s : State) (st : Status) (d : Nat) : Leaf :=
  queryLeaf w.ring (w.func s) w.desc (issuerDevice s (w.func s) ((rd w.src 8 8 / 16) % 16)) (rd w.src 0 8) st d 0

section
variable {s : State} {id : WorkId} {w : Work} {ctr : Nat} {k : Ticket} (hn : canNumber s = true) (hs : s.vm.stopped = false)
  (h : Waits s id 0x12 w) (hc : (takeBody (w.func s) 0x0004 true w.src 0x12 s).1 = .good ctr)
  (hk : ticketOf s (w.func s) ((rd w.src 8 8 / 16) % 16) (rd w.src 0 8) = some k) (hp : k.pending = false)
  (hg : k.game = rd w.src 24 4)
include hn hs h hc hk hp hg

/-- RESULT to a state that R198 allows moves the ticket. -/
theorem result_moves (ha : resultAllowed k.state (rd w.src 8 8 % 8) = true) :
    SealsWork (.result id) s w (resultLeaf w s .ok 0) (ticketBytes (resultTicket (rd w.src 8 8 % 8) (rd w.src 16 8) k))
      fun t => ticketOf t (w.func s) k.issuer k.seq = some (resultTicket (rd w.src 8 8 % 8) (rd w.src 16 8) k)
        ∧ (ownerOf t (w.func s)).cmdCtr = ctr := by
  have hbody := bodyState_runs (w := w) hc
  generalize hB : bodyState (w.func s) 0x0004 0x12 true w (taken w s) = B at hbody
  have hheld : ticketOf B (w.func s) ((rd w.src 8 8 / 16) % 16) (rd w.src 0 8) = some k :=
    (ticketOf_congr (congrArg Vm.tickets hbody.vm) ..).trans hk
  have hdst : rd w.src 8 8 % 8 = 2 ∨ rd w.src 8 8 % 8 = 4 := by
    have := (resultAllowed_iff _ _).1 ha
    omega
  obtain ⟨rb, hrun⟩ := resultBody_eq (w := numberedWork w s) hbody.func hheld hp hg hdst
  obtain ⟨crings, clink, cadm⟩ := commitSet_frame (w.func s) B (putTicket (resultTicket (rd w.src 8 8 % 8) (rd w.src 16 8) k) B)
  obtain ⟨prings, plink, padm⟩ := putTicket_frame (resultTicket (rd w.src 8 8 % 8) (rd w.src 16 8) k) B
  refine sealsWork_tagged (leaf := resultLeaf w s) (body := resultBody) rfl (by rw [← hs]; rfl) hn h hc
    ((congrArg _ hB).trans (hrun.trans (if_pos ha))) (crings.trans (prings.trans hbody.rings))
    (clink.trans (plink.trans hbody.link)) ((cadm.trans padm).trans (congrArg State.adm hB).symm) fun t ht hctr => ⟨?_, hctr⟩
  obtain ⟨hko, hki, hkq⟩ := ticketOf_name hk
  rw [ticketOf_congr (congrArg Vm.tickets ht), ticketOf_congr (commitSet_applied ..).tickets, hki, hkq]
  exact ticketOf_putTicket_held hheld ⟨rfl, rfl, rfl, rfl⟩

/-- Any other move of RESULT is refused, and no ticket changes. -/
theorem result_refused (hd : rd w.src 8 8 % 8 = 2 ∨ rd w.src 8 8 % 8 = 4)
    (ha : resultAllowed k.state (rd w.src 8 8 % 8) = false) : SealsWork (.result id) s w (resultLeaf w s .sealedReject 0xFF04)
      (ticketBytes k) fun t => t.vm.tickets = s.vm.tickets := by
  have hbody := bodyState_runs (w := w) hc
  generalize hB : bodyState (w.func s) 0x0004 0x12 true w (taken w s) = B at hbody
  have hheld : ticketOf B (w.func s) ((rd w.src 8 8 / 16) % 16) (rd w.src 0 8) = some k :=
    (ticketOf_congr (congrArg Vm.tickets hbody.vm) ..).trans hk
  obtain ⟨rb, hrun⟩ := resultBody_eq (w := numberedWork w s) hbody.func hheld hp hg hd
  have hnot : ¬resultAllowed k.state (rd w.src 8 8 % 8) = true := by simp [ha]
  exact sealsWork_tagged (leaf := resultLeaf w s) (body := resultBody) rfl (by rw [← hs]; rfl) hn h hc
    ((congrArg _ hB).trans (hrun.trans (if_neg hnot))) hbody.rings hbody.link (congrArg State.adm hB).symm
    fun t ht _ => congrArg Vm.tickets (ht.trans hbody.vm)

end

/-! ### LIMIT_SET (R206) -/

theorem limitOf_name {s : State} {o n : Nat} {c : LimitCtr} (h : limitOf s o n = some c) : c.owner = o ∧ c.id = n := by
  simpa using List.find?_some h

/-- A counter that is held and put with other fields is found with them, in the bucket that it has. -/
theorem limitOf_putLimit_held {s : State} {o n : Nat} {c x : LimitCtr} (h : limitOf s o n = some c)
    (hx : x.owner = c.owner ∧ x.id = c.id ∧ x.bucket = c.bucket) : limitOf (putLimit x s) o n = some x := by
  obtain ⟨ho, hn⟩ := limitOf_name h
  obtain ⟨xo, xn, xb⟩ := hx
  have hname : x.owner = o ∧ x.id = n := ⟨xo.trans ho, xn.trans hn⟩
  have hput : (putLimit x s).vm.limits = x :: s.vm.limits.filter fun z => !(z.owner == x.owner && z.id == x.id) := by
    rw [limitOf, ← hname.1, ← hname.2] at h
    simp only [putLimit, h, ← xb]
  rw [limitOf, hput]
  exact List.find?_cons_of_pos (by simp [hname])

theorem putLimit_frame (x : LimitCtr) (s : State) :
    (putLimit x s).rings = s.rings ∧ (putLimit x s).link = s.link ∧ (putLimit x s).adm = s.adm := by
  unfold putLimit
  extract_lets same
  split <;> exact ⟨rfl, rfl, rfl⟩

/-- Whether a key's lines are bad depends on the areas and hash keys of the owners and on the lines that were found. -/
theorem keyBad_congr {s t : State} (hv : t.vm = s.vm)
    (ho : ∀ p, (ownerOf t p).parts = (ownerOf s p).parts ∧ (ownerOf t p).hashKeys = (ownerOf s p).hashKeys) (o area key : Nat) :
    keyBad t o area key = keyBad s o area key := by
  have hpart (p a : Nat) : partOf t p a = partOf s p a := by rw [partOf, (ho p).1, partOf]
  have hcandidates : areaCandidates t o area = areaCandidates s o area := by
    rw [areaCandidates, (ho o).2, hpart, areaCandidates]
  have hline (b : Nat) : lineAddr t o area b = lineAddr s o area b := by
    simp only [lineAddr, unitsBefore, hpart]
  simp only [keyBad, hv, hcandidates, hline]

theorem BodyRuns.keyBad {o ctr : Nat} {w : Work} {s u : State} (h : BodyRuns o ctr w s u) (p area key : Nat) :
    Machine.keyBad u p area key = Machine.keyBad s p area key := by
  refine keyBad_congr h.vm (fun q => ?_) p area key
  rw [ownerOf_congr h.owners]
  by_cases hq : q = o
  · subst hq
    rw [counterMoved, ownerOf_mapOwner_same]
    exact ⟨rfl, rfl⟩
  · rw [counterMoved, mapOwner, ownerOf_setOwner_other _ _ hq]
    exact ⟨rfl, rfl⟩

/-- LIMIT_SET of a counter that is held, with its window length, sets the limit. -/
theorem limitSetBody_held {w : Work} {s : State} {c : LimitCtr} {o : Nat} (ho : w.func s = o) (hid : rd w.src 0 8 ≠ 0)
    (hl : limitOf s o (rd w.src 0 8) = some c) (hw : c.wlenH = rd w.src 16 2)
    (hb : keyBad s o 1 (limitKey (rd w.src 0 8)) = false) : ∃ rb, limitSetBody w s =
      ((.ok, 0, limitBytes { c with limit := rd w.src 8 8 }, rb),
        bump 0x09 [0] o 1 (commitSet s (putLimit { c with limit := rd w.src 8 8 } s))) := by
  simp only [limitSetBody, ho, if_neg hid, hb, Bool.false_eq_true, if_false, hl, if_pos hw]
  exact ⟨_, rfl⟩

theorem limitSet_sets {s : State} {id : WorkId} {w : Work} {ctr : Nat} {c : LimitCtr} (hn : canNumber s = true)
    (h : Waits s id 0x15 w) (hc : (takeBody (w.func s) 0x0005 true w.src 0x15 s).1 = .good ctr) (hid : rd w.src 0 8 ≠ 0)
    (hl : limitOf s (w.func s) (rd w.src 0 8) = some c) (hw : c.wlenH = rd w.src 16 2)
    (hb : keyBad s (w.func s) 1 (limitKey (rd w.src 0 8)) = false) :
    SealsWork (.limitSet id) s w (queryLeaf w.ring (w.func s) w.desc 0 0 .ok 0 0) (limitBytes { c with limit := rd w.src 8 8 })
      fun t => limitOf t (w.func s) (rd w.src 0 8) = some { c with limit := rd w.src 8 8 }
        ∧ (ownerOf t (w.func s)).cmdCtr = ctr := by
  have hbody := bodyState_runs (w := w) hc
  generalize hB : bodyState (w.func s) 0x0005 0x15 true w (taken w s) = B at hbody
  have hheld : limitOf B (w.func s) (rd w.src 0 8) = some c := by rw [limitOf, hbody.vm]; exact hl
  obtain ⟨rb, hrun⟩ := limitSetBody_held (w := numberedWork w s) hbody.func hid hheld hw ((hbody.keyBad ..).trans hb)
  obtain ⟨crings, clink, cadm⟩ := commitSet_frame (w.func s) B (putLimit { c with limit := rd w.src 8 8 } B)
  obtain ⟨prings, plink, padm⟩ := putLimit_frame { c with limit := rd w.src 8 8 } B
  refine sealsWork_tagged (leaf := fun st d => queryLeaf w.ring (w.func s) w.desc 0 0 st d 0) (body := limitSetBody) rfl rfl hn h hc
    ((congrArg _ hB).trans hrun) (crings.trans (prings.trans hbody.rings)) (clink.trans (plink.trans hbody.link))
    ((cadm.trans padm).trans (congrArg State.adm hB).symm) fun t ht hctr => ⟨?_, hctr⟩
  rw [limitOf, congrArg Vm.limits ht, (commitSet_applied ..).limits]
  exact limitOf_putLimit_held hheld ⟨rfl, rfl, rfl⟩

/-! ### SWEEP (R207) -/

/-- A ticket of the game that is swept. -/
def sweepHits (o g : Nat) (x : Ticket) : Bool := x.owner == o && x.game == g && !x.pending

theorem sweepHits_iff {o g : Nat} {x : Ticket} : sweepHits o g x = true ↔ x.owner = o ∧ x.game = g ∧ x.pending = false := by
  simp [sweepHits, and_assoc]

/-- The tickets that a sweep leaves. -/
def sweptTickets (o g : Nat) (mode : BitVec 3) (l : List Ticket) : List Ticket :=
  l.filterMap fun x => if sweepHits o g x then sweepTicket mode x else some x

section
variable {o g : Nat} {mode : BitVec 3} {l : List Ticket} {x y : Ticket}

theorem sweptTickets_other (hx : x ∈ l) (hh : sweepHits o g x = false) : x ∈ sweptTickets o g mode l :=
  List.mem_filterMap.2 ⟨x, hx, by simp [hh]⟩

/-- A ticket of the game that is left comes from one of the list, as the mode leaves it. -/
theorem sweptTickets_hit (hy : y ∈ sweptTickets o g mode l) (hh : sweepHits o g y = true) :
    ∃ x, sweepTicket mode x = some y := by
  obtain ⟨x, -, hx⟩ := List.mem_filterMap.1 hy
  split at hx
  · exact ⟨x, hx⟩
  next hmiss => rw [Option.some.inj hx] at hmiss; exact absurd hh hmiss

/-- A swept ticket is void, or is as it was and the mode does not take its state. -/
theorem sweepTicket_cases (h : sweepTicket mode x = some y) : (y.state = 4 ∧ mode.getLsbD 1 = true)
    ∨ (y = x ∧ ¬(x.state = 0 ∧ mode.getLsbD 0 = true) ∧ ¬(x.state = 2 ∧ mode.getLsbD 1 = true)
      ∧ ¬((x.state = 1 ∨ x.state = 3 ∨ x.state = 4) ∧ mode.getLsbD 2 = true)) := by
  unfold sweepTicket at h
  split_ifs at h with h0 h1 h2
  · left
    rw [← Option.some.inj h]
    exact ⟨rfl, by simp at h1; exact h1.2⟩
  · right
    refine ⟨(Option.some.inj h).symm, ?_, ?_, ?_⟩
    · simpa using h0
    · simpa using h1
    · simpa [or_assoc] using h2

end

/-- The tickets of the game that SWEEP deletes and voids. -/
def sweepRecord (w : Work) (o : Nat) (st : Stamp) (s : State) : Sweep :=
  let g := rd w.src 0 4
  let mode := BitVec.ofNat 3 (rd w.src 8 8)
  { owner := o, game := g, mode := mode, atSeq := st.seq
    deleted := (s.vm.tickets.filter fun t => sweepHits o g t && (sweepTicket mode t).isNone).length
    voided := (s.vm.tickets.filter fun t => sweepHits o g t && t.state == 2 && mode.getLsbD 1).length, work := w }

/-- The state in which the sweep has taken effect and runs on. -/
def sweepStarted (w : Work) (o : Nat) (st : Stamp) (s : State) : State :=
  let t := bump 0x09 [0] o 1 (commitSet s { s with vm := { s.vm with
    tickets := sweptTickets o (rd w.src 0 4) (BitVec.ofNat 3 (rd w.src 8 8)) s.vm.tickets } })
  { t with vm := { t.vm with sweeps := sweepRecord w o st s :: t.vm.sweeps } }

theorem sweepStarted_frame (w : Work) (o : Nat) (st : Stamp) (s : State) : (sweepStarted w o st s).adm = s.adm
    ∧ (sweepStarted w o st s).vm.tickets = sweptTickets o (rd w.src 0 4) (BitVec.ofNat 3 (rd w.src 8 8)) s.vm.tickets
    ∧ sweepRecord w o st s ∈ (sweepStarted w o st s).vm.sweeps := by
  refine ⟨(commitSet_frame ..).2.2, ?_, List.mem_cons_self⟩
  exact (commitSet_applied ..).tickets

/-- SWEEP of a CLOSED game takes effect as it is admitted, and its leaf is sealed. -/
theorem doSweep_closed {s : State} {w : Work} {ctr : Nat} {g : Game} (h : closeWork s = false)
    (hs : s.vm.stopped = false) (hc : (takeBody (w.func s) 0x0006 true w.src 0x16 s).1 = .good ctr)
    (hg : findGame s (w.func s) (rd w.src 0 4) = some g) (hl : g.live = false) : ∃ rb, doSweep w (taken w s)
      = sealLeaf (nextStamp s) (queryLeaf w.ring (w.func s) w.desc 0 0 .ok 0 0) rb
        (sweepStarted (numberedWork w s) (w.func s) (nextStamp s) (bodyState (w.func s) 0x0006 0x16 true w (taken w s))) := by
  have hopen : closeWork (taken w s) = false := h
  have htaken := (takeBody_taken w s (w.func s) 0x0006 0x16 true w.src).trans hc
  have hbody := bodyState_runs (w := w) hc
  have hpair : stampWork w (w.func s) (takeBody (w.func s) 0x0006 true w.src 0x16 (taken w s)).2
      = (numberedWork w s, bodyState (w.func s) 0x0006 0x16 true w (taken w s)) := Prod.ext (stampWork_body hc) rfl
  generalize bodyState (w.func s) 0x0006 0x16 true w (taken w s) = B at hbody hpair ⊢
  have hgame : findGame B (w.func s) (rd (numberedWork w s).src 0 4) = some g := by
    rw [findGame, hbody.games]
    exact hg
  have hstop : B.vm.stopped = false := by rw [hbody.vm, hs]
  have hst : (numberedWork w s).stamp = some (nextStamp s) := rfl
  have hnot : ¬B.vm.stopped = true := by simp [hstop]
  simp only [doSweep, hopen, func_taken, htaken, hpair, hgame, if_neg hnot, hl, hst, Bool.false_eq_true, if_false]
  exact ⟨_, rfl⟩

/-- The sweep that is found among those of its game, once no earlier item is left, is the only one. -/
theorem doSweepEnd_ends {s : State} {o g : Nat} {x : Sweep}
    (hx : s.vm.sweeps.find? (fun y => y.owner == o && y.game == g) = some x)
    (hi : ∀ i ∈ s.adm.items, i.owner = o → x.atSeq ≤ i.seq) (hu : ∀ y ∈ s.vm.sweeps, y.owner = o → y.game = g → y = x) :
    doSweepEnd o g s = event 0x060D o [(4, g), (8, x.deleted), (8, x.voided)]
      (finish x.work .ok 0 (padTo 32 (le 8 x.deleted ++ le 8 x.voided))
        { s with vm := { s.vm with sweeps := s.vm.sweeps.filter fun y => y != x } }) := by
  have hname : x.owner = o ∧ x.game = g := by simpa using List.find?_some hx
  have hdone : ∀ i ∈ s.adm.items, (i.owner == o && decide (i.seq < x.atSeq)) = false := fun i hm => by
    by_cases hio : i.owner = o
    · simp [hi i hm hio]
    · simp [hio]
  have hready : (x.owner == o && x.game == g && !(s.adm.items.any fun i => i.owner == o && decide (i.seq < x.atSeq))) = true := by
    rw [List.any_eq_false.2 fun i hm => by simp [hdone i hm]]
    simp [hname]
  have hfound : s.vm.sweeps.find? (fun x => x.owner == o && x.game == g && !(s.adm.items.any fun i =>
      i.owner == o && decide (i.seq < x.atSeq))) = some x := by
    have hsome : (s.vm.sweeps.find? fun x => x.owner == o && x.game == g && !(s.adm.items.any fun i =>
        i.owner == o && decide (i.seq < x.atSeq))).isSome = true :=
      List.find?_isSome.2 ⟨x, List.mem_of_find?_eq_some hx, hready⟩
    obtain ⟨y, hy⟩ := Option.isSome_iff_exists.1 hsome
    have hyname := List.find?_some hy
    simp only [Bool.and_eq_true, beq_iff_eq] at hyname
    rw [hy, hu y (List.mem_of_find?_eq_some hy) hyname.1.1 hyname.1.2]
  simp only [doSweepEnd, hfound]

/-- What SWEEP of a CLOSED game leaves. -/
structure Swept (s t : State) (o ctr g : Nat) (mode : BitVec 3) : Prop where
  nextSeq : t.adm.nextSeq = s.adm.nextSeq + 1
  cmdCtr : (ownerOf t o).cmdCtr = ctr
  tickets : t.vm.tickets = sweptTickets o g mode s.vm.tickets
  runs : ∃ y ∈ t.vm.sweeps, y.owner = o ∧ y.game = g

/-- SWEEP of a CLOSED game is numbered, sweeps and seals its leaf. -/
theorem sweep_sweeps {s : State} {id : WorkId} {w : Work} {ctr : Nat} {g : Game} (hn : canNumber s = true)
    (hs : s.vm.stopped = false) (h : Waits s id 0x16 w) (hc : (takeBody (w.func s) 0x0006 true w.src 0x16 s).1 = .good ctr)
    (hg : findGame s (w.func s) (rd w.src 0 4) = some g) (hl : g.live = false) :
    Yields (.sweep id) s fun t => Sealed t (nextStamp s) (queryLeaf w.ring (w.func s) w.desc 0 0 .ok 0 0)
      ∧ Swept s t (w.func s) ctr (rd w.src 0 4) (BitVec.ofNat 3 (rd w.src 8 8)) := by
  have ⟨_, hopen, _, _⟩ := h
  have hbody := bodyState_runs (w := w) hc
  obtain ⟨rb, hrun⟩ := doSweep_closed hopen hs hc hg hl
  generalize bodyState (w.func s) 0x0006 0x16 true w (taken w s) = B at hbody hrun
  obtain ⟨hadm, htickets, hruns⟩ := sweepStarted_frame (numberedWork w s) (w.func s) (nextStamp s) B
  have hexec : exec (.sweep id) s = .next (withSealedWork id 0x16 doSweep s) := rfl
  rw [withSealedWork_taken doSweep hn h, hrun] at hexec
  refine ⟨_, hexec, sealLeaf_sealed .., ?_, ?_, ?_, ?_⟩
  · simp only [sealLeaf_keeps, hadm, hbody.nextSeq]
  · rw [sealLeaf_cmdCtr, ownerOf_congr (congrArg Adm.owners hadm), ownerOf_congr hbody.owners, counterMoved,
      ownerOf_mapOwner_same]
  · simp only [sealLeaf_frame]
    rw [htickets, hbody.vm]
    rfl
  · simp only [sealLeaf_frame]
    exact ⟨_, hruns, rfl, rfl⟩

section
variable {s t : State} {o ctr g : Nat} {mode : BitVec 3} (h : Swept s t o ctr g mode)
include h

theorem Swept.keeps_other : ∀ x ∈ s.vm.tickets, ¬(x.owner = o ∧ x.game = g ∧ x.pending = false) → x ∈ t.vm.tickets :=
  fun x hx hh => by
    rw [h.tickets]
    exact sweptTickets_other hx (Bool.eq_false_iff.2 fun he => hh (sweepHits_iff.1 he))

/-- A ticket of the game that is left is void under mode bit 1, or has a state that the mode does not take. -/
theorem Swept.left {x : Ticket} (hx : x ∈ t.vm.tickets) (hh : x.owner = o ∧ x.game = g ∧ x.pending = false) :
    (x.state = 4 ∧ mode.getLsbD 1 = true) ∨ (¬(x.state = 0 ∧ mode.getLsbD 0 = true) ∧ ¬(x.state = 2 ∧ mode.getLsbD 1 = true)
      ∧ ¬((x.state = 1 ∨ x.state = 3 ∨ x.state = 4) ∧ mode.getLsbD 2 = true)) := by
  rw [h.tickets] at hx
  obtain ⟨y, hy⟩ := sweptTickets_hit hx (sweepHits_iff.2 hh)
  refine (sweepTicket_cases hy).imp_right fun hkept => ?_
  obtain ⟨rfl, hstates⟩ := hkept
  exact hstates

end

/-- The sweep ends once every item admitted before it is gone: its item completes with the counts. -/
theorem sweepEnd_ends {s : State} {o g : Nat} {x : Sweep}
    (hx : s.vm.sweeps.find? (fun y => y.owner == o && y.game == g) = some x)
    (hi : ∀ i ∈ s.adm.items, i.owner = o → x.atSeq ≤ i.seq) (hu : ∀ y ∈ s.vm.sweeps, y.owner = o → y.game = g → y = x)
    (htakes : ringTakes (ringOf s x.work.ring) x.work.gen = true) :
    Yields (.sweepEnd o g) s fun t => Completed t x.work .ok 0 x.work.stamp ∧ x ∉ t.vm.sweeps
      ∧ Wrote s t x.work (padTo 32 (le 8 x.deleted ++ le 8 x.voided)) := by
  have hexec : exec (.sweepEnd o g) s = .next (doSweepEnd o g s) := rfl
  rw [doSweepEnd_ends hx hi hu] at hexec
  refine ⟨_, hexec, (finish_completed _ _ _ ?_).grows (event_grows ..), ?_,
    ((finish_wrote _ _ _ ?_).congr ?_ ?_).grows (event_grows ..)⟩
  · exact htakes
  · simp [finish_frame]
  · exact htakes
  · rfl
  · rfl

/-! ### TICKET_STATUS and LIMIT_STATUS (R188, R199) -/

/-- A status command ends its item and leaves all else as it is. -/
theorem statusEnds {c : Instr} {s : State} {id : WorkId} {op : Nat} {w : Work} {body : Work → State → State} {st : Status}
    {out : Bytes} (he : exec c s = .next (withWork id op body s)) (h : Waits s id op w)
    (hb : body w (taken w s) = finish w st 0 out (taken w s)) :
    EndsWork c s w st 0 out fun t => t.adm.nextSeq = s.adm.nextSeq ∧ t.vm = s.vm ∧ t.dep = s.dep := by
  refine endsWork_after he h hb rfl rfl rfl ?_
  simp only [finish_frame]
  exact ⟨rfl, rfl, rfl⟩

section
variable {s : State} {id : WorkId} {w : Work}

/-- What a status command leaves: no number is taken, and vault memory and the subtrees are as they were. -/
abbrev Unsealed (s t : State) : Prop := t.adm.nextSeq = s.adm.nextSeq ∧ t.vm = s.vm ∧ t.dep = s.dep

section
variable (h : Waits s id 0x13 w)
include h

theorem ticketStatus_bad (hb : keyBad s (w.func s) 2 (ticketKey (rd w.input 0 1) (rd w.input 1 8)) = true) :
    EndsWork (.ticketStatus id) s w .fault 0 [] (Unsealed s) :=
  statusEnds rfl h (if_pos hb)

variable (hb : ¬keyBad s (w.func s) 2 (ticketKey (rd w.input 0 1) (rd w.input 1 8)) = true)
include hb

theorem ticketStatus_found {k : Ticket} (hk : ticketOf s (w.func s) (rd w.input 0 1) (rd w.input 1 8) = some k)
    (hp : k.pending = false) : EndsWork (.ticketStatus id) s w .ok 0 (ticketBytes k) (Unsealed s) := by
  have hheld : ticketOf (taken w s) (w.func (taken w s)) (rd w.input 0 1) (rd w.input 1 8) = some k := hk
  refine statusEnds rfl h ((if_neg hb).trans ?_)
  simp only [hheld, hp, Bool.false_eq_true, if_false]

theorem ticketStatus_missing (hk : ∀ k ∈ ticketOf s (w.func s) (rd w.input 0 1) (rd w.input 1 8), k.pending = true) :
    EndsWork (.ticketStatus id) s w .notFound 0 [] (Unsealed s) := by
  refine statusEnds rfl h ((if_neg hb).trans ?_)
  cases hf : ticketOf (taken w s) (w.func (taken w s)) (rd w.input 0 1) (rd w.input 1 8) with
  | none => rfl
  | some k => exact if_pos (hk k hf)

end

/-- The lines that LIMIT_STATUS of TYPE 1 needs are those of the counter. -/
theorem limitGood (ht : rd w.input 0 1 = 1) (hb : ¬keyBad s (w.func s) 1 (limitKey (rd w.input 1 8)) = true) :
    ¬keyBad s (w.func s) 1 (rd w.input 0 1 * 2 ^ 64 + rd w.input 1 8) = true := by
  rw [ht, Nat.one_mul]
  exact hb

section
variable (h : Waits s id 0x14 w)
include h

theorem limitStatus_bad (hb : keyBad s (w.func s) 1 (rd w.input 0 1 * 2 ^ 64 + rd w.input 1 8) = true) :
    EndsWork (.limitStatus id) s w .fault 0 [] (Unsealed s) :=
  statusEnds rfl h (if_pos hb)

section
variable (ht : rd w.input 0 1 = 1) (hb : ¬keyBad s (w.func s) 1 (limitKey (rd w.input 1 8)) = true)
include ht hb

theorem limitStatus_found {c : LimitCtr} (hl : limitOf s (w.func s) (rd w.input 1 8) = some c) :
    EndsWork (.limitStatus id) s w .ok 0 (limitBytes c) (Unsealed s) := by
  have hheld : limitOf (taken w s) (w.func (taken w s)) (rd w.input 1 8) = some c := hl
  refine statusEnds rfl h ((if_neg (limitGood ht hb)).trans ((if_pos ht).trans ?_))
  simp only [hheld]

theorem limitStatus_missing (hl : limitOf s (w.func s) (rd w.input 1 8) = none) :
    EndsWork (.limitStatus id) s w .notFound 0 [] (Unsealed s) := by
  have hnone : limitOf (taken w s) (w.func (taken w s)) (rd w.input 1 8) = none := hl
  refine statusEnds rfl h ((if_neg (limitGood ht hb)).trans ((if_pos ht).trans ?_))
  simp only [hnone]

end

section
variable (ht : rd w.input 0 1 = 2) (hb : ¬keyBad s (w.func s) 1 (terminalKey (rd w.input 1 8)) = true)
include ht hb

theorem terminalStatus_found {x : Terminal} (hx : terminalOf s (w.func s) (rd w.input 1 8) = some x) :
    EndsWork (.limitStatus id) s w .ok 0 (terminalBytes x) (Unsealed s) := by
  have hheld : terminalOf (taken w s) (w.func (taken w s)) (rd w.input 1 8) = some x := hx
  refine statusEnds rfl h ((if_neg (by rwa [ht])).trans ((if_neg (by rw [ht]; decide)).trans ((if_pos ht).trans ?_)))
  simp only [hheld]

theorem terminalStatus_missing (hx : terminalOf s (w.func s) (rd w.input 1 8) = none) :
    EndsWork (.limitStatus id) s w .notFound 0 [] (Unsealed s) := by
  have hnone : terminalOf (taken w s) (w.func (taken w s)) (rd w.input 1 8) = none := hx
  refine statusEnds rfl h ((if_neg (by rwa [ht])).trans ((if_neg (by rw [ht]; decide)).trans ((if_pos ht).trans ?_)))
  simp only [hnone]

end

end

end

theorem resultTicket_void (amount : Nat) (k : Ticket) : resultTicket 4 amount k = { k with state := 4 } := rfl

theorem resultTicket_won (amount : Nat) (k : Ticket) :
    resultTicket 2 amount k = { k with state := 2, amount := BitVec.ofNat 64 amount } := rfl

/-- Settles O7, by the states that the bodies of the owner-tagged commands run in and the work items that each ends. -/
theorem statusAndOwnerCommands : Obligations.StatusAndOwnerCommands := by
  unfold Obligations.StatusAndOwnerCommands
  refine ⟨fun s id w => ⟨ticketStatus_bad, limitStatus_bad,
      fun h hb => ⟨fun _ => ticketStatus_found h hb, ticketStatus_missing h hb⟩,
      fun h ht hb => ⟨fun _ => limitStatus_found h ht hb, limitStatus_missing h ht hb⟩,
      fun h ht hb => ⟨fun _ => terminalStatus_found h ht hb, terminalStatus_missing h ht hb⟩⟩,
    fun s id w ctr => ?_⟩
  intro o b hn hs
  refine ⟨fun k h hc hk hp hg => ⟨fun ⟨hd, hst⟩ => ?_, fun ⟨hd, hst⟩ => ?_, fun hst hd => ?_⟩,
    fun c h hc hid hl hw hb => limitSet_sets hn h hc hid hl hw hb, fun g h hc hg hl => ?_,
    fun g x hx hi hu htakes => sweepEnd_ends hx hi hu htakes⟩
  · have hmoves := result_moves hn hs h hc hk hp hg ((resultAllowed_iff _ _).2 (by simp only [b] at hd; omega))
    rw [hd, resultTicket_void] at hmoves
    exact hmoves
  · obtain ⟨t, he, hcompleted, -, -, -, -, hticket, -⟩ :=
      result_moves hn hs h hc hk hp hg ((resultAllowed_iff _ _).2 (by simp only [b] at hd; omega))
    rw [hd, resultTicket_won] at hticket
    exact ⟨t, he, hcompleted, hticket⟩
  · obtain ⟨t, he, hcompleted, -, -, -, -, htickets⟩ := result_refused hn hs h hc hk hp hg hd
      (Bool.eq_false_iff.2 fun ha => by have := (resultAllowed_iff _ _).1 ha; omega)
    exact ⟨t, he, hcompleted, htickets⟩
  · obtain ⟨t, he, hsealed, hswept⟩ := sweep_sweeps hn hs h hc hg hl
    refine ⟨t, he, hswept.nextSeq, hswept.cmdCtr, hsealed, hswept.keeps_other, fun h0 x hx hh => ?_, fun h1 x hx hh => ?_,
      fun h1 h2 x hx hh => ?_, hswept.runs⟩
    · rcases hswept.left hx hh with ⟨hvoid, -⟩ | ⟨hsold, -, -⟩
      · omega
      · exact fun hstate => hsold ⟨hstate, h0⟩
    · rcases hswept.left hx hh with ⟨hvoid, -⟩ | ⟨-, hwon, -⟩
      · omega
      · exact fun hstate => hwon ⟨hstate, h1⟩
    · rcases hswept.left hx hh with ⟨-, hbit⟩ | ⟨-, -, hended⟩
      · exact absurd hbit (Bool.eq_false_iff.1 h1)
      · exact ⟨fun hstate => hended ⟨.inl hstate, h2⟩, fun hstate => hended ⟨.inr (.inl hstate), h2⟩,
          fun hstate => hended ⟨.inr (.inr hstate), h2⟩⟩

end Sys2Proof.Machine
end


section
namespace Sys2Proof.Machine

/-! ### The restore stream (R222-R225) -/

section
variable {s : State}

/-- The stream was refused with this status: the device waits for another. -/
def StreamRefused (st : Status) (t : State) : Prop := t.vm.restore = 5 ∧ t.bulk.state = .failed ∧ t.bulk.result = st.code

theorem endBulk_restore (st : Status) (s : State) :
    (endBulk st s).vm.restore = if s.vm.restore = 2 then 5 else s.vm.restore := by
  have hdrop : (if s.vm.load.isNone then s else dropPending s).vm.restore = s.vm.restore := by
    split <;> simp [dropPending, syncVault]
  simp only [endBulk, event_frame, hdrop]

theorem refuseStream_refused (order : Nat) (st : Status) (s : State) :
    (refuseStream order st s).sys = s.sys ∧ StreamRefused st (refuseStream order st s) := by
  obtain ⟨hfailed, hresult⟩ := endBulk_failed st { s with vm := { s.vm with restore := 5 } }
  simp only [StreamRefused, refuseStream, event_frame, endBulk_sys, endBulk_restore]
  exact ⟨trivial, rfl, hfailed, hresult⟩

/-! #### Replay leaves the device state as it is -/

theorem chainBlocks_sys (bs : List Bytes) (s : State) : (chainBlocks bs s).sys = s.sys :=
  foldl_sys (fun _ _ => by simp) bs s

theorem loadOwner_sys (img : Bytes) (o : Nat) (acc : Nat × State) : (loadOwner img o acc).2.sys = acc.2.sys := by
  rw [loadOwner]

theorem loadImage_sys (s : State) (b : Bytes) : (loadImage s b).sys = s.sys := by
  have hload (l : List Nat) : ∀ acc : Nat × State,
      (l.foldl (fun acc o => loadOwner (streamImage s b) o acc) acc).2.sys = acc.2.sys := by
    induction l with
    | nil => exact fun _ => rfl
    | cons o rest ih => exact fun acc => (ih _).trans (loadOwner_sys ..)
  simp only [loadImage, loadPeers, hload]
  exact foldl_sys (fun _ _ => by simp [mergeOwner]) _ _

theorem replayNonce_sys (b : Bytes) (o commit : Nat) (p : Bytes) (s : State) : (replayNonce b o commit p s).sys = s.sys := by
  unfold replayNonce
  split <;> simp

theorem replayTicketPart_sys (b : Bytes) (o commit : Nat) (leaf p : Bytes) (tk : Nat) (s : State) :
    (replayTicketPart b o commit leaf p tk s).sys = s.sys := by
  simp only [replayTicketPart]
  split_ifs <;> simp

theorem replayCounter_sys (b : Bytes) (o t commit : Nat) (c : Bytes) (s : State) :
    (replayCounter b o t commit c s).sys = s.sys := by
  simp only [replayCounter]
  split_ifs <;> simp

theorem replayMisc_sys (b : Bytes) (o t commit : Nat) (p : Bytes) (kind : Nat) (s : State) :
    (replayMisc b o t commit p kind s).sys = s.sys := by
  simp only [replayMisc]
  repeat' split
  all_goals simp [delGame]

theorem replayOne_sys (b : Bytes) (e : Bytes × Bytes) (s : State) : (replayOne b e s).sys = s.sys := by
  have hcounters (o t commit base : Nat) (n : Nat) (r : Bytes) (u : State) := foldl_sys
    (f := fun st k => replayCounter b o t commit (slice r (base + 16 * k) 16) st) (fun st k => replayCounter_sys ..) (List.range n) u
  simp only [replayOne]
  split_ifs <;> simp only [replayMisc_sys, hcounters, replayTicketPart_sys, replayNonce_sys]

/-! #### The head query -/

/-- The device state, vault memory and the bulk session stay. -/
structure RestoreStays (s t : State) : Prop where
  sys : t.sys = s.sys
  vm : t.vm = s.vm
  bulk : t.bulk = s.bulk

theorem RestoreStays.trans {s t u : State} (h : RestoreStays s t) (k : RestoreStays t u) : RestoreStays s u :=
  ⟨k.sys.trans h.sys, k.vm.trans h.vm, k.bulk.trans h.bulk⟩

theorem putFrame_restoreStays (p : Peer) (type : Nat) (f : Bytes) (s : State) : RestoreStays s (putFrame p type f s) := by
  unfold putFrame
  split
  · simp only [sendFrame, mapPort]
    repeat' split
    all_goals exact ⟨rfl, rfl, rfl⟩
  · exact ⟨rfl, rfl, rfl⟩

theorem startHandshake_restoreStays (i : Nat) (s : State) : RestoreStays s (startHandshake i s) := by
  unfold startHandshake
  split
  · exact ⟨rfl, rfl, rfl⟩
  · split
    · exact ⟨rfl, rfl, rfl⟩
    · exact .trans ⟨by simp [setPeer], by simp [setPeer], by simp [setPeer]⟩
        (putFrame_restoreStays ..)

theorem queryHeads_restoreStays (s : State) : RestoreStays s (queryHeads s) :=
  foldl_keeps (RestoreStays s) _ (fun st e h => h.trans (startHandshake_restoreStays e.1 st)) _ _ ⟨rfl, rfl, rfl⟩

/-! #### The numbers that follow, and the stream that is taken -/

theorem startNumbers_keeps (seq dep base : Nat) (prev : Digest) (gap : Bool) (s : State) :
    (startNumbers seq dep base prev gap s).sys = s.sys ∧ (startNumbers seq dep base prev gap s).vm = s.vm := by
  simp only [startNumbers]
  split <;> simp

theorem restoredNumbers_keeps (v : Bytes) (clean : Bool) (s : State) :
    (restoredNumbers v clean s).sys = s.sys ∧ (restoredNumbers v clean s).vm = s.vm := by
  unfold restoredNumbers
  split
  · exact startNumbers_keeps ..
  · exact startNumbers_keeps ..

theorem chainBlocks_vm (bs : List Bytes) (s : State) : (chainBlocks bs s).vm = s.vm :=
  foldl_keeps (fun t => t.vm = s.vm) _ (fun st x h => by simpa using h) bs s rfl

/-- The stream was taken: its epoch is the written one, a checkpoint is due, and no load is pending. -/
def StreamTaken (b : Bytes) (t : State) : Prop := t.vm.restore = 4 ∧ t.vm.epochWritten = rd (sManifest b) 16 8
  ∧ t.vm.ckptNow = true ∧ t.bulk.state = .done ∧ (∃ d, t.vm.verified = some d) ∧ ∀ k ∈ t.vm.tickets, k.pending = false

theorem restoreEvent_keeps (args : List (Nat × Nat)) (s : State) : (bulkDone (event 0x060A 0 args s)).sys = s.sys
    ∧ (bulkDone (event 0x060A 0 args s)).vm = s.vm := by
  simp [bulkDone]

theorem applyRestore_takes (b d : Bytes) (chain blocks : List Bytes) (s : State) :
    (applyRestore b d chain blocks s).sys = s.sys ∧ StreamTaken b (applyRestore b d chain blocks s) := by
  unfold applyRestore
  extract_lets m es v lo hi used replayed replayedVm filtered stored clean numbered t clk vm final
  obtain ⟨hsys, hvm, hbulk⟩ := queryHeads_restoreStays
    (bulkDone (event 0x060A 0 [(8, recDep v), (4, used.length), (1, if clean then 1 else 2)] final))
  obtain ⟨heventSys, heventVm⟩ := restoreEvent_keeps
    [(8, recDep v), (4, used.length), (1, if clean then 1 else 2)] final
  obtain ⟨hnumberedSys, hnumberedVm⟩ := restoredNumbers_keeps v clean (chainBlocks blocks stored)
  have hreplayed : replayed.sys = s.sys := (foldl_sys (fun st e => replayOne_sys b e st) ..).trans (loadImage_sys s b)
  have hstored : stored.sys = s.sys := (relayStore_sys filtered).trans hreplayed
  have htickets : numbered.vm.tickets = replayed.vm.tickets.filter fun k => !k.pending :=
    congrArg Vm.tickets (hnumberedVm.trans (chainBlocks_vm blocks stored))
  refine ⟨hsys.trans (heventSys.trans (hnumberedSys.trans ((chainBlocks_sys blocks stored).trans hstored))), ?_⟩
  rw [StreamTaken, hvm, heventVm, hbulk]
  refine ⟨rfl, rfl, rfl, rfl, ⟨_, rfl⟩, fun k hk => ?_⟩
  have hkept : k ∈ replayed.vm.tickets.filter fun k => !k.pending := htickets ▸ hk
  simpa using (List.mem_filter.1 hkept).2

/-! #### The rows of R222 -/

section
variable (hform : streamFormOk s.bulk.data = true)

theorem doRestoreStream_badForm (h : streamFormOk s.bulk.data = false) :
    doRestoreStream s = refuseStream 0 .paramInvalid s := by
  simp [doRestoreStream, h]

include hform

theorem doRestoreStream_badManifest (h : manifestOk s (sManifest s.bulk.data) = false) :
    doRestoreStream s = refuseStream 1 .authFail s := by
  simp [doRestoreStream, hform, h]

variable (hmanifest : manifestOk s (sManifest s.bulk.data) = true)
include hmanifest

theorem doRestoreStream_otherEpoch (h : rd (sManifest s.bulk.data) 16 8 ≠ ((flashNow s).map (·.epoch)).getD 0) :
    doRestoreStream s = refuseStream 2 .policy s := by
  simp [doRestoreStream, hform, hmanifest, h]

variable (hepoch : rd (sManifest s.bulk.data) 16 8 = ((flashNow s).map (·.epoch)).getD 0)
include hepoch

theorem doRestoreStream_badChunks (h : chunksOk s s.bulk.data = false) :
    doRestoreStream s = refuseStream 3 .authFail s := by
  simp [doRestoreStream, hform, hmanifest, hepoch, h]

variable (hchunks : chunksOk s s.bulk.data = true)
include hchunks

theorem doRestoreStream_noRecord (h : recordsOf s.bulk.data = []) : doRestoreStream s = refuseStream 4 .paramInvalid s := by
  simp [doRestoreStream, hform, hmanifest, hepoch, hchunks, h]

variable {r : Bytes} {rest : List Bytes} (hrecords : recordsOf s.bulk.data = r :: rest)
include hrecords

/-- The first record is compared with the manifest. -/
theorem doRestoreStream_record : ∃ chain blocks, doRestoreStream s
    = if recDep r ≠ rd (sManifest s.bulk.data) 24 8 ∨ digestBytes (recHead r) ≠ slice (sManifest s.bulk.data) 144 48
      then refuseStream 4 .paramInvalid s else applyRestore s.bulk.data r chain blocks s := by
  simp only [doRestoreStream, hform, hmanifest, not_not.2 hepoch, hchunks, hrecords, Bool.not_true, Bool.false_eq_true, if_false,
    List.headD_cons, List.isEmpty_cons, Bool.false_or, Bool.or_eq_true, bne_iff_ne]
  exact ⟨_, _, rfl⟩

end

/-- The stream ends at the first row that it fails, and the device state stays. -/
theorem doRestoreStream_rows : (doRestoreStream s).sys = s.sys ∧
    if streamFormOk s.bulk.data = false then StreamRefused .paramInvalid (doRestoreStream s)
    else if manifestOk s (sManifest s.bulk.data) = false then StreamRefused .authFail (doRestoreStream s)
    else if rd (sManifest s.bulk.data) 16 8 ≠ ((flashNow s).map (·.epoch)).getD 0 then StreamRefused .policy (doRestoreStream s)
    else if chunksOk s s.bulk.data = false then StreamRefused .authFail (doRestoreStream s)
    else (recordsOf s.bulk.data = [] → StreamRefused .paramInvalid (doRestoreStream s))
      ∧ ∀ r rest, recordsOf s.bulk.data = r :: rest →
        if recDep r ≠ rd (sManifest s.bulk.data) 24 8 ∨ digestBytes (recHead r) ≠ slice (sManifest s.bulk.data) 144 48
        then StreamRefused .paramInvalid (doRestoreStream s) else StreamTaken s.bulk.data (doRestoreStream s) := by
  split_ifs with hform hmanifest hepoch hchunks
  · rw [doRestoreStream_badForm hform]
    exact refuseStream_refused ..
  · rw [doRestoreStream_badManifest (by simpa using hform) hmanifest]
    exact refuseStream_refused ..
  · rw [doRestoreStream_otherEpoch (by simpa using hform) (by simpa using hmanifest) hepoch]
    exact refuseStream_refused ..
  · rw [doRestoreStream_badChunks (by simpa using hform) (by simpa using hmanifest) (not_not.1 hepoch) hchunks]
    exact refuseStream_refused ..
  rw [Bool.not_eq_false] at hform hmanifest hchunks
  rw [not_not] at hepoch
  cases hrecords : recordsOf s.bulk.data with
  | nil =>
    rw [doRestoreStream_noRecord hform hmanifest hepoch hchunks hrecords]
    obtain ⟨hsys, hrefused⟩ := refuseStream_refused 4 .paramInvalid s
    exact ⟨hsys, fun _ => hrefused, fun r rest h => by cases h⟩
  | cons d later =>
    obtain ⟨chain, blocks, hrow⟩ := doRestoreStream_record hform hmanifest hepoch hchunks hrecords
    rw [hrow]
    refine ⟨?_, fun h => (by cases h), fun r rest h => ?_⟩
    · split
      · exact (refuseStream_refused ..).1
      · exact (applyRestore_takes ..).1
    · obtain ⟨rfl, rfl⟩ := List.cons.inj h
      split
      · exact (refuseStream_refused ..).2
      · exact (applyRestore_takes ..).2

/-! ### Leaving RESTORING (R29, R225) -/

/-- The device state, the open departure and the first number of the run stay. -/
structure OpeningStays (s t : State) : Prop where
  sys : t.sys = s.sys
  isOpen : t.dep.isOpen = s.dep.isOpen
  firstSeq : t.adm.firstSeq = s.adm.firstSeq

theorem OpeningStays.trans {s t u : State} (h : OpeningStays s t) (k : OpeningStays t u) : OpeningStays s u :=
  ⟨k.sys.trans h.sys, k.isOpen.trans h.isOpen, k.firstSeq.trans h.firstSeq⟩

theorem sealLeaf_openingStays (st : Stamp) (l : Leaf) (replay : Bytes) (s : State) :
    OpeningStays s (sealLeaf st l replay s) := by
  have hj (u : State) := (flushJournal_journalOnly l.owner u).trans (backlogCheck_journalOnly l.owner _)
  refine ⟨by simp, ?_, ?_⟩
  · simp only [sealLeaf]
    split <;> simp
  · simp only [sealLeaf]
    rw [(hj _).adm]
    split <;> simp [mapOwner, setOwner]

theorem sealNow_openingStays (l : Leaf) (replay : Bytes) (s : State) : OpeningStays s (sealNow l replay s) := by
  have hissue : OpeningStays s (issue l.owner s).2 := ⟨by simp, by simp, by simp [issue]⟩
  unfold sealNow
  split
  · exact hissue.trans (sealLeaf_openingStays ..)
  · exact ⟨rfl, rfl, rfl⟩

theorem setGame_openingStays (g : Game) (s : State) : OpeningStays s (setGame g s) := by
  constructor <;> simp [setGame]

theorem closeOrphans_openingStays (s : State) : OpeningStays s (closeOrphans s) := by
  unfold closeOrphans
  refine foldl_keeps (OpeningStays s) _ (fun st g h => ?_) _ _ ⟨rfl, rfl, rfl⟩
  exact h.trans ((setGame_openingStays { g with live := false, reason := 0x04 } st).trans (sealNow_openingStays ..))

theorem presenceLeaves_openingStays (s : State) : OpeningStays s (presenceLeaves s) :=
  foldl_keeps (OpeningStays s) _ (fun _ _ h => h.trans (sealNow_openingStays ..)) _ _ ⟨rfl, rfl, rfl⟩

theorem raiseSvn_openingStays (s : State) : OpeningStays s (raiseSvn s) := by
  simp only [raiseSvn]
  repeat' split
  all_goals exact ⟨by simp, by simp, by simp⟩

theorem openFirst_opens (s : State) : (openFirst s).sys = s.sys ∧ (openFirst s).dep.isOpen = true
    ∧ (openFirst s).adm = s.adm := by
  simp only [openFirst, reanchor_sys, reanchor_frame]
  exact ⟨trivial, trivial, by simp [reanchor]⟩

theorem enterDev_state {d : DevState} {s : State} (h : s.sys.state ≠ .zeroised) : (enterDev d s).sys.state = d := by
  simp [enterDev, h]

theorem firstMarks_keeps (s : State) : (firstMarks s).sys = s.sys ∧ (firstMarks s).adm = s.adm :=
  ⟨putRecord_sys .., rfl⟩

/-- A device that is not zeroised enters service with an open departure. -/
theorem enterService_opens {s : State} (h : s.sys.state ≠ .zeroised) : inService (enterService s) = true
    ∧ (enterService s).dep.isOpen = true ∧ (enterService s).adm.firstSeq = s.adm.firstSeq := by
  unfold enterService
  extract_lets adm started opened
  obtain ⟨hmarksSys, hmarksAdm⟩ := firstMarks_keeps started
  obtain ⟨hopenSys, hopen, hopenAdm⟩ := openFirst_opens
    (enterDev (if fullService started then .ready else .degraded) (firstMarks started))
  obtain ⟨hsys, hisOpen, hfirst⟩ := ((closeOrphans_openingStays opened).trans (presenceLeaves_openingStays _)).trans
    (raiseSvn_openingStays _)
  have hstate : opened.sys.state = if fullService started then .ready else .degraded :=
    (congrArg Sys.state hopenSys).trans (enterDev_state (by rw [hmarksSys]; exact h))
  refine ⟨?_, hisOpen.trans hopen, hfirst.trans ?_⟩
  · simp only [inService, hsys, hstate]
    split <;> rfl
  · have hadm (d : DevState) : (enterDev d (firstMarks started)).adm = started.adm := by rw [← hmarksAdm]; simp
    rw [hopenAdm, hadm]

/-! ### Abandoning a restore (R469) -/

section
variable {s : State} {n : Nat} {key : W32}

theorem HostMayWrite.advance {off : Nat} (h : HostMayWrite s off) (n : Nat) : HostMayWrite (Machine.advance n s) off := by
  simpa [HostMayWrite, hostOpen, heldGate, ruleOf, alive] using h

/-- The owner's keys and records are destroyed, and its entry gives up its id. -/
def ownerForgotten (s : State) (o : Nat) : State := mapOwner o (fun w => { w with id := 0 }) (clearOwner o s.adm.nextSeq s)

/-- No owner is enrolled in the entry and it has no id. -/
def Forgotten (o : Nat) (s : State) : Prop := (ownerOf s o).enrolled = 0 ∧ (ownerOf s o).id = 0

theorem destroySlots_owners (l : List Nat) (s : State) :
    (l.foldl (fun st i => destroySlot i st) s).adm.owners = s.adm.owners :=
  foldl_keeps (fun t => t.adm.owners = s.adm.owners) (fun st i => destroySlot i st) (fun st i h => by simpa [destroySlot] using h)
    l s rfl

theorem destroySlots_sys (l : List Nat) (s : State) : (l.foldl (fun st i => destroySlot i st) s).sys = s.sys :=
  foldl_sys (fun st i => by simp [destroySlot]) l s

/-- Clearing an owner starts its entry anew, and every other entry and the device state stay. -/
theorem clearOwner_entries (o seq : Nat) (s : State) : (clearOwner o seq s).sys = s.sys
    ∧ (ownerOf (clearOwner o seq s) o).enrolled = 0 ∧ ∀ p, p ≠ o → ownerOf (clearOwner o seq s) p = ownerOf s p := by
  unfold clearOwner
  extract_lets kept old mine cleared runs
  have howners : cleared.adm.owners = s.adm.owners := destroySlots_owners mine kept
  have hsys : cleared.sys = s.sys := destroySlots_sys mine kept
  refine ⟨hsys, ?_, fun p hp => ?_⟩
  · simp only [ownerOf, Tbl.atD_put_same]
  · simp only [ownerOf, Tbl.atD_put_other _ _ _ hp, howners]

theorem ownerForgotten_forgets (o : Nat) (s : State) : Forgotten o (ownerForgotten s o) := by
  obtain ⟨-, henrolled, -⟩ := clearOwner_entries o s.adm.nextSeq s
  rw [Forgotten, ownerForgotten, ownerOf_mapOwner_same]
  exact ⟨henrolled, rfl⟩

theorem ownerForgotten_keeps {o p : Nat} {s : State} (h : Forgotten p s) : Forgotten p (ownerForgotten s o) := by
  by_cases hp : p = o
  · subst hp
    exact ownerForgotten_forgets p s
  · obtain ⟨-, -, hothers⟩ := clearOwner_entries o s.adm.nextSeq s
    rw [Forgotten, ownerForgotten, mapOwner, ownerOf_setOwner_other _ _ hp, hothers p hp]
    exact h

theorem ownersForgotten_forgets {p : Nat} {l : List Nat} (hp : p ∈ l) (s : State) : Forgotten p (l.foldl ownerForgotten s) := by
  induction l generalizing s with
  | nil => cases hp
  | cons o rest ih =>
    rcases List.mem_cons.1 hp with rfl | hp
    · exact foldl_keeps (Forgotten p) ownerForgotten (fun _ _ h => ownerForgotten_keeps h) rest _ (ownerForgotten_forgets p s)
    · exact ih hp _

theorem ownersForgotten_sys (l : List Nat) (s : State) : (l.foldl ownerForgotten s).sys = s.sys :=
  foldl_sys (fun st o => by simp [ownerForgotten, clearOwner_entries]) l s

/-- The restore is given up: no key record and no owner is left. -/
theorem abandonRestore_destroys (s : State) : (abandonRestore s).sys.abandoned = true
    ∧ (abandonRestore s).sys.state = s.sys.state ∧ (abandonRestore s).vm.keyRecs = []
    ∧ ∀ p ∈ s.adm.owners, p.2.enrolled ≠ 0 → Forgotten p.1 (abandonRestore s) := by
  unfold abandonRestore
  extract_lets owners cleared vm recorded
  have hsys : recorded.sys = s.sys := (putRecord_sys ..).trans (ownersForgotten_sys owners s)
  have howners : recorded.adm.owners = (owners.foldl ownerForgotten s).adm.owners := rfl
  simp only [event_frame]
  refine ⟨trivial, congrArg Sys.state hsys, rfl, fun p hp he => ?_⟩
  have hmem : p.1 ∈ owners := List.mem_map.2 ⟨p, List.mem_filter.2 ⟨hp, by simpa using he⟩, rfl⟩
  obtain ⟨henrolled, hid⟩ := ownersForgotten_forgets hmem s
  rw [Forgotten, ownerOf_congr (s := owners.foldl ownerForgotten s) (by simp only [event_frame]; exact howners)]
  exact ⟨henrolled, hid⟩

/-- A device that is RESTORING takes the write of GLOBAL_ABANDON. -/
theorem exec_restoreAbandon {t : State} (hr : s.sys.state = .restoring) (hreset : s.sys.inReset = false)
    (hw : HostMayWrite s 0x24) (ht : doRestoreAbandon key (advance n s) = t) : exec (.restoreAbandon n key) s = .next t := by
  have halive : alive s = true := by simp [alive, hr, hreset]
  exact exec_when rfl halive ((hostWrite_of_mayWrite (hw.advance n) ..).trans ht)

theorem doRestoreAbandon_otherKey (hk : key ≠ 0x41424E44) (s : State) : doRestoreAbandon key s = s := by
  have hkey : key.toNat ≠ abandonKey := fun h => hk (BitVec.eq_of_toNat_eq h)
  simp [doRestoreAbandon, hkey]

section
variable (hr : s.sys.state = .restoring) (ha : s.sys.abandoned = false) (hb : bulkBusy s = false)
include hr ha hb

theorem doRestoreAbandon_first (h : ∀ t0 ∈ s.sys.abandonAt, t0 + 10 ^ 9 < s.clk.run) :
    doRestoreAbandon 0x41424E44 s = { s with sys := { s.sys with abandonAt := some s.clk.run } } := by
  cases hat : s.sys.abandonAt with
  | none => simp [doRestoreAbandon, hr, ha, hb, abandonKey, hat]
  | some t0 =>
    simp only [doRestoreAbandon, hr, ha, hb, abandonKey, hat, if_neg (Nat.not_le.2 (h t0 hat))]
    rfl

theorem doRestoreAbandon_second (h : ∃ t0 ∈ s.sys.abandonAt, s.clk.run ≤ t0 + 10 ^ 9) :
    doRestoreAbandon 0x41424E44 s = abandonRestore s := by
  obtain ⟨t0, hat, hrun⟩ := h
  rw [Option.mem_def] at hat
  simp only [doRestoreAbandon, hr, ha, hb, abandonKey, hat, if_pos hrun]
  rfl

end

end

end

/-- Settles O42, row by row of R222 for the stream, and by the step that clears one owner for the abandoned restore. -/
theorem restore : Obligations.Restore := by
  unfold Obligations.Restore
  intro s hr ha
  refine ⟨fun hv h4 => ?_, fun h4 => ?_, fun n key hw hreset hb => ?_⟩
  · obtain ⟨hsys, hrows⟩ := doRestoreStream_rows (s := s)
    exact yields_when rfl (by simp [hr, ha, hv, h4]) ⟨by rw [hsys, hr], hrows⟩
  · exact yields_when rfl (by simp [hr, ha, h4]) (enterService_opens (by simp [hr]))
  · have hsys : (advance n s).sys = s.sys := by simp
    have hr' : (advance n s).sys.state = .restoring := by rw [hsys, hr]
    have ha' : (advance n s).sys.abandoned = false := by rw [hsys, ha]
    have hb' : bulkBusy (advance n s) = false := by simpa [bulkBusy] using hb
    refine ⟨fun hk => exec_restoreAbandon hr hreset hw (doRestoreAbandon_otherKey hk _), fun hk h => ?_, fun hk h => ?_⟩
    all_goals subst hk
    · exact exec_restoreAbandon hr hreset hw (doRestoreAbandon_first hr' ha' hb' (by rw [hsys]; exact h))
    · obtain ⟨habandoned, hstate, hrecs, howners⟩ := abandonRestore_destroys (advance n s)
      have hexec := exec_restoreAbandon hr hreset hw (doRestoreAbandon_second hr' ha' hb' (by rw [hsys]; exact h))
      exact ⟨_, hexec, habandoned, hstate.trans hr', hrecs, fun p hp => howners p (by simpa using hp)⟩

end Sys2Proof.Machine
end


section
namespace Sys2Proof.Machine

/-! ### What a ceremony's leaf leaves as it is (R210, R236, R254) -/

theorem SlotKept.of_slots {i : Nat} {s t u : State} (h : SlotKept i s t) (hk : u.keys.slots = t.keys.slots) : SlotKept i s u := by
  simpa only [SlotKept, slotOf, hk] using h

/-- A use taken of a slot is not of its key's length. -/
theorem useSlot_key (i j : Nat) (s : State) : (slotOf (useSlot i s) j).key = (slotOf s j).key := by
  by_cases hj : j = i
  · subst hj
    have hklen (a : W64) : (a - (1 : W64) <<< 32).extractLsb' 0 7 = a.extractLsb' 0 7 := by
      apply BitVec.eq_of_toNat_eq
      simp only [BitVec.extractLsb'_toNat, BitVec.toNat_sub, BitVec.toNat_shiftLeft]
      omega
    simp only [useSlot]
    split_ifs
    · rfl
    · rw [slotOf_congr (event_frame ..).2.2.2.2.2.2.2.2.2.1, slotOf_setSlot_same]
      simp only [Slot.key, Slot.klen, hklen]
    · rw [slotOf_setSlot_same]
      simp only [Slot.key, Slot.klen, hklen]
  · rw [useSlot_other s hj]

section
variable {i : Nat} {s t : State} (h : SlotKept i s t)
include h

theorem SlotKept.useSlot (j : Nat) (hu : (slotOf s i).uses = 0) : SlotKept i s (useSlot j t) := by
  refine ⟨?_, (useSlot_key j 1 t).trans h.2⟩
  by_cases hij : i = j
  · subst hij
    have huses : (slotOf t i).uses = 0 := h.1 ▸ hu
    rw [Machine.useSlot, if_pos huses, h.1]
  · rw [useSlot_other t hij, h.1]

theorem SlotKept.checkRoot (o q : Nat) (hs : slotSound s i = true) : SlotKept i s (checkRoot o q t) := by
  simp only [Machine.checkRoot]
  split
  · exact h.checkSlot _ hs
  · exact h

theorem SlotKept.useRoot (o q : Nat) (hu : (slotOf s i).uses = 0) : SlotKept i s (useRoot o q t) := by
  simp only [Machine.useRoot]
  split_ifs
  · exact h.useSlot _ hu
  · simpa [SlotKept, slotOf] using h
  · exact h

theorem SlotKept.mapOwner (o : Nat) (f : Owner → Owner) : SlotKept i s (mapOwner o f t) := h.of_slots rfl

theorem SlotKept.vaultSeal (key : Bytes) (aad : Bytes → Bytes) (pt : Bytes) : SlotKept i s (vaultSeal key aad pt t).2 :=
  h.of_slots (by simp)

variable (hs : slotSound s i = true) (hu : (slotOf s i).uses = 0)
include hs hu

theorem SlotKept.closeBlock (o : Nat) : SlotKept i s (closeBlock o t) := by
  unfold Machine.closeBlock
  dsimp only
  split
  · exact h
  next e _ _ =>
    have hchecked := (h.checkRoot o e.seq hs).of_slots (u := (freeNat (Machine.checkRoot o e.seq t)).2) (by simp)
    refine SlotKept.mapOwner (SlotKept.vaultSeal ?_ ..) ..
    split
    · exact hchecked.useRoot o e.seq hu
    · exact hchecked

theorem SlotKept.addEntry (o : Nat) (e : JEntry) : SlotKept i s (addEntry o e t) := by
  simp only [Machine.addEntry]
  split
  · exact (h.closeBlock hs hu o).mapOwner ..
  · exact h.mapOwner ..

theorem SlotKept.flushJournal (o : Nat) : SlotKept i s (flushJournal o t) :=
  foldl_keeps (SlotKept i s) _ (fun _ e h => h.addEntry hs hu o e) _ _ (h.mapOwner ..)

/-- Sealing a leaf leaves a slot as it is whose check holds and whose uses have no limit, even that of a root. -/
theorem SlotKept.sealLeaf (st : Stamp) (l : Leaf) (replay : Bytes) : SlotKept i s (sealLeaf st l replay t) := by
  have hback (u : State) : (backlogCheck l.owner u).keys.slots = u.keys.slots := by
    simp only [backlogCheck]
    split_ifs <;> simp
  simp only [Machine.sealLeaf]
  refine (SlotKept.flushJournal ?_ hs hu l.owner).of_slots (hback _)
  exact h.of_slots (by split <;> simp)

end

/-- A ceremony seals a leaf under the next number once its accord is gone. -/
theorem ceremonyOk_seals (w : Work) (a : Accord) (handle : Nat) (s : State) : ∃ l replay,
    (ceremonyOk w a handle s).2 = sealLeaf (nextStamp s) l replay (issue a.owner (dropAccord a s)).2 := ⟨_, _, rfl⟩

theorem SlotKept.ceremonyOk {i : Nat} {s t : State} (h : SlotKept i s t) (hs : slotSound s i = true)
    (hu : (slotOf s i).uses = 0) (w : Work) (a : Accord) (handle : Nat) : SlotKept i s (ceremonyOk w a handle t).2 := by
  obtain ⟨l, replay, hseal⟩ := ceremonyOk_seals w a handle t
  rw [hseal]
  exact (h.of_slots (u := (issue a.owner (dropAccord a t)).2) rfl).sealLeaf hs hu ..

/-- Of every owner a ceremony changes only the journal. -/
theorem ceremonyOk_journalMoves (w : Work) (a : Accord) (handle : Nat) (s : State) :
    JournalMoves s (ceremonyOk w a handle s).2 := by
  obtain ⟨l, replay, hseal⟩ := ceremonyOk_seals w a handle s
  rw [hseal]
  exact (JournalMoves.of_eq (s := s) (t := (issue a.owner (dropAccord a s)).2) rfl).trans (sealLeaf_journalMoves ..)

end Sys2Proof.Machine
end


section
namespace Sys2Proof.Machine

/-! ### A ceremony's item ends (R254, R372) -/

/-- An item that a ceremony has numbered completes the ceremony with its end. -/
theorem ceremonyDone_finish {s u : State} {w : Work} {a : Accord} (st : Status) (d : Nat) (out : Bytes)
    (ht : ringTakes (ringOf s w.ring) w.gen = true) (hr : u.rings = s.rings) (hq : u.adm.nextSeq = s.adm.nextSeq + 1)
    (ha : ∀ x ∈ u.keys.accords, x.no ≠ a.no) : CeremonyDone s (finish (numberedWork w s) st d out u) w a st d := by
  have htakes : ringTakes (ringOf u (numberedWork w s).ring) (numberedWork w s).gen = true := by rwa [ringOf_congr hr]
  exact ⟨finish_completed (w := numberedWork w s) st d out htakes, by simpa using hq, by simpa using ha⟩

theorem yields_sealedWork {c : Instr} {s : State} {id : WorkId} {op : Nat} {w : Work} {body : Work → State → State}
    {P : State → Prop} (he : exec c s = .next (withSealedWork id op body s)) (hn : canNumber s = true) (h : Waits s id op w)
    (hp : P (body w (taken w s))) : Yields c s P :=
  ⟨body w (taken w s), by rw [he, withSealedWork_taken body hn h], hp⟩

/-- Every owner is after a ceremony what it was, but for its journal. -/
theorem ownerOf_afterCeremony {t u : State} {w : Work} {a : Accord} {handle : Nat}
    (h : t.adm.owners = (ceremonyOk w a handle u).2.adm.owners) (o : Nat) :
    ownerOf t o = journalled (ownerOf u o) (ownerOf t o) :=
  ((ceremonyOk_journalMoves w a handle u).trans (.of_eq h)).owner o

/-! ### OWNER_ENROL (R246, R440) -/

/-- The entry that OWNER_ENROL makes of its body, with this root. -/
def enrolledOwner (b : Bytes) (root : Option Nat) (v : Owner) : Owner := { v with
  enrolled := if root.isNone then 1 else 2, id := BitVec.ofNat 64 (rd b 0 8), n := rd b 9 1, m := rd b 10 1
  windowS := bodyWindow b, officials := bodyOfficials b (rd b 9 1), noRoot := root.isNone
  blockNo := 0, blockPrev := 0, pos := 1, posPrev := 0, root := root, lo := 0, hi := 2 ^ 64 - 1, cmdCtr := 0 }

/-- The owner's areas are clear, and its root, where it takes one, is drawn into its slot. -/
def rootDrawn (f : Nat) (root : Option Nat) (s : State) : State :=
  match root with
  | none => clearAreas f s
  | some i => writeSlot i (mkAttr 32 f verbRoot 0) (drawBytes 32 (clearAreas f s)).1 (drawBytes 32 (clearAreas f s)).2

/-- The state whose ceremony ends OWNER_ENROL. -/
def ownerEnrolled (b : Bytes) (f : Nat) (root : Option Nat) (s : State) : State :=
  saveOwner f (mapOwner f (enrolledOwner b root) (rootDrawn f root s))

/-- The body asks for no root, or for one that the owner's quota has a free slot for. -/
def RootAsked (s : State) (b : Bytes) (f : Nat) (root : Option Nat) : Prop :=
  (root = none ∧ rd b 11 1 = 1) ∨ (root.isSome = true ∧ rd b 11 1 = 0 ∧ canDraw s = true ∧ freeSlot s = root
    ∧ ownerSlots s f < (ownerOf s f).quota)

theorem doOwnerEnrol_enrols {s : State} {w : Work} {a : Accord} {root : Option Nat}
    (hform : enrolFormOk w.input 1 = true) (hd : s.life.decided ≠ 3) (h1 : 1 ≤ rd w.input 8 1)
    (h63 : rd w.input 8 1 ≤ 63) (hmesh : s.life.decided = 2 → (meshValid s).isSome = true)
    (hfree : (ownerOf s (rd w.input 8 1)).enrolled = 0) (hid : funcOfId s (BitVec.ofNat 64 (rd w.input 0 8)) = none)
    (ha : HasAccord s w (rd w.input 8 1) 0x50 a) (hroot : RootAsked s w.input (rd w.input 8 1) root) :
    ∃ h, doOwnerEnrol w s = finish (numberedWork w s) .ok 0 (le 4 h ++ zeros 4) (event 0x0701 (rd w.input 8 1)
      [(1, rd w.input 8 1), (8, rd w.input 0 8), (1, rd w.input 9 1), (1, rd w.input 10 1)]
      (ceremonyOk w a h (ownerEnrolled w.input (rd w.input 8 1) root s)).2) := by
  have hmesh' : (s.life.decided == 2 && (meshValid s).isNone) = false := by
    by_cases h2 : s.life.decided = 2
    · rw [Option.isNone_eq_false_iff.2 (hmesh h2), Bool.and_false]
    · simp [h2]
  have hacc : accordCheck w.accordId (rd w.input 8 1) 0x50 (sha w.input) s = .inr a := ha
  have h0 : rd w.input 8 1 ≠ 0 := by omega
  rcases hroot with ⟨rfl, hnone⟩ | ⟨hsome, hask, hdraw, hslot, hquota⟩
  · refine ⟨0, ?_⟩
    simp only [doOwnerEnrol, hform, hd, h0, Nat.not_lt.2 h63, hfree, hid, hmesh', hnone, withAccord, hacc, Bool.not_true,
      Bool.or_false, Bool.false_and, Bool.false_eq_true, if_false, if_true, decide_true, decide_false, bne_self_eq_false,
      Option.isSome_none, ceremonyOk_stamp]
    rfl
  · obtain ⟨i, rfl⟩ := Option.isSome_iff_exists.1 hsome
    refine ⟨slotHandle i (slotOf (rootDrawn (rd w.input 8 1) (some i) s) i).gen, ?_⟩
    simp only [doOwnerEnrol, hform, hd, h0, Nat.not_lt.2 h63, hfree, hid, hmesh', hask, hslot, Nat.not_le.2 hquota, hdraw,
      withAccord, hacc, Bool.not_true, Bool.or_false, Bool.and_false, Bool.false_eq_true, if_false, decide_false,
      bne_self_eq_false, Option.isSome_none, Option.isNone_some, Option.getD_some, zero_ne_one, Bool.not_false, ceremonyOk_stamp]
    rfl

theorem rootDrawn_adm (f : Nat) (root : Option Nat) (s : State) : (rootDrawn f root s).adm = s.adm := by cases root <;> rfl

theorem ownerEnrolled_keeps (b : Bytes) (f : Nat) (root : Option Nat) (s : State) :
    (ownerEnrolled b f root s).rings = s.rings ∧ (ownerEnrolled b f root s).adm.nextSeq = s.adm.nextSeq := by
  cases root <;> exact ⟨rfl, rfl⟩

theorem ownerEnrolled_owner (b : Bytes) (f : Nat) (root : Option Nat) (s : State) :
    ownerOf (ownerEnrolled b f root s) f = enrolledOwner b root (ownerOf s f) := by
  have howner : ownerOf (rootDrawn f root s) f = ownerOf s f := ownerOf_congr (congrArg Adm.owners (rootDrawn_adm f root s)) f
  rw [← howner]
  exact ownerOf_mapOwner_same ..

/-- A word that names a length, an owner and a verb has them as its fields. -/
theorem mkAttr_fields {klen owner verb : Nat} (hk : klen < 128) (ho : owner < 64) (hv : verb < 65536) :
    aKlen (mkAttr klen owner verb 0) = klen ∧ aOwner (mkAttr klen owner verb 0) = owner
    ∧ aVerb (mkAttr klen owner verb 0) = verb ∧ aUses (mkAttr klen owner verb 0) = 0 := by
  simp only [aKlen, aOwner, aVerb, aUses, mkAttr, BitVec.extractLsb'_toNat, BitVec.toNat_ofNat, Nat.shiftRight_eq_div_pow]
  omega

/-- The root that is drawn is VALID in its slot, and its check holds there without a limit of uses. -/
theorem ownerEnrolled_root {b : Bytes} {f i : Nat} {s : State} (hf : f ≤ 63) (hi : i ≠ 1) :
    let t := ownerEnrolled b f (some i) s
    (slotOf t i).state = 1 ∧ (slotOf t i).verb = 0x0100 ∧ (slotOf t i).owner = f ∧ (slotOf t i).uses = 0
    ∧ slotSound t i = true := by
  intro t
  obtain ⟨-, howner, hverb, huses⟩ := mkAttr_fields (klen := 32) (owner := f) (verb := verbRoot) (by omega) (by omega) (by decide)
  have hslot : slotOf t i = slotOf (rootDrawn f (some i) s) i := rfl
  have hkey : (slotOf t 1).key = (slotOf (drawBytes 32 (clearAreas f s)).2 1).key :=
    congrArg Slot.key (slotOf_setSlot_other _ _ (Ne.symm hi))
  simp only [slotSound, slotCheck, if_neg hi, hkey, hslot, rootDrawn, writeSlot, slotOf_setSlot_same]
  exact ⟨trivial, hverb, howner, huses, beq_self_eq_true _⟩

theorem freeSlot_owners {s : State} {i : Nat} (h : freeSlot s = some i) : 64 ≤ i := by
  obtain ⟨k, -, rfl⟩ := List.mem_map.1 (List.mem_of_find?_eq_some h)
  omega

section
variable {s : State} {id : WorkId} {w : Work} {a : Accord} {root : Option Nat} (hn : canNumber s = true)
  (hw : Waits s id 0x50 w) (hform : enrolFormOk w.input 1 = true) (hd : s.life.decided ≠ 3) (h1 : 1 ≤ rd w.input 8 1)
  (h63 : rd w.input 8 1 ≤ 63) (hmesh : s.life.decided = 2 → (meshValid s).isSome = true)
  (hfree : (ownerOf s (rd w.input 8 1)).enrolled = 0) (hid : funcOfId s (BitVec.ofNat 64 (rd w.input 0 8)) = none)
  (ha : HasAccord s w (rd w.input 8 1) 0x50 a) (hroot : RootAsked s w.input (rd w.input 8 1) root)
include hn hw hform hd h1 h63 hmesh hfree hid ha hroot

/-- The function is enrolled as its body says, and a root that is drawn is VALID in its slot. -/
theorem ownerEnrol_enrols : Yields (.ownerEnrol id) s fun t => CeremonyDone s t w a .ok 0
    ∧ ownerOf t (rd w.input 8 1) = journalled (enrolledOwner w.input root (ownerOf s (rd w.input 8 1))) (ownerOf t (rd w.input 8 1))
    ∧ ∀ i, root = some i → (slotOf t i).state = 1 ∧ (slotOf t i).verb = 0x0100 ∧ (slotOf t i).owner = rd w.input 8 1 := by
  refine yields_sealedWork rfl hn hw ?_
  obtain ⟨h, heq⟩ := doOwnerEnrol_enrols (s := taken w s) hform hd h1 h63 hmesh hfree hid (accordCheck_taken ha) hroot
  rw [heq]
  generalize hu : ownerEnrolled w.input (rd w.input 8 1) root (taken w s) = u
  generalize [(1, rd w.input 8 1), (8, rd w.input 0 8), (1, rd w.input 9 1), (1, rd w.input 10 1)] = args
  have hkeeps := ownerEnrolled_keeps w.input (rd w.input 8 1) root (taken w s)
  rw [hu] at hkeeps
  obtain ⟨hrings, hseq⟩ := hkeeps
  refine ⟨ceremonyDone_finish _ _ _ hw.2.2.2 ?_ ?_ ?_, ?_, fun i hi => ?_⟩
  · simpa [taken] using hrings
  · simpa [taken] using hseq
  · simp
  · have howner : ownerOf u (rd w.input 8 1) = enrolledOwner w.input root (ownerOf s (rd w.input 8 1)) :=
      hu ▸ ownerEnrolled_owner ..
    rw [← howner]
    exact ownerOf_afterCeremony (u := u) (w := w) (a := a) (handle := h) (by simp) _
  · subst hi
    have hslot : 64 ≤ i := by
      rcases hroot with ⟨hnone, -⟩ | ⟨-, -, -, hslot, -⟩
      · cases hnone
      · exact freeSlot_owners hslot
    obtain ⟨hstate, hverb, howner, huses, hsound⟩ := ownerEnrolled_root (b := w.input) (s := taken w s) h63 (show i ≠ 1 by omega)
    rw [hu] at hstate hverb howner huses hsound
    have hkept : SlotKept i u (ceremonyOk w a h u).2 := SlotKept.ceremonyOk ⟨rfl, rfl⟩ hsound huses w a h
    rw [slotOf_congr (s := (ceremonyOk w a h u).2) (by simp), hkept.1]
    exact ⟨hstate, hverb, howner⟩

end

end Sys2Proof.Machine
end


section
namespace Sys2Proof.Machine

/-! ### OFFICIAL_SET (R247) -/

section
variable {s : State} {w : Work} {a : Accord}

/-- The officials of a body take their place. -/
def officialsSet (b : Bytes) (f : Nat) (s : State) : State := mapOwner f (fun o => { o with
  n := rd b 9 1, m := rd b 10 1, windowS := bodyWindow b, officials := bodyOfficials b (rd b 9 1) }) s

/-- Every accord of an owner is void. -/
def accordsVoided (f : Nat) (s : State) : State :=
  { s with keys := { s.keys with accords := s.keys.accords.filter fun x => x.owner != f } }

theorem doOfficialSet_sets (hform : enrolFormOk w.input 0 = true) (hz : rd w.input 8 1 = 0)
    (hid : (ownerOf s (w.func s)).id.toNat = rd w.input 0 8) (ha : HasAccord s w (w.func s) 0x52 a) :
    doOfficialSet w s = finish (numberedWork w s) .ok 0 [] (event 0x070F (w.func s) [] (saveOwner (w.func s)
      (accordsVoided (w.func s) (officialsSet w.input (w.func s) (ceremonyOk w a 0 s).2)))) := by
  have hacc : accordCheck w.accordId (w.func s) 0x52 (sha w.input) s = .inr a := ha
  simp only [doOfficialSet, hform, hz, hid, withAccord, hacc, ceremonyOk_stamp, ne_eq, not_true_eq_false, decide_false,
    Bool.not_true, Bool.or_false, Bool.false_eq_true, if_false]
  rfl

theorem officialSet_sets {id : WorkId} (hn : canNumber s = true) (hw : Waits s id 0x52 w) (hform : enrolFormOk w.input 0 = true)
    (hz : rd w.input 8 1 = 0) (hid : (ownerOf s (w.func s)).id.toNat = rd w.input 0 8)
    (ha : HasAccord s w (w.func s) 0x52 a) : Yields (.officialSet id) s fun t => CeremonyDone s t w a .ok 0
      ∧ (ownerOf t (w.func s)).officials = bodyOfficials w.input (rd w.input 9 1)
      ∧ ∀ x ∈ t.keys.accords, x.owner ≠ w.func s := by
  refine yields_sealedWork rfl hn hw ?_
  rw [doOfficialSet_sets (s := taken w s) hform hz hid (accordCheck_taken ha), func_taken]
  refine ⟨ceremonyDone_finish _ _ _ hw.2.2.2 ?_ ?_ ?_, ?_, ?_⟩
  · simp [saveOwner, accordsVoided, officialsSet, taken]
  · simp [saveOwner, accordsVoided, officialsSet, taken]
  · simp +contextual [saveOwner, accordsVoided, officialsSet]
  · rw [ownerOf_congr (s := officialsSet w.input (w.func s) (ceremonyOk w a 0 (taken w s)).2) (by simp [saveOwner, accordsVoided])]
    simp [officialsSet]
  · simp [saveOwner, accordsVoided]

end

/-! ### Accords are opened and cancelled (R249-R252) -/

section
variable {s : State} {w : Work} {id : WorkId}

/-- The accord that ACCORD_OPEN adds. -/
def openedAccord (w : Work) (s : State) : Accord :=
  let b := w.input
  let owner := if w.func s = 0 then rd b 1 1 else w.func s
  { no := s.keys.nextAccord, openT := s.clk.run
    windowS := if rd b 0 1 = 0x50 then bodyWindow (b.drop 64) else (ownerOf s owner).windowS
    owner := owner, m := if rd b 0 1 = 0x50 then rd (b.drop 64) 9 1 else (ownerOf s owner).m, opcode := rd b 0 1
    digest := BitVec.ofNat 384 (rd b 16 48)
    body := if rd b 0 1 = 0x50 || rd b 0 1 = 0x52 then bodyOfficials (b.drop 64) (rd (b.drop 64) 9 1) else [], signers := [] }

/-- An accord is added under the next number. -/
def accordAdded (a : Accord) (s : State) : State :=
  { s with keys := { s.keys with accords := s.keys.accords ++ [a], nextAccord := s.keys.nextAccord + 1 } }

theorem doAccordOpen_opens (h : accordOpenErr s (w.func s = 0) (rd w.input 0 1)
      (if w.func s = 0 then rd w.input 1 1 else w.func s) w.input (w.input.drop 64) = none) :
    doAccordOpen w s = finish w .ok (s.keys.nextAccord % 65536) (accordBlock s.otp.deviceId (openedAccord w s))
      (accordAdded (openedAccord w s) s) := by
  simp only [doAccordOpen, h]
  rfl

theorem accordOpen_adds (hw : Waits s id 0x5A w) (hn : s.keys.nextAccord ≤ accordHigh s)
    (h : accordOpenErr s (w.func s = 0) (rd w.input 0 1) (if w.func s = 0 then rd w.input 1 1 else w.func s) w.input
      (w.input.drop 64) = none) : Yields (.accordOpen id) s fun t => Completed t w .ok (s.keys.nextAccord % 65536) w.stamp
        ∧ t.keys = (accordAdded (openedAccord w s) s).keys ∧ t.adm.nextSeq = s.adm.nextSeq
        ∧ Wrote s t w (accordBlock s.otp.deviceId (openedAccord w s)) := by
  have hexec : exec (.accordOpen id) s = .next (withWork id 0x5A doAccordOpen s) := congrArg Host.Outcome.next (if_pos hn)
  refine yields_work hexec hw ?_
  rw [doAccordOpen_opens (s := taken w s) h]
  have htakes : ringTakes (ringOf (accordAdded (openedAccord w s) (taken w s)) w.ring) w.gen = true := hw.2.2.2
  refine ⟨finish_completed _ _ _ htakes, ?_, ?_, (finish_wrote _ _ _ htakes).congr rfl rfl⟩
  · simp only [finish_frame]
    rfl
  · simp only [finish_frame]
    rfl

theorem accordCancel_frees {a : Accord} (hw : Waits s id 0x5C w) (ha : accordFor s (w.func s) (rd w.input 0 2) = some a) :
    EndsWork (.accordCancel id) s w .ok 0 [] fun t => ∀ x ∈ t.keys.accords, x.no ≠ a.no := by
  have hfor : accordFor (taken w s) (w.func (taken w s)) (rd w.input 0 2) = some a := ha
  refine endsWork_after (u := dropAccord a (taken w s)) rfl hw ?_ rfl rfl rfl ?_
  · simp only [doAccordCancel, hfor]
  · simp

end

/-! ### OWNER_RETIRE (R248) -/

/-- What is left of an owner that is cleared. -/
structure Cleared (f : Nat) (s t : State) : Prop where
  enrolled : (ownerOf t f).enrolled = 0
  games : ∀ x ∈ t.adm.games, x.owner ≠ f
  tickets : ∀ x ∈ t.vm.tickets, x.owner ≠ f
  limits : ∀ x ∈ t.vm.limits, x.owner ≠ f
  keyRecs : ∀ x ∈ t.vm.keyRecs, x.owner ≠ f
  accords : ∀ x ∈ t.keys.accords, x.owner ≠ f
  books : ∀ x ∈ t.eng.books, x.owner = f → x.draining = true ∧ ∃ i ∈ s.adm.items, i.owner = f ∧ i.handle = x.handle

theorem destroySlots_adm (l : List Nat) (s : State) : (l.foldl (fun st i => destroySlot i st) s).adm = s.adm :=
  foldl_keeps (fun t => t.adm = s.adm) _ (fun st i h => by simpa [destroySlot] using h) l s rfl

theorem clearOwner_cleared (f seq : Nat) (s : State) : Cleared f s (clearOwner f seq s) := by
  obtain ⟨-, henrolled, -⟩ := clearOwner_entries f seq s
  have hitems : (clearAreas f (((keepRoot f seq s).keys.slots.filter fun e => decide (64 ≤ e.1) && e.2.state != 0
      && e.2.owner == f).map (·.1) |>.foldl (fun st i => destroySlot i st) (keepRoot f seq s))).adm.items = s.adm.items :=
    congrArg Adm.items (destroySlots_adm _ (keepRoot f seq s))
  refine ⟨henrolled, ?_, ?_, ?_, ?_, ?_, fun x hx ho => ?_⟩
  · simp [clearOwner]
  · simp [clearOwner, clearAreas, syncVault]
  · simp [clearOwner, clearAreas, syncVault]
  · simp [clearOwner, clearAreas, syncVault]
  · simp [clearOwner]
  · obtain ⟨b, hb, rfl⟩ := List.mem_map.1 hx
    obtain ⟨hb, hruns⟩ := List.mem_filter.1 hb
    split at ho
    next hown =>
      have hbf : b.owner = f := by simpa using hown
      simp only [hbf, bne_self_eq_false, Bool.false_or, List.any_eq_true, Bool.and_eq_true, beq_iff_eq, and_assoc] at hruns
      obtain ⟨i, hi, hio, hih, -⟩ := hruns
      rw [if_pos hown]
      exact ⟨rfl, i, hitems ▸ hi, hio, hih⟩
    next hown => exact absurd (by simpa using ho) hown

theorem clearOwner_rings (f seq : Nat) (s : State) : (clearOwner f seq s).rings = s.rings :=
  foldl_keeps (fun t => t.rings = s.rings) _ (fun st i h => by simpa [destroySlot] using h) _ (keepRoot f seq s) rfl

theorem length_insertBy {α : Type} (f : α → Nat) (x : α) : ∀ l : List α, (insertBy f x l).length = l.length + 1
  | [] => rfl
  | y :: r => by
    unfold insertBy
    split
    · rfl
    · simp [length_insertBy f x r]

theorem length_sortBy {α : Type} (f : α → Nat) : ∀ l : List α, (sortBy f l).length = l.length
  | [] => rfl
  | x :: r => (length_insertBy f x (sortBy f r)).trans (congrArg (· + 1) (length_sortBy f r))

section
variable {s : State} {w : Work} {a : Accord} {id : WorkId}

/-- The RULEBOOK leaves of an owner's rulebooks are sealed. -/
def booksSealed (f : Nat) (books : List Book) (s : State) : State :=
  books.foldl (fun st b => sealNow (rulebookLeaf f b.handle b.version b.digest 3) (replayNone st) st) s

/-- The state in which OWNER_RETIRE ends. -/
def ownerRetired (f : Nat) (w : Work) (a : Accord) (s : State) : State :=
  mapOwner f (fun o => { o with id := 0 }) (clearOwner f s.adm.nextSeq (closeBlock f
    (booksSealed f (sortBy (·.handle) (s.eng.books.filter fun b => b.owner == f)) (ceremonyOk w a 0 s).2)))

theorem doOwnerRetire_retires (hr : retireRefused s (rd w.input 0 1) = false) (ha : HasAccord s w (rd w.input 0 1) 0x51 a)
    (hn : canNumberN ((s.eng.books.filter fun k => k.owner == rd w.input 0 1).length + 1) s = true) :
    doOwnerRetire w s = finish (numberedWork w s) .ok 0 [] (event 0x0702 (rd w.input 0 1) []
      (ownerRetired (rd w.input 0 1) w a s)) := by
  have hacc : accordCheck w.accordId (rd w.input 0 1) 0x51 (sha w.input) s = .inr a := ha
  rw [← length_sortBy (·.handle)] at hn
  simp only [doOwnerRetire, hr, withAccord, hacc, hn, ceremonyOk_stamp, Bool.not_true, Bool.false_eq_true, if_false]
  rfl

theorem sealNow_items (l : Leaf) (replay : Bytes) (s : State) : (sealNow l replay s).adm.items = s.adm.items := by
  simp only [sealNow]
  split
  · exact sealLeaf_items ..
  · rfl

theorem booksSealed_keeps (f : Nat) (books : List Book) (s : State) : (booksSealed f books s).rings = s.rings
    ∧ (booksSealed f books s).adm.items = s.adm.items :=
  foldl_keeps (fun t => t.rings = s.rings ∧ t.adm.items = s.adm.items) _
    (fun st b h => ⟨by simp [h], (sealNow_items ..).trans h.2⟩) books s ⟨rfl, rfl⟩

theorem ceremonyOk_items (w : Work) (a : Accord) (handle : Nat) (s : State) :
    (ceremonyOk w a handle s).2.adm.items = s.adm.items := by
  obtain ⟨l, replay, hseal⟩ := ceremonyOk_seals w a handle s
  rw [hseal, sealLeaf_items]
  rfl

theorem ownerRetired_rings (f : Nat) (w : Work) (a : Accord) (s : State) : (ownerRetired f w a s).rings = s.rings := by
  simp [ownerRetired, clearOwner_rings, booksSealed_keeps]

theorem ownerRetired_cleared (f : Nat) (w : Work) (a : Accord) (s : State) : Cleared f s (ownerRetired f w a s) := by
  unfold ownerRetired
  generalize hu : closeBlock f (booksSealed f (sortBy (·.handle) (s.eng.books.filter fun b => b.owner == f))
    (ceremonyOk w a 0 s).2) = u
  have hitems : u.adm.items = s.adm.items := by
    rw [← hu, (closeBlock_journalOnly ..).adm, ← ceremonyOk_items w a 0 s]
    exact (booksSealed_keeps ..).2
  obtain ⟨henrolled, hgames, htickets, hlimits, hkeys, haccords, hbooks⟩ := clearOwner_cleared f s.adm.nextSeq u
  refine ⟨?_, hgames, htickets, hlimits, hkeys, haccords, hitems ▸ hbooks⟩
  rw [ownerOf_mapOwner_same]
  exact henrolled

theorem ownerRetire_clears (hw : Waits s id 0x51 w) (hr : retireRefused s (rd w.input 0 1) = false)
    (ha : HasAccord s w (rd w.input 0 1) 0x51 a)
    (hn : canNumberN ((s.eng.books.filter fun k => k.owner == rd w.input 0 1).length + 1) s = true) :
    Yields (.ownerRetire id) s fun t => Completed t w .ok 0 (some (nextStamp s)) ∧ Cleared (rd w.input 0 1) s t := by
  obtain ⟨hcan, -⟩ := Bool.and_eq_true_iff.1 hn
  refine yields_sealedWork rfl hcan hw ?_
  rw [doOwnerRetire_retires (s := taken w s) hr (accordCheck_taken ha) hn]
  obtain ⟨henrolled, hgames, htickets, hlimits, hkeys, haccords, hbooks⟩ :=
    ownerRetired_cleared (rd w.input 0 1) w a (taken w s)
  have hrings : (event 0x0702 (rd w.input 0 1) [] (ownerRetired (rd w.input 0 1) w a (taken w s))).rings = s.rings := by
    simp only [event_frame, ownerRetired_rings]
    rfl
  refine ⟨?_, ?_, ?_, ?_, ?_, ?_, ?_, ?_⟩
  · exact finish_completed (w := numberedWork w s) .ok 0 [] (by rw [ringOf_congr hrings]; exact hw.2.2.2)
  · rwa [ownerOf_congr (s := ownerRetired (rd w.input 0 1) w a (taken w s)) (by simp)]
  all_goals simpa only [finish_frame, event_frame]

end

/-! ### The obligation -/

/-- Without a mesh enrolment that holds, a device in PRODUCTION enrols no owner. -/
theorem ownerEnrol_unmeshed {s : State} {id : WorkId} {w : Work} (hn : canNumber s = true) (hw : Waits s id 0x50 w)
    (hform : enrolFormOk w.input 1 = true) (hd : s.life.decided = 2) (hmesh : meshValid s = none) :
    EndsWork (.ownerEnrol id) s w .policy 0 [] fun t => t.adm.owners = s.adm.owners ∧ t.keys = s.keys := by
  have hmesh' : meshValid (taken w s) = none := hmesh
  have hd' : (taken w s).life.decided = 2 := hd
  have hexec : exec (.ownerEnrol id) s = .next (withWork id 0x50 doOwnerEnrol s) := congrArg Host.Outcome.next (if_pos hn)
  refine endsWork_finish hexec hw ?_ ⟨by simp [taken], by simp [taken]⟩
  simp [doOwnerEnrol, hform, hd', hmesh']

/-- Settles O30: an enrolment is what the body says before its ceremony, which changes of it only the journal and leaves a
root with a sound CHECK in its slot (`SlotKept.ceremonyOk`); a retirement clears the owner after its leaves. -/
theorem ownersAndAccords : Obligations.OwnersAndAccords := by
  unfold Obligations.OwnersAndAccords
  intro s id w b f
  refine ⟨ownerEnrol_unmeshed, fun a hn hw hform hd h1 h63 hmesh hfree hid ha => ⟨fun hnone => ?_, fun i hask hdraw hslot hq => ?_⟩,
    fun a hn hw hform hz hid ha => officialSet_sets hn hw hform hz hid ha, fun a => ?_, ?_,
    fun a => accordCancel_frees⟩
  · obtain ⟨t, ht, hdone, howner, -⟩ := ownerEnrol_enrols (root := none) hn hw hform hd h1 h63 hmesh hfree hid ha
      (.inl ⟨rfl, hnone⟩)
    refine ⟨t, ht, hdone, ⟨?_, ?_, ?_⟩, ?_, ?_⟩
    all_goals
      rw [howner]
      rfl
  · obtain ⟨t, ht, hdone, howner, hroot⟩ := ownerEnrol_enrols (root := some i) hn hw hform hd h1 h63 hmesh hfree hid ha
      (.inr ⟨rfl, hask, hdraw, hslot, hq⟩)
    refine ⟨t, ht, hdone, ⟨?_, ?_, ?_⟩, ?_, ?_, hroot i rfl⟩
    all_goals
      rw [howner]
      rfl
  · intro g hw hr ha hn
    obtain ⟨t, ht, hdone, hcleared⟩ := ownerRetire_clears hw hr ha hn
    exact ⟨t, ht, hdone, hcleared.enrolled, hcleared.games, hcleared.tickets, hcleared.limits, hcleared.keyRecs, hcleared.accords,
      hcleared.books⟩
  · intro owner hw hn herr
    obtain ⟨t, ht, hdone, hkeys, hseq, hwrote⟩ := accordOpen_adds hw hn herr
    exact ⟨t, ht, hdone, by rw [hkeys]; rfl, hseq, openedAccord w s, by rw [hkeys]; rfl, rfl, rfl, rfl, rfl, rfl, hwrote⟩

end Sys2Proof.Machine
end


section
namespace Sys2Proof.Machine

/-! ### What the bus changes (R341-R347, R360) -/

/-- Only the card controller and the outputs have changed, and no operation has. -/
structure BusOnly (s t : State) : Prop where
  only : t = { s with cards := t.cards, out := t.out }
  ops : t.cards.ops = s.cards.ops

theorem BusOnly.refl (s : State) : BusOnly s s := ⟨rfl, rfl⟩

theorem BusOnly.trans {s t u : State} (h : BusOnly s t) (k : BusOnly t u) : BusOnly s u :=
  ⟨by rw [k.only, h.only], k.ops.trans h.ops⟩

theorem BusOnly.rings {s t : State} (h : BusOnly s t) : t.rings = s.rings := by rw [h.only]
theorem BusOnly.adm {s t : State} (h : BusOnly s t) : t.adm = s.adm := by rw [h.only]
theorem BusOnly.dep {s t : State} (h : BusOnly s t) : t.dep = s.dep := by rw [h.only]
theorem BusOnly.keys {s t : State} (h : BusOnly s t) : t.keys = s.keys := by rw [h.only]

theorem BusOnly.completed {s t : State} (h : BusOnly s t) {w : Work} {st : Status} {d : Nat} {q : Option Stamp}
    (hc : Completed s w st d q) : Completed t w st d q := by
  simpa only [Completed, ringOf_congr h.rings] using hc

theorem sendStep_busOnly (n : Nat) (st : CardStep) (rest : List (Nat × CardStep)) (s : State) : BusOnly s (sendStep n st rest s) :=
  ⟨rfl, rfl⟩

theorem mapCard_busOnly (n : Nat) (f : Card → Card) (s : State) : BusOnly s (mapCard n f s) := ⟨rfl, rfl⟩

theorem issueHead_busOnly (s : State) : BusOnly s (issueHead s) := by
  unfold issueHead
  extract_lets writes cards u
  have hu : BusOnly s u := by
    unfold u
    split <;> exact ⟨rfl, rfl⟩
  refine hu.trans ?_
  split
  · exact .refl u
  · dsimp only
    split_ifs
    · exact sendStep_busOnly ..
    · exact sendStep_busOnly ..
    · split
      · exact ((sendStep_busOnly ..).trans (mapCard_busOnly ..)).trans (sendStep_busOnly ..)
      · exact sendStep_busOnly ..

/-- A step that needs its card selected is no write that waits for PWR_FAIL_N: it stays in the queue until it ends. -/
def asksCard : CardStep → Bool
  | .request _ | .cancelRequest => true
  | _ => false

theorem issueHead_keeps {s : State} {n : Nat} {x : CardStep} (hx : asksCard x = true) (h : (n, x) ∈ s.cards.bus) :
    (n, x) ∈ (issueHead s).cards.bus := by
  unfold issueHead
  extract_lets writes cards u
  have hu : (n, x) ∈ u.cards.bus := by
    unfold u
    split
    · refine List.mem_filter.2 ⟨h, ?_⟩
      cases x with
      | request _ => rfl
      | cancelRequest => rfl
      | _ => cases hx
    · exact h
  split
  next hnil => rw [hnil] at hu; cases hu
  next m st rest hcons =>
    dsimp only
    rw [hcons] at hu
    split_ifs
    · exact List.mem_cons_of_mem _ (hcons ▸ hu)
    · exact List.mem_cons_of_mem _ (hcons ▸ hu)
    · split
      · rcases List.mem_cons.1 hu with heq | hu
        · cases heq; cases hx
        · exact List.mem_cons_of_mem _ hu
      · exact hu

theorem queueStep_busOnly (n : Nat) (st : CardStep) (s : State) : BusOnly s (queueStep n st s) := by
  unfold queueStep
  extract_lets idle cards u
  have hu : BusOnly s u := ⟨rfl, rfl⟩
  split
  · exact hu.trans (issueHead_busOnly u)
  · exact hu

theorem queueStep_keeps {s : State} (n m : Nat) (st : CardStep) {x : CardStep} (hx : asksCard x = true)
    (h : (n, x) ∈ s.cards.bus ++ [(m, st)]) : (n, x) ∈ (queueStep m st s).cards.bus := by
  unfold queueStep
  extract_lets idle cards u
  split
  · exact issueHead_keeps hx h
  · exact h

theorem finishStep_busOnly (next : List (Nat × CardStep)) (s : State) : BusOnly s (finishStep next s) :=
  .trans (t := { s with cards := { s.cards with bus := next ++ s.cards.bus.drop 1, phase := 0, repeated := false, blocks := [] } })
    ⟨rfl, rfl⟩ (issueHead_busOnly _)

theorem dropSteps_busOnly (n : Nat) (s : State) : BusOnly s (dropSteps n s) := by
  unfold dropSteps
  extract_lets mine cards u
  have hu : BusOnly s u := ⟨rfl, rfl⟩
  split
  · exact hu.trans (.trans (t := { u with cards := { u.cards with phase := 0, repeated := false, blocks := [], regiven := none } })
      ⟨rfl, rfl⟩ (issueHead_busOnly _))
  · exact hu

/-! ### Operations on the bus -/

theorem partOn_congr {s t : State} (h : t.cards.ops = s.cards.ops) (n : Nat) : partOn t n = partOn s n := by
  simp only [partOn, h]

/-- The part under way on a slot is one of its operation's, of that slot. -/
theorem partOn_some {s : State} {n : Nat} {o : CardOp} {p : CardPart} (h : partOn s n = some (o, p)) :
    p ∈ o.parts ∧ p.slot = n ∧ 1 ≤ p.stage := by
  obtain ⟨x, -, hx⟩ := List.exists_of_findSome?_eq_some h
  obtain ⟨q, hq, heq⟩ := Option.map_eq_some_iff.1 hx
  cases heq
  have hp := List.find?_some hq
  simp only [Bool.and_eq_true, beq_iff_eq, decide_eq_true_eq] at hp
  obtain ⟨⟨hslot, hstage⟩, -⟩ := hp
  exact ⟨List.mem_of_find?_eq_some hq, hslot, hstage⟩

theorem kick_none {s : State} (h : s.cards.ops = []) : kick s = s := by simp [kick, h]

theorem kick_one {s : State} {o : CardOp} (h : s.cards.ops = [o]) : kick s = kickOne o s := by simp [kick, h]

/-- An operation that waits for its card starts nothing. -/
theorem kickOne_waiting {s : State} {o : CardOp} {p : CardPart} (hp : o.parts = [p]) (h3 : p.stage = 3) : kickOne o s = s := by
  simp [kickOne, nextPart, hp, h3]

end Sys2Proof.Machine
end


section
namespace Sys2Proof.Machine

/-! ### An operation ends (R363, R370) -/

/-- The operation is off the bus. -/
def opClosed (o : CardOp) (s : State) : State :=
  let mine := fun (n : Nat) => o.parts.any fun p => p.slot == n && decide (1 ≤ p.stage) && decide (p.stage ≤ 4)
  { s with cards := { s.cards with
    slots := s.cards.slots.map fun e => if mine e.1 then (e.1, { e.2 with failures := 0 }) else e
    ops := s.cards.ops.filter fun x => x.work != o.work
    bus := s.cards.bus.take 1 ++ (s.cards.bus.drop 1).filter fun p => !(mine p.1 && opStep p.2) } }

/-- The end of a share ceremony that waits for its number. -/
def opEnding (o : CardOp) (st : Status) (d : Nat) (out : Bytes) : Ending :=
  { leaf := serviceLeaf o.work o.owner st d, work := some o.work, status := st, detail := d, out := out, ownStamp := true }

theorem endCardOp_sign {o : CardOp} {no : Nat} (h : o.task = .sign no) (st : Status) (d : Nat) (out : Bytes) (s : State) :
    endCardOp o st d out s = finish o.work st d out (opClosed o s) := by
  simp only [endCardOp, h]
  rfl

theorem endCardOp_ceremony {o : CardOp} (h : ∀ no, o.task ≠ .sign no) (st : Status) (d : Nat) (out : Bytes) (s : State) :
    endCardOp o st d out s = pushEnd (opEnding o st d out) (opClosed o s) := by
  cases ht : o.task with
  | sign no => exact absurd ht (h no)
  | _ =>
    simp only [endCardOp, ht]
    rfl

theorem opClosed_ops {o : CardOp} {s : State} (h : s.cards.ops = [o]) : (opClosed o s).cards.ops = [] := by
  simp [opClosed, h]

/-- What a command leaves of the only operation, which it ends. -/
structure OpEnded (o : CardOp) (st : Status) (d : Nat) (q : Option Stamp) (t : State) : Prop where
  ops : t.cards.ops = []
  completed : Completed t o.work st d q

theorem OpEnded.mono {o : CardOp} {st : Status} {d : Nat} {q : Option Stamp} {t u : State} (h : OpEnded o st d q t)
    (hb : BusOnly t u) : OpEnded o st d q u := ⟨hb.ops.trans h.ops, hb.completed h.completed⟩

/-- What starts after the only operation has ended is nothing. -/
theorem OpEnded.kick {o : CardOp} {st : Status} {d : Nat} {q : Option Stamp} {t : State} (h : OpEnded o st d q t) :
    kick t = t := kick_none h.ops

theorem endCardOp_signs {o : CardOp} {no : Nat} {s : State} (h : o.task = .sign no) (hops : s.cards.ops = [o])
    (ht : ringTakes (ringOf s o.work.ring) o.work.gen = true) (st : Status) (d : Nat) (out : Bytes) :
    OpEnded o st d o.work.stamp (endCardOp o st d out s) := by
  rw [endCardOp_sign h]
  exact ⟨by simpa using opClosed_ops hops, finish_completed st d out ht⟩

/-- An end that nothing stands before takes the next number at once. -/
theorem pushEnd_now {e : Ending} {w : Work} {s : State} (he : s.adm.ends = []) (hn : canNumber s = true) (hw : e.work = some w)
    (ho : e.ownStamp = true) (ht : ringTakes (ringOf s w.ring) w.gen = true) :
    Completed (pushEnd e s) w e.status e.detail (some (nextStamp s)) ∧ Sealed (pushEnd e s) (nextStamp s) e.leaf
    ∧ (pushEnd e s).adm.nextSeq = s.adm.nextSeq + 1 ∧ (pushEnd e s).cards = s.cards := by
  have hcan : canNumber { s with adm := { s.adm with ends := s.adm.ends ++ [e] } } = true := hn
  generalize hu : ({ s with adm := { s.adm with ends := s.adm.ends ++ [e] } } : State) = u at hcan
  have hpush : pushEnd e s = { endOne e u with adm := { (endOne e u).adm with ends := [] } } := by
    have hends : u.adm.ends = [e] := by rw [← hu, he]; rfl
    rw [pushEnd, hu, drainEnds, hends, drainList, if_pos hcan]
    rfl
  have hone : endOne e u = finish { w with stamp := some (nextStamp s) } e.status e.detail e.out
      (sealLeaf (nextStamp s) e.leaf (e.replay.getD (replayNone (issue e.leaf.owner u).2)) (issue e.leaf.owner u).2) := by
    rw [← hu]
    simp only [endOne, hw, ho]
    rfl
  have hrings : u.rings = s.rings := by rw [← hu]
  rw [hpush, hone]
  refine ⟨?_, ?_, ?_, ?_⟩
  · exact finish_completed (w := { w with stamp := some (nextStamp s) }) e.status e.detail e.out
      (by rw [ringOf_congr (s := s) (by simpa using hrings)]; exact ht)
  · simp only [Sealed, finish_frame]
    exact sealLeaf_sealed ..
  · simp only [finish_frame, sealLeaf_keeps, issue_nextSeq, ← hu]
  · simp only [finish_frame, sealLeaf_frame, issue_frame, ← hu]

theorem endCardOp_ends {o : CardOp} {s : State} (h : ∀ no, o.task ≠ .sign no) (hops : s.cards.ops = [o]) (he : s.adm.ends = [])
    (hn : canNumber s = true) (ht : ringTakes (ringOf s o.work.ring) o.work.gen = true) (st : Status) (d : Nat) (out : Bytes) :
    OpEnded o st d (some (nextStamp s)) (endCardOp o st d out s) ∧ (endCardOp o st d out s).adm.nextSeq = s.adm.nextSeq + 1
    ∧ Sealed (endCardOp o st d out s) (nextStamp s) (serviceLeaf o.work o.owner st d) := by
  rw [endCardOp_ceremony h]
  obtain ⟨hdone, hsealed, hseq, hcards⟩ := pushEnd_now (e := opEnding o st d out) (s := opClosed o s) he hn rfl rfl ht
  exact ⟨⟨hcards ▸ opClosed_ops hops, hdone⟩, hseq, hsealed⟩

/-! ### Time runs out (R360, R363, R370) -/

/-- CANCEL_REQUEST to the cards that wait. -/
theorem cancelAll_busOnly (l : List Nat) (s : State) : BusOnly s (l.foldl (fun st n => queueStep n .cancelRequest st) s) :=
  foldl_keeps (BusOnly s) _ (fun _ _ h => h.trans (queueStep_busOnly ..)) l s (.refl s)

/-- The operation ends at its deadline, and then only CANCEL_REQUEST goes out. -/
theorem timeOut_busOnly (o : CardOp) (s : State) :
    BusOnly (endCardOp o .accordRequired 6 [] (advance o.deadline s)) (timeOut o s) := cancelAll_busOnly ..

theorem timeOut_cancels {o : CardOp} {p : CardPart} {s : State} (hp : o.parts = [p]) (h3 : p.stage = 3)
    (hi : (cardOf s p.slot).identified = true) : (p.slot, CardStep.cancelRequest) ∈ (timeOut o s).cards.bus := by
  simp only [timeOut, hp, List.filter_cons, h3, hi, beq_self_eq_true, Bool.and_self, if_true, List.filter_nil, List.map_cons,
    List.map_nil, List.foldl_cons, List.foldl_nil]
  exact queueStep_keeps _ _ _ rfl (by simp)

end Sys2Proof.Machine
end


section
namespace Sys2Proof.Machine

/-! ### A signature is counted (R250, R252) -/

theorem addSignature_keeps (a : Accord) (card sig : Bytes) (s : State) :
    (addSignature a card sig s).2 = { s with keys := { s.keys with accords := (addSignature a card sig s).2.keys.accords } } := by
  simp only [addSignature]
  split
  · rfl
  · split <;> rfl

theorem addSignature_congr {s t : State} (ho : t.adm.owners = s.adm.owners) (hd : t.otp = s.otp) (a : Accord) (card sig : Bytes) :
    (addSignature a card sig t).1 = (addSignature a card sig s).1 := by
  have hkey : cardKeyFor t a card = cardKeyFor s a card := by simp only [cardKeyFor, newOfficials, ownerOf_congr ho]
  simp only [addSignature, hkey, hd]
  split
  · rfl
  · split <;> rfl

/-- A signature that is counted is among its accord's. -/
theorem addSignature_counts {a : Accord} {card sig : Bytes} {s : State} (h : (addSignature a card sig s).1.1 = .ok) :
    ∀ x ∈ (addSignature a card sig s).2.keys.accords, x.no = a.no → card ∈ x.signers := by
  simp only [addSignature] at h ⊢
  split at h
  · cases h
  next hkey =>
    split at h
    · cases h
    next hverify =>
      intro x hx hno
      simp only [if_neg hverify] at hx
      obtain ⟨y, -, rfl⟩ := List.mem_map.1 hx
      split_ifs at hno ⊢ with hy hin
      · simpa using hin
      · simp
      · exact absurd hno hy

/-! ### ACCORD_ADD (R252, R359, R363) -/

/-- The card that ACCORD_ADD names. -/
abbrev addCard (w : Work) : Bytes := slice w.input 16 16

section
variable {s : State} {w : Work} {a : Accord} (ha : accordFor s (w.func s) (rd w.input 0 2) = some a)
  (hz : allZero w.input 2 14 = true) (hk : (cardKeyFor s a (addCard w)).isSome = true)
include ha hz hk

theorem doAccordAdd_asks (hsig : allZero w.input 32 64 = true) : doAccordAdd w s = askCard w a (addCard w) s := by
  simp only [doAccordAdd, ha, hz, Option.isNone_eq_false_iff.2 hk, hsig]
  rfl

theorem doAccordAdd_counts (hsig : allZero w.input 32 64 = false) (hslot : slotWith s (addCard w) = none) :
    doAccordAdd w s = finish w (addSignature a (addCard w) (slice w.input 32 64) s).1.1
      (addSignature a (addCard w) (slice w.input 32 64) s).1.2 [] (addSignature a (addCard w) (slice w.input 32 64) s).2 := by
  simp only [doAccordAdd, ha, hz, Option.isNone_eq_false_iff.2 hk, hsig, hslot]
  rfl

end

section
variable {s : State} {id : WorkId} {w : Work} {a : Accord} {n : Nat} (hw : Waits s id 0x5B w)
include hw

theorem accordAdd_noAccord (ha : accordFor s (w.func s) (rd w.input 0 2) = none) :
    EndsWork (.accordAdd id) s w .notFound 0 [] fun t => t.keys = s.keys := by
  have hfor : accordFor (taken w s) (w.func (taken w s)) (rd w.input 0 2) = none := ha
  refine endsWork_finish rfl hw ?_ (by simp [taken])
  simp only [doAccordAdd, hfor]

variable (ha : accordFor s (w.func s) (rd w.input 0 2) = some a) (hz : allZero w.input 2 14 = true)
  (hk : (cardKeyFor s a (addCard w)).isSome = true)
include ha hz hk

/-- A signature that the command carries is counted or refused. -/
theorem accordAdd_counts (hsig : allZero w.input 32 64 = false) (hslot : slotWith s (addCard w) = none) :
    Yields (.accordAdd id) s fun t =>
      let r := (addSignature a (addCard w) (slice w.input 32 64) s).1
      Completed t w r.1 r.2 w.stamp ∧ w ∉ t.adm.work
      ∧ (r.1 = .ok → ∀ x ∈ t.keys.accords, x.no = a.no → addCard w ∈ x.signers) := by
  have hsame := addSignature_congr (s := s) (t := taken w s) rfl rfl a (addCard w) (slice w.input 32 64)
  have hkeeps := addSignature_keeps a (addCard w) (slice w.input 32 64) (taken w s)
  have hcounts := addSignature_counts (a := a) (card := addCard w) (sig := slice w.input 32 64) (s := taken w s)
  refine yields_work rfl hw ?_
  rw [doAccordAdd_counts (s := taken w s) ha hz hk hsig hslot]
  rw [hsame] at hcounts ⊢
  refine ⟨finish_completed _ _ _ ?_, ?_, fun hok => ?_⟩
  · rw [hkeeps]
    exact hw.2.2.2
  · rw [hkeeps]
    simpa using not_mem_taken w s
  · simpa using hcounts hok

theorem accordAdd_noCard (hsig : allZero w.input 32 64 = true) (hslot : slotWith s (addCard w) = none) :
    EndsWork (.accordAdd id) s w .notFound 0 [] fun t => t.keys = s.keys := by
  have hnone : slotWith (taken w s) (addCard w) = none := hslot
  refine endsWork_finish rfl hw ?_ (by simp [taken])
  rw [doAccordAdd_asks (s := taken w s) ha hz hk hsig]
  simp only [askCard, hnone]

end

/-- The operation that asks the card in slot n for its signature, at a stage of its part. -/
def signOp (w : Work) (a : Accord) (n stage : Nat) : CardOp :=
  { task := .sign a.no, work := w, owner := a.owner, deadline := a.openT + a.windowS * 10 ^ 9, kcv := [], setNo := 0
    parts := [{ slot := n, card := addCard w, stage := stage, header := [], share := [], place := 0 }] }

/-- One more operation waits for its start. -/
def opAdded (o : CardOp) (s : State) : State := { s with cards := { s.cards with ops := s.cards.ops ++ [o] } }

theorem askCard_asks {s : State} {w : Work} {a : Accord} {n : Nat} (hslot : slotWith s (addCard w) = some n)
    (hx : cardExpired s (cardOf s n) = false) (hpin : (cardOf s n).pinBlocked = false) :
    askCard w a (addCard w) s = kick (opAdded (signOp w a n 0) s) := by
  simp only [askCard, hslot, hx, hpin]
  rfl

/-- An idle bus takes up the request at once. -/
theorem kick_signOp {s : State} {w : Work} {a : Accord} {n : Nat} (ha : a ∈ s.keys.accords)
    (hi : (cardOf s n).identified = true) (hc : (cardOf s n).id = addCard w) (hops : s.cards.ops = [signOp w a n 0])
    (hbus : s.cards.bus = []) : ∃ q u, kick s = queueStep n (.request q) u ∧ u.cards.ops = [signOp w a n 2]
      ∧ u.adm = s.adm := by
  obtain ⟨b, hb⟩ := Option.isSome_iff_exists.1 (List.find?_isSome (p := fun x : Accord => x.no == a.no).2
    ⟨a, ha, beq_self_eq_true a.no⟩)
  have hpart : partOn s n = none := by simp [partOn, hops, signOp]
  refine ⟨requestBlock s 1 (accordBlock s.otp.deviceId b), startStage (signOp w a n 0)
    { slot := n, card := addCard w, stage := 0, header := [], share := [], place := 0 } 2 s, ?_, ?_, rfl⟩
  · rw [kick_one hops]
    simp [kickOne, nextPart, signOp, hpart, hbus, startPart, hi, hc, hb]
  · simp [startStage, hops, signOp]

/-- The card that is named, with no signature carried, is asked for one. -/
theorem accordAdd_requests {s : State} {id : WorkId} {w : Work} {a : Accord} {n : Nat} (hw : Waits s id 0x5B w)
    (ha : accordFor s (w.func s) (rd w.input 0 2) = some a) (hz : allZero w.input 2 14 = true)
    (hk : (cardKeyFor s a (addCard w)).isSome = true) (hsig : allZero w.input 32 64 = true)
    (hslot : slotWith s (addCard w) = some n) (hi : (cardOf s n).identified = true) (hc : (cardOf s n).id = addCard w)
    (hx : cardExpired s (cardOf s n) = false) (hpin : (cardOf s n).pinBlocked = false) (hops : s.cards.ops = [])
    (hbus : s.cards.bus = []) : Yields (.accordAdd id) s fun t => w ∉ t.adm.work
      ∧ (∃ q, (n, CardStep.request q) ∈ t.cards.bus) ∧ t.cards.ops = [signOp w a n 2] := by
  have hadded : (opAdded (signOp w a n 0) (taken w s)).cards.ops = [signOp w a n 0] := congrArg (· ++ [signOp w a n 0]) hops
  refine yields_work rfl hw ?_
  rw [doAccordAdd_asks (s := taken w s) ha hz hk hsig, askCard_asks (s := taken w s) hslot hx hpin]
  obtain ⟨q, u, hkick, huops, huadm⟩ :=
    kick_signOp (s := opAdded (signOp w a n 0) (taken w s)) (List.mem_of_find?_eq_some ha) hi hc hadded hbus
  have hqueue := queueStep_busOnly n (.request q) u
  have hrequest : (n, CardStep.request q) ∈ (queueStep n (.request q) u).cards.bus :=
    queueStep_keeps n n _ rfl (by simp)
  rw [hkick, hqueue.adm, huadm]
  exact ⟨not_mem_taken w s, ⟨q, hrequest⟩, hqueue.ops.trans huops⟩

end Sys2Proof.Machine
end


section
namespace Sys2Proof.Machine

/-! ### A signature that is asked of a card (R360, R363, R365) -/

section
variable {s : State} {n no : Nat} {o : CardOp} {p : CardPart} (hb : busOn s = true) (hops : s.cards.ops = [o])
  (hp : partOn s n = some (o, p))
include hb hops hp

section
variable (ht : o.task = .sign no) (htakes : ringTakes (ringOf s o.work.ring) o.work.gen = true)
include ht htakes

theorem cardPoll_gone (hi : (cardOf s n).identified = false) :
    Yields (.cardPoll n) s (OpEnded o .notFound 0 o.work.stamp) := by
  refine yields_when rfl hb ?_
  have hpoll : doCardPoll n s = endCardOp o .notFound 0 [] s := by simp [doCardPoll, hp, hi]
  have hend := endCardOp_signs ht hops htakes .notFound 0 []
  rw [hpoll, hend.kick]
  exact hend

theorem cardRequestDeadline_ends (hparts : o.parts = [p]) (hi : (cardOf s n).identified = true) (h3 : p.stage = 3) :
    Yields (.cardRequestDeadline n) s fun t => OpEnded o .accordRequired 6 o.work.stamp t
      ∧ (n, CardStep.cancelRequest) ∈ t.cards.bus := by
  obtain ⟨-, hslot, -⟩ := partOn_some hp
  refine yields_when rfl hb ?_
  have hdeadline : doCardRequestDeadline n s = timeOut o s := by simp [doCardRequestDeadline, hp, h3]
  have htakes' : ringTakes (ringOf (advance o.deadline s) o.work.ring) o.work.gen = true := by
    rwa [ringOf_congr (s := s) (by simp)]
  have hend := (endCardOp_signs ht (s := advance o.deadline s) (by simpa using hops) htakes' .accordRequired 6 []).mono
    (timeOut_busOnly o s)
  rw [hdeadline, hend.kick]
  exact ⟨hend, hslot ▸ timeOut_cancels hparts h3 (hslot ▸ hi)⟩

end

/-- A request that waits on an idle bus is polled. -/
theorem cardPoll_polls (hparts : o.parts = [p]) (hi : (cardOf s n).identified = true) (hc : (cardOf s n).id = p.card)
    (h3 : p.stage = 3) (hbus : s.cards.bus = []) : Yields (.cardPoll n) s fun t => t.cards.bus = [(n, .sendStatus)]
      ∧ t.out = .cardCmd n 13 ((n + 1) * 2 ^ 16) :: s.out := by
  refine yields_when rfl hb ?_
  have hpoll : doCardPoll n s = queueStep n .sendStatus s := by simp [doCardPoll, hp, hi, hc, h3, hbus]
  rw [hpoll, kick_one ((queueStep_busOnly ..).ops.trans hops), kickOne_waiting hparts h3]
  cases hpf : s.sys.pwrFail with
  | false => simp [queueStep, hbus, issueHead, hpf, needsTran, needsStby, sendStep, stepCommand, rcaOf]
  | true => simp [queueStep, hbus, issueHead, hpf, needsTran, needsStby, sendStep, stepCommand, rcaOf]

/-- The signature that the card answers with is counted or refused. -/
theorem cardDataBlock_counts {a : Accord} {b : Bytes} (ht : o.task = .sign no)
    (htakes : ringTakes (ringOf s o.work.ring) o.work.gen = true) (hbus : s.cards.bus = [(n, .fetch)]) (hphase : s.cards.phase = 1)
    (ha : s.keys.accords.find? (fun x => x.no == no) = some a) (hx : cardExpired s (cardOf s n) = false) :
    Yields (.cardDataBlock n b true) s fun t =>
      let r := (addSignature a p.card (slice b 0 64) s).1
      OpEnded o r.1 r.2 o.work.stamp t ∧ (r.1 = .ok → ∀ x ∈ t.keys.accords, x.no = a.no → p.card ∈ x.signers) := by
  refine yields_when rfl hb ?_
  intro r
  generalize hu : mapCard n (fun c => { c with state := 4 }) s = u
  have hpart : partOn u n = some (o, p) := by
    rw [← hu]
    exact hp
  have hfind : u.keys.accords.find? (fun x => x.no == no) = some a := by rw [← hu]; exact ha
  have hfresh : cardExpired u (cardOf u n) = false := by
    rw [← hu, mapCard, cardOf_setCard_same]
    exact hx
  have hr : (addSignature a p.card (slice b 0 64) u).1 = r := by
    rw [← hu]
    exact addSignature_congr (s := s) (t := mapCard n _ s) rfl rfl ..
  have hdata : doCardDataBlock n b true s = finishStep [] (endCardOp o r.1 r.2 [] (addSignature a p.card (slice b 0 64) u).2) := by
    simp [doCardDataBlock, hbus, hphase, stepReads, hu, fetched, hpart, ht, hfind, hfresh, hr]
  have hkeeps := addSignature_keeps a p.card (slice b 0 64) u
  have hend : OpEnded o r.1 r.2 o.work.stamp (endCardOp o r.1 r.2 [] (addSignature a p.card (slice b 0 64) u).2) := by
    refine endCardOp_signs ht ?_ ?_ r.1 r.2 []
    · rw [hkeeps, ← hu]
      exact hops
    · rw [hkeeps, ← hu]
      exact htakes
  have hbusOnly := finishStep_busOnly [] (endCardOp o r.1 r.2 [] (addSignature a p.card (slice b 0 64) u).2)
  rw [hdata, (hend.mono hbusOnly).kick]
  refine ⟨hend.mono hbusOnly, fun hok => ?_⟩
  rw [hbusOnly.keys, endCardOp_sign ht]
  simp only [finish_frame]
  exact addSignature_counts (show (addSignature a p.card (slice b 0 64) u).1.1 = .ok from hr ▸ hok)

end

/-! ### Ceremonies that their deadline or a removal ends (R365, R370) -/

theorem canNumber_congr {s t : State} (hd : t.dep = s.dep) (ha : t.adm = s.adm) (hf : t.flash = s.flash) :
    canNumber t = canNumber s := by
  have hnow : flashNow t = flashNow s := by rw [flashNow, flashNow, hf]
  have hlast : lastIssued t = lastIssued s := by rw [lastIssued, lastIssued, hnow]
  rw [canNumber, canNumber, seqHigh, seqHigh, hd, ha, hnow, hlast]

theorem firstCeremony_only {s : State} {o : CardOp} (hops : s.cards.ops = [o]) (ht : ∀ no, o.task ≠ .sign no) :
    firstCeremony s = some o := by
  cases h : o.task with
  | sign no => exact absurd h (ht no)
  | _ => simp [firstCeremony, hops, h, sortBy, insertBy]

theorem removeCard_writing {s : State} {n txn place : Nat} {p : CardPart} {o : CardOp} (hp : partOn s n = some (o, p))
    (hrow : removalRow s n = some (4, txn, place)) : ∃ args,
    BusOnly (endCardOp o .cardUncertain 0 [] (event 0x0A05 0 args (markRecord (cardOf s n).id txn s))) (removeCard n s) := by
  refine ⟨[(16, leNat (cardOf s n).id), (2, txn), (1, place)], ?_⟩
  have hpart : partOn (event 0x0A05 0 [(16, leNat (cardOf s n).id), (2, txn), (1, place)]
      (markRecord (cardOf s n).id txn s)) n = some (o, p) := by
    rw [partOn_congr (s := s) (by simp [markRecord]), hp]
  simp only [removeCard, hrow, endOn, hpart]
  refine .trans ?_ (dropSteps_busOnly ..)
  exact ⟨rfl, rfl⟩

section
variable {s : State} {o : CardOp} (hb : busOn s = true) (hops : s.cards.ops = [o]) (ht : ∀ no, o.task ≠ .sign no)
  (hn : canNumber s = true) (he : s.adm.ends = []) (htakes : ringTakes (ringOf s o.work.ring) o.work.gen = true)
include hb hops ht hn he htakes

theorem ceremonyTimeout_ends : Yields .ceremonyTimeout s fun t =>
    OpEnded o .accordRequired 6 (some (nextStamp (advance o.deadline s))) t ∧ t.adm.nextSeq = s.adm.nextSeq + 1
    ∧ Sealed t (nextStamp (advance o.deadline s)) (serviceLeaf o.work o.owner .accordRequired 6) := by
  refine yields_when rfl hb ?_
  have htimeout : doCeremonyTimeout s = timeOut o s := by simp only [doCeremonyTimeout, firstCeremony_only hops ht]
  have hcan : canNumber (advance o.deadline s) = true := by rwa [canNumber_congr (s := s) (by simp) (by simp) (by simp)]
  obtain ⟨hend, hseq, hsealed⟩ := endCardOp_ends (s := advance o.deadline s) ht (by simpa using hops) (by simpa using he) hcan
    (by rwa [ringOf_congr (s := s) (by simp)]) .accordRequired 6 []
  have hbus := timeOut_busOnly o s
  rw [htimeout, (hend.mono hbus).kick]
  refine ⟨hend.mono hbus, ?_, ?_⟩
  · rw [hbus.adm, hseq]
    simp
  · rw [Sealed, hbus.dep]
    exact hsealed

theorem cardRemoved_uncertain {n txn place : Nat} {p : CardPart} {b : Bytes} {rest : List (Nat × CardStep)}
    (hp : partOn s n = some (o, p)) (hseated : (s.cards.slots.at? n).isSome = true) (hi : (cardOf s n).identified = true)
    (hbus : s.cards.bus = (n, .shareWrite txn place b) :: rest) (hphase : s.cards.phase ≠ 0) :
    Yields (.cardRemoved n) s (OpEnded o .cardUncertain 0 (some (nextStamp s))) := by
  refine yields_when rfl hseated ?_
  have hrow : removalRow s n = some (4, txn, place) := by simp [removalRow, hi, hbus, hphase]
  obtain ⟨args, hremoved⟩ := removeCard_writing hp hrow
  generalize hu : event 0x0A05 0 args (markRecord (cardOf s n).id txn s) = u at hremoved
  have hframe : u.dep = s.dep ∧ u.adm = s.adm ∧ u.flash = s.flash ∧ u.clk = s.clk ∧ u.rings = s.rings
      ∧ u.cards.ops = s.cards.ops := by
    rw [← hu]
    simp [markRecord]
  obtain ⟨hdep, hadm, hflash, hclk, hrings, huops⟩ := hframe
  have hstamp : nextStamp u = nextStamp s := by simp only [nextStamp, hadm, hclk, hdep]
  obtain ⟨hend, -⟩ := endCardOp_ends (s := u) ht (huops.trans hops) (by rwa [hadm]) (by rwa [canNumber_congr hdep hadm hflash])
    (by rwa [ringOf_congr hrings]) .cardUncertain 0 []
  have hdone := (hstamp ▸ hend).mono hremoved
  simp only [hb, if_true]
  rw [hdone.kick]
  exact hdone

end

/-- Settles O51: the card that is asked holds the only operation, which then ends once, and what the bus sends afterwards
changes no ring, key or leaf. -/
theorem cardOps : Obligations.CardOps := by
  unfold Obligations.CardOps
  intro s n
  refine ⟨fun id w a => ?_, fun id w => accordAdd_noAccord, fun o p no hb hops ht hparts hp htakes => ?_,
    fun o hb hops ht hn he htakes => ⟨?_, fun p txn place b rest hp hseated hi hbus hphase => ?_⟩⟩
  · intro b card hw ha hz hk
    refine ⟨accordAdd_counts hw ha hz hk, accordAdd_noCard hw ha hz hk, fun hsig hslot hi hc hx hpin hops hbus => ?_⟩
    refine (accordAdd_requests hw ha hz hk hsig hslot hi hc hx hpin hops hbus).imp fun t ⟨ht, hdone, hrequest, htops⟩ => ?_
    exact ⟨ht, hdone, hrequest, signOp w a n 2, htops, rfl, rfl, rfl⟩
  · intro ends
    refine ⟨fun hi => ?_, fun hi hc h3 => ⟨cardPoll_polls hb hops hp hparts hi hc h3, ?_⟩, fun a b hbus hphase ha hx => ?_⟩
    · exact (cardPoll_gone hb hops hp ht htakes hi).imp fun t ⟨hrun, hend⟩ => ⟨hrun, hend.ops, hend.completed⟩
    · exact (cardRequestDeadline_ends hb hops hp ht htakes hparts hi h3).imp fun t ⟨hrun, hend, hcancel⟩ =>
        ⟨hrun, ⟨hend.ops, hend.completed⟩, hcancel⟩
    · exact (cardDataBlock_counts hb hops hp ht htakes hbus hphase ha hx).imp fun t ⟨hrun, hend, hcounts⟩ =>
        ⟨hrun, ⟨hend.ops, hend.completed⟩, hcounts⟩
  · exact (ceremonyTimeout_ends hb hops ht hn he htakes).imp fun t ⟨hrun, hend, hseq, hsealed⟩ =>
      ⟨hrun, hend.ops, hseq, hend.completed, hsealed⟩
  · exact (cardRemoved_uncertain hb hops ht hn he htakes hp hseated hi hbus hphase).imp fun t ⟨hrun, hend⟩ =>
      ⟨hrun, hend.ops, hend.completed⟩

end Sys2Proof.Machine
end


section
namespace Sys2Proof.Machine

/-! ### A KEYS record that stands behind a FREE one of its index (R235, R236, R238)

A handle names the first record of its index that is not FREE, but the uses of a key are counted on the first record of its
index, FREE or not (`keyNow`). Where a FREE record stands before a VALID one of the same index, the handle names a usable key
of which no use can be taken. No rule lets two records share an index, but no hypothesis of O31 or O32 excludes it. -/

/-- Owner 1's FREE record of index 0. -/
def freeRec : KeyRec := { owner := 1, index := 0, attr := 0, gen := 0, state := 0, payload := [] }

/-- Owner 1's TRANSPORT key of index 0, with no limit of uses. -/
def transportRec : KeyRec :=
  { owner := 1, index := 0, attr := mkAttr 32 1 verbTransport 0, gen := 0, state := 1, payload := zeros 32 }

/-- The TRANSPORT key's handle (R238). -/
def shadowedHandle : Nat := recordHandle 0 0

/-- What the handle names. -/
def shadowedKey : KeyView :=
  { ref := .record 1 0, attr := transportRec.attr, gen := 0, state := 1, key := transportRec.payload }

/-- The KEYS area holds the TRANSPORT key behind the FREE record. -/
def Shadowed (s : State) : Prop := s.vm.keyRecs = [freeRec, transportRec]

section
variable {s : State} (h : Shadowed s)
include h

theorem findKey_shadowed : findKey s 1 shadowedHandle = some shadowedKey := by
  have hfind : s.vm.keyRecs.find? (fun r => r.owner == 1 && r.state != 0 && recordHandle r.index r.gen == shadowedHandle)
      = some transportRec := by
    rw [h]
    decide +kernel
  simp only [findKey, hfind]
  rfl

theorem keyFor_shadowed :
    keyFor s 1 shadowedHandle verbTransport = if s.keys.locked = true then .inl .noKey else .inr shadowedKey := by
  have hverb : aVerb shadowedKey.attr = verbTransport := by decide +kernel
  cases hl : s.keys.locked with
  | false =>
    simp only [keyFor, usableKey, findKey_shadowed h, hl]
    exact if_pos hverb
  | true => simp [keyFor, usableKey, findKey_shadowed h, hl]

/-- The FREE record takes the failure of a check as well, and stays FREE. -/
theorem checkKey_shadowed : checkKey 1 shadowedHandle s = s := by
  have hfail : failRecord 1 0 s = s := by
    rw [failRecord, h]
    rfl
  have href : refOf s 1 shadowedHandle = some (.record 1 0) := by rw [refOf, findKey_shadowed h]; rfl
  simp only [checkKey, href, hfail, ite_self]

theorem keyReady_shadowed (hl : s.keys.locked = false) : KeyReady s 1 shadowedHandle verbTransport shadowedKey :=
  ⟨by rw [keyFor_shadowed h, hl]; rfl, checkKey_shadowed h, fun _ hslot => KeyRef.noConfusion hslot⟩

theorem keyNow_shadowed : (keyNow shadowedKey s).state = 0 := by
  have hfind : s.vm.keyRecs.find? (fun r => r.owner == 1 && r.index == 0) = some freeRec := by
    rw [h]
    rfl
  simp only [keyNow, shadowedKey, hfind]
  rfl

theorem useTimes_shadowed (n : Nat) : useTimes shadowedKey (n + 1) s = (false, s) := by
  simp [useTimes, keyNow_shadowed h]

theorem exportClauses_shadowed (lane o : Nat) (root : KeyView) (e : Nat × Bytes) (es : List (Nat × Bytes)) :
    exportClauses lane o shadowedKey root (e :: es) s = (none, s) := by
  simp [exportClauses, keyNow_shadowed h]

end

end Sys2Proof.Machine
end


section
namespace Sys2Proof.Machine

/-! ### CLAUSE_EXPORT under the key that stands behind a FREE record -/

/-- A ring that held no completion holds after the end of an item none but the item's. -/
theorem completed_finish_only {w x : Work} {st st' : Status} {d d' : Nat} {q : Option Stamp} {out : Bytes} {s : State}
    (hfin : (ringOf s w.ring).fin = []) (hx : x.ring = w.ring) (h : Completed (finish w st d out s) x st' d' q) : st' = st := by
  obtain ⟨e, he, -, -, hst, -⟩ := h
  have hwrote : (ringOf (writeDst w out s) w.ring).fin = [] := by rwa [ringOf_writeDst]
  rw [hx, finish, finishWith] at he
  by_cases ht : ringTakes (ringOf (writeDst w out s) w.ring) w.gen = true
  · rw [deliver_fin _ ht, hwrote] at he
    rw [← hst, List.mem_singleton.1 he]
  · rw [deliver, if_neg ht, hwrote] at he
    cases he

theorem ceremonyOk_vm (w : Work) (a : Accord) (handle : Nat) (s : State) : (ceremonyOk w a handle s).2.vm = s.vm := by
  obtain ⟨l, replay, hseal⟩ := ceremonyOk_seals w a handle s
  rw [hseal]
  simp [issue, dropAccord]

/-- A CLAUSE_EXPORT of one entry under that key wraps nothing, so it ends NO_KEY, with or without a root, locked or not. -/
theorem doClauseExport_shadowed {s : State} {w : Work} {a : Accord} (lane : Nat) (h : Shadowed s) (ho : w.func s = 1)
    (hkey : rd w.input 0 4 = shadowedHandle) (hn : rd w.input 4 2 = 1) (hrsv : rd w.input 6 2 = 0) (hlen : w.input.length = 32)
    (hentry : clauseEntryOk s 1 (slice w.input 8 24) = true) (ha : HasAccord s w 1 0x58 a) :
    ∃ u, doClauseExport lane w s = finish (numberedWork w s) .noKey 0 [] u ∧ u.rings = s.rings := by
  have hacc : accordCheck w.accordId 1 0x58 (sha w.input) s = .inr a := ha
  have hrings := (ceremonyOk_frame w a shadowedHandle s).2.2.1
  have hvm := ceremonyOk_vm w a shadowedHandle s
  unfold doClauseExport
  simp only [ho, hkey, hn, hrsv, hlen, withCeremony, withAccord, hacc, ceremonyOk_stamp]
  generalize (ceremonyOk w a shadowedHandle s).2 = u at hrings hvm
  have hu : Shadowed u := by rw [Shadowed, hvm, h]
  simp only [checkKey_shadowed hu]
  rw [if_neg (by simp [hentry])]
  cases hroot : (ownerOf u 1).root with
  | none =>
    simp only [keyFor_shadowed hu]
    cases u.keys.locked with
    | true => exact ⟨u, rfl, hrings⟩
    | false => exact ⟨u, by simp [hroot, numberedWork], hrings⟩
  | some ri =>
    have hv : Shadowed (checkSlot ri u) := by simpa [Shadowed] using hu
    have hvroot : (ownerOf (checkSlot ri u) 1).root = some ri := by rw [← hroot, ownerOf_congr (s := u) (by simp)]
    have hvrings : (checkSlot ri u).rings = s.rings := by simpa using hrings
    simp only [keyFor_shadowed hv, hvroot]
    cases (checkSlot ri u).keys.locked with
    | true => exact ⟨checkSlot ri u, rfl, hvrings⟩
    | false => exact ⟨checkSlot ri u, by simp [List.range_one, exportClauses_shadowed hv, numberedWork], hvrings⟩

theorem exec_clauseExport_shadowed {s : State} {id : WorkId} {w : Work} {a : Accord} (lane : Nat) (hcan : canNumber s = true)
    (hw : Waits s id 0x58 w) (h : Shadowed s) (ho : w.func s = 1) (hkey : rd w.input 0 4 = shadowedHandle)
    (hn : rd w.input 4 2 = 1) (hrsv : rd w.input 6 2 = 0) (hlen : w.input.length = 32)
    (hentry : clauseEntryOk s 1 (slice w.input 8 24) = true) (ha : HasAccord s w 1 0x58 a) :
    ∃ u, exec (.clauseExport id lane) s = .next (finish (numberedWork w s) .noKey 0 [] u) ∧ u.rings = s.rings := by
  obtain ⟨u, hu, hrings⟩ := doClauseExport_shadowed (s := taken w s) lane h ho hkey hn hrsv hlen hentry (accordCheck_taken ha)
  exact ⟨u, congrArg Host.Outcome.next ((withSealedWork_taken (doClauseExport lane) hcan hw).trans hu), hrings⟩

/-- CLAUSE_EXPORT of one derivation, of verb 1, under that key and accord 7. -/
def shadowedWork : Work :=
  { ring := 0, gen := 1, idx := 0, desc := BitVec.ofNat 512 (0x58 + 7 * 2 ^ 240)
    src := le 4 shadowedHandle ++ le 2 1 ++ zeros 22 ++ le 2 1 ++ zeros 2, stamp := none }

def exportAccord : Accord :=
  { no := 7, openT := 0, windowS := 60, owner := 1, m := 0, opcode := 0x58, digest := Config.sha384 shadowedWork.input
    body := [], signers := [] }

/-- Owner 1's root. -/
def rootSlot : Slot := { payload := List.replicate 64 8, attr := mkAttr 32 1 verbRoot 0, gen := 1, state := 1 }

/-- A device whose owner 1 has a root and, in its KEYS area, the TRANSPORT key behind the FREE record. -/
def shadowed : State where
  sys := { state := .ready }
  rings := { tbl := [(0, { cls := 2, func := 1, state := .running, gen := 1 })] }
  adm := { nextSeq := 1, work := [shadowedWork], owners := [(1, { enrolled := 2, root := some 64 })] }
  dep := { isOpen := true }
  flash := { counters := [{ type := 3, writeNo := 1, epoch := 0, departure := 0, sequence := 0, seqHigh := 10 ^ 6
                            depHigh := 10 ^ 6, head := 0, accordHigh := 10 ^ 6 }] }
  vm := { keyRecs := [freeRec, transportRec] }
  keys := { accords := [exportAccord], slots := [(64, { rootSlot with check := slotCheck {} 64 rootSlot })] }

theorem shadowed_waits : Waits shadowed { ring := 0, idx := 0 } 0x58 shadowedWork := by decide +kernel

theorem shadowed_accord : HasAccord shadowed shadowedWork 1 0x58 exportAccord :=
  accordCheck_passes (List.find?_cons_of_pos (by decide +kernel)) rfl rfl rfl (by decide +kernel) (by decide +kernel)

theorem shadowed_root : RootReady shadowed 1 64 :=
  ⟨by decide +kernel, by decide +kernel, by decide +kernel, beq_iff_eq.2 rfl, rfl⟩

theorem shadowed_body : rd shadowedWork.input 0 4 = shadowedHandle ∧ rd shadowedWork.input 4 2 = 1
    ∧ rd shadowedWork.input 6 2 = 0 ∧ shadowedWork.input.length = 32
    ∧ clauseEntryOk shadowed 1 (slice shadowedWork.input 8 24) = true := by decide +kernel

theorem shadowed_holds : Shadowed shadowed := rfl

theorem shadowed_func : shadowedWork.func shadowed = 1 := by decide +kernel

theorem shadowed_canNumber : canNumber shadowed = true := by decide +kernel

/-- Refutes O31: in `shadowed` a FREE record stands in the KEYS area before owner 1's TRANSPORT key of the same index. The
handle names the key, which is ready, but its uses are counted on the FREE record, so that CLAUSE_EXPORT ends NO_KEY where
the statement has it end OK. -/
theorem not_keyCommands : ¬ Obligations.KeyCommands := by
  intro h
  obtain ⟨-, -, -, -, -, hexport⟩ := h shadowed { ring := 0, idx := 0 } shadowedWork
  obtain ⟨hkey, hn, hrsv, hlen, hentry⟩ := shadowed_body
  rw [shadowed_func] at hexport
  have hentries : ∀ k, k < rd shadowedWork.input 4 2 →
      clauseEntryOk shadowed 1 (slice shadowedWork.input (8 + 24 * k) 24) = true := by
    intro k hk
    obtain rfl : k = 0 := by omega
    exact hentry
  obtain ⟨t, ht, hdone, -⟩ := hexport exportAccord shadowedKey 64 0 shadowed_canNumber shadowed_waits (by omega) (by omega)
    hrsv (by omega) hentries shadowed_accord (hkey ▸ keyReady_shadowed shadowed_holds rfl) (by decide +kernel) shadowed_root
  obtain ⟨u, hu, hrings⟩ := exec_clauseExport_shadowed 0 shadowed_canNumber shadowed_waits shadowed_holds shadowed_func hkey hn hrsv
    hlen hentry shadowed_accord
  obtain rfl : _ = t := Host.Outcome.next.inj (hu.symm.trans ht)
  have hfin : (ringOf u 0).fin = [] := by
    rw [ringOf_congr hrings]
    rfl
  exact Status.noConfusion (completed_finish_only (w := numberedWork shadowedWork shadowed) hfin rfl hdone)

end Sys2Proof.Machine
end


section
namespace Sys2Proof.Machine

/-! ### A key table under the key that stands behind a FREE record -/

/-- Of two records that differ in their tags alone not both open. -/
theorem openRecords_twoTags {tkey ownerId r q : Bytes} (hlen : rd q 16 2 = rd r 16 2) (hiv : slice q 0 12 = slice r 0 12)
    (haad : slice q 12 20 = slice r 12 20) (hct : slice q 32 (rd r 16 2) = slice r 32 (rd r 16 2))
    (htag : slice q (32 + rd r 16 2) 16 ≠ slice r (32 + rd r 16 2) 16) : openRecords tkey ownerId [r, q] = none := by
  simp only [openRecords, unwrapKey, gcmOpen, hlen, hiv, haad, hct]
  by_cases htrue : le 16 (Config.gcmTag tkey (slice r 0 12) (ownerId ++ slice r 12 20) (slice r 32 (rd r 16 2))).toNat
      = slice r (32 + rd r 16 2) 16
  · simp [htrue, htag.symm]
  · simp [htrue]

/-- No use of that key can be taken, so a key table under it ends NO_KEY before its records are opened. -/
theorem doKeyTableImport_shadowed {s : State} {recs : List Bytes} {a : Accord} {n : Nat} (h : Shadowed s)
    (hl : s.keys.locked = false) (ho : s.bulk.owner = 1) (hcount : rd s.bulk.data 20 4 = n + 1)
    (hrecs : splitRecords (n + 1) (s.bulk.data.drop 64) = some recs) (hmagic : rd s.bulk.data 0 4 = 0x4B544231)
    (hversion : rd s.bulk.data 4 2 = 1) (hmax : n + 1 ≤ 4096) (hflag : rd s.bulk.data 24 1 ≤ 1)
    (hrsv : allZero s.bulk.data 25 39 = true) (henrolled : (ownerOf s 1).enrolled ≠ 0)
    (hid : (ownerOf s 1).id.toNat = rd s.bulk.data 8 8) (hkey : rd s.bulk.data 16 4 = shadowedHandle)
    (ha : accordCheck (rd s.bulk.data 6 2) 1 0xB3 (sha (s.bulk.data.drop 64)) s = .inr a) :
    doKeyTableImport s = endBulk .noKey s := by
  simp [doKeyTableImport, ho, hcount, hrecs, hmagic, hversion, Nat.not_lt.2 hmax, Nat.not_lt.2 hflag, hrsv, henrolled, hid, hkey, ha,
    checkKey_shadowed h, keyFor_shadowed h, hl, useTimes_shadowed h]

/-- The two wrapped records of the table: their tags differ. -/
def tableRecs : List Bytes := [zeros 48, zeros 47 ++ [1]]

def tableData : Bytes :=
  le 4 0x4B544231 ++ le 2 1 ++ le 2 7 ++ zeros 8 ++ le 4 shadowedHandle ++ le 4 2 ++ zeros 40 ++ tableRecs.flatten

def tableAccord : Accord :=
  { no := 7, openT := 0, windowS := 60, owner := 1, m := 0, opcode := 0xB3, digest := Config.sha384 (tableData.drop 64)
    body := [], signers := [] }

/-- The device of `shadowed`, which verifies a key table of owner 1. -/
def tabled : State := { shadowed with
  bulk := { owner := 1, target := 3, state := .verifying, data := tableData }
  keys := { accords := [tableAccord] } }

theorem tabled_accord : accordCheck (rd tableData 6 2) 1 0xB3 (Config.sha384 (tableData.drop 64)) tabled = .inr tableAccord :=
  accordCheck_passes (List.find?_cons_of_pos (by decide +kernel)) rfl rfl rfl (by decide +kernel) (by decide +kernel)

theorem tableRecs_unopened (tkey ownerId : Bytes) : openRecords tkey ownerId tableRecs = none :=
  openRecords_twoTags (by decide +kernel) (by decide +kernel) (by decide +kernel) (by decide +kernel) (by decide +kernel)

theorem tableData_fields : splitRecords (rd tableData 20 4) (tableData.drop 64) = some tableRecs ∧ rd tableData 0 4 = 0x4B544231
    ∧ rd tableData 4 2 = 1 ∧ rd tableData 20 4 = 2 ∧ rd tableData 24 1 ≤ 1 ∧ allZero tableData 25 39 = true
    ∧ rd tableData 8 8 = 0 ∧ rd tableData 16 4 = shadowedHandle := by decide +kernel

theorem tabled_ready : inService tabled = true ∧ bulkVerifying tabled 3 = true ∧ canNumber tabled = true := by decide +kernel

theorem tabled_owner : (ownerOf tabled 1).enrolled ≠ 0 ∧ (ownerOf tabled 1).id.toNat = 0 := by decide +kernel

theorem tabled_shadowed : Shadowed tabled := rfl

/-- Refutes O32: in `tabled` a FREE record stands in the KEYS area before owner 1's TRANSPORT key of the same index. The
handle names the key, which is ready, but its uses are counted on the FREE record, so that a key table of which a tag fails
ends NO_KEY where the statement has it end AUTH_FAIL. -/
theorem not_rootsAndRanges : ¬ Obligations.RootsAndRanges := by
  intro h
  obtain ⟨-, -, -, -, himport⟩ := h tabled { ring := 0, idx := 0 } shadowedWork tableAccord
  obtain ⟨hrecs, hmagic, hversion, hcount, hflag, hrsv, hid, hkey⟩ := tableData_fields
  obtain ⟨hserves, hverifies, hcan⟩ := tabled_ready
  obtain ⟨henrolled, hownerId⟩ := tabled_owner
  obtain ⟨-, hfails⟩ := himport tableRecs shadowedKey hserves hcan hverifies hrecs hmagic hversion (hcount ▸ by decide)
    (hcount ▸ by decide) hflag hrsv henrolled (hownerId.trans hid.symm) tabled_accord (hkey ▸ keyReady_shadowed tabled_shadowed rfl)
    (by decide +kernel)
  obtain ⟨t, ht, -, hresult, -⟩ := hfails (tableRecs_unopened ..)
  have himported : doKeyTableImport tabled = endBulk .noKey tabled :=
    doKeyTableImport_shadowed tabled_shadowed rfl rfl hcount (hcount ▸ hrecs) hmagic hversion (by decide) hflag hrsv henrolled
      (hownerId.trans hid.symm) hkey tabled_accord
  have hrun : exec .keyTableImport tabled = .next (endBulk .noKey tabled) :=
    exec_when rfl (by simp [hserves, hverifies, hcan]) himported
  obtain rfl : _ = t := Host.Outcome.next.inj (hrun.symm.trans ht)
  rw [(endBulk_failed ..).2] at hresult
  exact absurd hresult (by decide)

end Sys2Proof.Machine
end
